-- ==== Sys2Proof/Word.lean ====
section
/-!
DEFINITION. The word types of the hub and the sparse table every addressed collection of the state is kept in.
-/

namespace Sys2Proof

/-- One byte. -/
abbrev Byte := BitVec 8

/-- One 24-bit engine word (R204, R207, R211). -/
abbrev W24 := BitVec 24

/-- One 32-bit register or half of a record (R2). -/
abbrev W32 := BitVec 32

/-- A 48-bit mask of the pins of one bank pair (R204). -/
abbrev W48 := BitVec 48

/-- A sparse table: pairs of a key and an entry, keys strictly rising, no entry equal to what an unlisted key reads as.
`Tab.wfWith` in `Machine/Ops.lean` says that form, and the operations there keep it. -/
abbrev Tab (α : Type) := List (Nat × α)

/-- The value of one dictionary entry (R30): a number of the entry's width (signed types in two's complement),
or the bytes of a STRING or DOMAIN. -/
inductive Val where
  | num (n : Nat)
  | bytes (b : List Byte)
deriving DecidableEq, Repr

end Sys2Proof
end

