-- ==== Sys2Proof/Syntax.lean ====
section
/-!
DEFINITION. The commands of the hub: one constructor of `Instr` for every row of the table of operations and events,
with the operands the row works on, and the operand types.
-/

namespace Sys2Proof

/-- A ring port (R84). Dir 0 (A-ward) leaves by port A. -/
inductive Port where
  | a | b
deriving DecidableEq, Repr

/-- The opposite port. -/
def Port.other : Port → Port
  | .a => .b
  | .b => .a

/-- The port's number, 0 for A and 1 for B. -/
def Port.toNat : Port → Nat
  | .a => 0
  | .b => 1

/-- A session path (R43). -/
inductive Path where
  | ring | can | udp | mailbox | uart
deriving DecidableEq, Repr

/-- Who makes a register or window access: the PCIe port, a fabric source node, or a session's own
context (R41, R203). -/
inductive Ctx where
  | pcie
  | node (n : Fin 128)
  | session (n : Fin 32)
deriving DecidableEq, Repr

/-- The header of a session transaction (R35) with the identity its path names (R37) and the number of header
bytes received. `ident` is the ring node, the CAN controller × 256 + node, or the IPv4 address × 65536 + UDP port; 0 on mailbox and UART. -/
structure Txn where
  path : Path
  ident : Nat
  size : Nat := 16
  cmd : Nat
  sess : Nat
  tag : Nat
  index : Nat := 0
  sub : Nat := 0
  flags : Nat := 0
  len : Nat := 0
  off : Nat := 0
  /-- The CRC-16 that came with it on the UART (R43); none where it is what the bytes give. -/
  fcs : Option Nat := none
deriving DecidableEq, Repr

/-- A ring frame header (R86), one field per row of its layout; `spec` is bytes 20–27 as one 64-bit number. -/
structure Hdr where
  version : Nat := 1
  typ : Nat
  colour : Nat := 0
  cls : Nat
  dir : Bool := false
  dup : Bool := false
  auth : Bool := false
  grp : Bool := false
  rsv1 : Bool := false
  source : Nat
  dest : Nat
  split : Bool := false
  last : Bool := false
  wrapped : Bool := false
  test : Bool := false
  destCh : Nat := 0
  seq : Nat := 0
  hops : Nat := 127
  rsv9 : Nat := 0
  length : Nat := 0
  originSt32 : Nat := 0
  residence : Nat := 0
  spec : Nat := 0
  keySlot : Nat := 0
  tagMode : Nat := 0
  rsv28 : Nat := 0
  hcrc : Nat := 0
deriving DecidableEq, Repr

/-- A ring frame: header, payload and, when AUTH is set, the 16-byte tag. -/
structure Frame where
  hdr : Hdr
  payload : List Byte
  tag : List Byte := []
deriving DecidableEq, Repr

/-- A fault report (R450). -/
structure Report where
  source : Nat
  syndrome : Nat := 0
  address : Nat := 0
deriving DecidableEq, Repr

/-- A DRAM request as it reaches the arbiter (R142): the requester's index, class and background flag. -/
structure DramReq where
  index : Nat
  cls : Nat
  background : Bool
  write : Bool
deriving DecidableEq, Repr

/-- A wide-time instant whose grid edge is frozen (R251): the pending commit, the next PPS_OUT edge, or a strobe line. -/
inductive WtTarget where
  | commit
  | ppsOut
  | strobe (k : Fin 8)
deriving DecidableEq, Repr

/-- Kinds of PTP message on a station port (R258). -/
inductive PtpKind where
  | sync | followUp | pdelayReq | pdelayResp | pdelayRespFollowUp | announce | delayReq
deriving DecidableEq, Repr

/-- A received PTP message (R258): domain, sender, sequence number, two-step flag, correction in 2^-16 ns, a time value,
and the fields of an Announce in the order the default best-master comparison takes them. -/
structure PtpMsg where
  kind : PtpKind
  domain : Nat
  sender : Nat
  seq : Nat
  twoStep : Bool := false
  correction : Int := 0
  sec : Nat := 0
  ns : Nat := 0
  /-- priority1, clockClass, clockAccuracy, variance, priority2, grandmaster identity, stepsRemoved. -/
  ann : List Nat := []
  flags : Nat := 0
  utc : Int := 0
  /-- Under C37.238: the time inaccuracy of the profile TLV, and the fields of the alternate time offset indicator TLV. -/
  inacc : Nat := 0xFFFFFFFF
  atoi : List Int := []
deriving DecidableEq, Repr

/-- An operation of a core's signal coprocessor (R327): a product added to an accumulator; a CORDIC rotation or vectoring of a vector and an angle; an
update of a DFT bin by an input sample. -/
inductive CoOp where
  | mac (lane : Fin 4) (a b : W24)
  | cordic (vectoring : Bool) (x y z : W24)
  | dft (bin : Fin 64) (x : W24)
deriving DecidableEq, Repr

/-- What service firmware does that its core's coprocessor sees (R333, R334): it issues an operation, or a branch; the branch at place `k` of those
unresolved is resolved, as predicted or not. -/
inductive CoAct where
  | issue (op : CoOp)
  | branch
  | resolve (k : Nat) (right : Bool)
deriving DecidableEq, Repr

/-- What the estimation of the fundamental gives for one tapped input (R276–R280): the phase in 2^-32 turn, the frequency in 2^-17 Hz, its rate of change in 2^-12 Hz/s, the rms phase residual in 0.001 degree, and the amplitude. -/
structure TrkInput where
  phase : W32
  freq : BitVec 24
  rocof : Int
  resid : Nat
  amp : BitVec 24
deriving DecidableEq, Repr

/-- One ASDU of a received SV frame (R301): smpCnt, smpSynch, and each value with its 32-bit Quality. -/
structure Asdu where
  smpCnt : Nat
  synch : Nat
  vals : List (BitVec 32 × BitVec 32)
deriving DecidableEq, Repr

/-- A received SV frame (R301, R305): the fields the subscription matches, its ASDUs, the simulation flag and, under the
authentication extension, the tag with its nonce and authenticated bytes. -/
structure SvFrame where
  dest : Nat
  appid : Nat
  svid : List Byte
  confRev : Nat
  asdus : List Asdu
  sim : Bool := false
  tag : Option (List Byte × List Byte × List Byte) := none
deriving DecidableEq, Repr

/-- A received GOOSE frame (R310): the fields the subscription matches, its numbers, timeAllowedToLive in ms, the change time
as a nanosecond count, and each member's value as its bits and its quality code. -/
structure GooseFrame where
  dest : Nat
  appid : Nat
  gocbRef : List Byte
  datSet : List Byte
  confRev : Nat
  ndsCom : Bool := false
  stNum : Nat
  sqNum : Nat
  tal : Nat
  t : Nat
  members : List (Nat × Nat)
  sim : Bool := false
  tag : Option (List Byte × List Byte × List Byte) := none
deriving DecidableEq, Repr

/-- One sample of a publication's block (R303, R304): its values, or none when it is sent invalid. -/
abbrev SvSample := Option (List Int)

/-- An SV publication: the block under way, counted in samples of the wide-time scale divided by ASDUS, and the samples it
has, by number within the block. -/
structure SvPub where
  block : Option Nat := none
  got : Tab SvSample := []
  /-- Its key is empty, refused or exhausted, and the fault has been recorded (R312). -/
  keyFault : Bool := false
deriving DecidableEq, Repr

/-- An SV subscription: SUB_STATE, the smpCnt expected next, authentication failures in a row, and the last frame's edge. -/
structure SvSub where
  state : Nat := 0
  expected : Option Nat := none
  authRun : Nat := 0
  last : Nat := 0
deriving DecidableEq, Repr

/-- A GOOSE publication (R309): its state and sequence numbers, the change time as a nanosecond count, the interval to the
next frame in ms and the edge at which it is due. -/
structure GoosePub where
  stNum : Nat := 0
  sqNum : Nat := 0
  t : Int := 0
  interval : Nat := 0
  nextAt : Nat := 0
  keyFault : Bool := false
deriving DecidableEq, Repr

/-- A GOOSE subscription (R310): SUB_STATE, the last numbers, timeAllowedToLive and the edge it restarted at. -/
structure GooseSub where
  state : Nat := 0
  stNum : Nat := 0
  sqNum : Nat := 0
  tal : Nat := 0
  since : Nat := 0
  authRun : Nat := 0
deriving DecidableEq, Repr

/-- An SOE input (R313, R315): the stamp pair read and its code awaited, with the SEQ of its provisional record. -/
structure SoeIn where
  stamp : Option Nat := none
  provisional : Option Nat := none
deriving DecidableEq, Repr

/-- A point's chatter state (R315): edges of accepted edges in the window, whether chatter is on, the window's start and
count, and the last direction. -/
structure Chatter where
  times : List Nat := []
  on : Bool := false
  winStart : Nat := 0
  winCount : Nat := 0
  fall : Bool := false
deriving DecidableEq, Repr

/-- The state of a service that a hinge record holds (R336, R338); `none` where the model gives the service no state of its
own. -/
inductive HingeBody where
  | none
  | svp (x : SvPub)
  | svs (x : SvSub)
  | gp (x : GoosePub)
  | gs (x : GooseSub)
  | soe (seq : Nat) (ins : Tab SoeIn) (chatter : Tab Chatter)
  | irig (elements : List (Nat × Nat)) (prev : Option Nat)
deriving DecidableEq, Repr

/-- A hinge record (R338): format version, sequence, ST32 of the hinge point, and the state. -/
structure Hinge where
  format : Nat
  seq : Nat
  st32 : Nat
  body : HingeBody
deriving DecidableEq, Repr

/-- A CAN frame (R352, R357): identifier in 29-bit form. -/
structure CanFrame where
  ide : Bool := false
  fdf : Bool := false
  brs : Bool := false
  rtr : Bool := false
  esi : Bool := false
  dlc : Fin 16
  id : BitVec 29
  data : List Byte := []
deriving DecidableEq, Repr

/-- What a wake detector sees (R368, R369): a low phase, a wake-up pattern's three phases and whole length in ns, or a classical
frame, good or not. -/
inductive CanWake where
  | low (ns : Nat)
  | pattern (d1 r d2 total : Nat)
  | frame (f : CanFrame) (good : Bool)
deriving DecidableEq, Repr

/-- A received reference message (R372, R373): Cycle_Count, Disc_Bit, Master_Ref_Mark in NTU and the master's priority. -/
structure TtRef where
  cycle : Fin 64
  disc : Bool
  mark : Nat
  prio : Fin 8
  /-- ST32 in data bytes 4–7, which a hub master appends (R372). -/
  st : Option W32 := none
deriving DecidableEq, Repr

/-- A PCIe AtomicOp (R396) on 4 or 8 bytes; `wide` is a 128-bit CAS. -/
inductive AtomicOp where
  | fetchAdd (size : Nat) (v : BitVec 64)
  | swap (size : Nat) (v : BitVec 64)
  | cas (size : Nat) (cmp v : BitVec 64)
  | wide
deriving DecidableEq, Repr

/-- Why an erase is suspended (R427). -/
inductive FlashUse where
  | imageLoad | config | journal | anchor | soePage
deriving DecidableEq, Repr

/-- A status block of the pair link as received (R475). -/
structure StatusBlock where
  mode : Nat
  claim : Bool
  planned : Bool
  fit : Bool
  sync : Bool
  hash : W32
  st32 : W32
  ack : W32
deriving DecidableEq, Repr

/-- One entry's value in a mirrored record or a configuration transfer: index, sub, item and value. -/
structure MirrorEntry where
  index : Nat
  sub : Nat
  item : Nat
  v : Val
  format : Nat := 0
deriving DecidableEq, Repr

/-- A mirror record (R475, R476): a commit set with its apply instant, an object write, a hinge record, a calendar arm or cancel
with the entry's fields, or a configuration transfer. -/
inductive MirrorRec where
  | commit (set : List MirrorEntry) (at_ : Nat)
  | write (e : MirrorEntry)
  | hinge (svc : Nat) (h : Hinge)
  | calendar (i : Fin 1024) (fields : List Nat) (arm : Bool)
  | config (set : List MirrorEntry)
deriving DecidableEq, Repr

/-- One finding of a BIST slice (R495, R501): macro, row, column and bit of a memory, or logic. -/
structure Finding where
  macro_ : Nat
  row : Nat := 0
  col : Nat := 0
  bit : Nat := 0xFF
deriving DecidableEq, Repr

/-- Why a feed stops being usable (R505). -/
inductive FeedBad where
  | under | overcurrent | reverse
deriving DecidableEq, Repr

/-- The commands, in the table's order. -/
inductive Instr where
  /-- A write to a register or field that has no row of its own takes effect according to its access code (R5). -/
  | registerWrite (c : Ctx) (addr : Nat) (v : W32)
  /-- Writing 0 to 0xA0F1 clears the reserved-write counter (R10). -/
  | reservedClear
  /-- An open request allocates a session and answers with a 16-byte challenge, completing at once for an Observer (R45). -/
  | openReq (t : Txn) (role : Nat)
  /-- An open-confirm checks the HMAC response under the role's key slot and completes or fails the open (R45). -/
  | openConfirm (t : Txn) (resp : List Byte)
  /-- An open-confirm that does not arrive within 5 s fails with authentication failed and frees the session (R45). -/
  | openConfirmTimeout (n : Fin 32)
  /-- A path locked after three failed opens accepts opens again after 10 s (R45). -/
  | pathLockExpiry (p : Path)
  /-- A close request ends the session, discarding its staging set and selection context (R46). -/
  | closeReq (t : Txn)
  /-- A keep-alive request restarts the session's idle timer (R46). -/
  | keepAlive (t : Txn)
  /-- A session idle beyond IDLE_TIMEOUT is closed (R46). -/
  | sessionIdleTimeout (n : Fin 32)
  /-- When a session path goes down every session open on it closes (R46). -/
  | sessionPathDown (p : Path)
  /-- A read transaction is judged by the ordered checks and returns the object value or an abort (R548). -/
  | read (t : Txn)
  /-- A write transaction is judged by the ordered checks and takes effect, starts its action or enters the staging set (R548). -/
  | write (t : Txn) (data : List Byte)
  /-- A read-staged transaction returns the session's staged value, or the applied value if none is staged (R35). -/
  | readStaged (t : Txn)
  /-- A session fabric read resolves the node field and serves the read locally or sends a class-3 read request (R40). -/
  | fabricRead (t : Txn) (addr : BitVec 48) (len : Nat)
  /-- A session fabric write resolves the node field and applies it locally, splits it into ring parts or broadcasts it (R40). -/
  | fabricWrite (t : Txn) (addr : BitVec 48) (data : List Byte)
  /-- A gap of more than 1 s between segments fails the transaction with transaction timed out (R38). -/
  | segmentTimeout (n : Fin 32)
  /-- COMMIT_CMD 1 checks the staging set and applies it immediately or places it in the pending slot (R50). -/
  | commit (n : Fin 32)
  /-- COMMIT_CMD 2 discards the session's staging set (R54). -/
  | discard (n : Fin 32)
  /-- COMMIT_CMD 3 cancels the session's own pending commit and returns its set unapplied (R54). -/
  | cancelOwnCommit (n : Fin 32)
  /-- COMMIT_CMD 4 cancels the pending commit of any session and discards its set (R54). -/
  | cancelAnyCommit (n : Fin 32)
  /-- At the apply instant every staged object takes effect together and the configuration epoch advances (R51). -/
  | commitApply
  /-- A cycle-boundary commit freezes at the commit horizon, or fails with tracker not locked (R289). -/
  | commitFreeze
  /-- After the apply instant the C-class records and the commit marker are written to the configuration store (R431). -/
  | configStoreCommitWrite (ok : Bool)
  /-- When fewer than 8 erased sectors remain the store copies the oldest sector's live records forward and erases it (R431). -/
  | configStoreCompact
  /-- MODE_REQ 4 returns the hub to service from CONFIGURE, MAINTENANCE or FAILSAFE and may clear a HELD collector (R66). -/
  | modeReqReturn (n : Fin 32)
  /-- MODE_REQ 8 moves the hub to MAINTENANCE, releasing the Leash first on an active hub (R66). -/
  | modeReqMaintenance (n : Fin 32)
  /-- MODE_REQ 9 moves the hub to FAILSAFE (R66). -/
  | modeReqFailsafe (n : Fin 32)
  /-- MODE_REQ 10 enters DOZE by parking, gating cores, putting DRAM in self-refresh and idling links (R77). -/
  | modeReqDoze (n : Fin 32)
  /-- MODE_REQ 11 starts the ordered SHUTDOWN sequence (R80). -/
  | modeReqShutdown (n : Fin 32)
  /-- RESET_CMD or RESET_CTRL 0x5A01 makes a warm reset after the response is sent (R82). -/
  | resetCmdWarm
  /-- RESET_CMD or RESET_CTRL 0x5A02 makes a warm reset to the recovery loader (R82). -/
  | resetCmdRecovery
  /-- PORST_N low for at least 10 µs causes a power-on reset (R69). -/
  | porstNAssert (lowNs : Nat)
  /-- A core, SerDes or auxiliary rail out of range for more than 2 µs causes a power-on reset (R69). -/
  | supplyOutOfRange (rail : Nat) (ns : Nat)
  /-- WRST_N low for at least 1 µs causes a warm reset (R69). -/
  | wrstNAssert (lowNs : Nat)
  /-- REFCLK outside 25 MHz ± 200 ppm for 10 µs causes a warm reset (R69). -/
  | refclkLoss (ns : Nat)
  /-- A core, SerDes or DDR PLL out of lock for 10 µs causes a warm reset with cause 0x09 (R524). -/
  | pllLockLoss (pll : Fin 3) (ns : Nat)
  /-- When every reset cause has gone the reset ends, straps are latched and the hub enters BOOT (R71). -/
  | resetEnd (modeSel : Fin 4) (pairId : Bool)
  /-- The PLLs lock on REFCLK and ring port training begins (R74). -/
  | pllLocked
  /-- The repair map is read and applied and on-chip SRAM is written with correct ECC (R74). -/
  | repairMapApply
  /-- The boot image header and signature are checked (R75). -/
  | imageHeaderChecked (slot : Fin 2) (header : List Byte)
  /-- DDR4 training completes, or a failing device holds the hub in BOOT (R146). -/
  | ddrTrainingDone (rate : Nat) (failLane : Option Nat)
  /-- The image body load ends, is matched against the header hash, and the cores start or the next image is tried (R75). -/
  | imageLoadDone (slot : Fin 2) (body : List Byte)
  /-- Configuration and engine programs are loaded and the hub enters JOIN (R74). -/
  | configLoadDone
  /-- Background initialisation of the rest of installed DRAM completes (R74). -/
  | dramInitDone
  /-- 100 ms after the end of reset the PCIe endpoint begins answering configuration requests (R73). -/
  | pcieEndpointReady
  /-- JOIN ends when both ring ports have joined and the hub takes its next mode (R76). -/
  | joinComplete
  /-- The join timeout ends JOIN with fewer ports joined and the hub takes DEGRADED, MAINTENANCE or FAILSAFE (R76). -/
  | joinTimeout
  /-- The wake timer fires 1 ms before the earliest armed calendar entry or pending commit and wakes the hub (R79). -/
  | wakeTimer
  /-- After a wake event clocks, DRAM, links and cores are restored and the hub returns to its mode before DOZE (R79). -/
  | wakeSequenceDone
  /-- The flush of log, configuration and repair map ends and the leave announcement is sent (R80). -/
  | shutdownFlushDone
  /-- 1 ms after the leave announcement the ring ports go to electrical idle and BIST slices may start (R80). -/
  | leaveIdleTimer
  /-- SHUTDOWN halts the hub with outputs floating, field channels off and FAIL_N asserted (R80). -/
  | halt
  /-- With no usable feed and the island bus below ISLAND_WARN for 20 µs the hub runs the shortened SHUTDOWN (R508). -/
  | islandSupplyWarning (mv : Nat) (us : Nat)
  /-- A complete ring header is checked, then delivered locally, forwarded, wrapped or discarded (R103). -/
  | headerReceived (p : Port) (f : Frame)
  /-- The received trailer is compared with the computed CRC-32 and the frame's items are confirmed or revoked (R106). -/
  | trailerChecked (p : Port) (trailer : W32) (lengthOk : Bool)
  /-- A receive link failure or error block during a forwarded frame completes the frame with zeros and an inverted CRC (R107). -/
  | receiveLinkError (p : Port) (got : Nat)
  /-- A speculative frame unresolved at its latest confirmation instant L is revoked (R152). -/
  | specDeadline (g : Fin 4)
  /-- A staged pin-write entry is applied at tick tc plus its offset difference (R161). -/
  | stagedEntryApply (e : Fin 256)
  /-- A delivered type-1 read request is served and answered with a type-3 response (R92). -/
  | fabricReadRequest
  /-- A delivered type-2 write part is applied once and answered with a type-3 response (R173). -/
  | fabricWritePart
  /-- A type-3 response reaches the originator and completes or advances its read or write (R92). -/
  | readResponseReceived
  /-- REMOTE_TIMEOUT passes with parts unanswered and the split access completes with partial write or split read failed (R173). -/
  | splitRemoteTimeout (id : Nat)
  /-- A frame completed for the switch is originated onto the ring, duplicated where its class requires (R549). -/
  | frameOriginate
  /-- A waiting class-7 frame is admitted when the token bucket refills to its wire bytes (R98). -/
  | c7BucketAdmit
  /-- 70 ms after the end of reset the hub begins originating frames with sequence numbers from 0 (R99). -/
  | originationEnable
  /-- A port that has sent nothing for 10 µs sends KEEP (R100). -/
  | keepTimer (p : Port)
  /-- A class-7 frame ready for a busy ring port suspends the frame in progress at its next 64-byte offset (R101). -/
  | class7Suspend (p : Port) (off : Nat)
  /-- A frame forwarded cut-through and suspended upstream is suspended at the same offset on egress (R102). -/
  | suspendReceived (p : Port) (off : Nat)
  /-- HELLO is sent on each port every 1 ms in JOIN and every 10 ms after (R111). -/
  | helloTimer
  /-- A received HELLO performs the wiring and pair adjacency check for its port (R84). -/
  | helloReceived (p : Port)
  /-- ANNOUNCE is flooded on both ports every 1 ms in JOIN and every 10 ms after (R111). -/
  | announceTimer
  /-- A received ANNOUNCE updates the ring map, ring state and the duplicate node number check (R112). -/
  | announceReceived (p : Port)
  /-- The own ANNOUNCE not returning within 3 periods opens RING_STATE (R114). -/
  | ringClosureTimeout
  /-- A port whose join conditions all hold becomes joined and sends TOPOLOGY event 1 on rejoin (R112). -/
  | portJoined (p : Port)
  /-- A LEAVE from a neighbour marks the link planned-down (R116). -/
  | leaveReceived (p : Port)
  /-- A RECAL_NOTICE marks the link planned-down for its bound (R116). -/
  | recalNoticeReceived (p : Port)
  /-- A RETRAIN_NOTICE marks the link planned-down for its bound (R116). -/
  | retrainNoticeReceived (p : Port)
  /-- A TOPOLOGY event updates ring state and is flooded onward (R115). -/
  | topologyReceived (p : Port)
  /-- A planned outage that exceeds its bound by 50 µs is treated as an unplanned link failure (R116). -/
  | plannedOutageOverrun (p : Port)
  /-- Loss of block lock, hi_ber or 30 µs without frame or KEEP declares the link down and sends TOPOLOGY event 0 (R115). -/
  | linkDown (p : Port)
  /-- Clause 72 training or receiver adaptation completes on a port (R118). -/
  | trainingComplete (p : Port) (ok : Bool)
  /-- 10 ms after a training failure or timeout the port restarts training (R118). -/
  | trainingRetryTimer (p : Port)
  /-- Vertical margin below MARGIN_RETRAIN for 10 ms starts a retrain (R119). -/
  | marginRetrainTimeout (p : Port) (vert horiz : Nat)
  /-- More than ERR_LIMIT errored blocks or CRC errors in 1 s starts a retrain (R119). -/
  | errorLimitExceeded (p : Port)
  /-- A retrain ends and the port rejoins (R120). -/
  | retrainDone (p : Port)
  /-- A recalibration deferred for 50 ms proceeds as unplanned (R117). -/
  | recalDeferTimeout (p : Port)
  /-- 10 °C of die-temperature drift starts an announced synthesiser band recalibration (R122). -/
  | synthRecalStart (p : Port) (temp : Int)
  /-- An unannounced synthesiser lock loss makes the port not ready (R122). -/
  | synthLockLoss (p : Port)
  /-- The transmit synthesiser locks and the port becomes ready again (R121). -/
  | synthRelock (p : Port)
  /-- A frame is enqueued on chip or to the kennel, or dropped, evicted or its source held (R132). -/
  | enqueue
  /-- An egress selects a queue and sends its head frame, ending its spill when the kennel part empties (R132). -/
  | dequeue (p : Fin 7)
  /-- A kennel frame is wholly read back into the return pool, or discarded on an uncorrectable error (R133). -/
  | kennelReadbackDone (q : Fin 56) (bad : Option Nat)
  /-- A source held by the switch resumes once its frame fits (R134). -/
  | heldSourceResume (src : Fin 7)
  /-- Every 100 ms the leaked-buffer audit walks the lists and reclaims cells unseen in two walks (R140): the command begins a walk, in
which `lost` cells have fallen out of their lists since the last, or ends the one in progress. -/
  | auditWalk (onChip spill : List Nat)
  /-- A DRAM request arrives, is stamped and ranked by the arbiter (R143). -/
  | dramRequest (r : DramReq) (tick : Fin 4096)
  /-- A request whose age reaches 2 048 ticks is marked ancient (R143). -/
  | ancientMark (tick : Fin 4096)
  /-- A granted DRAM transfer completes and the arbiter grants the next request (R144). -/
  | dramTransferDone (tick : Fin 4096)
  /-- DDR4 refresh is issued at a beat boundary and is never preempted (R144). -/
  | ddrRefresh (tick : Fin 4096)
  /-- Every 32 ms the device temperature is read and refresh doubled above 85 °C (R146). -/
  | ddrTempRead (hot : Bool)
  /-- A scrub pass reads every protected word, writes back corrected words and records hard errors (R461). -/
  | scrubPass (dram : Bool) (corrected : List Nat) (checkerFailed : List Nat)
  /-- A periodic activity that overruns its period completes late and records one corrected fault (R27). -/
  | backgroundPassLate (activity : Nat) (overrunMs : Nat)
  /-- A read of a channel window data range consumes items in order under the Shutter rules (R193). -/
  | channelWindowRead (c : Ctx) (ch : Fin 512) (off : Nat) (len : Nat)
  /-- A write of a channel window data range produces one item per word (R193). -/
  | channelWindowWrite (c : Ctx) (ch : Fin 512) (off : Nat) (data : List Byte)
  /-- Items waiting for a full channel enter it when space appears (R187). -/
  | channelDeliveryResume (cls : Fin 10)
  /-- A ring delivery held by a full channel for HOLD_LIMIT raises channel overrun (R188). -/
  | channelHoldLimit (ch : Fin 512)
  /-- CH_CMD 1 or CH_CTRL.FLUSH drops confirmed items no speculating engine holds (R202). -/
  | chFlush (ch : Fin 512)
  /-- CH_CMD 2 or CH_CTRL.QREL ends a channel's quarantine (R199). -/
  | chQuarantineRelease (ch : Fin 512)
  /-- CH_CMD 3 clears the counters of 0x5012 for the selected channel (R201). -/
  | chClearCounters (ch : Fin 512)
  /-- A read of CH_IN samples ITEMS_IN and ITEMS_OUT together and keeps the CH_OUT sample in the context (R203). -/
  | chInRead (c : Ctx)
  /-- A read of CH_OUT returns and consumes the held sample, or the present value (R203). -/
  | chOutRead (c : Ctx)
  /-- A read of CH_HWM returns the high-water mark and restarts it from the present level (R203). -/
  | chHwmRead (c : Ctx)
  /-- LOCK_CMD starts a lock group (R195). -/
  | lockCmd (g : Fin 64)
  /-- On the common edge at least 16 ns after a start every member divider restarts and CNT clears (R195). -/
  | lockStartEdge (g : Fin 64)
  /-- An engine jump instruction tests its condition and sets the next program counter (R213). -/
  | jmp (e : Fin 256)
  /-- An engine WAIT completes when its pin, flag, compare, calendar or strobe condition holds (R214). -/
  | wait (c k : Fin 16)
  /-- An engine IN shifts source bits into ISR, pushing automatically when configured (R217). -/
  | inp (c k : Fin 16)
  /-- An engine OUT shifts bits out of OSR to its destination, pulling automatically when configured (R218). -/
  | outp (c k : Fin 16)
  /-- An engine PULL takes one item from its consumer channel into OSR and ITEM (R219). -/
  | pull (c k : Fin 16)
  /-- An engine PUSH writes one item to its producer channel (R220). -/
  | push (c k : Fin 16)
  /-- An engine MOV copies a source through an operation to a destination (R223). -/
  | mov (e : Fin 256)
  /-- An engine SET writes an immediate to X, Y, pins or pin directions (R224). -/
  | setImm (e : Fin 256)
  /-- An engine CMP sets F to the truth of a comparison (R225). -/
  | cmp (e : Fin 256)
  /-- SYNC mode 0 waits until every lock-group member reaches the barrier and the group starts (R226). -/
  | syncBarrier (e : Fin 256)
  /-- SYNC mode 1 arms the engine's commit group after its packet's EOP item (R171). -/
  | syncArm (e : Fin 256)
  /-- SYNC mode 2 restarts the engine's divider and clears CNT and event latches on the common edge (R226). -/
  | syncRestart (e : Fin 256)
  /-- An engine STAMP writes the ST32 half-stamp pair of NOW or EDGE (R221). -/
  | stamp (c k : Fin 16)
  /-- IRQ operation 0 sets a cluster flag and raises its routed interrupt (R227). -/
  | irqSet (e : Fin 256)
  /-- IRQ operation 1 clears a cluster flag (R227). -/
  | irqClear (e : Fin 256)
  /-- IRQ operation 2 toggles a cluster flag (R227). -/
  | irqToggle (e : Fin 256)
  /-- An undefined opcode or reserved operand parks the engine and raises a contained fault (R230). -/
  | undefinedInstruction (e : Fin 256)
  /-- CNT taking the value of CMP sets the compare latch and applies CMP_ACTION (R210). -/
  | compareMatch (e : Fin 256)
  /-- A commit group not released within GROUP_ARM_TIMEOUT of t_h fails (R172). -/
  | groupArmTimeout (g : Fin 128)
  /-- ENG_CMD 1 or PE_CTRL.PARK parks the selected engine with cause 3 (R231). -/
  | engineParkCmd (e : Fin 256)
  /-- ENG_CMD 2 or PE_CTRL.RESTART starts a stopped or parked engine under its start values (R232). -/
  | engineRestart (e : Fin 256)
  /-- ENG_CMD 3 clears the counters of 0x6021 (R238). -/
  | engineClearCounters (e : Fin 256)
  /-- A PE_WRAP write holds new wrap values pending until the next wrap (R229). -/
  | peWrapWrite (e : Fin 256) (v : W32)
  /-- Writing 1 to PE_CL_FLAGS.SET sets a cluster flag (R239). -/
  | peClFlagSet (c : Fin 16) (flags : BitVec 8)
  /-- Writing 1 to PE_CL_FLAGS.FLAG clears a cluster flag (R239). -/
  | peClFlagClear (c : Fin 16) (flags : BitVec 8)
  /-- A read of PE_CL_STALL returns and clears the cluster-limit tick count (R239). -/
  | peClStallRead (x : Ctx) (c : Fin 16)
  /-- A readback comparison failing on READBACK_TICKS consecutive ticks raises output readback (R235). -/
  | readbackFail (e : Fin 256) (pin : Fin 48)
  /-- Every 10 µs the bank monitor classifies each bank supply (R240). -/
  | bankSupplySample (b : Fin 16) (mv : Nat)
  /-- A supply matching for 10 ms returns the bank to service (R241). -/
  | bankSupplyRestore (b : Fin 16)
  /-- A pad stable for FILT × FILTER_DIV cycles changes the filtered level (R244). -/
  | filterRunComplete (b : Fin 16) (pin : Fin 24) (level : Bool)
  /-- A ring SYNC gives an offset sample on the sync port and is relayed through the opposite port (R257). -/
  | syncReceived (p : Port) (ago : Nat) (frac : W32)
  /-- The ring root sends SYNC on both ports every 2^RING_SYNC_INTERVAL s (R257). -/
  | syncTimer
  /-- No SYNC on the sync port for 3 intervals makes the other port the sync port (R257). -/
  | syncPortTimeout
  /-- Each port sends PDELAY_REQ every 1 ms in JOIN and every LINK_DELAY_INTERVAL after (R256). -/
  | pdelayTimer (p : Port)
  /-- A PDELAY_REQ is answered with PDELAY_RESP carrying t2 and t3 (R256). -/
  | pdelayReqReceived (p : Port) (ago : Nat) (frac : W32)
  /-- A PDELAY_RESP gives a link-delay measurement and updates LINK_DELAY (R256). -/
  | pdelayRespReceived (p : Port) (ago : Nat)
  /-- No response within 1 ms makes the measurement invalid (R256). -/
  | pdelayResponseTimeout (p : Port)
  /-- Each hub sends TIME_ANNOUNCE on both ports every 250 ms (R254). -/
  | timeAnnounceTimer
  /-- A TIME_ANNOUNCE dataset is compared and may change the ring root (R254). -/
  | timeAnnounceReceived (p : Port)
  /-- A dataset not refreshed for 3 intervals is forgotten (R254). -/
  | datasetAgeOut (p : Port)
  /-- A station PTP message is handled by the ordinary clock and may give an offset sample (R258). -/
  | stationPtpMessage (port : Fin 2) (m : PtpMsg) (ago : Nat)
  /-- No accepted sample for 3 intervals moves time status to HOLDOVER or FREE (R262). -/
  | timeReferenceTimeout
  /-- INACCURACY exceeding HOLDOVER_LIMIT moves time status from HOLDOVER to FREE (R262). -/
  | holdoverExpiry
  /-- A TOD_SET write steps WT while FREE with no source (R260). -/
  | todSet (n : Fin 32) (sec : BitVec 48) (ns frac : W32)
  /-- A PPS_TOD write supplies the second label for source 2 (R269). -/
  | ppsTod (n : Fin 32) (sec : BitVec 48)
  /-- An accepted PPS_IN edge is labelled and gives an offset sample (R269). -/
  | ppsInEdge (rising : Bool) (ago : Nat)
  /-- Three seconds without an accepted labelled edge count as loss of the source (R269). -/
  | ppsSourceLoss
  /-- The IRIG-B service decodes and accepts or rejects a frame from the element codes (R270). -/
  | irigFrameDecode
  /-- No accepted IRIG-B frame for 3 s counts as loss of the source (R270). -/
  | irigSourceLoss
  /-- An announced leap second changes UTC_OFFSET at its instant without stepping WT (R270). -/
  | leapSecond
  /-- PPS_OUT rises at each WT second plus PPS_OUT_OFFSET (R271). -/
  | ppsOutEdge (rise : Bool)
  /-- A strobe line fires at its scheduled grid edge and sets every engine's strobe latch (R272). -/
  | sampleStrobe (k : Fin 8)
  /-- A converted WT instant is frozen 200 µs before it (R251). -/
  | wtTargetFreeze (w : WtTarget)
  /-- At each 2^31 ns crossing a marker enters every event, fault, SOE and trace queue (R265). -/
  | wrapMarker
  /-- A read of TM_WT_SEC_LO latches the seconds high, nanoseconds and fraction in the context (R275). -/
  | tmWtSecLoRead (c : Ctx)
  /-- A confirmed tapped item updates the tracker model and retargets its armed entries (R276). -/
  | trackerInput (k : Fin 4) (x : TrkInput)
  /-- No usable input for the declared time moves a LOCKED tracker to UNLOCKED (R280). -/
  | trackerInputTimeout (k : Fin 4)
  /-- At each positive-going crossing of its model a locked tracker produces a telemetry packet (R295). -/
  | trackerCrossingTelemetry (k : Fin 4)
  /-- A read of PH_TRK_PA evaluates PA24 and latches CY24 in the context (R297). -/
  | phTrkPaRead (c : Ctx) (k : Fin 4)
  /-- A read of CONV_WT or CONV_ST32 converts the session's phase target to an instant (R284). -/
  | convTargetRead (n : Fin 32) (st32 : Bool)
  /-- A write of a calendar entry field is taken or refused according to the entry's state and owner (R286). -/
  | calFieldWrite (c : Ctx) (field : Fin 8) (v : W32)
  /-- CAL_CMD 1 or PH_CAL_CMD.ARM arms the selected entry after its checks (R287). -/
  | calArm (c : Ctx)
  /-- CAL_CMD 2 or PH_CAL_CMD.CANCEL cancels the selected entry before it fires (R291). -/
  | calCancel (c : Ctx)
  /-- An armed entry freezes its firing instant at the commit horizon, or fails (R288). -/
  | calFreeze (e : Fin 1024)
  /-- A frozen entry fires its action at its firing instant and re-arms if it repeats (R290). -/
  | calFire (e : Fin 1024)
  /-- A publication reads a sample packet and assigns it to its strobe instant (R302). -/
  | svSamplePacket (n : Fin 32)
  /-- A complete SV block is sent as one frame (R304). -/
  | svFrameSend (n : Fin 32)
  /-- No packet 50 µs after an instant sends its ASDU as invalid zeros (R304). -/
  | svSampleMissing (n : Fin 32)
  /-- A subscription accepts an SV frame and writes its samples to the output channel (R305). -/
  | svFrameReceived (port : Fin 2) (f : SvFrame)
  /-- No frame for 3 frame intervals expires the SV subscription (R307). -/
  | svSubscriptionExpiry (n : Fin 64)
  /-- A signal-update packet applies its updates to signals at one instant (R308). -/
  | signalUpdatePacket (n : Fin 32)
  /-- A GOOSE repeat is sent at the current interval, which then doubles up to MAX_INTERVAL (R309). -/
  | gooseRepeat (n : Fin 128)
  /-- A GOOSE subscription judges a frame as new state, refresh or discard (R310). -/
  | gooseFrameReceived (port : Fin 2) (f : GooseFrame)
  /-- timeAllowedToLive running out marks the subscription's signals invalid and expires it (R310). -/
  | gooseTalExpiry (n : Fin 256)
  /-- A judged SOE packet gives one log record (R315). -/
  | soePacket (n : Fin 48)
  /-- 900 ms after a stamp without its code a provisional record is written (R315). -/
  | soeProvisional (n : Fin 48)
  /-- A chattering point quiet for a window gives a chatter-end record (R315). -/
  | soeChatterEnd (point : Fin 4096)
  /-- A log page is programmed to flash when 8 records wait or 100 ms after the oldest (R316). -/
  | logPageProgram (ok : Bool)
  /-- A read of LOG_READ returns up to 64 records with a leading marker copy and advances LOG_FROM (R317). -/
  | logRead (n : Fin 32)
  /-- A read of FAULT_READ returns up to 64 fault records with a leading marker and advances FAULT_FROM (R458). -/
  | faultRead (n : Fin 32)
  /-- CSW_CMD 1 arms one calendar entry per pole and writes the close command items (R321). -/
  | cswClose (n : Fin 32)
  /-- CSW_CMD 2 arms one calendar entry per pole and writes the open command items (R321). -/
  | cswOpen (n : Fin 32)
  /-- CSW_CMD 3 cancels every pole entry that has not fired (R321). -/
  | cswAbort (n : Fin 32)
  /-- A contact code gives the pole's measured time, residual and learning (R323). -/
  | cswContact (b : Fin 8) (p : Fin 3)
  /-- No contact code within 2 × T of firing gives outcome 6 (R322). -/
  | cswNoContact (b : Fin 8)
  /-- Writing 1 to 0x3800:02 clears the station-service counters (R325). -/
  | stationClearCounters
  /-- At each 10 ms window a core over LOAD_ALARM raises core overload (R331). -/
  | coreLoadWindow (k : Fin 16) (load10 load1s : Nat) (svcLoads : List (Nat × Nat))
  /-- An instance reaching a hinge point writes a hinge record into a TCM slot (R336). -/
  | hingePoint (svc : Fin 1282)
  /-- A hinge record copied to DRAM releases the channel items it covers (R337). -/
  | hingeCopyDone (svc : Fin 1282)
  /-- No hinge point for 4 × HINGE_MAX traps the late instance (R339). -/
  | hingeOverdue (svc : Fin 1282)
  /-- A core trap raises a contained fault and restarts the affected instances (R339). -/
  | coreTrap (k : Fin 16) (cause : Fin 9) (svc : Fin 1282) (pc : W24)
  /-- A restarting instance resumes at its hinge point from its newest good record (R341). -/
  | instanceRestartDone (svc : Fin 1282)
  /-- SVC_CMD 1 restarts the selected service and leaves failed (R343). -/
  | svcRestartCmd (n : Fin 32)
  /-- SVC_CMD 2 clears the selected service's counters (R350). -/
  | svcClearCounters (n : Fin 32)
  /-- A trace message enters the on-chip buffer or is dropped under its fill rules (R346). -/
  | traceMessage (typ k : Fin 16) (stamp : W32) (payload : List W32)
  /-- The trace buffer drains words to the DRAM region and the trace port (R347). -/
  | traceDrain
  /-- A read of SC_TRACE_DROP returns and clears the drop counts (R351). -/
  | scTraceDropRead (c : Ctx)
  /-- A controller takes a transmit packet from its channel into its queue or a buffer, or discards it (R358). -/
  | canTxPacket (k : Fin 8)
  /-- A received frame goes to a session, a filter's channel or is discarded (R360). -/
  | canFrameReceived (k : Fin 8) (f : CanFrame) (ago : Nat)
  /-- A frame waiting in the receive buffer enters its channel when space appears (R361). -/
  | canRxBufferDrain (k : Fin 8)
  /-- The head frame completes transmission and leaves the queue (R362). -/
  | canTxComplete (k : Fin 8) (tdcv : Option (Fin 128))
  /-- A frame losing arbitration is retried automatically (R365). -/
  | canTxLost (k : Fin 8)
  /-- A bus error updates TEC and REC and may change the error state (R366). -/
  | canBusError (k : Fin 8) (tx dominant : Bool)
  /-- 128 occurrences of 11 recessive bits end bus-off (R366). -/
  | canBusoffRecovery (k : Fin 8)
  /-- CAN_CMD 1 or CAN_CTRL.ABORT_ALL aborts every queue entry (R364). -/
  | canAbortAll (k : Fin 8) (onBus : Bool)
  /-- CAN_CTRL.ABORT_SEQ aborts the entry of the named sequence number (R364). -/
  | canAbortSeq (k : Fin 8) (seq : Byte) (onBus : Bool)
  /-- CAN_CMD 2 or CAN_CTRL.RESTART starts the end of bus-off (R366). -/
  | canBusoffRestart (k : Fin 8)
  /-- CAN_CMD 3 clears the controller's counters (R376). -/
  | canClearCounters (k : Fin 8)
  /-- CAN_CMD 4 leaves the time-triggered halted state (R375). -/
  | canLeaveHalted (k : Fin 8)
  /-- Writing 1 to CAN_ABORT.VALID clears the held abort outcome (R377). -/
  | canAbortClear (k : Fin 8)
  /-- A read of CAN_FHIT returns and clears the filter's hit count (R377). -/
  | canFhitRead (c : Ctx) (f : Fin 32)
  /-- A wake detector recognises an edge, pattern, wake-up frame or error count and wakes the hub (R369). -/
  | canWake (k : Fin 8) (w : CanWake)
  /-- After wake the controller integrates on 11 recessive bits and rejoins the bus (R370). -/
  | canIntegrationDone (k : Fin 8)
  /-- A potential master offers its reference message at each cycle instant (R372). -/
  | ttReferenceSend (k : Fin 8)
  /-- A reference message updates the slave's ratio, uncertainty and schedule state (R373). -/
  | ttReferenceReceived (k : Fin 8) (r : TtRef) (ago : Nat)
  /-- A schedule trigger acts at its time mark (R371). -/
  | ttTrigger (k : Fin 8) (t : Fin 64)
  /-- UNCERT exceeding GUARD takes the slave out of schedule (R374). -/
  | ttGuardExceeded (k : Fin 8)
  /-- A BAR2 read is mapped through a window and served locally, remotely or from prefetch (R386). -/
  | windowRead (addr : W32) (len : Nat)
  /-- A BAR2 write is mapped through a window and applied locally or sent to the ring (R386). -/
  | windowWrite (addr : W32) (data : List Byte)
  /-- A remote host read unanswered at READ_DEADLINE completes with remote node silent (R382). -/
  | readDeadlineExpiry (id : Nat)
  /-- A window register write changes the mapping, or is refused when it makes a reserved combination (R392). -/
  | windowRegisterWrite (w : Fin 64) (r : Fin 4) (v : W32)
  /-- A prefetch line fill arrives, answers its read and is installed unless invalidated (R394). -/
  | prefetchFillDone (id : Nat)
  /-- A prefetch line is invalidated at the end of PF_LIFE (R394). -/
  | prefetchLineExpiry (e : Fin 16)
  /-- BR_PF_CTRL.INV invalidates every prefetch line (R394). -/
  | prefetchInvalidate
  /-- A read of BR_PF_CTRL returns and clears the prefetch hit count (R403). -/
  | brPfHitsRead (c : Ctx)
  /-- A read of BR_FENCE completes when earlier remote writes resolve and returns their result (R389). -/
  | brFenceRead
  /-- Writing 1 to BR_ERR.VALID clears the latched host failure (R381). -/
  | brErrClear
  /-- Writing 1 to a BR_INT_PEND bit clears it unless its source remains set (R384). -/
  | brIntPendClear (v : BitVec 21)
  /-- Unmasking a vector with its pending bit still set sends the held message (R383). -/
  | msixUnmask (v : Fin 64)
  /-- A doorbell write hands the request buffer's transaction to the hub (R385). -/
  | mbDoorbell (len : W32)
  /-- Writing 1 to RESP_VALID frees the response buffer for the next response (R385). -/
  | mbRespAck
  /-- A PCIe AtomicOp is performed under an address semaphore or refused (R396). -/
  | atomicOp (addr : W32) (op : AtomicOp)
  /-- A read of a free semaphore takes it for the reading context (R397). -/
  | brSemRead (c : Ctx) (n : Fin 64)
  /-- The holder writing BR_SEM.FREE frees the semaphore (R397). -/
  | semFree (c : Ctx) (n : Fin 64)
  /-- A semaphore held beyond SEM_TIMEOUT is freed and reported (R397). -/
  | semTimeout (n : Fin 64)
  /-- A host-window write still held at HOLD_LIMIT is discarded as busy, retry (R398). -/
  | hostWriteHoldExpiry
  /-- A packet or station frame at a tunnel's local end is sent as a type-7 frame (R399). -/
  | tunnelIngress (t : Fin 64)
  /-- A delivered tunnel frame is passed to its remote local end or refused (R399). -/
  | tunnelFrameDelivered
  /-- A received station frame is filtered and steered to its unit or dropped (R400). -/
  | stationFrameReceived (port : Fin 2) (bytes : List Byte)
  /-- A PRP supervision frame is sent every LIFE_CHECK (R401). -/
  | prpSupervisionSend
  /-- A PRP node-table entry is forgotten after its forget time (R401). -/
  | prpNodeForget (mac : BitVec 48)
  /-- A KEY_PLAIN write loads the selected slot with a plain key (R409). -/
  | keyLoadPlain (n : Fin 32) (key : List Byte)
  /-- A KEY_WRAPPED write unwraps a key under the WRAP slot and loads the selected slot (R409). -/
  | keyLoadWrapped (n : Fin 32) (wrapped : List Byte)
  /-- KEY_CMD 1 zeroes the selected slot and erases its store record (R410). -/
  | keyDestroy (n : Fin 32)
  /-- KEY_CMD 2 derives a key into the selected slot from a DERIVE key (R410). -/
  | keyDerive (n : Fin 32)
  /-- Writing 1 to REVOKE_KEY0 blows the fuse that revokes Farxia image key 0 (R416). -/
  | revokeKey0 (n : Fin 32)
  /-- RAISE_FLOOR raises the anti-rollback floor to the lower slot ROLLBACK value (R437). -/
  | raiseFloor (n : Fin 32)
  /-- LC_REQ runs a life-cycle transition that zeroes keys, blows fuses and makes a warm reset (R419). -/
  | lcReq (n : Fin 32) (v : W32) (verified : Bool)
  /-- A random-source health-test failure raises a contained fault and stalls random uses (R417). -/
  | rngHealthFail
  /-- UPD_CMD 1 selects and erases the update slot for the session (R435). -/
  | updPrepare (n : Fin 32)
  /-- The update slot's erase completes and UPD_STATE becomes ready (R435). -/
  | updSlotReady
  /-- An IMAGE_DATA segment is programmed, the header being checked at byte 255 (R435). -/
  | imageDataSegment (n : Fin 32) (off : Nat) (data : List Byte) (last : Bool)
  /-- Read-back hashing ends and the slot becomes valid or invalid (R435). -/
  | updVerifyDone
  /-- UPD_CMD 2 activates the verified image by handover (R438). -/
  | updActivateHandover (n : Fin 32)
  /-- UPD_CMD 3 marks a cold-only image trial at reset (R438). -/
  | updActivateReset (n : Fin 32)
  /-- UPD_CMD 4 abandons the update and invalidates the slot (R435). -/
  | updAbandon (n : Fin 32)
  /-- The image is loaded to the kennel and hashed, then HANDOVER is entered (R439). -/
  | handoverImageLoaded
  /-- After the last core moves HANDOVER ends and the hub returns to its mode (R439). -/
  | handoverComplete
  /-- A healthy trial image becomes committed (R440). -/
  | trialHealthy
  /-- 10 s without health fails the activation and hands back or resets (R441). -/
  | trialTimeout
  /-- The recovery loader writes a request's image bytes to slot A and answers a status (R436). -/
  | recoveryLoaderRequest (path : Path) (off : Nat) (data : List Byte) (last : Bool)
  /-- A flash sector erase ends, its status is checked and an erase-complete record is written (R427). -/
  | flashEraseDone (ok : Bool)
  /-- An erase is suspended within 1 µs for a permitted flash request (R427). -/
  | flashEraseSuspend (u : FlashUse)
  /-- A suspended erase resumes once its serving request ends (R427). -/
  | flashEraseResume
  /-- A fault report reaches the collector, is recorded or merged, counted, queued and reacted to (R451). -/
  | faultReport (r : Report) (level : Option Bool)
  /-- A reaction completes, applying any deferred first-error clear (R454). -/
  | reactionComplete
  /-- QUIET_PERIOD without a report ends FAULTED as a recovery, or holds the collector (R455). -/
  | quietPeriodExpiry
  /-- FC_FIRST.VALID or FIRST_CLEAR clears the first-error record (R452). -/
  | fcFirstClear
  /-- A read of FC_COUNT returns and clears the per-class report counts (R467). -/
  | fcCountRead (c : Ctx)
  /-- The collector injects a test report into the next source input and checks its arrival (R460). -/
  | collectorSelfTest (arrived : Bool)
  /-- Writing 1 to 0x2022:00 clears the ring counters (R125). -/
  | ringClearCounters
  /-- Writing 1 to 0x2180:00 clears the switch counters (R147). -/
  | switchClearCounters
  /-- Writing 1 to 0x26A0:00 clears the Shutter counters (R175). -/
  | shutterClearCounters
  /-- Writing 1 to 0x3071:00 clears the time counters (R274). -/
  | timeClearCounters
  /-- Writing 1 to 0x3501:00 clears the phase counters (R296). -/
  | phaseClearCounters
  /-- A read of SW_AUDIT returns and clears the reclaimed-cell count (R149). -/
  | swAuditRead (c : Ctx)
  /-- Writing 1 to DDR_STATUS.ECC_ERR clears the uncorrectable-error flag (R149). -/
  | ddrEccErrClear
  /-- Writing 1 to SHT_GFAIL.VALID clears the held group failure (R176). -/
  | shtGfailClear
  /-- LEASH_IN silent for 20 µs lets a hub meeting the conditions start a claim (R471). -/
  | leashInSilence
  /-- An edge on LEASH_IN while seeking resolves a tie by PAIR_ID (R472). -/
  | leashInEdge
  /-- 2 µs of silence while seeking makes the claim held and closes the output gate (R472). -/
  | claimSeekExpiry
  /-- After 10 µs of backoff the hub seeks again or goes idle (R472). -/
  | claimBackoffExpiry
  /-- Edges on LEASH_IN for 2 µs while held make the PAIR_ID-high hub release (R472). -/
  | dualClaimDetected
  /-- No edge at the own LEASH_OUT ball for 2 µs releases the claim (R470). -/
  | leashOutReadbackFail
  /-- A status block is sent on the pair link every 1 µs (R475). -/
  | pairStatusSend
  /-- A received status block updates partner state and the link-up count (R475). -/
  | pairStatusBlock (b : StatusBlock) (crcOk : Bool)
  /-- 4 µs without a good status block or 8 CRC failures in 1 ms takes the pair link down (R475). -/
  | pairLinkDown
  /-- A received mirror record is applied on the standby with the same effect as on the active (R476). -/
  | pairMirrorBlock (seq : W32) (r : MirrorRec)
  /-- A mirror record unacknowledged for 20 µs is sent again (R475). -/
  | mirrorResend (seq : W32)
  /-- A mirrored commit applies on both hubs 500 µs after the active's check (R477). -/
  | mirroredCommitApply
  /-- A standby whose hash differs asks for and applies the active's configuration (R478). -/
  | configTransferRequest (set : List MirrorEntry)
  /-- A disagreement persisting beyond SHADOW_WINDOW raises source 0xB0 (R482). -/
  | shadowMismatch (ef : Bool) (bank : Fin 16) (pin : Fin 24)
  /-- Writing 1 to PA_SHADOW.VALID clears the latched shadow mismatch (R489). -/
  | paShadowClear
  /-- A read of PA_LINK returns and clears the pair-link CRC failure count (R489). -/
  | paLinkRead (c : Ctx)
  /-- The standby sends a bark frame every 10 ms (R483). -/
  | barkSend
  /-- A received bark updates partner fitness (R484). -/
  | barkReceived
  /-- No bark for 30 ms raises source 0xB1 and counts the partner lost (R484). -/
  | barkTimeout
  /-- SWITCHOVER_CMD 1 passes control to a fit, in-sync standby (R486). -/
  | switchover (n : Fin 32)
  /-- SWITCHOVER_CMD 2 makes the home hub active (R487). -/
  | heel (n : Fin 32)
  /-- SWITCHOVER_CMD 3 passes control without the sync requirement (R486). -/
  | switchoverNoSync (n : Fin 32)
  /-- No claim by the standby 50 µs after release makes the former active claim again (R486). -/
  | switchoverFallback
  /-- A BIST slice ends, writes results, repairs and pointer to the anchor (R494). -/
  | bistSliceDone (found : List Finding)
  /-- A slice reaching its budget stops with outcome incomplete (R492). -/
  | bistSliceBudgetExpiry
  /-- A Factory write of 0 to REPAIR_CLEAR empties the repair map and retirements at the next start (R500). -/
  | repairClear (n : Fin 32)
  /-- A feed inside its window for 1 ms becomes usable (R505). -/
  | feedUsable (f : Fin 2)
  /-- A feed leaving its window or reverse conducting for 2 µs becomes unusable (R505). -/
  | feedUnusable (f : Fin 2) (why : FeedBad)
  /-- A preferred feed usable for FEED_RETURN causes a changeover back to it (R506). -/
  | feedReturnTimer
  /-- The old feed element confirmed off lets the new feed's gate be driven (R507). -/
  | feedOffConfirmed
  /-- An old element not confirmed off within TOFF_MAX + 5 µs is treated as shorted (R507). -/
  | feedOffTimeout
  /-- A fitted feed unusable for 1 s counts as loss of a feed (R507). -/
  | feedLossDegrade (f : Fin 2)
  /-- EF_CMD 1 or PW_EF_CTRL.ON starts a field channel or admits a feed (R510). -/
  | efCmdOn (n : Option (Fin 32)) (ch : Fin 8)
  /-- EF_CMD 0 or PW_EF_CTRL.OFF turns a channel off, clears a trip or excludes a feed (R510). -/
  | efCmdOff (n : Option (Fin 32)) (ch : Fin 8)
  /-- A starting channel reaching 95 % of the island bus becomes on (R512). -/
  | efStartComplete (ch : Fin 8)
  /-- Insertion energy beyond INSERT_BUDGET trips the channel with cause 4 (R512). -/
  | efInsertionAbort (ch : Fin 8) (lt : W32)
  /-- START_MAX passing before the start completes trips the channel with cause 5 (R512). -/
  | efStartTimeout (ch : Fin 8) (lt : W32)
  /-- A curve point timer reaching t_k trips the channel with cause 1 (R514). -/
  | efCurveTrip (ch : Fin 8) (lt : W32)
  /-- Current above ILIM turns the element off within 600 ns with cause 2 (R515). -/
  | efComparatorTrip (ch : Fin 8) (lt : W32)
  /-- The let-through accumulator reaching I2T_TRIP trips the channel with cause 3 (R516). -/
  | efLetThroughTrip (ch : Fin 8) (lt : W32)
  /-- A channel commanded off whose output stays above 10 % for 1 ms is judged shorted (R518). -/
  | efShorted (ch : Fin 8)
  /-- A shorted channel whose output stays low for 1 ms ends the shorted condition (R518). -/
  | efShortEnd (ch : Fin 8)
  /-- Every 100 µs power is accumulated into ENERGY (R519). -/
  | efEnergyTick (ch : Fin 8) (ma : Int) (mv : W32)
  /-- ENERGY is written to the store every 10 min (R520). -/
  | energyStore
  /-- Every TELEM_PERIOD a channel produces a telemetry packet (R521). -/
  | efTelemetry (ch : Fin 8) (ma : Int) (mv : W24)
  /-- A read of PW_EF_ELO latches PW_EF_EHI in the context (R526). -/
  | pwEfEloRead (c : Ctx) (ch : Fin 8)
  /-- Every 1 ms each measurement reference is compared with a second reference (R519). -/
  | measReferenceCheck (ch : Fin 8) (off : Bool)
  /-- A rail outside its warning window raises source 0xA1 (R522). -/
  | railMonitorWarning (rail : Fin 5) (mv : Nat)
  /-- Every 1 ms the die sensors are read and temperature sources raised or ended (R523). -/
  | tempSample (t : List Int)
  /-- REFCLK outside ± 100 ppm raises source 0xA1 (R524). -/
  | refclkWarning (ppm : Int)
  /-- A ring port whose receiver regains a signal from its neighbour comes up and begins clause 72 training or receiver adaptation (R118). -/
  | linkUp (p : Port)
  /-- When the lead of a RECAL_NOTICE or RETRAIN_NOTICE has passed, the port leaves ring service and the recalibration or retrain begins (R120). -/
  | noticeLeadExpiry (p : Port)
  /-- A deferred planned outage proceeds once 5 ms have passed since another hub's outage was announced (R117). -/
  | outageDeferralExpiry (p : Port)
  /-- A fitted feed that has been usable for 1 s stops counting as loss of a feed, and a DEGRADED hub may return to ACTIVE (R507). -/
  | feedLossEnd (f : Fin 2)
  /-- A feed closed by the selector ends its 1 V/ms ramp and passes from state 1 to in use (R506). -/
  | feedRampComplete
  /-- The random source passes its health tests again, and challenges, derivation and mask refresh are served once more (R417). -/
  | rngHealthRestored
  /-- At each message interval of the selected profile the station PTP clock sends its Pdelay_Req, Announce and, as master, Sync messages, and checks its receipt timeouts (R258). -/
  | ptpMessageInterval (port : Fin 2)
deriving DecidableEq, Repr

end Sys2Proof
end

