-- ==== Sys2Proof/Decode.lean ====
section
/-!
DEFINITION. The decoder of table words. No row of the table of operations and events carries bits: a command of the hub is an event, a pin,
a received frame or a transaction, and its operands are what those carry. So no word spells a command.
-/

namespace Sys2Proof

/-- The command that a word spells by the table's bits. The table gives no row any bits, so there is none. -/
def decodeTableWord (_nbits _w : Nat) : Option Instr := none

end Sys2Proof
end

