-- ==== Sys2Proof/Config.lean ====
section
/-!
DEFINITION. The values the spec leaves open, as constants without a body: nothing can compute them, and a statement
that holds of the model holds for every value of them. Each is named in the assumption log.
-/

namespace Sys2Proof.Config

/-- A free number below `2^w` for the `n`-th draw: random draws (R45, R137, R417) and values the spec leaves open. -/
opaque free : (w n : Nat) → Nat

/-- The level of an undriven, unpulled pin (R242) at an edge, for a draw counter, bank and pin. -/
opaque floating : (edge draw bank pin : Nat) → Bool

/-- The pins of a bank that something outside the hub drives at an edge. -/
opaque outsideOn : (edge draw bank : Nat) → BitVec 24

/-- The levels outside a bank's pins at an edge. -/
opaque outsideLevel : (edge draw bank : Nat) → BitVec 24

/-- The pins of a bank at which what is outside overcomes the hub's own driver at an edge: a short, or another driver (R235, R236). -/
opaque outsideWins : (edge draw bank : Nat) → BitVec 24

/-- What service firmware, whose code the spec does not give, does at an edge that a core's coprocessor sees (R333, R334), in program order. -/
opaque coActs : (edge core : Nat) → List CoAct

/-- The result of a CORDIC operation (R327): the spec gives the width and the iterations, not the rounding. It is a function of the operands alone
(R328). -/
opaque cordic : (vectoring : Bool) → (x y z : W24) → W24 × W24 × W24

/-- The value of a DFT bin after an input sample (R327): the spec does not give the update. It is a function of the bin, its value and the sample
alone (R328). -/
opaque dftStep : (bin : Nat) → (re im : BitVec 48) → (x : W24) → BitVec 48 × BitVec 48

/-- HMAC-SHA-256 of a message under a 256-bit key (R45, R407). The algorithm is not given by the spec. -/
opaque hmacSha256 : (key msg : List Byte) → List Byte

/-- The AES-GMAC-128 tag under a key, nonce and authenticated bytes (R89, R411, R414). -/
opaque gmac : (key nonce aad : List Byte) → List Byte

/-- AES key unwrap with padding (R409): `none` when the integrity check fails. -/
opaque keyUnwrap : (kek wrapped : List Byte) → Option (List Byte)

/-- SHA-384 (R433, R434). -/
opaque sha384 : List Byte → List Byte

/-- ECDSA P-384 verification of a header under image key `k` (R416, R433). -/
opaque ecdsaOk : (k : Nat) → (header : List Byte) → Bool

/-- CLOCK_ACCURACY and VARIANCE of the own dataset (R254): implementation-defined. -/
opaque clockAccuracy : Nat

/-- VARIANCE of the own dataset (R254). -/
opaque clockVariance : Nat

/-- The parity bit of an IRIG-B frame is odd (R270): IEEE C37.118.1 fixes it, the spec does not say it. -/
opaque irigParityOdd : Bool

/-- Which way a value halfway between two integers rounds where the spec says only to round. -/
opaque tieUp : Bool

/-- MSI-X is enabled in the PCIe configuration space, which the spec leaves to PCI Express (R383). -/
opaque msixEnabled : Bool

/-- HINGE_MAX of a service in µs, which the service firmware fixes within the bounds of R336. -/
opaque hingeMax : (svc : Nat) → Nat

/-- The format version of a service's state in an image of a version (R338, R439). -/
opaque hingeFormat : (svc image : Nat) → Nat

/-- The level of one of the common trace messages 0x001–0x009 (R344). -/
opaque traceLevel : (code : Nat) → Nat

/-- The installed DRAM in MiB (0x1006) and the flash devices' sizes in MiB (0x1007): what the integrator fits (R146, R423). -/
opaque dramMiB : Nat

/-- The size in MiB of the flash device on a chip select (R423). -/
opaque flashMiB : (cs : Nat) → Nat

/-- The flash device on a chip select is fitted and meets the conditions of R423, which the integrator's board decides. -/
opaque flashOk : (cs : Nat) → Bool

/-- Where an on-chip address lies: macro (field 0), row (1), column (2) and bit (3); the physical arrangement is not given (R461, R496). -/
opaque eccPlace : (address field : Nat) → Nat

/-- The bytes that the configuration hash is taken over (R475): the spec gives neither the order nor the form of the values. -/
opaque configBytes : Tab Val → List Byte

/-- The bytes of a mirror record (R475): the spec gives the block and not the record's own layout. -/
opaque mirrorBytes : MirrorRec → List Byte

/-- The import table in an image's body can import a format version of a service's hinge record (R438): the body's layout is not given. -/
opaque canImport : (image : List Byte) → (svc format : Nat) → Bool

/-- A value of a privileged group as an image of a version takes it over (R444); `none` when the new format refuses it. -/
opaque migrated : (version key : Nat) → Val → Option Val

/-- Bytes that authentication adds to a station frame (R311, R414): IEC 62351-6 fixes them, the spec does not say them. -/
opaque authBytes : Nat

/-- The octets of a station frame that firmware builds from its fields (R258, R301, R309): its standard fixes them, the spec does not say them. -/
opaque stationLen : (what n : Nat) → (body : List Nat) → Nat

/-- TRACE_DICT of an image of a version (R344, R350): service firmware brings it. -/
opaque traceDict : (version : Nat) → List Byte

/-- LINK (0x7800:05) while the PCIe link is up: the width and the generation that training reached. -/
opaque pcieLink : Nat

end Sys2Proof.Config
end

