-- ==== Sys2Proof/Machine/Dict.lean ====
section
/-!
DEFINITION. The object dictionary's entries (R28, R30, R57–R59 and the object table of every chapter): one row for each
row of those tables (split where a row gives several types), with type, access, role mask, default, legal range,
persistence and the selection that addresses it. `Desc.find` finds the row of an entry.
-/

namespace Sys2Proof.Machine

/-- An entry's type (R30): the byte count of a number, or the longest STRING or DOMAIN. -/
inductive Ty where
  | bool | uint (bytes : Nat) | int (bytes : Nat) | wt | str (max : Nat) | dom (max : Nat)
deriving DecidableEq, Repr

/-- Access codes (R30). -/
inductive Acc where
  | const | ro | wo | rw | rwc
deriving DecidableEq, Repr

/-- Persistence (R32): v volatile, c configuration store, f set in BLANK, n kept by the store. -/
inductive Pers where
  | v | c | f | n
deriving DecidableEq, Repr

/-- What addresses an entry: one copy, each session's own copy (R47, R59), or the item a selection object names. -/
inductive Sel where
  | one | own | ch | eng | can | cal | svp | svs | gp | gs | sig | csw | core | svc | win | tun | key
deriving DecidableEq, Repr

/-- A default: one number for all subindices, one per subindex, or bytes. -/
inductive Dflt where
  | all (n : Int) | each (l : List Int) | bytes (b : List Nat)
deriving DecidableEq, Repr

/-- One row of an object table: indices `lo`–`hi`, subindices `s0`–`s1`. `roles` has Ob, Op, En, Cu, Fa in bits 0–4 (R30). -/
structure Desc where
  name : String
  lo : Nat
  hi : Nat
  s0 : Nat
  s1 : Nat
  ty : Ty
  acc : Acc
  roles : Nat
  dflt : Dflt
  min : Int
  max : Int
  pers : Pers
  sel : Sel
deriving DecidableEq, Repr

/-- Object rows of chapter file `02`. -/
def dict02 : List Desc := [
  ⟨"VENDOR", 0x1000, 0x1000, 0, 0, .str 255, .const, 1, .bytes [70, 97, 114, 120, 105, 97], 0, 0, .f, .one⟩,
  ⟨"PART_CODE", 0x1001, 0x1001, 0, 0, .str 255, .const, 1, .bytes [70, 88, 76, 53, 49, 50, 48, 45, 88, 65], 0, 0, .f, .one⟩,
  ⟨"SILICON_REV", 0x1002, 0x1002, 0, 0, .uint 2, .const, 1, .all 16944, 0, 65535, .f, .one⟩,
  ⟨"SERIAL", 0x1003, 0x1003, 0, 0, .uint 8, .const, 1, .all 0, 0, 18446744073709551615, .f, .one⟩,
  ⟨"SVC_FW_VERSION", 0x1004, 0x1004, 0, 0, .uint 4, .ro, 1, .all 0, 0, 4294967295, .v, .one⟩,
  ⟨"ACTIVE_IMAGE", 0x1005, 0x1005, 0, 0, .uint 1, .ro, 1, .all 0, 0, 255, .v, .one⟩,
  ⟨"DRAM_SIZE in MiB", 0x1006, 0x1006, 0, 0, .uint 2, .ro, 1, .all 0, 0, 65535, .v, .one⟩,
  ⟨"FLASH_SIZE per chip select, MiB", 0x1007, 0x1007, 1, 2, .uint 2, .ro, 1, .all 0, 0, 65535, .v, .one⟩,
  ⟨"LIFECYCLE", 0x1008, 0x1008, 0, 0, .uint 1, .ro, 1, .all 0, 0, 255, .n, .one⟩,
  ⟨"PAIR_ID strap", 0x1009, 0x1009, 0, 0, .bool, .ro, 1, .all 0, 0, 1, .v, .one⟩,
  ⟨"UNIT_TAG, ≤ 32 bytes", 0x100A, 0x100A, 0, 0, .str 32, .rwc, 4, .bytes [], 0, 0, .c, .one⟩,
  ⟨"MODE", 0x1100, 0x1100, 0, 0, .uint 1, .ro, 1, .all 0, 0, 255, .v, .one⟩,
  ⟨"MODE_REQ", 0x1101, 0x1101, 0, 0, .uint 1, .wo, 6, .all 0, 0, 255, .v, .one⟩,
  ⟨"RESET_CMD", 0x1102, 0x1102, 0, 0, .uint 2, .wo, 4, .all 0, 0, 65535, .v, .one⟩,
  ⟨"RESET_CAUSE", 0x1103, 0x1103, 0, 0, .uint 1, .ro, 1, .all 0, 0, 255, .v, .one⟩,
  ⟨"RESET_COUNT", 0x1104, 0x1104, 0, 0, .uint 4, .ro, 1, .all 0, 0, 4294967295, .n, .one⟩,
  ⟨"MODE_SEL strap value, [1:0]", 0x1105, 0x1105, 0, 0, .uint 1, .ro, 1, .all 0, 0, 255, .v, .one⟩,
  ⟨"MODE_ENTRY", 0x1106, 0x1106, 0, 0, .uint 4, .ro, 1, .all 0, 0, 4294967295, .v, .one⟩,
  ⟨"OPEN_SESSIONS", 0x1200, 0x1200, 0, 0, .uint 1, .ro, 1, .all 0, 0, 255, .v, .one⟩,
  ⟨"SESSION_n", 0x1201, 0x1201, 1, 32, .uint 4, .ro, 1, .all 0, 0, 4294967295, .v, .one⟩,
  ⟨"IDLE_TIMEOUT, s, 5-3 600", 0x1202, 0x1202, 1, 1, .uint 2, .rwc, 4, .all 30, 5, 3600, .c, .one⟩,
  ⟨"REMOTE_TIMEOUT, ms, 1-1 000", 0x1202, 0x1202, 2, 2, .uint 2, .rwc, 4, .all 10, 1, 1000, .c, .one⟩,
  ⟨"UDP_PORT, 1 024-65 535", 0x1203, 0x1203, 0, 0, .uint 2, .rwc, 4, .all 49320, 1024, 65535, .c, .one⟩,
  ⟨"UART_RATE", 0x1204, 0x1204, 0, 0, .uint 4, .rwc, 4, .all 115200, 0, 4294967295, .c, .one⟩,
  ⟨"PATH_ENABLE", 0x1205, 0x1205, 0, 0, .uint 1, .rwc, 4, .all 31, 0, 31, .c, .one⟩,
  ⟨"OWN_SESSION", 0x1207, 0x1207, 0, 0, .uint 2, .ro, 1, .all 0, 0, 65535, .v, .own⟩,
  ⟨"FRAMING_DROPS", 0x1209, 0x1209, 1, 1, .uint 4, .ro, 1, .all 0, 0, 4294967295, .v, .one⟩,
  ⟨"UNANSWERED_REQUESTS", 0x1209, 0x1209, 2, 2, .uint 4, .ro, 1, .all 0, 0, 4294967295, .v, .one⟩,
  ⟨"STAGED_ENTRIES", 0x1210, 0x1210, 0, 0, .uint 2, .ro, 1, .all 0, 0, 65535, .v, .own⟩,
  ⟨"COMMIT_CMD", 0x1220, 0x1220, 1, 1, .uint 1, .wo, 12, .all 0, 1, 4, .v, .one⟩,
  ⟨"COMMIT_WHEN", 0x1220, 0x1220, 2, 2, .uint 1, .rw, 12, .all 0, 0, 2, .v, .own⟩,
  ⟨"COMMIT_WT", 0x1220, 0x1220, 3, 3, .wt, .rw, 12, .all 0, 0, 5192296858534827628530496329220095, .v, .own⟩,
  ⟨"COMMIT_TRACKER, 0-3", 0x1220, 0x1220, 4, 4, .uint 1, .rw, 12, .all 0, 0, 3, .v, .own⟩,
  ⟨"COMMIT_CYCLE", 0x1220, 0x1220, 5, 5, .uint 3, .rw, 12, .all 0, 0, 16777215, .v, .own⟩,
  ⟨"CONFIG_EPOCH", 0x1221, 0x1221, 0, 0, .uint 4, .ro, 1, .all 0, 0, 4294967295, .c, .one⟩,
  ⟨"LAST_RESULT", 0x1222, 0x1222, 1, 1, .uint 4, .ro, 1, .all 0, 0, 4294967295, .v, .one⟩,
  ⟨"LAST_EPOCH", 0x1222, 0x1222, 2, 2, .uint 4, .ro, 1, .all 0, 0, 4294967295, .v, .one⟩,
  ⟨"LAST_APPLY_ST32", 0x1222, 0x1222, 3, 3, .uint 4, .ro, 1, .all 0, 0, 4294967295, .v, .one⟩,
  ⟨"LAST_OFFENDER", 0x1222, 0x1222, 4, 4, .uint 4, .ro, 1, .all 0, 0, 4294967295, .v, .one⟩,
  ⟨"COMMIT_PENDING", 0x1223, 0x1223, 0, 0, .bool, .ro, 1, .all 0, 0, 1, .v, .one⟩]

/-- Object rows of chapter file `03`. -/
def dict03 : List Desc := [
  ⟨"JOIN_TIMEOUT, ms, 50-10 000", 0x1110, 0x1110, 0, 0, .uint 2, .rwc, 4, .all 150, 50, 10000, .c, .one⟩,
  ⟨"TEST_PERMIT_BANK_n", 0x1112, 0x1112, 1, 16, .uint 4, .rw, 4, .all 0, 0, 16777215, .v, .one⟩,
  ⟨"TEST_PERMIT_EF", 0x1112, 0x1112, 17, 17, .uint 1, .rw, 4, .all 0, 0, 255, .v, .one⟩,
  ⟨"DOZE_ENGINES", 0x1130, 0x1130, 1, 8, .uint 4, .rwc, 4, .all 0, 0, 4294967295, .c, .one⟩,
  ⟨"DOZE_CAN_WAKE", 0x1131, 0x1131, 0, 0, .uint 1, .rwc, 4, .all 0, 0, 255, .c, .one⟩,
  ⟨"SHUTDOWN_BIST", 0x1140, 0x1140, 1, 1, .uint 1, .rwc, 4, .all 1, 0, 2, .c, .one⟩,
  ⟨"BIST_ALLOWANCE, ms, 50-4 000", 0x1140, 0x1140, 2, 2, .uint 2, .rwc, 4, .all 4000, 50, 4000, .c, .one⟩,
  ⟨"HALTED_CAUSE", 0x1141, 0x1141, 0, 0, .uint 1, .ro, 1, .all 0, 0, 255, .n, .one⟩]

/-- Object rows of chapter file `04`. -/
def dict04 : List Desc := [
  ⟨"NODE_NUMBER, 0x00-0x7F", 0x2000, 0x2000, 0, 0, .uint 1, .rwc, 4, .all 0, 0, 127, .c, .one⟩,
  ⟨"PAIR_ADDRESS", 0x2001, 0x2001, 0, 0, .uint 1, .rwc, 4, .all 255, 0, 255, .c, .one⟩,
  ⟨"PORT_MEDIA, port A, B", 0x2002, 0x2002, 1, 2, .uint 1, .rwc, 4, .all 1, 0, 2, .c, .one⟩,
  ⟨"HOP_LIMIT, 1-127", 0x2003, 0x2003, 0, 0, .uint 1, .rwc, 4, .all 127, 1, 127, .c, .one⟩,
  ⟨"DUP_MASK, bit n = class n", 0x2004, 0x2004, 0, 0, .uint 1, .rwc, 4, .all 216, 0, 255, .c, .one⟩,
  ⟨"C7_BURST, wire bytes, 64-4 096", 0x2005, 0x2005, 1, 1, .uint 2, .rwc, 4, .all 224, 64, 4096, .c, .one⟩,
  ⟨"C7_RATE, Mbit/s, 1-1 000", 0x2005, 0x2005, 2, 2, .uint 2, .rwc, 4, .all 20, 1, 1000, .c, .one⟩,
  ⟨"MARGIN_WARN, %, 10-90", 0x2006, 0x2006, 1, 1, .uint 1, .rwc, 4, .all 40, 10, 90, .c, .one⟩,
  ⟨"MARGIN_RETRAIN, %, 5 to MARGIN_WARN - 5", 0x2006, 0x2006, 2, 2, .uint 1, .rwc, 4, .all 25, 5, 85, .c, .one⟩,
  ⟨"ERR_LIMIT, per s, 1-1 000", 0x2006, 0x2006, 3, 3, .uint 2, .rwc, 4, .all 16, 1, 1000, .c, .one⟩,
  ⟨"AUTO_RETRAIN", 0x2007, 0x2007, 0, 0, .bool, .rwc, 4, .all 1, 0, 1, .c, .one⟩,
  ⟨"PORT_STATE: 0 down, 1 training, 2 up, 3 joined, 4 planned ou", 0x2010, 0x2010, 1, 2, .uint 1, .ro, 1, .all 0, 0, 255, .v, .one⟩,
  ⟨"RING_STATE: 0 open, 1 closed, 2 closed with planned outage, ", 0x2011, 0x2011, 0, 0, .uint 1, .ro, 1, .all 0, 0, 255, .v, .one⟩,
  ⟨"RING_SIZE, hubs in the ring map", 0x2012, 0x2012, 0, 0, .uint 1, .ro, 1, .all 0, 0, 255, .v, .one⟩,
  ⟨"NEIGHBOUR", 0x2013, 0x2013, 1, 2, .uint 4, .ro, 1, .all 0, 0, 4294967295, .v, .one⟩,
  ⟨"MARGIN", 0x2014, 0x2014, 1, 2, .uint 2, .ro, 1, .all 0, 0, 65535, .v, .one⟩,
  ⟨"RING_MAP", 0x2016, 0x2016, 0, 0, .dom 16777216, .ro, 1, .bytes [], 0, 0, .v, .one⟩,
  ⟨"PORT_A counters, below", 0x2020, 0x2020, 1, 16, .uint 4, .ro, 1, .all 0, 0, 4294967295, .v, .one⟩,
  ⟨"PORT_B counters, below", 0x2021, 0x2021, 1, 16, .uint 4, .ro, 1, .all 0, 0, 4294967295, .v, .one⟩,
  ⟨"CLEAR_COUNTERS", 0x2022, 0x2022, 0, 0, .bool, .wo, 6, .all 0, 0, 1, .v, .one⟩,
  ⟨"DELIVERY counters, below", 0x2024, 0x2024, 1, 7, .uint 4, .ro, 1, .all 0, 0, 4294967295, .v, .one⟩]

/-- Object rows of chapter file `05`. -/
def dict05 : List Desc := [
  ⟨"CT_MASK, port 0-6", 0x2100, 0x2100, 1, 7, .uint 1, .rwc, 4, .each [255, 255, 0, 0, 0, 255, 255], 0, 255, .c, .one⟩,
  ⟨"Q_RESERVE, class 0-7, cells, 0-1 024", 0x2101, 0x2101, 1, 8, .uint 2, .rwc, 4, .each [16, 16, 16, 32, 32, 16, 128, 64], 0, 1024, .c, .one⟩,
  ⟨"ALPHA, class 0-7, exponent -4 to +2", 0x2102, 0x2102, 1, 8, .int 1, .rwc, 4, .each [(-1), (-1), (-1), (-1), (-1), (-2), 1, 2], -4, 2, .c, .one⟩,
  ⟨"Q_LIMIT, class 0-7, cells", 0x2103, 0x2103, 1, 8, .uint 4, .rwc, 4, .each [65536, 65536, 65536, 65536, 65536, 64, 0, 0], 0, 4294967295, .c, .one⟩,
  ⟨"RED_WEIGHT, 0-15", 0x2105, 0x2105, 0, 0, .uint 1, .rwc, 4, .all 9, 0, 15, .c, .one⟩,
  ⟨"DRR_QUANTUM, class 0-4, bytes, 256-16 384", 0x2106, 0x2106, 1, 5, .uint 2, .rwc, 4, .each [2048, 2048, 4096, 8192, 16384], 256, 16384, .c, .one⟩,
  ⟨"RED profile of class 0 … 4", 0x2110, 0x2114, 1, 2, .uint 4, .rwc, 4, .each [4096, 16384], 0, 4294967295, .c, .one⟩,
  ⟨"RED profile of class 0 … 4", 0x2110, 0x2114, 4, 5, .uint 4, .rwc, 4, .each [2048, 8192], 0, 4294967295, .c, .one⟩,
  ⟨"RED profile of class 0 … 4", 0x2110, 0x2114, 7, 8, .uint 4, .rwc, 4, .each [512, 4096], 0, 4294967295, .c, .one⟩,
  ⟨"RED profile of class 0 … 4", 0x2110, 0x2114, 3, 3, .uint 1, .rwc, 4, .all 26, 0, 255, .c, .one⟩,
  ⟨"RED profile of class 0 … 4", 0x2110, 0x2114, 6, 6, .uint 1, .rwc, 4, .all 64, 0, 255, .c, .one⟩,
  ⟨"RED profile of class 0 … 4", 0x2110, 0x2114, 9, 9, .uint 1, .rwc, 4, .all 128, 0, 255, .c, .one⟩,
  ⟨"policer p", 0x2140, 0x217F, 1, 4, .uint 4, .rwc, 4, .all 0, 0, 4294967295, .c, .one⟩,
  ⟨"policer p", 0x2140, 0x217F, 5, 5, .uint 1, .rwc, 4, .all 0, 0, 255, .c, .one⟩,
  ⟨"CLEAR_COUNTERS", 0x2180, 0x2180, 0, 0, .bool, .wo, 6, .all 0, 0, 1, .v, .one⟩,
  ⟨"counters: RED drops, tail drops, evictions, class-6 and clas", 0x2180, 0x2180, 1, 7, .uint 4, .ro, 1, .all 0, 0, 4294967295, .v, .one⟩,
  ⟨"QUEUE_DEPTH, queue 0-55, cells on chip and in the kennel", 0x2181, 0x2181, 1, 56, .uint 4, .ro, 1, .all 0, 0, 4294967295, .v, .one⟩,
  ⟨"QUEUE_SPILLS, queue 0-55", 0x2182, 0x2182, 1, 56, .uint 4, .ro, 1, .all 0, 0, 4294967295, .v, .one⟩,
  ⟨"FREE_CELLS on chip", 0x2183, 0x2183, 0, 0, .uint 2, .ro, 1, .all 0, 0, 65535, .v, .one⟩,
  ⟨"KENNEL_SIZE, MiB", 0x2200, 0x2200, 0, 0, .uint 2, .rwc, 4, .all 256, 0, 65535, .c, .one⟩,
  ⟨"DDR_RATE, MT/s: 1 600, 1 866, 2 133, 2 400 or 2 666", 0x2201, 0x2201, 0, 0, .uint 2, .rwc, 4, .all 2666, 0, 65535, .c, .one⟩,
  ⟨"SPILL_USED, cells", 0x2202, 0x2202, 1, 1, .uint 4, .ro, 1, .all 0, 0, 4294967295, .v, .one⟩,
  ⟨"SPILL_HIGH, high-water mark since reset", 0x2202, 0x2202, 2, 2, .uint 4, .ro, 1, .all 0, 0, 4294967295, .v, .one⟩,
  ⟨"KENNEL_LOW, cells", 0x2202, 0x2202, 3, 3, .uint 4, .rwc, 4, .all 16384, 0, 4294967295, .c, .one⟩,
  ⟨"AUDIT: cells reclaimed, walks abandoned, walks completed", 0x2210, 0x2210, 1, 3, .uint 4, .ro, 1, .all 0, 0, 4294967295, .v, .one⟩,
  ⟨"ARBITER: ancient marks, preemptions, refresh doublings", 0x2220, 0x2220, 1, 3, .uint 4, .ro, 1, .all 0, 0, 4294967295, .v, .one⟩,
  ⟨"DDR_ECC: corrected, uncorrectable", 0x2230, 0x2230, 1, 2, .uint 4, .ro, 1, .all 0, 0, 4294967295, .n, .one⟩]

/-- Object rows of chapter file `06`. -/
def dict06 : List Desc := [
  ⟨"SPEC_GLOBAL", 0x2600, 0x2600, 0, 0, .bool, .rwc, 4, .all 1, 0, 1, .c, .one⟩,
  ⟨"SPEC_EN", 0x2601, 0x2601, 1, 16, .uint 4, .rwc, 4, .all 0, 0, 4294967295, .c, .one⟩,
  ⟨"GROUP_ARM_TIMEOUT, µs, 1-100", 0x2602, 0x2602, 0, 0, .uint 1, .rwc, 4, .all 10, 1, 100, .c, .one⟩,
  ⟨"COMMIT_GROUP g at 0x2610 + g", 0x2610, 0x268F, 1, 8, .uint 2, .rwc, 4, .all 65535, 0, 65535, .c, .one⟩,
  ⟨"CLEAR_COUNTERS", 0x26A0, 0x26A0, 0, 0, .bool, .wo, 6, .all 0, 0, 1, .v, .one⟩,
  ⟨"counters: frames confirmed, frames revoked, items revoked, r", 0x26A0, 0x26A0, 1, 8, .uint 4, .ro, 1, .all 0, 0, 4294967295, .v, .one⟩,
  ⟨"LAST_GFAIL", 0x26B0, 0x26B0, 1, 1, .uint 4, .ro, 1, .all 0, 0, 4294967295, .v, .one⟩,
  ⟨"LAST_GFAIL_ST32", 0x26B0, 0x26B0, 2, 2, .uint 4, .ro, 1, .all 0, 0, 4294967295, .v, .one⟩]

/-- Object rows of chapter file `07`. -/
def dict07 : List Desc := [
  ⟨"CH_SEL, 0-511", 0x5000, 0x5000, 0, 0, .uint 2, .rw, 7, .all 0, 0, 511, .v, .own⟩,
  ⟨"PRODUCER, endpoint code", 0x5001, 0x5001, 0, 0, .uint 2, .rwc, 4, .all 0, 0, 65535, .c, .ch⟩,
  ⟨"CONSUMER, endpoint code", 0x5002, 0x5002, 0, 0, .uint 2, .rwc, 4, .all 0, 0, 65535, .c, .ch⟩,
  ⟨"SRC_FILTER", 0x5003, 0x5003, 0, 0, .uint 1, .rwc, 4, .all 255, 0, 255, .c, .ch⟩,
  ⟨"TX_NODE", 0x5004, 0x5004, 1, 1, .uint 1, .rwc, 4, .all 0, 0, 255, .c, .ch⟩,
  ⟨"TX_CH, 0x000-0x1FF", 0x5004, 0x5004, 2, 2, .uint 2, .rwc, 4, .all 0, 0, 511, .c, .ch⟩,
  ⟨"TX_CLASS, 0-7", 0x5004, 0x5004, 3, 3, .uint 1, .rwc, 4, .all 7, 0, 7, .c, .ch⟩,
  ⟨"SIZE, units of 64 items, 1-1 024", 0x5005, 0x5005, 0, 0, .uint 2, .rwc, 4, .all 16, 1, 1024, .c, .ch⟩,
  ⟨"PKT_MODE", 0x5006, 0x5006, 0, 0, .bool, .rwc, 4, .all 0, 0, 1, .c, .ch⟩,
  ⟨"CT_THRESH, items, 1-4 096", 0x5007, 0x5007, 0, 0, .uint 2, .rwc, 4, .all 8, 1, 4096, .c, .ch⟩,
  ⟨"IDLE_DATA", 0x5008, 0x5008, 0, 0, .uint 3, .rwc, 4, .all 8388608, 0, 16777215, .c, .ch⟩,
  ⟨"LOCK_GROUP", 0x5009, 0x5009, 0, 0, .uint 1, .rwc, 4, .all 255, 0, 255, .c, .ch⟩,
  ⟨"TAP", 0x500A, 0x500A, 0, 0, .uint 1, .rwc, 4, .all 255, 0, 255, .c, .ch⟩,
  ⟨"LEVEL, items", 0x5010, 0x5010, 1, 1, .uint 4, .ro, 1, .all 0, 0, 4294967295, .v, .ch⟩,
  ⟨"HIGH_WATER since reset", 0x5010, 0x5010, 2, 2, .uint 4, .ro, 1, .all 0, 0, 4294967295, .v, .ch⟩,
  ⟨"ITEMS_IN, wrapping", 0x5010, 0x5010, 3, 3, .uint 4, .ro, 1, .all 0, 0, 4294967295, .v, .ch⟩,
  ⟨"ITEMS_OUT, wrapping", 0x5010, 0x5010, 4, 4, .uint 4, .ro, 1, .all 0, 0, 4294967295, .v, .ch⟩,
  ⟨"QUARANTINED", 0x5011, 0x5011, 0, 0, .bool, .ro, 1, .all 0, 0, 1, .v, .ch⟩,
  ⟨"counters: KIND 15 drops, underruns, packet cuts, telemetry r", 0x5012, 0x5012, 1, 5, .uint 4, .ro, 1, .all 0, 0, 4294967295, .v, .ch⟩,
  ⟨"CH_CMD", 0x5013, 0x5013, 0, 0, .uint 1, .wo, 6, .all 0, 1, 3, .v, .ch⟩,
  ⟨"LOCK_CMD, group 0-63 to start", 0x5040, 0x5040, 0, 0, .uint 1, .wo, 6, .all 0, 0, 63, .v, .one⟩,
  ⟨"LOCK_STATE, group 0-63", 0x5041, 0x5041, 1, 64, .uint 4, .ro, 1, .all 0, 0, 4294967295, .v, .one⟩,
  ⟨"HOLD_LIMIT, µs, 5-1 000", 0x5080, 0x5080, 0, 0, .uint 2, .rwc, 4, .all 50, 5, 1000, .c, .one⟩,
  ⟨"AVAILABLE_UNITS", 0x5081, 0x5081, 0, 0, .uint 2, .ro, 1, .all 8192, 0, 65535, .v, .one⟩,
  ⟨"QUARANTINE_MAP", 0x5090, 0x5090, 1, 16, .uint 4, .ro, 1, .all 0, 0, 4294967295, .v, .one⟩]

/-- Object rows of chapter file `08`. -/
def dict08 : List Desc := [
  ⟨"ENG_SEL, 0-255", 0x6000, 0x6000, 0, 0, .uint 1, .rw, 7, .all 0, 0, 255, .v, .own⟩,
  ⟨"ENABLE", 0x6001, 0x6001, 0, 0, .bool, .rwc, 4, .all 0, 0, 1, .c, .eng⟩,
  ⟨"ENTRY, 0-1 023", 0x6002, 0x6002, 0, 0, .uint 2, .rwc, 4, .all 0, 0, 1023, .c, .eng⟩,
  ⟨"DIV_INT", 0x6003, 0x6003, 1, 1, .uint 2, .rwc, 4, .all 1, 0, 65535, .c, .eng⟩,
  ⟨"DIV_FRAC", 0x6003, 0x6003, 2, 2, .uint 1, .rwc, 4, .all 0, 0, 255, .c, .eng⟩,
  ⟨"WRAP_BOTTOM, 0-1 023", 0x6004, 0x6004, 1, 1, .uint 2, .rwc, 4, .all 0, 0, 1023, .c, .eng⟩,
  ⟨"WRAP_TOP, 0-1 023", 0x6004, 0x6004, 2, 2, .uint 2, .rwc, 4, .all 1023, 0, 1023, .c, .eng⟩,
  ⟨"IN_BASE, 0-47", 0x6005, 0x6005, 1, 1, .uint 1, .rwc, 4, .all 0, 0, 47, .c, .eng⟩,
  ⟨"IN_COUNT, 1-24", 0x6005, 0x6005, 2, 2, .uint 1, .rwc, 4, .all 1, 1, 24, .c, .eng⟩,
  ⟨"OUT_BASE, 0-47", 0x6005, 0x6005, 3, 3, .uint 1, .rwc, 4, .all 0, 0, 47, .c, .eng⟩,
  ⟨"OUT_COUNT, 1-24", 0x6005, 0x6005, 4, 4, .uint 1, .rwc, 4, .all 1, 1, 24, .c, .eng⟩,
  ⟨"SET_BASE, 0-47", 0x6005, 0x6005, 5, 5, .uint 1, .rwc, 4, .all 0, 0, 47, .c, .eng⟩,
  ⟨"SET_COUNT, 1-8", 0x6005, 0x6005, 6, 6, .uint 1, .rwc, 4, .all 1, 1, 8, .c, .eng⟩,
  ⟨"SIDE_BASE, 0-47", 0x6005, 0x6005, 7, 7, .uint 1, .rwc, 4, .all 0, 0, 47, .c, .eng⟩,
  ⟨"SIDE_COUNT, 0-4", 0x6005, 0x6005, 8, 8, .uint 1, .rwc, 4, .all 0, 0, 4, .c, .eng⟩,
  ⟨"SIDE_DIRS", 0x6005, 0x6005, 9, 9, .bool, .rwc, 4, .all 0, 0, 1, .c, .eng⟩,
  ⟨"JMP_PIN, 0-47", 0x6005, 0x6005, 10, 10, .uint 1, .rwc, 4, .all 0, 0, 47, .c, .eng⟩,
  ⟨"IN_PACK, bits per automatic push of IN with AUTO, 1-24", 0x6006, 0x6006, 1, 1, .uint 1, .rwc, 4, .all 24, 1, 24, .c, .eng⟩,
  ⟨"OUT_PACK, bits per automatic pull of OUT with AUTO, 1-24", 0x6006, 0x6006, 2, 2, .uint 1, .rwc, 4, .all 24, 1, 24, .c, .eng⟩,
  ⟨"AUTO_KIND, KIND of automatic pushes, 0-14", 0x6006, 0x6006, 3, 3, .uint 1, .rwc, 4, .all 0, 0, 14, .c, .eng⟩,
  ⟨"IN_SIGN", 0x6006, 0x6006, 4, 4, .bool, .rwc, 4, .all 0, 0, 1, .c, .eng⟩,
  ⟨"DRIVE_MASK", 0x6007, 0x6007, 0, 0, .uint 6, .rwc, 4, .all 0, 0, 281474976710655, .c, .eng⟩,
  ⟨"DIR_INIT", 0x6008, 0x6008, 1, 1, .uint 6, .rwc, 4, .all 0, 0, 281474976710655, .c, .eng⟩,
  ⟨"OUT_INIT", 0x6008, 0x6008, 2, 2, .uint 6, .rwc, 4, .all 0, 0, 281474976710655, .c, .eng⟩,
  ⟨"PARK_STATE, pin 0-47", 0x6009, 0x6009, 1, 48, .uint 1, .rwc, 4, .all 3, 0, 3, .c, .eng⟩,
  ⟨"READBACK_MASK", 0x600A, 0x600A, 1, 1, .uint 6, .rwc, 4, .all 281474976710655, 0, 281474976710655, .c, .eng⟩,
  ⟨"READBACK_TICKS, 1-255", 0x600A, 0x600A, 2, 2, .uint 1, .rwc, 4, .all 3, 1, 255, .c, .eng⟩,
  ⟨"X_INIT", 0x600B, 0x600B, 1, 1, .uint 3, .rwc, 4, .all 0, 0, 16777215, .c, .eng⟩,
  ⟨"Y_INIT", 0x600B, 0x600B, 2, 2, .uint 3, .rwc, 4, .all 0, 0, 16777215, .c, .eng⟩,
  ⟨"CMP_INIT", 0x600B, 0x600B, 3, 3, .uint 3, .rwc, 4, .all 0, 0, 16777215, .c, .eng⟩,
  ⟨"CMP_PIN", 0x600C, 0x600C, 1, 1, .uint 1, .rwc, 4, .all 255, 0, 255, .c, .eng⟩,
  ⟨"CMP_ACTION", 0x600C, 0x600C, 2, 2, .uint 1, .rwc, 4, .all 0, 0, 3, .c, .eng⟩,
  ⟨"STATE", 0x6020, 0x6020, 1, 1, .uint 1, .ro, 1, .all 0, 0, 255, .v, .eng⟩,
  ⟨"PC", 0x6020, 0x6020, 2, 2, .uint 2, .ro, 1, .all 0, 0, 65535, .v, .eng⟩,
  ⟨"PARK_CAUSE: 0 none, 1 undefined opcode, 2 reserved operand, ", 0x6020, 0x6020, 3, 3, .uint 1, .ro, 1, .all 0, 0, 255, .v, .eng⟩,
  ⟨"PARK_PC", 0x6020, 0x6020, 4, 4, .uint 2, .ro, 1, .all 0, 0, 65535, .v, .eng⟩,
  ⟨"PARK_ST32", 0x6020, 0x6020, 5, 5, .uint 4, .ro, 1, .all 0, 0, 4294967295, .v, .eng⟩,
  ⟨"counters: event latch overruns, readback faults, arms withou", 0x6021, 0x6021, 1, 6, .uint 4, .ro, 1, .all 0, 0, 4294967295, .v, .eng⟩,
  ⟨"ENG_CMD", 0x6030, 0x6030, 0, 0, .uint 1, .wo, 6, .all 0, 1, 3, .v, .eng⟩,
  ⟨"PROGRAM of cluster c at 0x6100 + c", 0x6100, 0x610F, 0, 0, .dom 3072, .rwc, 4, .bytes [], 0, 0, .c, .one⟩]

/-- Object rows of chapter file `08`, continued. -/
def dict082 : List Desc := [
  ⟨"FLAG_ROUTE of cluster sub - 1", 0x6110, 0x6110, 1, 16, .uint 4, .rwc, 4, .all 0, 0, 4294967295, .c, .one⟩,
  ⟨"CLUSTER_STATE of cluster sub - 1: 0 in service, 1 retired", 0x6111, 0x6111, 1, 16, .uint 1, .ro, 1, .all 0, 0, 255, .n, .one⟩]

/-- Object rows of chapter file `09`. -/
def dict09 : List Desc := [
  ⟨"BANK_VOLTAGE, bank sub - 1", 0x6800, 0x6800, 1, 16, .uint 1, .rwc, 4, .all 1, 0, 1, .c, .one⟩,
  ⟨"BANK_SUPPLY_SEEN", 0x6801, 0x6801, 1, 16, .uint 1, .ro, 1, .all 0, 0, 255, .v, .one⟩,
  ⟨"FILTER_DIV", 0x6802, 0x6802, 1, 16, .uint 2, .rwc, 4, .all 1, 0, 65535, .c, .one⟩,
  ⟨"PAIR_GATED", 0x6803, 0x6803, 0, 0, .uint 2, .rwc, 4, .all 0, 0, 65535, .c, .one⟩,
  ⟨"PIN_CFG of bank b at 0x6810 + b", 0x6810, 0x681F, 1, 24, .uint 2, .rwc, 4, .all 9, 0, 65535, .c, .one⟩,
  ⟨"PAD_LEVEL", 0x6820, 0x6820, 1, 16, .uint 4, .ro, 1, .all 0, 0, 4294967295, .v, .one⟩,
  ⟨"SUPPLY_EXCURSIONS, entries to the unpowered state", 0x6821, 0x6821, 1, 16, .uint 4, .ro, 1, .all 0, 0, 4294967295, .n, .one⟩]

/-- Object rows of chapter file `10`. -/
def dict10 : List Desc := [
  ⟨"TIME_STATUS", 0x3000, 0x3000, 0, 0, .uint 1, .ro, 1, .all 0, 0, 255, .v, .one⟩,
  ⟨"WT_NOW", 0x3001, 0x3001, 0, 0, .wt, .ro, 1, .all 0, 0, 5192296858534827628530496329220095, .v, .one⟩,
  ⟨"ST32_NOW", 0x3002, 0x3002, 0, 0, .uint 4, .ro, 1, .all 0, 0, 4294967295, .v, .one⟩,
  ⟨"OFFSET, last θ, 2^-8 ns, saturating", 0x3003, 0x3003, 0, 0, .int 4, .ro, 1, .all 0, -2147483648, 2147483647, .v, .one⟩,
  ⟨"FREQ_ADJ, y, 2^-8 ppb", 0x3004, 0x3004, 0, 0, .int 4, .ro, 1, .all 0, -2147483648, 2147483647, .v, .one⟩,
  ⟨"INACCURACY, ns", 0x3005, 0x3005, 0, 0, .uint 4, .ro, 1, .all 4294967295, 0, 4294967295, .v, .one⟩,
  ⟨"CLOCK_CLASS advertised", 0x3006, 0x3006, 0, 0, .uint 1, .ro, 1, .all 248, 0, 255, .v, .one⟩,
  ⟨"ROOT", 0x3007, 0x3007, 0, 0, .uint 2, .ro, 1, .all 65535, 0, 65535, .v, .one⟩,
  ⟨"SYNC_PORT", 0x3008, 0x3008, 0, 0, .uint 1, .ro, 1, .all 255, 0, 255, .v, .one⟩,
  ⟨"TOD_SET", 0x3010, 0x3010, 0, 0, .wt, .wo, 4, .all 0, 0, 5192296858534827628530496329220095, .v, .one⟩,
  ⟨"PPS_TOD, seconds", 0x3011, 0x3011, 0, 0, .uint 6, .wo, 6, .all 0, 0, 281474976710655, .v, .one⟩,
  ⟨"UTC_OFFSET, s", 0x3012, 0x3012, 0, 0, .int 2, .rwc, 4, .all 37, -32768, 32767, .c, .one⟩,
  ⟨"LEAP_FLAGS", 0x3013, 0x3013, 0, 0, .uint 1, .ro, 1, .all 0, 0, 255, .v, .one⟩,
  ⟨"SOURCE_SEL", 0x3020, 0x3020, 1, 1, .uint 1, .rwc, 4, .all 0, 0, 255, .c, .one⟩,
  ⟨"PRIORITY1", 0x3020, 0x3020, 2, 2, .uint 1, .rwc, 4, .all 128, 0, 255, .c, .one⟩,
  ⟨"PRIORITY2", 0x3020, 0x3020, 3, 3, .uint 1, .rwc, 4, .all 128, 0, 255, .c, .one⟩,
  ⟨"KP, 1-255", 0x3021, 0x3021, 1, 1, .uint 1, .rwc, 4, .all 128, 1, 255, .c, .one⟩,
  ⟨"KI", 0x3021, 0x3021, 2, 2, .uint 2, .rwc, 4, .all 4096, 0, 65535, .c, .one⟩,
  ⟨"STEP_THRESHOLD, ns, 100-1 000 000 000", 0x3021, 0x3021, 3, 3, .uint 4, .rwc, 4, .all 1000, 100, 1000000000, .c, .one⟩,
  ⟨"STEP_CONFIRM, 1-16", 0x3021, 0x3021, 4, 4, .uint 1, .rwc, 4, .all 3, 1, 16, .c, .one⟩,
  ⟨"SLEW_ONLY", 0x3021, 0x3021, 5, 5, .bool, .rwc, 4, .all 0, 0, 1, .c, .one⟩,
  ⟨"LOCK_THRESHOLD, ns, 10-100 000", 0x3021, 0x3021, 6, 6, .uint 4, .rwc, 4, .all 100, 10, 100000, .c, .one⟩,
  ⟨"HOLDOVER_DRIFT, ns/s, 0-100 000", 0x3022, 0x3022, 1, 1, .uint 4, .rwc, 4, .all 50, 0, 100000, .c, .one⟩,
  ⟨"HOLDOVER_SPEC, ns", 0x3022, 0x3022, 2, 2, .uint 4, .rwc, 4, .all 1000, 0, 4294967295, .c, .one⟩,
  ⟨"HOLDOVER_LIMIT, ns", 0x3022, 0x3022, 3, 3, .uint 4, .rwc, 4, .all 1000000, 0, 4294967295, .c, .one⟩,
  ⟨"RING_SYNC_INTERVAL, log2 s, -7 to 0", 0x3030, 0x3030, 0, 0, .int 1, .rwc, 4, .all (-4), -7, 0, .c, .one⟩,
  ⟨"LINK_DELAY_INTERVAL, ms, 10-1 000", 0x3031, 0x3031, 0, 0, .uint 2, .rwc, 4, .all 100, 10, 1000, .c, .one⟩,
  ⟨"LINK_DELAY, port A, B, 2^-8 ns", 0x3032, 0x3032, 1, 2, .int 4, .ro, 1, .all 0, -2147483648, 2147483647, .v, .one⟩,
  ⟨"LINK_ASYM, port A, B, 2^-8 ns", 0x3033, 0x3033, 1, 2, .int 4, .rwc, 4, .all 0, -2147483648, 2147483647, .c, .one⟩,
  ⟨"STATION_PTP_ROLE", 0x3040, 0x3040, 1, 1, .uint 1, .rwc, 4, .all 0, 0, 2, .c, .one⟩,
  ⟨"PTP_PROFILE", 0x3040, 0x3040, 2, 2, .uint 1, .rwc, 4, .all 0, 0, 1, .c, .one⟩,
  ⟨"PTP_DOMAIN", 0x3040, 0x3040, 3, 3, .uint 1, .rwc, 4, .all 0, 0, 255, .c, .one⟩,
  ⟨"PTP_VLAN", 0x3040, 0x3040, 4, 4, .uint 2, .rwc, 4, .all 32768, 0, 65535, .c, .one⟩,
  ⟨"PTP_PORTS", 0x3040, 0x3040, 5, 5, .uint 1, .rwc, 4, .all 3, 0, 3, .c, .one⟩,
  ⟨"PTP_PORT_STATE, IEEE 1588-2019 portState", 0x3041, 0x3041, 1, 2, .uint 1, .ro, 1, .all 1, 0, 255, .v, .one⟩,
  ⟨"GM_IDENTITY", 0x3042, 0x3042, 0, 0, .uint 8, .ro, 1, .all 0, 0, 18446744073709551615, .v, .one⟩,
  ⟨"PPS_IN_POLARITY", 0x3050, 0x3050, 1, 1, .bool, .rwc, 4, .all 0, 0, 1, .c, .one⟩,
  ⟨"PPS_IN_DELAY, ns", 0x3050, 0x3050, 2, 2, .int 4, .rwc, 4, .all 0, -2147483648, 2147483647, .c, .one⟩,
  ⟨"PPS_OUT_OFFSET, ns, -500 000 000 to 499 999 999", 0x3051, 0x3051, 1, 1, .int 4, .rwc, 4, .all 0, -500000000, 499999999, .c, .one⟩,
  ⟨"PPS_OUT_WIDTH, µs, 1-500 000", 0x3051, 0x3051, 2, 2, .uint 4, .rwc, 4, .all 100000, 1, 500000, .c, .one⟩]

/-- Object rows of chapter file `10`, continued. -/
def dict102 : List Desc := [
  ⟨"PPS_OUT_QUALIFIED", 0x3051, 0x3051, 3, 3, .bool, .rwc, 4, .all 1, 0, 1, .c, .one⟩,
  ⟨"IRIG_CHANNEL", 0x3052, 0x3052, 1, 1, .uint 2, .rwc, 4, .all 65535, 0, 65535, .c, .one⟩,
  ⟨"IRIG_DELAY, ns", 0x3052, 0x3052, 2, 2, .int 4, .rwc, 4, .all 0, -2147483648, 2147483647, .c, .one⟩,
  ⟨"IRIG_MAX_TQ, 0x0-0xB", 0x3052, 0x3052, 3, 3, .uint 1, .rwc, 4, .all 4, 0, 11, .c, .one⟩,
  ⟨"IRIG_STATUS", 0x3052, 0x3052, 4, 4, .uint 1, .ro, 1, .all 0, 0, 255, .v, .one⟩,
  ⟨"STROBE_RATE, line 0-7, per s", 0x3060, 0x3060, 1, 8, .uint 4, .rwc, 4, .all 0, 0, 250000, .c, .one⟩,
  ⟨"STROBE_OFFSET, ns, -500 000 000 to 499 999 999", 0x3061, 0x3061, 1, 8, .int 4, .rwc, 4, .all 0, -500000000, 499999999, .c, .one⟩,
  ⟨"counters: SYNC accepted, SYNC from other roots, link-delay i", 0x3070, 0x3070, 1, 10, .uint 4, .ro, 1, .all 0, 0, 4294967295, .v, .one⟩,
  ⟨"CLEAR_COUNTERS", 0x3071, 0x3071, 0, 0, .bool, .wo, 6, .all 0, 0, 1, .v, .one⟩,
  ⟨"LAST_STEP, ns, signed", 0x3080, 0x3080, 1, 1, .int 8, .ro, 1, .all 0, -9223372036854775808, 9223372036854775807, .v, .one⟩,
  ⟨"LAST_STEP_ST32, step instant on the new scale", 0x3080, 0x3080, 2, 2, .uint 4, .ro, 1, .all 0, 0, 4294967295, .v, .one⟩]

/-- Object rows of chapter file `11`. -/
def dict11 : List Desc := [
  ⟨"INPUT_MODE, tracker k at 0x3400 + k", 0x3400, 0x3403, 1, 1, .uint 1, .rwc, 4, .all 0, 0, 255, .c, .one⟩,
  ⟨"SAMPLE_POS, 0-31", 0x3400, 0x3403, 2, 2, .uint 1, .rwc, 4, .all 0, 0, 31, .c, .one⟩,
  ⟨"INPUT_DELAY, ns", 0x3400, 0x3403, 3, 3, .int 4, .rwc, 4, .all 0, -2147483648, 2147483647, .c, .one⟩,
  ⟨"ANGLE_OFFSET", 0x3400, 0x3403, 4, 4, .uint 3, .rwc, 4, .all 0, 0, 16777215, .c, .one⟩,
  ⟨"MIN_AMPLITUDE, counts", 0x3400, 0x3403, 5, 5, .uint 3, .rwc, 4, .all 16384, 0, 16777215, .c, .one⟩,
  ⟨"CONV_TRACKER, 0-3", 0x3410, 0x3410, 1, 1, .uint 1, .rw, 7, .all 0, 0, 3, .v, .own⟩,
  ⟨"CONV_CYCLE", 0x3410, 0x3410, 2, 2, .uint 3, .rw, 7, .all 0, 0, 16777215, .v, .own⟩,
  ⟨"CONV_ANGLE", 0x3410, 0x3410, 3, 3, .uint 3, .rw, 7, .all 0, 0, 16777215, .v, .own⟩,
  ⟨"CONV_WT", 0x3410, 0x3410, 4, 4, .wt, .ro, 1, .all 0, 0, 5192296858534827628530496329220095, .v, .own⟩,
  ⟨"CONV_ST32", 0x3410, 0x3410, 5, 5, .uint 4, .ro, 1, .all 0, 0, 4294967295, .v, .own⟩,
  ⟨"TRK_STATE", 0x3420, 0x3423, 1, 1, .uint 1, .ro, 1, .all 0, 0, 255, .v, .one⟩,
  ⟨"PA24_NOW", 0x3420, 0x3423, 2, 2, .uint 3, .ro, 1, .all 0, 0, 16777215, .v, .one⟩,
  ⟨"CY24_NOW, read with sub 02 at one edge", 0x3420, 0x3423, 3, 3, .uint 3, .ro, 1, .all 0, 0, 16777215, .v, .one⟩,
  ⟨"FREQ, 2^-17 Hz", 0x3420, 0x3423, 4, 4, .uint 3, .ro, 1, .all 0, 0, 16777215, .v, .one⟩,
  ⟨"ROCOF, 2^-12 Hz/s", 0x3420, 0x3423, 5, 5, .int 3, .ro, 1, .all 0, -8388608, 8388607, .v, .one⟩,
  ⟨"AMPLITUDE, counts", 0x3420, 0x3423, 6, 6, .uint 3, .ro, 1, .all 0, 0, 16777215, .v, .one⟩,
  ⟨"BREAKS, saturating", 0x3420, 0x3423, 7, 7, .uint 4, .ro, 1, .all 0, 0, 4294967295, .v, .one⟩,
  ⟨"LOSS_CAUSE", 0x3420, 0x3423, 8, 8, .uint 1, .ro, 1, .all 0, 0, 255, .v, .one⟩,
  ⟨"INPUTS_IGNORED", 0x3420, 0x3423, 9, 9, .uint 4, .ro, 1, .all 0, 0, 4294967295, .v, .one⟩,
  ⟨"CAL_HORIZON, µs, 20-10 000", 0x3500, 0x3500, 1, 1, .uint 2, .rwc, 4, .all 200, 20, 10000, .c, .one⟩,
  ⟨"CLEAR_COUNTERS", 0x3501, 0x3501, 0, 0, .bool, .wo, 6, .all 0, 0, 1, .v, .one⟩,
  ⟨"counters: entries armed, fired, failed, cancelled, arms refu", 0x3501, 0x3501, 1, 5, .uint 4, .ro, 1, .all 0, 0, 4294967295, .v, .one⟩,
  ⟨"SVC_ENTRIES, 0-512", 0x3502, 0x3502, 0, 0, .uint 2, .rwc, 4, .all 64, 0, 512, .c, .one⟩,
  ⟨"CAL_SEL, 0-1 023", 0x3600, 0x3600, 0, 0, .uint 2, .rw, 7, .all 0, 0, 1023, .v, .own⟩,
  ⟨"TRACKER, CYCLE, ANGLE, LEAD, ACTION, OPERAND, REPEAT, TAG", 0x3601, 0x3601, 1, 1, .uint 1, .rw, 6, .all 0, 0, 3, .v, .cal⟩,
  ⟨"TRACKER, CYCLE, ANGLE, LEAD, ACTION, OPERAND, REPEAT, TAG", 0x3601, 0x3601, 2, 2, .uint 3, .rw, 6, .all 0, 0, 16777215, .v, .cal⟩,
  ⟨"TRACKER, CYCLE, ANGLE, LEAD, ACTION, OPERAND, REPEAT, TAG", 0x3601, 0x3601, 3, 3, .uint 3, .rw, 6, .all 0, 0, 16777215, .v, .cal⟩,
  ⟨"TRACKER, CYCLE, ANGLE, LEAD, ACTION, OPERAND, REPEAT, TAG", 0x3601, 0x3601, 4, 4, .int 4, .rw, 6, .all 0, -2147483648, 2147483647, .v, .cal⟩,
  ⟨"TRACKER, CYCLE, ANGLE, LEAD, ACTION, OPERAND, REPEAT, TAG", 0x3601, 0x3601, 5, 5, .uint 1, .rw, 6, .all 0, 0, 255, .v, .cal⟩,
  ⟨"TRACKER, CYCLE, ANGLE, LEAD, ACTION, OPERAND, REPEAT, TAG", 0x3601, 0x3601, 6, 6, .uint 2, .rw, 6, .all 0, 0, 65535, .v, .cal⟩,
  ⟨"TRACKER, CYCLE, ANGLE, LEAD, ACTION, OPERAND, REPEAT, TAG", 0x3601, 0x3601, 7, 7, .uint 2, .rw, 6, .all 0, 0, 65535, .v, .cal⟩,
  ⟨"TRACKER, CYCLE, ANGLE, LEAD, ACTION, OPERAND, REPEAT, TAG", 0x3601, 0x3601, 8, 8, .uint 2, .rw, 6, .all 0, 0, 65535, .v, .cal⟩,
  ⟨"CAL_CMD", 0x3602, 0x3602, 0, 0, .uint 1, .wo, 6, .all 0, 1, 2, .v, .cal⟩,
  ⟨"CAL_STATE", 0x3603, 0x3603, 1, 1, .uint 1, .ro, 1, .all 0, 0, 255, .v, .cal⟩,
  ⟨"CAL_REASON", 0x3603, 0x3603, 2, 2, .uint 1, .ro, 1, .all 0, 0, 255, .v, .cal⟩,
  ⟨"CAL_FIRE, firing instant as last computed or frozen", 0x3603, 0x3603, 3, 3, .uint 4, .ro, 1, .all 0, 0, 4294967295, .v, .cal⟩,
  ⟨"CAL_ARMED_COUNT", 0x3604, 0x3604, 0, 0, .uint 2, .ro, 1, .all 0, 0, 65535, .v, .one⟩]

/-- Object rows of chapter file `12`. -/
def dict12 : List Desc := [
  ⟨"SERVICES_ENABLE", 0x3800, 0x3800, 1, 1, .uint 1, .rwc, 4, .all 16, 0, 255, .c, .one⟩,
  ⟨"CLEAR_COUNTERS", 0x3800, 0x3800, 2, 2, .bool, .wo, 6, .all 0, 0, 1, .v, .one⟩,
  ⟨"SVP_SEL, 0-31", 0x3810, 0x3810, 0, 0, .uint 1, .rw, 7, .all 0, 0, 31, .v, .own⟩,
  ⟨"sel: ENABLE, PORTS, DEST_MAC, APPID, VLAN", 0x3811, 0x3811, 1, 1, .bool, .rwc, 4, .all 0, 0, 1, .c, .svp⟩,
  ⟨"sel: ENABLE, PORTS, DEST_MAC, APPID, VLAN", 0x3811, 0x3811, 2, 2, .uint 1, .rwc, 4, .all 1, 0, 3, .c, .svp⟩,
  ⟨"sel: ENABLE, PORTS, DEST_MAC, APPID, VLAN", 0x3811, 0x3811, 3, 3, .uint 6, .rwc, 4, .all 1154490826752, 0, 281474976710655, .c, .svp⟩,
  ⟨"sel: ENABLE, PORTS, DEST_MAC, APPID, VLAN", 0x3811, 0x3811, 4, 4, .uint 2, .rwc, 4, .all 16384, 0, 65535, .c, .svp⟩,
  ⟨"sel: ENABLE, PORTS, DEST_MAC, APPID, VLAN", 0x3811, 0x3811, 5, 5, .uint 2, .rwc, 4, .all 32768, 0, 65535, .c, .svp⟩,
  ⟨"sel: SVID, ≤ 64 bytes", 0x3811, 0x3811, 6, 6, .str 64, .rwc, 4, .bytes [], 0, 0, .c, .svp⟩,
  ⟨"sel: RATE", 0x3811, 0x3811, 7, 7, .uint 4, .rwc, 4, .all 4800, 0, 4294967295, .c, .svp⟩,
  ⟨"sel: RATE", 0x3811, 0x3811, 8, 8, .uint 1, .rwc, 4, .all 2, 0, 255, .c, .svp⟩,
  ⟨"sel: RATE", 0x3811, 0x3811, 9, 9, .uint 1, .rwc, 4, .all 8, 1, 16, .c, .svp⟩,
  ⟨"sel: RATE", 0x3811, 0x3811, 10, 10, .uint 4, .rwc, 4, .all 1, 0, 4294967295, .c, .svp⟩,
  ⟨"sel: RATE", 0x3811, 0x3811, 11, 11, .uint 1, .rwc, 4, .all 0, 0, 7, .c, .svp⟩,
  ⟨"sel: AUTH", 0x3811, 0x3811, 12, 12, .uint 1, .rwc, 8, .all 0, 0, 1, .c, .svp⟩,
  ⟨"sel: AUTH", 0x3811, 0x3811, 13, 13, .uint 1, .rwc, 8, .all 0, 0, 63, .c, .svp⟩,
  ⟨"sel: AUTH", 0x3811, 0x3811, 14, 14, .uint 1, .rwc, 8, .all 255, 0, 255, .c, .svp⟩,
  ⟨"sel: GAIN of value i, Q24, point after bit 11", 0x3812, 0x3812, 1, 16, .int 3, .rwc, 4, .all 4096, -8388608, 8388607, .c, .svp⟩,
  ⟨"sel: frames sent, packets off schedule, blocks discarded, AS", 0x3813, 0x3813, 1, 4, .uint 4, .ro, 1, .all 0, 0, 4294967295, .v, .svp⟩,
  ⟨"SVS_SEL, 0-63", 0x3820, 0x3820, 0, 0, .uint 1, .rw, 7, .all 0, 0, 63, .v, .own⟩,
  ⟨"sel: as 0x3811:01-0E without VLAN and STROBE", 0x3821, 0x3821, 1, 1, .bool, .rwc, 4, .all 0, 0, 1, .c, .svs⟩,
  ⟨"sel: as 0x3811:01-0E without VLAN and STROBE", 0x3821, 0x3821, 2, 2, .uint 1, .rwc, 4, .all 1, 0, 3, .c, .svs⟩,
  ⟨"sel: as 0x3811:01-0E without VLAN and STROBE", 0x3821, 0x3821, 3, 3, .uint 6, .rwc, 4, .all 1154490826752, 0, 281474976710655, .c, .svs⟩,
  ⟨"sel: as 0x3811:01-0E without VLAN and STROBE", 0x3821, 0x3821, 4, 4, .uint 2, .rwc, 4, .all 16384, 0, 65535, .c, .svs⟩,
  ⟨"sel: as 0x3811:01-0E without VLAN and STROBE", 0x3821, 0x3821, 5, 5, .uint 2, .rwc, 4, .all 0, 0, 0, .c, .svs⟩,
  ⟨"sel: as 0x3811:01-0E without VLAN and STROBE", 0x3821, 0x3821, 6, 6, .str 64, .rwc, 4, .all 0, 0, 0, .c, .svs⟩,
  ⟨"sel: as 0x3811:01-0E without VLAN and STROBE", 0x3821, 0x3821, 7, 7, .uint 4, .rwc, 4, .all 4800, 0, 4294967295, .c, .svs⟩,
  ⟨"sel: as 0x3811:01-0E without VLAN and STROBE", 0x3821, 0x3821, 8, 8, .uint 1, .rwc, 4, .all 2, 0, 255, .c, .svs⟩,
  ⟨"sel: as 0x3811:01-0E without VLAN and STROBE", 0x3821, 0x3821, 9, 9, .uint 1, .rwc, 4, .all 8, 1, 16, .c, .svs⟩,
  ⟨"sel: as 0x3811:01-0E without VLAN and STROBE", 0x3821, 0x3821, 10, 10, .uint 4, .rwc, 4, .all 1, 0, 4294967295, .c, .svs⟩,
  ⟨"sel: as 0x3811:01-0E without VLAN and STROBE", 0x3821, 0x3821, 11, 11, .uint 1, .rwc, 4, .all 0, 0, 0, .c, .svs⟩,
  ⟨"sel: as 0x3811:01-0E without VLAN and STROBE", 0x3821, 0x3821, 12, 12, .uint 1, .rwc, 8, .all 0, 0, 1, .c, .svs⟩,
  ⟨"sel: as 0x3811:01-0E without VLAN and STROBE", 0x3821, 0x3821, 13, 13, .uint 1, .rwc, 8, .all 0, 0, 63, .c, .svs⟩,
  ⟨"sel: as 0x3811:01-0E without VLAN and STROBE", 0x3821, 0x3821, 14, 14, .uint 1, .rwc, 8, .all 255, 0, 255, .c, .svs⟩,
  ⟨"sel: SHIFT, 0-31", 0x3822, 0x3822, 1, 1, .uint 1, .rwc, 4, .all 8, 0, 31, .c, .svs⟩,
  ⟨"sel: RX_DELAY, ns", 0x3822, 0x3822, 2, 2, .int 4, .rwc, 4, .all 0, -2147483648, 2147483647, .c, .svs⟩,
  ⟨"sel: frames accepted, mismatched, late, samples missing, exp", 0x3823, 0x3823, 1, 6, .uint 4, .ro, 1, .all 0, 0, 4294967295, .v, .svs⟩,
  ⟨"sel: SUB_STATE", 0x3824, 0x3824, 0, 0, .uint 1, .ro, 1, .all 0, 0, 255, .v, .svs⟩,
  ⟨"GP_SEL, 0-127", 0x3840, 0x3840, 0, 0, .uint 1, .rw, 7, .all 0, 0, 127, .v, .own⟩,
  ⟨"sel: ENABLE, PORTS, DEST_MAC, APPID, VLAN", 0x3841, 0x3841, 1, 1, .bool, .rwc, 4, .all 0, 0, 1, .c, .gp⟩]

/-- Object rows of chapter file `12`, continued. -/
def dict122 : List Desc := [
  ⟨"sel: ENABLE, PORTS, DEST_MAC, APPID, VLAN", 0x3841, 0x3841, 2, 2, .uint 1, .rwc, 4, .all 1, 0, 3, .c, .gp⟩,
  ⟨"sel: ENABLE, PORTS, DEST_MAC, APPID, VLAN", 0x3841, 0x3841, 3, 3, .uint 6, .rwc, 4, .all 1154490630144, 0, 281474976710655, .c, .gp⟩,
  ⟨"sel: ENABLE, PORTS, DEST_MAC, APPID, VLAN", 0x3841, 0x3841, 4, 4, .uint 2, .rwc, 4, .all 1, 0, 65535, .c, .gp⟩,
  ⟨"sel: ENABLE, PORTS, DEST_MAC, APPID, VLAN", 0x3841, 0x3841, 5, 5, .uint 2, .rwc, 4, .all 32768, 0, 65535, .c, .gp⟩,
  ⟨"sel: GOCBREF, DATSET, GOID, ≤ 64 bytes each", 0x3841, 0x3841, 6, 8, .str 64, .rwc, 4, .all 0, 0, 0, .c, .gp⟩,
  ⟨"sel: CONF_REV, MIN_INTERVAL", 0x3841, 0x3841, 9, 9, .uint 4, .rwc, 4, .all 1, 0, 4294967295, .c, .gp⟩,
  ⟨"sel: CONF_REV, MIN_INTERVAL", 0x3841, 0x3841, 10, 10, .uint 2, .rwc, 4, .all 2, 1, 100, .c, .gp⟩,
  ⟨"sel: CONF_REV, MIN_INTERVAL", 0x3841, 0x3841, 11, 11, .uint 2, .rwc, 4, .all 1000, 100, 60000, .c, .gp⟩,
  ⟨"sel: CONF_REV, MIN_INTERVAL", 0x3841, 0x3841, 12, 12, .uint 1, .rwc, 4, .all 1, 1, 64, .c, .gp⟩,
  ⟨"sel: AUTH, KEY_SLOT, KEY_NEXT", 0x3841, 0x3841, 13, 13, .uint 1, .rwc, 8, .all 0, 0, 1, .c, .gp⟩,
  ⟨"sel: AUTH, KEY_SLOT, KEY_NEXT", 0x3841, 0x3841, 14, 14, .uint 1, .rwc, 8, .all 0, 0, 63, .c, .gp⟩,
  ⟨"sel: AUTH, KEY_SLOT, KEY_NEXT", 0x3841, 0x3841, 15, 15, .uint 1, .rwc, 8, .all 255, 0, 255, .c, .gp⟩,
  ⟨"sel: MEMBER m", 0x3842, 0x3842, 1, 64, .uint 4, .rwc, 4, .all 0, 0, 4294967295, .c, .gp⟩,
  ⟨"sel: states sent, frames sent, stNum", 0x3843, 0x3843, 1, 3, .uint 4, .ro, 1, .all 0, 0, 4294967295, .v, .gp⟩,
  ⟨"GS_SEL, 0-255", 0x3850, 0x3850, 0, 0, .uint 1, .rw, 7, .all 0, 0, 255, .v, .own⟩,
  ⟨"sel: as 0x3841, with sub 05, 08, 0A and 0B 0", 0x3851, 0x3851, 1, 1, .bool, .rwc, 4, .all 0, 0, 1, .c, .gs⟩,
  ⟨"sel: as 0x3841, with sub 05, 08, 0A and 0B 0", 0x3851, 0x3851, 2, 2, .uint 1, .rwc, 4, .all 1, 0, 3, .c, .gs⟩,
  ⟨"sel: as 0x3841, with sub 05, 08, 0A and 0B 0", 0x3851, 0x3851, 3, 3, .uint 6, .rwc, 4, .all 1154490630144, 0, 281474976710655, .c, .gs⟩,
  ⟨"sel: as 0x3841, with sub 05, 08, 0A and 0B 0", 0x3851, 0x3851, 4, 4, .uint 2, .rwc, 4, .all 1, 0, 65535, .c, .gs⟩,
  ⟨"sel: as 0x3841, with sub 05, 08, 0A and 0B 0", 0x3851, 0x3851, 5, 5, .uint 2, .rwc, 4, .all 0, 0, 0, .c, .gs⟩,
  ⟨"sel: as 0x3841, with sub 05, 08, 0A and 0B 0", 0x3851, 0x3851, 6, 7, .str 64, .rwc, 4, .all 0, 0, 0, .c, .gs⟩,
  ⟨"sel: as 0x3841, with sub 05, 08, 0A and 0B 0", 0x3851, 0x3851, 8, 8, .str 64, .rwc, 4, .all 0, 0, 0, .c, .gs⟩,
  ⟨"sel: as 0x3841, with sub 05, 08, 0A and 0B 0", 0x3851, 0x3851, 9, 9, .uint 4, .rwc, 4, .all 1, 0, 4294967295, .c, .gs⟩,
  ⟨"sel: as 0x3841, with sub 05, 08, 0A and 0B 0", 0x3851, 0x3851, 10, 11, .uint 2, .rwc, 4, .all 0, 0, 0, .c, .gs⟩,
  ⟨"sel: as 0x3841, with sub 05, 08, 0A and 0B 0", 0x3851, 0x3851, 12, 12, .uint 1, .rwc, 4, .all 1, 1, 64, .c, .gs⟩,
  ⟨"sel: as 0x3841, with sub 05, 08, 0A and 0B 0", 0x3851, 0x3851, 13, 13, .uint 1, .rwc, 8, .all 0, 0, 1, .c, .gs⟩,
  ⟨"sel: as 0x3841, with sub 05, 08, 0A and 0B 0", 0x3851, 0x3851, 14, 14, .uint 1, .rwc, 8, .all 0, 0, 63, .c, .gs⟩,
  ⟨"sel: as 0x3841, with sub 05, 08, 0A and 0B 0", 0x3851, 0x3851, 15, 15, .uint 1, .rwc, 8, .all 255, 0, 255, .c, .gs⟩,
  ⟨"sel: MEMBER m", 0x3852, 0x3852, 1, 64, .uint 4, .rwc, 4, .all 4096, 0, 4294967295, .c, .gs⟩,
  ⟨"sel: new states, refreshes, discarded, expiries, mismatches,", 0x3853, 0x3853, 1, 6, .uint 4, .ro, 1, .all 0, 0, 4294967295, .v, .gs⟩,
  ⟨"sel: SUB_STATE", 0x3854, 0x3854, 0, 0, .uint 1, .ro, 1, .all 0, 0, 255, .v, .gs⟩,
  ⟨"SIG_SEL, 0-4 095", 0x3860, 0x3860, 0, 0, .uint 2, .rw, 7, .all 0, 0, 4095, .v, .own⟩,
  ⟨"sel: VALUE, QUALITY, CHANGED", 0x3861, 0x3861, 1, 1, .uint 3, .ro, 1, .all 0, 0, 16777215, .v, .sig⟩,
  ⟨"sel: VALUE, QUALITY, CHANGED", 0x3861, 0x3861, 2, 2, .uint 1, .ro, 1, .all 0, 0, 255, .v, .sig⟩,
  ⟨"sel: VALUE, QUALITY, CHANGED", 0x3861, 0x3861, 3, 3, .uint 4, .ro, 1, .all 0, 0, 4294967295, .v, .sig⟩,
  ⟨"sel: OUT_CH, update output 0-31, 0xFF none", 0x3861, 0x3861, 4, 4, .uint 1, .rwc, 4, .all 255, 0, 255, .c, .sig⟩,
  ⟨"sel: FLOAT_EXP, -24 to 24", 0x3861, 0x3861, 5, 5, .int 1, .rwc, 4, .all 0, -24, 24, .c, .sig⟩,
  ⟨"malformed updates, updates refused", 0x3862, 0x3862, 1, 2, .uint 4, .ro, 1, .all 0, 0, 4294967295, .v, .one⟩,
  ⟨"POINT_BASE of SOE input n, 0-4 095", 0x3900, 0x3900, 1, 48, .uint 2, .rwc, 4, .all 0, 0, 4095, .c, .one⟩,
  ⟨"CHATTER_LIMIT, 2-255", 0x3901, 0x3901, 1, 1, .uint 1, .rwc, 4, .all 10, 2, 255, .c, .one⟩]

/-- Object rows of chapter file `12`, continued. -/
def dict123 : List Desc := [
  ⟨"CHATTER_WINDOW, ms, 100-60 000", 0x3901, 0x3901, 2, 2, .uint 2, .rwc, 4, .all 1000, 100, 60000, .c, .one⟩,
  ⟨"LOG_FROM", 0x3902, 0x3902, 0, 0, .uint 4, .rw, 1, .all 0, 0, 4294967295, .v, .own⟩,
  ⟨"LOG_READ, ≤ 65 records", 0x3903, 0x3903, 0, 0, .dom 16777216, .ro, 1, .bytes [], 0, 0, .v, .one⟩,
  ⟨"LOG_OLDEST, LOG_NEWEST, SEQ held", 0x3904, 0x3904, 1, 2, .uint 4, .ro, 1, .all 0, 0, 4294967295, .n, .one⟩,
  ⟨"records entered, provisional records, unmapped codes, record", 0x3905, 0x3905, 1, 4, .uint 4, .ro, 1, .all 0, 0, 4294967295, .n, .one⟩,
  ⟨"CSW_SEL, breaker 0-7", 0x3A00, 0x3A00, 0, 0, .uint 1, .rw, 7, .all 0, 0, 7, .v, .own⟩,
  ⟨"sel: ENABLE, TRACKER", 0x3A01, 0x3A01, 1, 1, .bool, .rwc, 4, .all 0, 0, 1, .c, .csw⟩,
  ⟨"sel: ENABLE, TRACKER", 0x3A01, 0x3A01, 2, 2, .uint 1, .rwc, 4, .all 0, 0, 3, .c, .csw⟩,
  ⟨"sel: TARGET_CLOSE pole A-C, TARGET_OPEN pole A-C", 0x3A02, 0x3A02, 1, 6, .uint 3, .rwc, 4, .all 0, 0, 16777215, .c, .csw⟩,
  ⟨"sel: T_NOMINAL close A-C, open A-C, ns", 0x3A03, 0x3A03, 1, 6, .uint 4, .rwc, 4, .each [50000000, 50000000, 50000000, 30000000, 30000000, 30000000], 0, 4294967295, .c, .csw⟩,
  ⟨"sel: TEMP_SIGNAL, VOLT_SIGNAL, LOAD_SIGNAL, CMD_SIGNAL", 0x3A04, 0x3A04, 1, 4, .uint 2, .rwc, 4, .all 65535, 0, 65535, .c, .csw⟩,
  ⟨"sel: TEMP_REF", 0x3A04, 0x3A04, 5, 5, .int 2, .rwc, 4, .all 200, -32768, 32767, .c, .csw⟩,
  ⟨"sel: TEMP_REF", 0x3A04, 0x3A04, 6, 6, .uint 2, .rwc, 4, .all 1100, 0, 65535, .c, .csw⟩,
  ⟨"sel: K_TEMP, K_VOLT, K_IDLE", 0x3A04, 0x3A04, 7, 9, .int 4, .rwc, 4, .all 0, -2147483648, 2147483647, .c, .csw⟩,
  ⟨"sel: LIGHT_MAX, HEAVY_MIN, 0.1 %", 0x3A04, 0x3A04, 10, 11, .uint 2, .rwc, 4, .each [200, 700], 0, 65535, .c, .csw⟩,
  ⟨"sel: MIN_PREP, BAND_MARGIN, BORROW_MARGIN, NO_MODEL_MARGIN, ", 0x3A05, 0x3A05, 1, 7, .uint 2, .rwc, 4, .each [2000, 500, 500, 2000, 300, 3000, 1500], 0, 65535, .c, .csw⟩,
  ⟨"sel: LEARN_WEIGHT, 1-64", 0x3A05, 0x3A05, 8, 8, .uint 1, .rwc, 4, .all 8, 1, 64, .c, .csw⟩,
  ⟨"sel: FALLBACK close, open", 0x3A05, 0x3A05, 9, 10, .uint 1, .rwc, 4, .each [0, 1], 0, 1, .c, .csw⟩,
  ⟨"sel: MEAS_OFFSET pole A-C, ns", 0x3A05, 0x3A05, 11, 13, .int 4, .rwc, 4, .all 0, -2147483648, 2147483647, .c, .csw⟩,
  ⟨"sel: CSW_CMD", 0x3A06, 0x3A06, 1, 1, .uint 1, .wo, 6, .all 0, 1, 3, .v, .csw⟩,
  ⟨"sel: CSW_STATE", 0x3A06, 0x3A06, 2, 2, .uint 1, .ro, 1, .all 0, 0, 255, .v, .csw⟩,
  ⟨"sel: BASE, sub = 9 × kind + 3 × band + pole + 1, ns", 0x3A07, 0x3A07, 1, 18, .uint 4, .rwc, 4, .all 0, 0, 4294967295, .n, .csw⟩,
  ⟨"sel: COUNT, same subs", 0x3A08, 0x3A08, 1, 18, .uint 1, .rwc, 4, .all 0, 0, 0, .n, .csw⟩,
  ⟨"sel: OPS, 16 records of R324, newest first", 0x3A09, 0x3A09, 0, 0, .dom 16777216, .ro, 1, .bytes [], 0, 0, .n, .csw⟩,
  ⟨"sel: operations, missed, outliers, fallbacks", 0x3A0A, 0x3A0A, 1, 4, .uint 4, .ro, 1, .all 0, 0, 4294967295, .n, .csw⟩]

/-- Object rows of chapter file `13`. -/
def dict13 : List Desc := [
  ⟨"CORE_SEL, 0-15", 0x4000, 0x4000, 0, 0, .uint 1, .rw, 7, .all 0, 0, 15, .v, .own⟩,
  ⟨"CORE_STATE", 0x4001, 0x4001, 1, 1, .uint 1, .ro, 1, .all 0, 0, 255, .v, .core⟩,
  ⟨"LOAD_10MS, per mille", 0x4001, 0x4001, 2, 2, .uint 2, .ro, 1, .all 0, 0, 65535, .v, .core⟩,
  ⟨"LOAD_1S, per mille", 0x4001, 0x4001, 3, 3, .uint 2, .ro, 1, .all 0, 0, 65535, .v, .core⟩,
  ⟨"LOAD_PEAK, highest 10 ms load since reset", 0x4001, 0x4001, 4, 4, .uint 2, .ro, 1, .all 0, 0, 65535, .v, .core⟩,
  ⟨"PLANNED, per mille", 0x4001, 0x4001, 5, 5, .uint 2, .ro, 1, .all 0, 0, 65535, .v, .core⟩,
  ⟨"INSTANCES on the core", 0x4001, 0x4001, 6, 6, .uint 2, .ro, 1, .all 0, 0, 65535, .v, .core⟩,
  ⟨"TRAPS", 0x4001, 0x4001, 7, 7, .uint 4, .ro, 1, .all 0, 0, 4294967295, .v, .core⟩,
  ⟨"LOCKSTEP_MISMATCHES", 0x4001, 0x4001, 8, 8, .uint 4, .ro, 1, .all 0, 0, 4294967295, .n, .core⟩,
  ⟨"LOAD_CEILING, per mille, 500-900", 0x4002, 0x4002, 0, 0, .uint 2, .rwc, 4, .all 750, 500, 900, .c, .one⟩,
  ⟨"SPARE_CORES, 0-4", 0x4003, 0x4003, 0, 0, .uint 1, .rwc, 4, .all 1, 0, 4, .c, .one⟩,
  ⟨"LOAD_ALARM, per mille, 600-1 000", 0x4004, 0x4004, 0, 0, .uint 2, .rwc, 4, .all 900, 600, 1000, .c, .one⟩,
  ⟨"SVC_SEL, service number", 0x4010, 0x4010, 0, 0, .uint 2, .rw, 7, .all 0, 0, 65535, .v, .own⟩,
  ⟨"SVC_CORE", 0x4011, 0x4011, 1, 1, .uint 1, .ro, 1, .all 255, 0, 255, .v, .svc⟩,
  ⟨"SVC_STATE", 0x4011, 0x4011, 2, 2, .uint 1, .ro, 1, .all 0, 0, 255, .v, .svc⟩,
  ⟨"SVC_PLANNED, per mille", 0x4011, 0x4011, 3, 3, .uint 2, .ro, 1, .all 0, 0, 65535, .v, .svc⟩,
  ⟨"SVC_LOAD, per mille over 1 s", 0x4011, 0x4011, 4, 4, .uint 2, .ro, 1, .all 0, 0, 65535, .v, .svc⟩,
  ⟨"HINGE_MAX, µs", 0x4011, 0x4011, 5, 5, .uint 4, .ro, 1, .all 0, 0, 4294967295, .v, .svc⟩,
  ⟨"HINGE_LAST, ST32 of the last hinge point", 0x4011, 0x4011, 6, 6, .uint 4, .ro, 1, .all 0, 0, 4294967295, .v, .svc⟩,
  ⟨"RESTARTS", 0x4011, 0x4011, 7, 7, .uint 4, .ro, 1, .all 0, 0, 4294967295, .v, .svc⟩,
  ⟨"LAST_TRAP, code of R339", 0x4011, 0x4011, 8, 8, .uint 1, .ro, 1, .all 0, 0, 255, .v, .svc⟩,
  ⟨"SVC_CMD", 0x4011, 0x4011, 9, 9, .uint 1, .wo, 6, .all 0, 1, 2, .v, .svc⟩,
  ⟨"PLACEMENT", 0x4012, 0x4012, 0, 0, .dom 16777216, .ro, 1, .bytes [], 0, 0, .v, .one⟩,
  ⟨"TRACE_DEST", 0x4020, 0x4020, 1, 1, .uint 1, .rwc, 4, .all 1, 0, 3, .c, .one⟩,
  ⟨"TRACE_FLOW", 0x4020, 0x4020, 2, 2, .bool, .rwc, 4, .all 0, 0, 1, .c, .one⟩,
  ⟨"TRACE_PORT_CLK", 0x4020, 0x4020, 3, 3, .uint 1, .rwc, 4, .all 2, 0, 2, .c, .one⟩,
  ⟨"TRACE_LEVEL, 0-3", 0x4020, 0x4020, 4, 4, .uint 1, .rwc, 4, .all 2, 0, 3, .c, .one⟩,
  ⟨"TRACE_HEAD, byte offset in the region", 0x4021, 0x4021, 1, 1, .uint 4, .ro, 1, .all 0, 0, 4294967295, .v, .one⟩,
  ⟨"TRACE_LAP, wrapping", 0x4021, 0x4021, 2, 2, .uint 4, .ro, 1, .all 0, 0, 4294967295, .v, .one⟩,
  ⟨"service messages dropped", 0x4021, 0x4021, 3, 3, .uint 4, .ro, 1, .all 0, 0, 4294967295, .v, .one⟩,
  ⟨"program-flow packets dropped", 0x4021, 0x4021, 4, 4, .uint 4, .ro, 1, .all 0, 0, 4294967295, .v, .one⟩,
  ⟨"TRACE_DICT, service-specific codes of the active image", 0x4022, 0x4022, 0, 0, .dom 16777216, .ro, 1, .bytes [], 0, 0, .v, .one⟩]

/-- Object rows of chapter file `14`. -/
def dict14 : List Desc := [
  ⟨"CAN_SEL, 0-7", 0x7000, 0x7000, 0, 0, .uint 1, .rw, 7, .all 0, 0, 7, .v, .own⟩,
  ⟨"ENABLE", 0x7001, 0x7001, 1, 1, .bool, .rwc, 4, .all 0, 0, 1, .c, .can⟩,
  ⟨"NOM_PRESC 1-512, NOM_TSEG1 2-256, NOM_TSEG2 2-128, NOM_SJW 1", 0x7001, 0x7001, 2, 2, .uint 2, .rwc, 4, .all 1, 1, 512, .c, .can⟩,
  ⟨"NOM_PRESC 1-512, NOM_TSEG1 2-256, NOM_TSEG2 2-128, NOM_SJW 1", 0x7001, 0x7001, 3, 3, .uint 2, .rwc, 4, .all 127, 2, 256, .c, .can⟩,
  ⟨"NOM_PRESC 1-512, NOM_TSEG1 2-256, NOM_TSEG2 2-128, NOM_SJW 1", 0x7001, 0x7001, 4, 4, .uint 2, .rwc, 4, .all 32, 2, 128, .c, .can⟩,
  ⟨"NOM_PRESC 1-512, NOM_TSEG1 2-256, NOM_TSEG2 2-128, NOM_SJW 1", 0x7001, 0x7001, 5, 5, .uint 2, .rwc, 4, .all 32, 1, 128, .c, .can⟩,
  ⟨"DATA_PRESC 1-32, DATA_TSEG1 1-32, DATA_TSEG2 1-16, DATA_SJW ", 0x7001, 0x7001, 6, 6, .uint 1, .rwc, 4, .all 1, 1, 32, .c, .can⟩,
  ⟨"DATA_PRESC 1-32, DATA_TSEG1 1-32, DATA_TSEG2 1-16, DATA_SJW ", 0x7001, 0x7001, 7, 7, .uint 1, .rwc, 4, .all 29, 1, 32, .c, .can⟩,
  ⟨"DATA_PRESC 1-32, DATA_TSEG1 1-32, DATA_TSEG2 1-16, DATA_SJW ", 0x7001, 0x7001, 8, 8, .uint 1, .rwc, 4, .all 10, 1, 16, .c, .can⟩,
  ⟨"DATA_PRESC 1-32, DATA_TSEG1 1-32, DATA_TSEG2 1-16, DATA_SJW ", 0x7001, 0x7001, 9, 9, .uint 1, .rwc, 4, .all 10, 1, 16, .c, .can⟩,
  ⟨"FD_ENABLE", 0x7001, 0x7001, 10, 10, .bool, .rwc, 4, .all 1, 0, 1, .c, .can⟩,
  ⟨"TDC_MODE", 0x7001, 0x7001, 11, 11, .uint 1, .rwc, 4, .all 1, 0, 1, .c, .can⟩,
  ⟨"TDCO, cycles, 0-127", 0x7001, 0x7001, 12, 12, .uint 1, .rwc, 4, .all 30, 0, 127, .c, .can⟩,
  ⟨"QUEUE_DEPTH, 1-32", 0x7002, 0x7002, 1, 1, .uint 1, .rwc, 4, .all 32, 1, 32, .c, .can⟩,
  ⟨"BUSOFF_AUTO", 0x7002, 0x7002, 2, 2, .bool, .rwc, 4, .all 1, 0, 1, .c, .can⟩,
  ⟨"SESSION_BASE, 0x000-0x700", 0x7002, 0x7002, 3, 3, .uint 2, .rwc, 4, .all 1536, 0, 1792, .c, .can⟩,
  ⟨"SESSION_BRS", 0x7002, 0x7002, 4, 4, .bool, .rwc, 4, .all 1, 0, 1, .c, .can⟩,
  ⟨"GATEWAY_NODES", 0x7002, 0x7002, 5, 5, .dom 16777216, .rwc, 4, .bytes [0, 0, 0, 0, 0, 0, 0, 0, 0, 0, 0, 0, 0, 0, 0, 0], 0, 0, .c, .can⟩,
  ⟨"WAKE_KIND", 0x7003, 0x7003, 1, 1, .uint 1, .rwc, 4, .all 0, 0, 2, .c, .can⟩,
  ⟨"WAKE_FILTER, ns, 500-5 000", 0x7003, 0x7003, 2, 2, .uint 2, .rwc, 4, .all 1000, 500, 5000, .c, .can⟩,
  ⟨"WAKE_TIMEOUT, µs, 500-5 000", 0x7003, 0x7003, 3, 3, .uint 2, .rwc, 4, .all 1000, 500, 5000, .c, .can⟩,
  ⟨"WUF_ID, WUF_MASK, 29-bit form", 0x7003, 0x7003, 4, 5, .uint 4, .rwc, 4, .all 0, 0, 4294967295, .c, .can⟩,
  ⟨"WUF_IDE", 0x7003, 0x7003, 6, 6, .bool, .rwc, 4, .all 0, 0, 1, .c, .can⟩,
  ⟨"WUF_DLC, 0-8", 0x7003, 0x7003, 7, 7, .uint 1, .rwc, 4, .all 0, 0, 8, .c, .can⟩,
  ⟨"WUF_DATA_MASK", 0x7003, 0x7003, 8, 8, .uint 8, .rwc, 4, .all 0, 0, 18446744073709551615, .c, .can⟩,
  ⟨"WUF_ERR_WAKE", 0x7003, 0x7003, 9, 9, .bool, .rwc, 4, .all 1, 0, 1, .c, .can⟩,
  ⟨"counters: frames sent, frames received, frames not accepted,", 0x7010, 0x7010, 1, 13, .uint 4, .ro, 1, .all 0, 0, 4294967295, .v, .can⟩,
  ⟨"STATE", 0x7011, 0x7011, 1, 1, .uint 1, .ro, 1, .all 0, 0, 255, .v, .can⟩,
  ⟨"TEC, REC", 0x7011, 0x7011, 2, 3, .uint 2, .ro, 1, .all 0, 0, 65535, .v, .can⟩,
  ⟨"TDCV, cycles", 0x7011, 0x7011, 4, 4, .uint 1, .ro, 1, .all 0, 0, 255, .v, .can⟩,
  ⟨"QUEUE_FILL", 0x7011, 0x7011, 5, 5, .uint 1, .ro, 1, .all 0, 0, 255, .v, .can⟩,
  ⟨"WAKE_INFO", 0x7011, 0x7011, 6, 6, .uint 4, .ro, 1, .all 0, 0, 4294967295, .v, .can⟩,
  ⟨"CAN_CMD", 0x7012, 0x7012, 0, 0, .uint 1, .wo, 6, .all 0, 1, 4, .v, .can⟩,
  ⟨"FILTER f = sub - 1", 0x7020, 0x7020, 1, 32, .uint 8, .rwc, 4, .all 0, 0, 18446744073709551615, .c, .can⟩,
  ⟨"TT_MODE", 0x7030, 0x7030, 1, 1, .uint 1, .rwc, 4, .all 0, 0, 2, .c, .can⟩,
  ⟨"REF_ID, 29-bit form", 0x7030, 0x7030, 2, 2, .uint 4, .rwc, 4, .all 0, 0, 4294967295, .c, .can⟩,
  ⟨"NTU_NS, 100-10 000", 0x7030, 0x7030, 3, 3, .uint 2, .rwc, 4, .all 1000, 100, 10000, .c, .can⟩,
  ⟨"CYCLE_LEN, NTU, 100-65 535", 0x7030, 0x7030, 4, 4, .uint 2, .rwc, 4, .all 10000, 100, 65535, .c, .can⟩,
  ⟨"MATRIX_CYCLES", 0x7030, 0x7030, 5, 5, .uint 1, .rwc, 4, .all 1, 0, 255, .c, .can⟩,
  ⟨"CYCLE_OFFSET, ns, 0-999 999 999", 0x7030, 0x7030, 6, 6, .uint 4, .rwc, 4, .all 0, 0, 999999999, .c, .can⟩]

/-- Object rows of chapter file `14`, continued. -/
def dict142 : List Desc := [
  ⟨"GUARD, NTU, 1-255", 0x7030, 0x7030, 7, 7, .uint 1, .rwc, 4, .all 8, 1, 255, .c, .can⟩,
  ⟨"DRIFT_PPM, 1-2 000", 0x7030, 0x7030, 8, 8, .uint 2, .rwc, 4, .all 200, 1, 2000, .c, .can⟩,
  ⟨"TX_ENABLE, NTU, 1-16", 0x7030, 0x7030, 9, 9, .uint 1, .rwc, 4, .all 4, 1, 16, .c, .can⟩,
  ⟨"TRIGGER t = sub - 1", 0x7031, 0x7031, 1, 64, .uint 4, .rwc, 4, .all 0, 0, 4294967295, .c, .can⟩,
  ⟨"TT_STATE", 0x7032, 0x7032, 1, 1, .uint 1, .ro, 1, .all 0, 0, 255, .v, .can⟩,
  ⟨"CYCLE_COUNT", 0x7032, 0x7032, 2, 2, .uint 1, .ro, 1, .all 0, 0, 255, .v, .can⟩,
  ⟨"UNCERT, NTU, saturating", 0x7032, 0x7032, 3, 3, .uint 2, .ro, 1, .all 0, 0, 65535, .v, .can⟩,
  ⟨"TUR, 2^-24", 0x7032, 0x7032, 4, 4, .uint 4, .ro, 1, .all 16777216, 0, 4294967295, .v, .can⟩,
  ⟨"ERROR_LEVEL, 0-3", 0x7032, 0x7032, 5, 5, .uint 1, .ro, 1, .all 0, 0, 255, .v, .can⟩,
  ⟨"MASTER", 0x7032, 0x7032, 6, 6, .uint 1, .ro, 1, .all 0, 0, 255, .v, .can⟩]

/-- Object rows of chapter file `15`. -/
def dict15 : List Desc := [
  ⟨"VENDOR_ID, DEVICE_ID", 0x7800, 0x7800, 1, 2, .uint 2, .const, 1, .each [7996, 20768], 0, 65535, .f, .one⟩,
  ⟨"SUBSYS_VENDOR, SUBSYS_ID", 0x7800, 0x7800, 3, 4, .uint 2, .rwc, 16, .all 0, 0, 65535, .f, .one⟩,
  ⟨"LINK", 0x7800, 0x7800, 5, 5, .uint 1, .ro, 1, .all 0, 0, 255, .v, .one⟩,
  ⟨"MAC_ADDR", 0x7800, 0x7800, 6, 6, .uint 6, .rwc, 16, .all 0, 0, 281474976710655, .f, .one⟩,
  ⟨"ERR_MODE", 0x7801, 0x7801, 0, 0, .bool, .rwc, 4, .all 0, 0, 1, .c, .one⟩,
  ⟨"READ_DEADLINE, µs, 100-40 000", 0x7802, 0x7802, 1, 1, .uint 2, .rwc, 4, .all 5000, 100, 40000, .c, .one⟩,
  ⟨"HOLD_LIMIT, µs, 10-1 000", 0x7802, 0x7802, 2, 2, .uint 2, .rwc, 4, .all 100, 10, 1000, .c, .one⟩,
  ⟨"SEM_TIMEOUT, ms, 1-1 000", 0x7802, 0x7802, 3, 3, .uint 2, .rwc, 4, .all 10, 1, 1000, .c, .one⟩,
  ⟨"PF_LIFE, µs, 10-10 000", 0x7802, 0x7802, 4, 4, .uint 2, .rwc, 4, .all 1000, 10, 10000, .c, .one⟩,
  ⟨"counters: address errors, remote silent, partial writes, spl", 0x7803, 0x7803, 1, 8, .uint 4, .ro, 1, .all 0, 0, 4294967295, .v, .one⟩,
  ⟨"WIN_SEL, 0-63", 0x7810, 0x7810, 0, 0, .uint 1, .rw, 7, .all 0, 0, 63, .v, .own⟩,
  ⟨"sel: BASE", 0x7811, 0x7811, 1, 1, .uint 4, .rwc, 4, .all 0, 0, 4294967295, .c, .win⟩,
  ⟨"sel: BASE", 0x7811, 0x7811, 2, 2, .uint 1, .rwc, 4, .all 0, 0, 255, .c, .win⟩,
  ⟨"sel: BASE", 0x7811, 0x7811, 3, 3, .uint 6, .rwc, 4, .all 0, 0, 281474976710655, .c, .win⟩,
  ⟨"sel: BASE", 0x7811, 0x7811, 4, 4, .uint 1, .rwc, 4, .all 0, 0, 255, .c, .win⟩,
  ⟨"SEF entry e = sub - 1", 0x7820, 0x7820, 1, 32, .uint 8, .rwc, 4, .all 18374686479671623680, 0, 18446744073709551615, .c, .one⟩,
  ⟨"TUN_SEL, 0-63", 0x7830, 0x7830, 0, 0, .uint 1, .rw, 7, .all 0, 0, 63, .v, .own⟩,
  ⟨"sel: ENABLE, LOCAL", 0x7831, 0x7831, 1, 1, .bool, .rwc, 4, .all 0, 0, 1, .c, .tun⟩,
  ⟨"sel: ENABLE, LOCAL", 0x7831, 0x7831, 2, 2, .uint 1, .rwc, 4, .all 0, 0, 2, .c, .tun⟩,
  ⟨"sel: ENABLE, LOCAL", 0x7831, 0x7831, 3, 4, .uint 2, .rwc, 4, .each [0, 65535], 0, 65535, .c, .tun⟩,
  ⟨"sel: ENABLE, LOCAL", 0x7831, 0x7831, 5, 6, .uint 1, .rwc, 4, .all 0, 0, 255, .c, .tun⟩,
  ⟨"sel: frames sent, frames delivered, frames refused, station ", 0x7832, 0x7832, 1, 4, .uint 4, .ro, 1, .all 0, 0, 4294967295, .v, .tun⟩,
  ⟨"PORT_MODE 1, 2", 0x7840, 0x7840, 1, 2, .uint 1, .rwc, 4, .all 1, 0, 3, .c, .one⟩,
  ⟨"PRP_ENABLE", 0x7841, 0x7841, 1, 1, .bool, .rwc, 4, .all 0, 0, 1, .c, .one⟩,
  ⟨"SUP_ADDR", 0x7841, 0x7841, 2, 2, .uint 1, .rwc, 4, .all 0, 0, 255, .c, .one⟩,
  ⟨"LIFE_CHECK, ms, 100-10 000", 0x7841, 0x7841, 3, 3, .uint 2, .rwc, 4, .all 2000, 100, 10000, .c, .one⟩,
  ⟨"IPV4_ADDR, NETMASK, GATEWAY", 0x7842, 0x7842, 1, 3, .uint 4, .rwc, 4, .all 0, 0, 4294967295, .c, .one⟩,
  ⟨"FILTER_USED, port 1, 2", 0x7844, 0x7844, 1, 2, .uint 2, .ro, 1, .all 0, 0, 65535, .v, .one⟩,
  ⟨"PRP counters: sent A, sent B, received A, received B, wrong ", 0x7845, 0x7845, 1, 8, .uint 4, .ro, 1, .all 0, 0, 4294967295, .v, .one⟩,
  ⟨"station drops, port 1, 2", 0x7846, 0x7846, 1, 2, .uint 4, .ro, 1, .all 0, 0, 4294967295, .v, .one⟩]

/-- Object rows of chapter file `16`. -/
def dict16 : List Desc := [
  ⟨"KEY_SEL, 0-63", 0x8000, 0x8000, 0, 0, .uint 1, .rw, 9, .all 0, 0, 63, .v, .own⟩,
  ⟨"SLOT_STATE", 0x8001, 0x8001, 1, 1, .uint 1, .ro, 1, .all 0, 0, 255, .v, .key⟩,
  ⟨"SLOT_ATTR", 0x8001, 0x8001, 2, 2, .uint 4, .ro, 1, .all 0, 0, 4294967295, .v, .key⟩,
  ⟨"USES_LEFT", 0x8001, 0x8001, 3, 3, .uint 6, .ro, 1, .all 0, 0, 281474976710655, .v, .key⟩,
  ⟨"NEW_ATTR", 0x8002, 0x8002, 1, 1, .uint 4, .rw, 8, .all 0, 0, 4294967295, .v, .own⟩,
  ⟨"NEW_USES, 1 to 2^48 - 1", 0x8002, 0x8002, 2, 2, .uint 6, .rw, 8, .all 1, 1, 281474976710655, .v, .own⟩,
  ⟨"WRAP_SLOT, 0-63", 0x8002, 0x8002, 3, 3, .uint 1, .rw, 8, .all 0, 0, 63, .v, .own⟩,
  ⟨"KDK_SLOT, 0-63", 0x8002, 0x8002, 4, 4, .uint 1, .rw, 8, .all 0, 0, 63, .v, .own⟩,
  ⟨"LABEL, ≤ 64 bytes", 0x8002, 0x8002, 5, 5, .dom 64, .rw, 8, .bytes [], 0, 0, .v, .own⟩,
  ⟨"CONTEXT, ≤ 64 bytes", 0x8002, 0x8002, 6, 6, .dom 64, .rw, 8, .bytes [], 0, 0, .v, .own⟩,
  ⟨"KEY_PLAIN", 0x8003, 0x8003, 1, 1, .dom 16777216, .wo, 8, .bytes [], 0, 0, .v, .key⟩,
  ⟨"KEY_WRAPPED", 0x8003, 0x8003, 2, 2, .dom 16777216, .wo, 8, .bytes [], 0, 0, .v, .key⟩,
  ⟨"KEY_CMD", 0x8003, 0x8003, 3, 3, .uint 1, .wo, 8, .all 0, 1, 2, .v, .key⟩,
  ⟨"TAG_CLASSES, bit n = class n", 0x8010, 0x8010, 1, 1, .uint 1, .rwc, 8, .all 0, 0, 255, .c, .one⟩,
  ⟨"TAG_SLOT, 0-63", 0x8010, 0x8010, 2, 2, .uint 1, .rwc, 8, .all 0, 0, 63, .c, .one⟩,
  ⟨"REQUIRE_AUTH, bit n = class n", 0x8010, 0x8010, 3, 3, .uint 1, .rwc, 8, .all 0, 0, 255, .c, .one⟩,
  ⟨"REPLAY_WINDOW, ms, 1-2 000", 0x8010, 0x8010, 4, 4, .uint 2, .rwc, 8, .all 100, 1, 2000, .c, .one⟩,
  ⟨"counters: tags made, tags failed, frames held for no key, fr", 0x8020, 0x8020, 1, 4, .uint 4, .ro, 1, .all 0, 0, 4294967295, .v, .one⟩,
  ⟨"REVOKE_KEY0", 0x8030, 0x8030, 1, 1, .bool, .rw, 8, .all 0, 0, 1, .n, .one⟩,
  ⟨"ROLLBACK_FLOOR", 0x8030, 0x8030, 2, 2, .uint 1, .ro, 1, .all 0, 0, 255, .n, .one⟩,
  ⟨"LC_REQ", 0x8040, 0x8040, 0, 0, .uint 4, .wo, 8, .all 0, 0, 4294967295, .v, .one⟩,
  ⟨"LC_TRANSITIONS_LEFT", 0x8041, 0x8041, 0, 0, .uint 1, .ro, 1, .all 32, 0, 255, .n, .one⟩]

/-- Object rows of chapter file `17`. -/
def dict17 : List Desc := [
  ⟨"STORE_STATE", 0x9001, 0x9001, 1, 1, .uint 1, .ro, 1, .all 0, 0, 255, .n, .one⟩,
  ⟨"SPARES_LEFT", 0x9001, 0x9001, 2, 2, .uint 2, .ro, 1, .all 0, 0, 65535, .n, .one⟩,
  ⟨"SPARES_TOTAL", 0x9001, 0x9001, 3, 3, .uint 2, .ro, 1, .all 0, 0, 65535, .v, .one⟩,
  ⟨"LOG_SECTORS, 0-1 024", 0x9001, 0x9001, 4, 4, .uint 2, .ro, 1, .all 1024, 0, 65535, .n, .one⟩,
  ⟨"SECTORS_RETIRED", 0x9001, 0x9001, 5, 5, .uint 2, .ro, 1, .all 0, 0, 65535, .n, .one⟩,
  ⟨"ERASE_MAX, highest erase count", 0x9001, 0x9001, 6, 6, .uint 4, .ro, 1, .all 0, 0, 4294967295, .n, .one⟩,
  ⟨"ENDURANCE, 10 000-1 000 000", 0x9001, 0x9001, 7, 7, .uint 4, .rwc, 4, .all 100000, 10000, 1000000, .c, .one⟩,
  ⟨"counters: erases, suspends, re-erases at start-up, program f", 0x9002, 0x9002, 1, 7, .uint 4, .ro, 1, .all 0, 0, 4294967295, .n, .one⟩,
  ⟨"UPD_CMD", 0x9010, 0x9010, 0, 0, .uint 1, .wo, 4, .all 0, 1, 4, .v, .one⟩,
  ⟨"IMAGE_DATA, ≤ 16 MiB", 0x9011, 0x9011, 0, 0, .dom 16777216, .wo, 4, .bytes [], 0, 0, .v, .one⟩,
  ⟨"UPD_STATE", 0x9012, 0x9012, 1, 1, .uint 1, .ro, 1, .all 0, 0, 255, .v, .one⟩,
  ⟨"UPD_RESULT, abort code of the last update failure", 0x9012, 0x9012, 2, 2, .uint 4, .ro, 1, .all 0, 0, 4294967295, .v, .one⟩,
  ⟨"UPD_BYTES received", 0x9012, 0x9012, 3, 3, .uint 4, .ro, 1, .all 0, 0, 4294967295, .v, .one⟩,
  ⟨"SLOT_STATE A, B", 0x9013, 0x9013, 1, 2, .uint 1, .ro, 1, .all 0, 0, 255, .n, .one⟩,
  ⟨"SLOT_VERSION A, B", 0x9014, 0x9014, 1, 2, .uint 4, .ro, 1, .all 0, 0, 4294967295, .n, .one⟩,
  ⟨"SLOT_ROLLBACK A, B", 0x9015, 0x9015, 1, 2, .uint 1, .ro, 1, .all 0, 0, 255, .n, .one⟩,
  ⟨"FAILED_ACTIVATIONS, 0-3", 0x9016, 0x9016, 0, 0, .uint 1, .ro, 1, .all 0, 0, 255, .n, .one⟩,
  ⟨"RAISE_FLOOR", 0x9020, 0x9020, 0, 0, .bool, .wo, 8, .all 0, 0, 1, .v, .one⟩,
  ⟨"MIGRATION_REPORT", 0x9080, 0x9080, 0, 0, .dom 16777216, .ro, 1, .bytes [], 0, 0, .n, .one⟩,
  ⟨"groups migrated, groups reset, objects reset, at the last fi", 0x9081, 0x9081, 1, 3, .uint 2, .ro, 1, .all 0, 0, 65535, .n, .one⟩]

/-- Object rows of chapter file `18`. -/
def dict18 : List Desc := [
  ⟨"FIRST_SOURCE", 0xA000, 0xA000, 1, 1, .uint 1, .ro, 1, .all 0, 0, 255, .v, .one⟩,
  ⟨"FIRST_CLASS", 0xA000, 0xA000, 2, 2, .uint 1, .ro, 1, .all 0, 0, 255, .v, .one⟩,
  ⟨"FIRST_ST32", 0xA000, 0xA000, 3, 3, .uint 4, .ro, 1, .all 0, 0, 4294967295, .v, .one⟩,
  ⟨"FIRST_SYNDROME", 0xA000, 0xA000, 4, 4, .uint 4, .ro, 1, .all 0, 0, 4294967295, .v, .one⟩,
  ⟨"FIRST_ADDR", 0xA000, 0xA000, 5, 5, .uint 6, .ro, 1, .all 0, 0, 281474976710655, .v, .one⟩,
  ⟨"FIRST_FLAGS", 0xA000, 0xA000, 6, 6, .uint 1, .ro, 1, .all 0, 0, 255, .v, .one⟩,
  ⟨"MERGED", 0xA000, 0xA000, 7, 7, .uint 2, .ro, 1, .all 0, 0, 65535, .v, .one⟩,
  ⟨"FIRST_CLEAR", 0xA000, 0xA000, 8, 8, .bool, .wo, 6, .all 0, 0, 1, .v, .one⟩,
  ⟨"reports corrected, contained, fatal", 0xA001, 0xA001, 1, 3, .uint 4, .ro, 1, .all 0, 0, 4294967295, .n, .one⟩,
  ⟨"FAULT_STATE", 0xA002, 0xA002, 0, 0, .uint 1, .ro, 1, .all 0, 0, 255, .v, .one⟩,
  ⟨"QUIET_PERIOD, ms, 1-60 000", 0xA003, 0xA003, 1, 1, .uint 4, .rwc, 4, .all 500, 1, 60000, .c, .one⟩,
  ⟨"RECOVERY_LIMIT, 1-255", 0xA003, 0xA003, 2, 2, .uint 1, .rwc, 4, .all 8, 1, 255, .c, .one⟩,
  ⟨"RECOVERIES since power-on", 0xA004, 0xA004, 1, 1, .uint 4, .ro, 1, .all 0, 0, 4294967295, .v, .one⟩,
  ⟨"RECOVERIES_HOUR, in the last 60 min", 0xA004, 0xA004, 2, 2, .uint 1, .ro, 1, .all 0, 0, 255, .v, .one⟩,
  ⟨"FAULT_FROM, per session", 0xA010, 0xA010, 0, 0, .uint 4, .rw, 1, .all 0, 0, 4294967295, .v, .own⟩,
  ⟨"FAULT_READ, ≤ 65 records", 0xA011, 0xA011, 0, 0, .dom 16777216, .ro, 1, .bytes [], 0, 0, .v, .one⟩,
  ⟨"REACTION of source sub", 0xA020, 0xA020, 0, 255, .uint 1, .rwc, 4, .all 0, 0, 255, .c, .one⟩,
  ⟨"SCRUB_ENABLE", 0xA030, 0xA030, 1, 1, .bool, .rwc, 4, .all 1, 0, 1, .c, .one⟩,
  ⟨"on-chip passes, DRAM passes, hard errors, checker failures", 0xA031, 0xA031, 1, 4, .uint 4, .ro, 1, .all 0, 0, 4294967295, .v, .one⟩,
  ⟨"SFG_CONDITIONS", 0xA040, 0xA040, 0, 0, .uint 1, .ro, 1, .all 0, 0, 255, .v, .one⟩,
  ⟨"RESERVED_WRITES", 0xA0F0, 0xA0F0, 0, 0, .uint 4, .ro, 1, .all 0, 0, 4294967295, .v, .one⟩,
  ⟨"RESERVED_CLEAR", 0xA0F1, 0xA0F1, 0, 0, .uint 1, .wo, 6, .all 0, 0, 0, .v, .one⟩]

/-- Object rows of chapter file `19`. -/
def dict19 : List Desc := [
  ⟨"ROLE", 0xA800, 0xA800, 1, 1, .uint 1, .ro, 1, .all 0, 0, 255, .v, .one⟩,
  ⟨"CLAIM_STATE", 0xA800, 0xA800, 2, 2, .uint 1, .ro, 1, .all 0, 0, 255, .v, .one⟩,
  ⟨"PARTNER_NODE", 0xA800, 0xA800, 3, 3, .uint 1, .ro, 1, .all 255, 0, 255, .v, .one⟩,
  ⟨"PARTNER_MODE", 0xA800, 0xA800, 4, 4, .uint 1, .ro, 1, .all 255, 0, 255, .v, .one⟩,
  ⟨"PAIR_FLAGS", 0xA800, 0xA800, 5, 5, .uint 1, .ro, 1, .all 0, 0, 255, .v, .one⟩,
  ⟨"HOME_PAIR_ID", 0xA801, 0xA801, 0, 0, .bool, .rwc, 4, .all 0, 0, 1, .c, .one⟩,
  ⟨"SHADOW_WINDOW, ns, 100-1 000 000", 0xA802, 0xA802, 1, 1, .uint 4, .rwc, 4, .all 2000, 100, 1000000, .c, .one⟩,
  ⟨"SHADOW_EF", 0xA802, 0xA802, 2, 2, .bool, .rwc, 4, .all 1, 0, 1, .c, .one⟩,
  ⟨"SHADOW_MASK, bank sub - 1", 0xA803, 0xA803, 1, 16, .uint 4, .rwc, 4, .all 16777215, 0, 16777215, .c, .one⟩,
  ⟨"SWITCHOVER_CMD", 0xA804, 0xA804, 0, 0, .uint 1, .wo, 6, .all 0, 1, 3, .v, .one⟩,
  ⟨"counters: claims taken, ties lost, shadow mismatches, barks ", 0xA805, 0xA805, 1, 8, .uint 4, .ro, 1, .all 0, 0, 4294967295, .v, .one⟩,
  ⟨"LAST_CAUSE", 0xA806, 0xA806, 1, 1, .uint 1, .ro, 1, .all 0, 0, 255, .v, .one⟩,
  ⟨"LAST_ST32, of the last claim taken", 0xA806, 0xA806, 2, 2, .uint 4, .ro, 1, .all 0, 0, 4294967295, .v, .one⟩,
  ⟨"PARTNER_BARK, bytes 20-27 and payload of the last bark", 0xA807, 0xA807, 0, 0, .dom 16777216, .ro, 1, .bytes [], 0, 0, .v, .one⟩]

/-- Object rows of chapter file `20`. -/
def dict20 : List Desc := [
  ⟨"BIST_POINTER, 0-38", 0xB000, 0xB000, 1, 1, .uint 1, .ro, 1, .all 0, 0, 255, .n, .one⟩,
  ⟨"ROUNDS, wrapping", 0xB000, 0xB000, 2, 2, .uint 4, .ro, 1, .all 0, 0, 4294967295, .n, .one⟩,
  ⟨"CANDIDATES held, 0-32", 0xB000, 0xB000, 3, 3, .uint 1, .ro, 1, .all 0, 0, 255, .n, .one⟩,
  ⟨"candidates dropped, saturating", 0xB000, 0xB000, 4, 4, .uint 4, .ro, 1, .all 0, 0, 4294967295, .n, .one⟩,
  ⟨"RESULTS, newest first", 0xB001, 0xB001, 0, 0, .dom 16777216, .ro, 1, .bytes [], 0, 0, .n, .one⟩,
  ⟨"REPAIR_MAP", 0xB002, 0xB002, 0, 0, .dom 16777216, .ro, 1, .bytes [], 0, 0, .n, .one⟩,
  ⟨"RETIRED", 0xB003, 0xB003, 0, 0, .dom 16777216, .ro, 1, .bytes [], 0, 0, .n, .one⟩,
  ⟨"REMAP_REPORT", 0xB004, 0xB004, 0, 0, .dom 16777216, .ro, 1, .bytes [], 0, 0, .n, .one⟩,
  ⟨"REPAIR_CLEAR", 0xB005, 0xB005, 0, 0, .uint 1, .wo, 16, .all 0, 0, 0, .v, .one⟩]

/-- Object rows of chapter file `21`. -/
def dict21 : List Desc := [
  ⟨"FEED_PRIORITY", 0xB800, 0xB800, 1, 1, .uint 1, .rwc, 4, .all 0, 0, 1, .c, .one⟩,
  ⟨"FEED_UV, FEED_OV, mV, 18 000-60 000", 0xB800, 0xB800, 2, 3, .uint 4, .rwc, 4, .each [18000, 60000], 18000, 60000, .c, .one⟩,
  ⟨"FEED_RETURN, ms, 10-60 000", 0xB800, 0xB800, 4, 4, .uint 2, .rwc, 4, .all 1000, 10, 60000, .c, .one⟩,
  ⟨"ISLAND_WARN, mV, 12 000-18 000", 0xB800, 0xB800, 5, 5, .uint 4, .rwc, 4, .all 16000, 12000, 18000, .c, .one⟩,
  ⟨"FEEDS_FITTED", 0xB800, 0xB800, 6, 6, .uint 1, .rwc, 4, .all 3, 0, 3, .c, .one⟩,
  ⟨"FEED_STATE", 0xB801, 0xB801, 0, 0, .uint 1, .ro, 1, .all 0, 0, 255, .v, .one⟩,
  ⟨"feed changeovers", 0xB802, 0xB802, 1, 1, .uint 4, .ro, 1, .all 0, 0, 4294967295, .v, .one⟩,
  ⟨"RSHUNT, µΩ, 100-100 000", 0xB810, 0xB817, 1, 1, .uint 4, .rwc, 4, .all 2000, 100, 100000, .c, .one⟩,
  ⟨"FAILSAFE_STATE", 0xB810, 0xB817, 2, 2, .uint 1, .rwc, 4, .all 0, 0, 1, .c, .one⟩,
  ⟨"SLEW, mV/ms, 100-100 000", 0xB810, 0xB817, 3, 3, .uint 4, .rwc, 4, .all 1000, 100, 100000, .c, .one⟩,
  ⟨"START_MAX, ms, 1-1 000", 0xB810, 0xB817, 4, 4, .uint 2, .rwc, 4, .all 100, 1, 1000, .c, .one⟩,
  ⟨"TELEM_PERIOD, µs, 100-1 000 000", 0xB810, 0xB817, 5, 5, .uint 4, .rwc, 4, .all 10000, 100, 1000000, .c, .one⟩,
  ⟨"NPOINTS, 0-8", 0xB820, 0xB827, 1, 1, .uint 1, .rwc, 4, .all 1, 0, 8, .c, .one⟩,
  ⟨"point k: sub 2 + 2k I_k in mA, sub 3 + 2k t_k in µs", 0xB820, 0xB827, 2, 3, .uint 4, .rwc, 4, .each [20000, 1000000], 0, 4294967295, .c, .one⟩,
  ⟨"point k: sub 2 + 2k I_k in mA, sub 3 + 2k t_k in µs", 0xB820, 0xB827, 4, 17, .uint 4, .rwc, 4, .all 0, 0, 4294967295, .c, .one⟩,
  ⟨"ILIM, mA, 1 000-100 000", 0xB820, 0xB827, 18, 18, .uint 4, .rwc, 4, .all 30000, 1000, 100000, .c, .one⟩,
  ⟨"I2T_CEIL, 10^-4 A²s", 0xB820, 0xB827, 19, 19, .uint 4, .rwc, 4, .all 5000, 0, 4294967295, .c, .one⟩,
  ⟨"INSERT_BUDGET, mJ", 0xB820, 0xB827, 20, 20, .uint 4, .rwc, 4, .all 1000, 0, 4294967295, .c, .one⟩,
  ⟨"TOFF_MAX, ns, 200-50 000", 0xB820, 0xB827, 21, 21, .uint 4, .rwc, 4, .all 2000, 200, 50000, .c, .one⟩,
  ⟨"EF_STATE", 0xB830, 0xB837, 1, 1, .uint 1, .ro, 1, .all 0, 0, 255, .v, .one⟩,
  ⟨"CURRENT, mA", 0xB830, 0xB837, 2, 2, .int 4, .ro, 1, .all 0, -2147483648, 2147483647, .v, .one⟩,
  ⟨"VOUT, mV", 0xB830, 0xB837, 3, 3, .uint 4, .ro, 1, .all 0, 0, 4294967295, .v, .one⟩,
  ⟨"POWER, mW", 0xB830, 0xB837, 4, 4, .int 4, .ro, 1, .all 0, -2147483648, 2147483647, .v, .one⟩,
  ⟨"ENERGY, mJ, wrapping", 0xB830, 0xB837, 5, 5, .uint 6, .ro, 1, .all 0, 0, 281474976710655, .n, .one⟩,
  ⟨"TRIP_CAUSE", 0xB830, 0xB837, 6, 6, .uint 1, .ro, 1, .all 0, 0, 255, .v, .one⟩,
  ⟨"LET_THROUGH of the last trip, 10^-4 A²s", 0xB830, 0xB837, 7, 7, .uint 4, .ro, 1, .all 0, 0, 4294967295, .v, .one⟩,
  ⟨"trips and aborts", 0xB830, 0xB837, 8, 8, .uint 4, .ro, 1, .all 0, 0, 4294967295, .n, .one⟩,
  ⟨"EF_CMD, channel sub - 1", 0xB840, 0xB840, 1, 8, .uint 1, .wo, 6, .all 0, 0, 1, .v, .one⟩,
  ⟨"POWER_ON_MASK", 0xB841, 0xB841, 0, 0, .uint 1, .rwc, 4, .all 0, 0, 255, .c, .one⟩,
  ⟨"RAIL_MV: core, SerDes 0.9, SerDes 1.8, auxiliary, VDDQ, isla", 0xB850, 0xB850, 1, 6, .uint 4, .ro, 1, .all 0, 0, 4294967295, .v, .one⟩,
  ⟨"TEMP, sensor sub - 1, °C", 0xB851, 0xB851, 1, 8, .int 1, .ro, 1, .all 0, -128, 127, .v, .one⟩,
  ⟨"TEMP_MAX, °C", 0xB851, 0xB851, 9, 9, .int 1, .ro, 1, .all 0, -128, 127, .v, .one⟩]

/-- Every row of every object table. -/
def dictionary : List Desc :=
  dict02 ++ dict03 ++ dict04 ++ dict05 ++ dict06 ++ dict07 ++ dict08 ++ dict082 ++ dict09 ++ dict10 ++ dict102 ++ dict11 ++ dict12 ++ dict122 ++ dict123 ++ dict13 ++ dict14 ++ dict142 ++ dict15 ++ dict16 ++ dict17 ++ dict18 ++ dict19 ++ dict20 ++ dict21


/-- The row covers entry `index:sub`. -/
def Desc.covers (d : Desc) (index sub : Nat) : Bool :=
  d.lo ≤ index && index ≤ d.hi && d.s0 ≤ sub && sub ≤ d.s1

/-- The row of an entry, if the entry exists (R33). -/
def Desc.find (index sub : Nat) : Option Desc :=
  dictionary.find? (fun d => d.covers index sub)

/-- Some row has the index (R33). -/
def Desc.hasIndex (index : Nat) : Bool :=
  dictionary.any (fun d => d.lo ≤ index && index ≤ d.hi)

/-- The byte count of a numeric type (R30); 0 for STRING and DOMAIN. -/
def Ty.bytes : Ty → Nat
  | .bool => 1
  | .uint n => n
  | .int n => n
  | .wt => 14
  | .str _ => 0
  | .dom _ => 0

/-- A number of a type as it is held: two's complement of the type's width (R30). -/
def Ty.encode (t : Ty) (n : Int) : Nat :=
  (n % (2 ^ (8 * t.bytes) : Nat)).toNat

/-- A held number of a type as a signed number where the type is signed (R30). -/
def Ty.decode (t : Ty) (n : Nat) : Int :=
  match t with
  | .int b => if n < 2 ^ (8 * b - 1) then n else (n : Int) - (2 ^ (8 * b) : Nat)
  | _ => n

/-- Sources with a reaction other than log by default (R449): code with the interrupt bit [3]. -/
def reactionDefault (source : Nat) : Nat :=
  if source ∈ [0x00, 0x01, 0x03, 0x04, 0x12, 0x13, 0x16, 0x34, 0x53, 0x54, 0x61, 0x63, 0x70, 0x71, 0x72, 0x74, 0x81, 0x82,
      0xA1, 0xA2, 0xA4, 0xB0, 0xB1, 0xB2, 0xB3, 0xD1, 0xE0] then 8
  else if source ∈ [0x17, 0x84, 0xA3, 0xC1] then 4
  else if source ∈ [0x20, 0x21] then 1
  else if source ∈ [0x30, 0x32, 0x33] then 2
  else if source = 0x31 then 5
  else if source ∈ [0x40, 0x83, 0xA5] then 6
  else if source = 0x50 then 3
  else 0

/-- The default value of an entry (R28). BASE (0x3A07) is empty until it is learned or written, and then reads as T_NOMINAL
(R325). -/
def objDefault (index sub : Nat) : Val :=
  if index = 0xA020 then .num (reactionDefault sub) else
  if index = 0x3A07 then .bytes [] else
  match Desc.find index sub with
  | none => .num 0
  | some d =>
    match d.ty with
    | .str _ => .bytes (match d.dflt with | .bytes b => b.map (BitVec.ofNat 8) | _ => [])
    | .dom _ => .bytes (match d.dflt with | .bytes b => b.map (BitVec.ofNat 8) | _ => [])
    | t => .num (match d.dflt with
      | .all n => t.encode n
      | .each l => t.encode (l.getD (sub - d.s0) 0)
      | .bytes _ => 0)

end Sys2Proof.Machine
end

