-- ==== Sys2Proof/Machine/State.lean ====
section
/-!
DEFINITION. The machine's state as plain data: every register, counter, queue, buffer, mode and pin the spec gives the
hub, with its reset value as the field's default, the queue of waiting commands, and `State.reset`.
-/

namespace Sys2Proof.Machine

/-- The twelve modes (R58). -/
inductive Mode where
  | reset | boot | configure | join | active | standby | degraded | handover | maintenance | failsafe | doze | shutdown
deriving DecidableEq, Repr

/-- The mode's code in MODE (R58). -/
def Mode.code : Mode → Nat
  | .reset => 0 | .boot => 1 | .configure => 2 | .join => 3 | .active => 4 | .standby => 5
  | .degraded => 6 | .handover => 7 | .maintenance => 8 | .failsafe => 9 | .doze => 10 | .shutdown => 11

/-- Why the machine stops. No meaning of this model answers with it: every command of the table has an effect the spec
gives, so the one reason is kept only because a step may stop by its type. Safe: a stop proves nothing false. -/
inductive Fault where
  /-- Raised by no meaning. Safe. -/
  | unreachable
deriving DecidableEq, Repr

/-- Why a command has no meaning in the model. -/
inductive Refusal where
  /-- Raised by an arm of `exec` whose command has no meaning yet, by its mnemonic. Safe. -/
  | notModelled (mnemonic : String)
deriving DecidableEq, Repr

/-- A transaction's answer: the data of a response, or an abort code (R35, R56). -/
inductive Resp where
  | ok (data : List Byte)
  | abort (code : Nat)
deriving DecidableEq, Repr

/-- Event records the chapters name (they carry ST32 and the fields the chapter lists). -/
inductive Event where
  | commitOutcome | groupFailure | lateConfirm | timeStep | timeStatus | calendar | topology | switchover
  | leapSecond | service | update | keyEvent | lifeCycle | bist | feed | efuse | csw | goose | sv | can | other
deriving DecidableEq, Repr

/-- The model's record of what the hub sends or shows outside (an output list of the model's own). -/
inductive Output where
  /-- A session response or its abort. -/
  | response (path : Path) (ident sess tag cmd : Nat) (r : Resp)
  /-- A frame's header leaves port `p` cut-through; its trailer follows. -/
  | ringHeader (p : Port) (h : Hdr)
  /-- The trailer of the cut-through frame named leaves port `p`. -/
  | ringTrailer (p : Port) (source cls seq : Nat) (trailer : W32)
  /-- A whole frame leaves port `p`. -/
  | ringFrame (p : Port) (f : Frame) (trailer : W32)
  /-- An ordered set of R100: 1 KEEP, 2 SUSPEND, 3 RESUME. -/
  | ordered (p : Port) (d3 : Nat)
  /-- A station Ethernet frame, by station port. -/
  | station (port : Nat) (bytes : List Byte)
  /-- Bytes answered to a register, window or fabric access. -/
  | data (c : Ctx) (bytes : List Byte)
  /-- An access refused or failed, with its abort code (R56). -/
  | failed (c : Ctx) (code : Nat)
  /-- A message-signalled interrupt vector (R383). -/
  | msix (vector : Nat)
  /-- An event record. -/
  | event (e : Event) (st32 : Nat) (args : List Nat)
  /-- A frame of the maintenance UART, with its flags and escapes (R43). -/
  | uart (bytes : List Byte)
  /-- A UDP datagram of a session path to an IPv4 address and port, from a UDP port (R43, R60). -/
  | datagram (ident source : Nat) (bytes : List Byte)
  /-- A CAN frame or remote action on a controller. -/
  | can (ctl : Nat) (bytes : List Byte)
  /-- A block on the pair link (R475). -/
  | pairLink (kind : Nat) (bytes : List Nat)
  /-- A packet or reading produced into a channel's telemetry, or a core message. -/
  | note (what : Nat) (args : List Nat)
deriving DecidableEq, Repr

/-! ### Object dictionary, sessions and commit (R28–R60) -/

/-- One staged value: the entry it names and its value (R49). `item` is the selected item, 0 for a global entry. -/
structure Staged where
  index : Nat
  sub : Nat
  item : Nat
  v : Val
deriving DecidableEq, Repr

/-- A transaction that arrives in segments (R38): what its header names, the bytes so far, and the edge of its last segment. -/
structure Seg where
  tag : Nat
  cmd : Nat
  index : Nat
  sub : Nat
  data : List Byte
  since : Nat
deriving DecidableEq, Repr

/-- One of the 32 sessions (R37, R44–R47). `own` holds the per-session objects, by entry key. -/
structure Session where
  isOpen : Bool := false
  /-- The challenge whose answer is awaited, and since when (R45). -/
  challenge : Option (List Byte) := none
  since : Nat := 0
  role : Nat := 0
  path : Path := .ring
  ident : Nat := 0
  /-- The CAN identifier base and the UDP port in force at its open (R60). -/
  base : Nat := 0
  port : Nat := 0
  lastUsed : Nat := 0
  staging : List Staged := []
  /-- The configuration epoch at the set's first entry (R49). -/
  epoch : Nat := 0
  own : Tab Nat := []
  /-- LABEL and CONTEXT (0x8002:05–06), per session. -/
  label : List Byte := []
  context : List Byte := []
  /-- The transaction being served, and those that wait behind it with their data, in the order of arrival (R39). -/
  serving : Option Txn := none
  waiting : List (Txn × List Byte) := []
  segs : List Seg := []
deriving DecidableEq, Repr

/-- Failed opens of one path, and its lock (R45). -/
structure PathAuth where
  failures : List Nat := []
  locked : Bool := false
deriving DecidableEq, Repr

/-- A transaction's bytes as they arrive on a path: the path, the identity it gives, the UDP port or CAN identifier base they came by, and the
header with its data (R35, R37, R60). -/
structure Arrival where
  path : Path
  ident : Nat
  via : Nat := 0
  bytes : List Byte
deriving DecidableEq, Repr

/-- When a commit applies (R53). -/
inductive When where
  | now
  | wt (ns : Nat)
  | cycle (tracker cy : Nat)
deriving DecidableEq, Repr

/-- The hub's single pending commit (R54). -/
structure PendingCommit where
  owner : Option Nat
  set : List Staged
  epoch : Nat
  at_ : When
  /-- The frozen apply instant on the local time base, once frozen (R251, R289). -/
  frozen : Option Nat := none
  /-- For a cycle boundary: the target phase and the instant as last computed (R289). -/
  phiT : Int := 0
  fire : Nat := 0
deriving DecidableEq, Repr

/-- Sessions, staging and commit. `changed` gives the epoch of the last commit that changed an entry (R50). -/
structure Dict where
  sessions : Tab Session := []
  paths : Tab PathAuth := []
  /-- Requests that have arrived whole on the ring, a CAN controller or station Ethernet and are not served yet, oldest first. -/
  inbox : List Arrival := []
  /-- Opens that were not confirmed within 5 s, by session number: the path and identity that may still answer (R45). -/
  expired : Tab (Option (Path × Nat)) := []
  pendingCommit : Option PendingCommit := none
  lastApply : Option Nat := none
  changed : Tab Nat := []
  /-- A set applied whose C-class entries have not reached the configuration store yet (R51, R431). -/
  toStore : Option (List Staged) := none
deriving DecidableEq, Repr

/-- The latches and selections of one register context (R41, R203, R239, R275, R297, R526). -/
structure RegCtx where
  chSel : Nat := 0
  engSel : Nat := 0
  canSel : Nat := 0
  /-- The CH_OUT sample taken by a read of CH_IN (R203). -/
  chOut : Option Nat := none
  calSel : Nat := 0
  calResult : Nat := 0
  wtSecHi : Nat := 0
  wtNs : Nat := 0
  wtFrac : Nat := 0
  trkCy : Tab Nat := []
  efHi : Tab Nat := []
deriving DecidableEq, Repr

/-! ### Fault collection (R448–R467) -/

/-- The first-error record (R451, R452). -/
structure FirstErr where
  valid : Bool := false
  overflow : Bool := false
  fromReset : Bool := false
  cls : Nat := 0
  source : Nat := 0
  st32 : Nat := 0
  syndrome : Nat := 0
  address : Nat := 0
  merged : Nat := 0
deriving DecidableEq, Repr

/-- One record of the fault-record queue (R458), field by field. -/
structure FaultRec where
  typ : Nat
  b1 : Nat
  b2 : Nat
  w4 : Nat
  w8 : Nat
  w12 : Nat
deriving DecidableEq, Repr

/-- The collector's state (R455). -/
inductive FcState where
  | normal | faulted | held
deriving DecidableEq, Repr

/-- The fault collector. `reacting` lists the reaction codes in progress since the recorded error (R454). -/
structure Collector where
  first : FirstErr := {}
  reacting : List (Nat × Nat) := []
  clearAfter : Bool := false
  state : FcState := .normal
  /-- Instants of the last recoveries (R457). -/
  recoveries : List Nat := []
  /-- Level conditions now reported: source and resource (R455). -/
  levels : List (Nat × Nat) := []
  quietSince : Nat := 0
  /-- The hub entered FAILSAFE by reaction code 4 or 5 (R455). -/
  byReaction : Bool := false
  /-- A fatal report has arrived since the last recovery (R471). -/
  fatal : Bool := false
  /-- The fault-record queue by queue position, counted from reset, and the next position (R458). -/
  queue : Tab FaultRec := []
  next : Nat := 0
  rcCorr : Nat := 0
  rcCont : Nat := 0
  rcFatal : Nat := 0
  testNext : Nat := 0
  scrubOnTime : Bool := true
  /-- The on-chip pass under way has run more than 2 s late (R462). -/
  passLate : Bool := false
  /-- Addresses corrected in the last passes, for the hard-error rule (R461). -/
  lastCorrected : List (List Nat) := []
  lastCorrectedDram : List (List Nat) := []
deriving DecidableEq, Repr

/-! ### Modes, reset and start-up (R61–R82) -/

/-- The sub-steps of SHUTDOWN (R80). -/
inductive ShutStep where
  | none | quiesce | flush | leave | bist | halted
deriving DecidableEq, Repr

/-- Mode, reset and start-up state. `causes` are the reset causes of the reset that lasts, each with its
edge. -/
structure Modes where
  mode : Mode := .reset
  prev : Mode := .reset
  entrySt32 : Nat := 0
  entryAt : Nat := 0
  /-- The output-enable override holds outputs at park (R61). -/
  override : Bool := true
  transit : Bool := false
  causes : List (Nat × Nat) := [(1, 0)]
  resetCause : Nat := 1
  warm : Bool := false
  modeSel : Nat := 0
  pairId : Bool := false
  /-- MODE_SEL acts as 0b11 for this start-up (R71). -/
  recovery : Bool := false
  pllLocked : Bool := false
  repairDone : Bool := false
  ddrReady : Bool := false
  headerOk : Option Nat := none
  triedImages : List Nat := []
  pcieReady : Bool := false
  /-- The configuration has been loaded at this start (R74). -/
  cfgLoaded : Bool := false
  dramInit : Bool := false
  dozeFrom : Mode := .active
  /-- A wake event has begun the wake sequence (R79). -/
  waking : Bool := false
  shut : ShutStep := .none
  shutWarned : Bool := false
  shutWaiting : Bool := false
  /-- The edge at which the leave announcement went out (R80). -/
  leaveAt : Nat := 0
  /-- The links in low-power idle (R77, R83): 0 and 1 the ring ports A and B, 2 and 3 the station ports. -/
  lpi : List Nat := []
  /-- Causes of DEGRADED now present: 0 ring, 1 partner, 2 feed, 3 resource retired, 4 store protected, 5 join timeout. -/
  degraded : List Nat := []
  refclkOk : Bool := false
  plls : List Nat := []
  railBad : Bool := false
  /-- Reset reaches 70 ms (R99): counted from here. -/
  resetEndAt : Nat := 0
deriving DecidableEq, Repr

/-! ### Rovegil ring (R83–R125) -/

/-- How a received frame is delivered locally. -/
inductive Lcl where
  | none            -- not delivered here
  | spec (g : Nat)  -- items entered speculatively under tag `g`
  | trailer         -- delivered when trailer and tag are good
  | link            -- link-local time or supervision frame
  | copy            -- same SEQ still unconfirmed from the other port (R110)
deriving DecidableEq, Repr

/-- A frame whose header has been received and whose trailer has not. -/
structure RxFrame where
  f : Frame
  /-- Instant of the first header bit, in 0.1 ns (R152). -/
  th : Nat
  egress : Option Port := none
  /-- Begun cut-through (R128). -/
  cut : Bool := false
  lcl : Lcl := .none
  /-- The egress towards the local unit was idle at the header, so the frame needs no queue there (R128, R129). -/
  through : Bool := false
  /-- Suspended upstream, and not yet resumed (R102). -/
  upSusp : Bool := false
  /-- The on-chip cells it holds in flight (R130). -/
  cells : List Nat := []
deriving DecidableEq, Repr

/-- What a port knows of its neighbour from HELLO (R84, R111). -/
structure Nbr where
  node : Nat
  pairMember : Bool
  pairId : Bool
  pairAddr : Nat
  serial : Nat
deriving DecidableEq, Repr

/-- An own planned outage of a port (R117): a recalibration or a retrain. -/
inductive OutageStage where
  | deferred | announced | active
deriving DecidableEq, Repr

structure Outage where
  recal : Bool
  stage : OutageStage
  since : Nat
  /-- The die temperature that asked for a recalibration (R122). -/
  temp : Int := 0
deriving DecidableEq, Repr

/-- A planned outage that the neighbour announced (R116, R120): its lead and bound in µs, the edge of the notice, whether it is a retrain,
and whether this end has left ring service for it. A LEAVE has bound 0: none. -/
structure Planned where
  bound : Nat
  lead : Nat
  since : Nat
  retrain : Bool
  out : Bool := false
deriving DecidableEq, Repr

/-- A time dataset (R254, R255): the fields compared, then what it carries along. -/
structure DataSet where
  p1 : Nat := 128
  cls : Nat := 248
  acc : Nat := 0xFE
  var : Nat := 0xFFFF
  p2 : Nat := 128
  root : Nat
  steps : Nat := 0
  kind : Nat := 0
  /-- [0] leap 61, [1] leap 59, [2] UTC offset valid. -/
  flags : Nat := 0
  utc : Int := 0
  inacc : Nat := 0xFFFFFFFF
deriving DecidableEq, Repr

/-- One ring port. -/
structure RingPort where
  up : Bool := false
  trained : Bool := false
  training : Bool := false
  synth : Bool := false
  helloOk : Bool := false
  nbr : Option Nbr := none
  delayMeas : Nat := 0
  /-- The last 8 valid delay measurements, newest first, in 2^-8 ns (R256). -/
  delays : List Int := []
  /-- The request that awaits its response: its SEQ, t1 in 2^-32 ns and its instant (R256). -/
  pdelay : Option (Nat × Nat × Nat) := none
  /-- Steps removed and instant of the last SYNC from the root (R257). -/
  lastSync : Option (Nat × Nat) := none
  /-- When a request was last due (R256). -/
  pdelayAt : Option Nat := none
  /-- The datasets received here, one of each root, with their instants (R254). -/
  rxData : List (DataSet × Nat) := []
  /-- ANNOUNCE periods seen without a duplicate of the own node number (R112). -/
  clean : Nat := 0
  joined : Bool := false
  /-- The planned outage that the neighbour announced (R116). -/
  planned : Option Planned := none
  outage : Option Outage := none
  rx : List RxFrame := []
  /-- The frame being sent, and a suspended frame with its payload offset (R101). -/
  tx : Option Hdr := none
  suspended : Option (Hdr × Nat) := none
  /-- The trailer of the suspended frame, when its reception ended meanwhile (R102). -/
  suspEnd : Option W32 := none
  /-- Retrains within the last hour without the margin recovering, and the last retrain of all (R120). -/
  retrains : List Nat := []
  lastRetrain : Option Nat := none
  autoStopped : Bool := false
  /-- Errored blocks and CRC errors within the last second (R119). -/
  errTimes : List Nat := []
  vert : Nat := 0
  horiz : Nat := 0
  /-- Announce periods since the own ANNOUNCE returned through this port (R114). -/
  ownSeen : Option Nat := none
  /-- Die temperature at the last calibration of the synthesiser band; none before the first lock (R122). -/
  calTemp : Option Int := none
  /-- The last HELLO on this port came from the partner: kept while the link is down (R85). -/
  partner : Bool := false
  /-- When training last failed (R118), and when the port last sent something (R100). -/
  failedAt : Option Nat := none
  quietAt : Option Nat := none
deriving DecidableEq, Repr

/-- One entry of the duplicate-discard table (R109). -/
structure DupEntry where
  valid : Bool := false
  newest : Nat := 0
  map : BitVec 64 := 0
  last : Nat := 0
deriving DecidableEq, Repr

/-- A frame complete for the switch that the hub will originate (R549); `src` is its switch ingress port. -/
structure Orig where
  hdr : Hdr
  payload : List Byte
  src : Nat
  /-- Fixed egress for link-scope frames. -/
  port : Option Port := none
  /-- Of a relayed SYNC: the wide time of its reception (R257). -/
  rxAt : Option Nat := none
  /-- The remote access and its part that the frame carries. -/
  remote : Option (Nat × Nat) := none
deriving DecidableEq, Repr

/-- Who waits for a remote access: a session transaction or a host access (R40, R382). -/
inductive Asker where
  | session (n : Nat)
  | host (id : Nat)
deriving DecidableEq, Repr

/-- A remote fabric access in parts (R92, R173, R174): the node and address, its parts, the SEQ of each part sent, the edge of the
last sending, and the answer status and read bytes of each answered part. -/
structure Remote where
  id : Nat
  who : Asker
  write : Bool
  node : Nat
  addr : Nat
  len : Nat
  parts : Nat
  seqs : Tab (Option Nat) := []
  sentAt : Option Nat := none
  answers : Tab (Option Nat) := []
  bytes : Tab (List Byte) := []
deriving DecidableEq, Repr

/-- One node of the ring map (R112). -/
structure MapEnt where
  award : Nat := 0xFF
  bward : Nat := 0xFF
  lineEnd : Bool := false
  planned : Bool := false
  /-- The pair address that the node announced (R85, R111). -/
  pairAddr : Nat := 0xFF
deriving DecidableEq, Repr

/-- What the first copy of an own frame carried when it left (R86, R411): ORIGIN_ST32, key slot and tag; or that it was discarded. -/
structure Stamp where
  st32 : Nat
  slot : Nat := 0
  tag : List Byte := []
  gone : Bool := false
deriving DecidableEq, Repr

/-- The ring unit. -/
structure Ring where
  a : RingPort := {}
  b : RingPort := {}
  dup : Tab DupEntry := []
  /-- Next SEQ per class (R99). -/
  seqs : Tab Nat := []
  /-- Duplicated frames of which a copy has left, by 65 536 × CLASS + SEQ (R86). -/
  stamps : Tab (Option Stamp) := []
  /-- Relayed SYNCs that have not left yet, by class and SEQ: the wide time of their reception (R257). -/
  relays : Tab (Option Nat) := []
  /-- Class-7 token bucket, in 1/2000 byte: C7_RATE in Mbit/s adds that many per 4 ns (R98). -/
  bucket : Int := 224 * 2000
  bucketAt : Nat := 0
  c7wait : List Orig := []
  /-- Originations per class within the last 64 ms (R98). -/
  sentTimes : Tab (List Nat) := []
  origOn : Bool := false
  orig : List Orig := []
  map : Tab MapEnt := []
  /-- Unplanned link-down events outstanding: node and port (R114). -/
  down : List (Nat × Nat) := []
  linkQ : List (Port × Frame) := []
  /-- Frames delivered to their serving unit and not yet served. -/
  delivered : List Frame := []
  copies : List (Port × RxFrame) := []
  topoNo : Nat := 0
  /-- When HELLO, ANNOUNCE and TIME_ANNOUNCE were last due (R111, R254). -/
  helloAt : Option Nat := none
  annAt : Option Nat := none
  timeAnnAt : Option Nat := none
  /-- When another hub last announced a planned outage, and its node (R117). -/
  otherOutage : Option (Nat × Nat) := none
  /-- NODE_NUMBER in force since reset (R85). -/
  node : Nat := 0
  dupNode : Bool := false
  remotes : List Remote := []
  nextId : Nat := 0
deriving DecidableEq, Repr

/-! ### Switch, buffers and DRAM (R126–R149) -/

/-- What a switch cell list holds: a ring frame, or a station Ethernet frame with its descriptor (R126): for a frame that goes to a
tunnel, the tunnel and ST32 of its ingress. -/
inductive Pkt where
  | ring (f : Frame)
  | eth (bytes : List Byte) (tunnel : Option (Nat × Nat) := none)
  /-- A station frame known by its fields, whose bytes its own standard fixes (R258, R299): EtherType, which one, octets, fields. -/
  | firm (what n len : Nat) (body : List Nat)
deriving DecidableEq, Repr

/-- A queued frame with its cells, ingress port and whether its sending has begun. -/
structure QFrame where
  pkt : Pkt
  cls : Nat
  colour : Nat
  src : Nat
  n : Nat
  cells : List Nat
  sending : Bool := false
  /-- Of a transit frame: its first header bit, in 0.1 ns, and its receiving port (R94). -/
  rx : Option (Nat × Port) := none
deriving DecidableEq, Repr

/-- One egress queue (R127, R132, R137). -/
structure Queue where
  onchip : List QFrame := []
  kennel : List QFrame := []
  /-- Read back and not yet sent. -/
  returned : List QFrame := []
  spilled : Bool := false
  avg : Rat := 0
  emptySince : Nat := 0
  counts : List Nat := [0, 0, 0]
  deficit : Nat := 0
deriving DecidableEq, Repr

/-- A cell's descriptor (R130) and audit marks (R140). Owner 0–55 queue, 0x38 return pool, 0x39 in flight, 0x3F free. -/
structure Cell where
  owner : Nat := 0x3F
  gen : BitVec 4 := 0
  suspect : Bool := false
  suspectGen : BitVec 4 := 0
deriving DecidableEq, Repr

/-- A frame at the switch's ingress, with its egress port. -/
structure InFrame where
  pkt : Pkt
  cls : Nat
  colour : Nat
  src : Nat
  dst : Nat
  /-- Of a transit frame: its first header bit, in 0.1 ns, and its receiving port (R94). -/
  rx : Option (Nat × Port) := none
  /-- The cells it holds in flight (R130). -/
  cells : List Nat := []
deriving DecidableEq, Repr

/-- A pending DRAM request with its stamp and ancient mark (R143): `ancient` orders the marks. -/
structure ArbReq where
  r : DramReq
  stamp : Nat
  ancient : Option Nat := none
deriving DecidableEq, Repr

/-- The switch, its buffers and the DRAM arbiter. -/
structure Switch where
  queues : Tab Queue := []
  cells : Tab Cell := []
  /-- Cells returned to the free list, and the first cell never yet taken. -/
  freed : List Nat := []
  fresh : Nat := 0
  /-- Spill cells returned, and the first spill cell never yet taken. -/
  spillFreed : List Nat := []
  spillFresh : Nat := 0
  ingress : List InFrame := []
  held : List InFrame := []
  turn : Tab Nat := []
  kennelLow : Bool := false
  kennelMiB : Nat := 256
  slice : Nat := 0
  rcReclaimed : Nat := 0
  /-- A walk of the audit is in progress, when the last began, and the cells that moved meanwhile (R140). -/
  walking : Bool := false
  walkAt : Option Nat := none
  journal : List Nat := []
  /-- Policer buckets: tokens tc and tp and the last refill, by policer (R139). -/
  police : Tab (Nat × Nat × Nat) := []
  reqs : List ArbReq := []
  grant : Option ArbReq := none
  marks : Nat := 0
  ddrRate : Nat := 0
  trained : Bool := false
  selfRefresh : Bool := false
  refresh2x : Bool := false
  eccErr : Bool := false
  eccAddr : Nat := 0
  /-- DRAM words known to be uncorrectable, by offset / 4 (R146). -/
  badWords : List Nat := []
deriving DecidableEq, Repr

/-! ### Shutter and channels (R150–R203) -/

/-- A channel item (R177). `unc` is the speculation tag while the frame is unresolved; `grp` the commit group and
instance of a group packet. -/
structure Item where
  unc : Option Nat := none
  sop : Bool := false
  eop : Bool := false
  kind : Nat := 0
  data : W24 := 0
  grp : Option (Nat × Nat) := none
deriving DecidableEq, Repr

/-- One channel: its items, the number at the front that a speculating engine holds, and packet state. -/
structure Chan where
  items : List Item := []
  held : Nat := 0
  /-- Of the held items, those of an engine that has parked or been muted: they go when their frame is resolved (R154, R164, R169). -/
  taken : Nat := 0
  inPacket : Bool := false
  /-- Held items that the newest hinge record of a core endpoint covers, and its packet state there (R337). -/
  covered : Nat := 0
  coveredIn : Bool := false
  quarantined : Bool := false
  itemsIn : Nat := 0
  itemsOut : Nat := 0
  hwm : Nat := 0
  hwmRc : Nat := 0
  /-- The consumer's present wait has already counted its underrun (R191). -/
  waited : Bool := false
  retired : Bool := false
  telemetry : Option (List Item) := none
deriving DecidableEq, Repr

/-- Who waits for a held window write (R187, R398): nobody, the host with its fabric address, a session's transaction, or a fabric
write part of a node with its SEQ, part number and part count. -/
inductive Waiter where
  | none
  | host (addr : Nat)
  | session (n : Nat)
  | node (n seq part count : Nat)
deriving DecidableEq, Repr

/-- Items of a ring delivery that wait for space in a full channel (R156, R187). -/
structure HeldDel where
  cls : Nat
  ch : Nat
  items : List Item
  since : Nat
  who : Waiter := .none
deriving DecidableEq, Repr

/-- A lock group (R195). -/
structure Lock where
  running : Bool := false
  starting : Bool := false
  parkedStarts : Nat := 0
  /-- The start that is under way is a barrier completion (R166). -/
  barrier : Bool := false
  /-- The starting event's edge (R195). -/
  since : Nat := 0
deriving DecidableEq, Repr

/-- An open speculation tag (R150, R152): the frame's key and its latest confirmation instant in 0.1 ns. -/
structure SpecTag where
  source : Nat
  cls : Nat
  seq : Nat
  port : Port
  deadline : Nat
deriving DecidableEq, Repr

/-- A group frame neither released nor failed (R171). -/
structure GroupRun where
  g : Nat
  inst : Nat
  /-- First header bit, in 0.1 ns. -/
  th : Nat
  /-- The speculation tag of its frame while the frame is unresolved. -/
  tag : Option Nat
  confirmed : Bool
  armed : List Nat := []
deriving DecidableEq, Repr

/-- The Shutter (R150–R176). -/
structure Shutter where
  tags : Tab (Option SpecTag) := []
  groups : List GroupRun := []
  nextInst : Nat := 0
  gfailValid : Bool := false
  gfailGroup : Nat := 0
  gfailCodes : Nat := 0
  gfailSt32 : Nat := 0
deriving DecidableEq, Repr

/-! ### Pin engines and banks (R204–R247) -/

/-- Engine states (R232). -/
inductive EngState where
  | stopped | running | parked | groupIdle | retired
deriving DecidableEq, Repr

/-- Shutter states of an engine (R165). -/
inductive ShState where
  | direct | speculating | draining | groupHeld | calendarHeld | muted
deriving DecidableEq, Repr

/-- The part of an engine's state that a checkpoint holds (R158). -/
structure EngRegs where
  pc : Nat := 0
  osr : W24 := 0
  osrCnt : Nat := 24
  isr : W24 := 0
  isrCnt : Nat := 0
  x : W24 := 0
  y : W24 := 0
  wrapBot : Nat := 0
  wrapTop : Nat := 1023
  wrapPend : Option (Nat × Nat) := none
deriving DecidableEq, Repr

/-- A checkpoint: the registers, the tag of the item that caused it (none for a confirmed group item), the group
packet's instance if it is one, and how many entries were staged before it. -/
structure Ckpt where
  regs : EngRegs
  tag : Option Nat
  grp : Option (Nat × Nat)
  staged : Nat
deriving DecidableEq, Repr

/-- A pin write: the pins whose value and whose direction are written, and what is written. -/
structure PinWrite where
  vMask : W48 := 0
  v : W48 := 0
  dMask : W48 := 0
  d : W48 := 0
deriving DecidableEq, Repr

/-- A staging entry (R160): the tick it was made on, its pin writes, and whether it took the reserved entry. -/
structure StageEnt where
  off : Nat
  w : PinWrite
  reserved : Bool := false
deriving DecidableEq, Repr

/-- One pin engine (R207). `tick` counts its ticks; staging offsets are ticks. -/
structure Engine where
  st : EngState := .stopped
  r : EngRegs := {}
  cnt : W24 := 0
  cmp : W24 := 0
  f : Bool := false
  item : BitVec 7 := 64
  edge : Nat := 0
  cap : W24 := 0
  cmpLatch : Bool := false
  matched : Bool := false
  strobes : BitVec 8 := 0
  cals : BitVec 32 := 0
  out : W48 := 0
  dir : W48 := 0
  acc : Nat := 0
  divInt : Nat := 1
  divFrac : Nat := 0
  tick : Nat := 0
  waiting : Bool := false
  parkCause : Nat := 0
  parkPc : Nat := 0
  parkSt32 : Nat := 0
  sh : ShState := .direct
  ckpt : Option Ckpt := none
  staging : List StageEnt := []
  /-- Ticks between an entry's offset and its replay, while draining (R161). -/
  shift : Nat := 0
  /-- The engine has pulled its group packet's EOP item (R171). -/
  gotEop : Bool := false
  barrier : Bool := false
  /-- Levels a pin of park state hold shows under the override (R234). -/
  holdOut : W48 := 0
  holdDir : W48 := 0
  /-- Readback (R235): the edge of its next comparison, the driven pins and their levels one and two ticks ago, and for each pin the ticks
  in a row on which the comparison has failed. -/
  rbAt : Nat := 0
  rb1 : W48 × W48 := (0, 0)
  rb2 : W48 × W48 := (0, 0)
  rbFails : Tab Nat := []
  /-- The tick at which a SYNC restart executed (R226). -/
  syncAt : Option Nat := none
  /-- The armed edge capture: pin, level, and the ST32 of the first sample that shows it (R216). -/
  capture : Option (Nat × Bool × Option Nat) := none
deriving DecidableEq, Repr

/-- A cluster: its flags, the stall count since the last read, the instruction-memory read address, the addresses of uncorrectable
words (R237), and the channel-RAM grants (R222): the 20 ns in progress, the items moved in it, the engine last granted, and the engines that
wait with the items they ask for. -/
structure Cluster where
  flags : BitVec 8 := 0
  stall : Nat := 0
  imAddr : Nat := 0
  badWords : List Nat := []
  win : Nat := 0
  used : Nat := 0
  last : Nat := 15
  wants : List (Nat × Nat) := []
deriving DecidableEq, Repr

/-- A bank's monitor and its pads (R240–R246): the sensed class and the consecutive mismatches; at the present edge the level outside each
pin, the pins that something outside drives and those at which it overcomes the hub's own driver; the pad at this edge and the two
synchroniser stages behind it (R209); the filtered level, and the edges at which the filter runs began. -/
structure Bank where
  seen : Nat := 0
  mismatches : Nat := 0
  unpowered : Bool := true
  matchSince : Option Nat := none
  ext : BitVec 24 := 0
  known : BitVec 24 := 0
  wins : BitVec 24 := 0
  pad : BitVec 24 := 0
  sync1 : BitVec 24 := 0
  sync2 : BitVec 24 := 0
  filt : BitVec 24 := 0
  since : Nat := 0
  runs : Tab Nat := []
deriving DecidableEq, Repr

/-! ### Time (R249–R275) -/

/-- Time-lock status (R262). -/
inductive TimeStatus where
  | free | acquiring | locked | holdover
deriving DecidableEq, Repr

/-- A station PTP port (R258): its portState code, the link delay, a two-step Sync that awaits its Follow_Up (SEQ, receive
instant and correction), a peer-delay request in progress, what its last Announce said, and instants of receipt. -/
structure PtpPort where
  state : Nat := 1
  delay : Int := 0
  sync : Option (Nat × Nat × Int) := none
  pdelay : Option (Nat × Nat) := none
  /-- A two-step response that awaits its follow-up: its reception, t2 and its correction in 2^-32 ns. -/
  resp : Option (Nat × Nat × Int) := none
  seq : Nat := 0
  /-- The alternate time offset that the grandmaster last announced under C37.238. -/
  atoi : List Int := []
  /-- Dataset fields, grandmaster identity, sender identity, and when received. -/
  foreign : Option (List Nat × Nat × Nat) := none
  data : Option DataSet := none
deriving DecidableEq, Repr

/-- The time unit. `ltb` is the local time base in 4 ns edges; `wt` wide time, and `theta`, in 2^-32 ns; `i`, `y` are rates. -/
structure Time where
  ltb : Nat := 0
  wt : Nat := 0
  incr : Nat := 4 * 2 ^ 32
  status : TimeStatus := .free
  theta : Int := 0
  i : Rat := 0
  y : Rat := 0
  /-- The last 64 values of `y`, newest first (R263). -/
  ys : List Rat := []
  /-- Sign of the slew term (R261). -/
  slew : Int := 0
  /-- Accepted samples from the present reference and since the last step, at most 2 (R259); whether none has come from the present
  reference (R260, R264), and whether none since reset (R261). -/
  seen : Nat := 0
  newRef : Bool := true
  virgin : Bool := true
  lastSample : Option Nat := none
  overs : Nat := 0
  lockRun : Nat := 0
  unlockRun : Nat := 0
  /-- Inaccuracy in ns at the loss, and the edge of the loss (R263). -/
  inacc : Nat := 0xFFFFFFFF
  heldAt : Nat := 0
  root : Nat := 0xFF
  steps : Nat := 0xFF
  rootCls : Nat := 248
  syncPort : Option Port := none
  gm : Option DataSet := none
  leap : Nat := 0
  /-- When the pending leap second takes effect: the PTP second (R270). -/
  leapAt : Option Nat := none
  /-- Last accepted PPS edge in 2^-32 ns, its label, and the last label given (R269). -/
  pps : Option Nat := none
  ppsCap : Nat := 0
  ppsLabel : Option Nat := none
  /-- PPS_TOD as written, with its edge (R269). -/
  tod : Option (Nat × Nat) := none
  /-- IRIG-B elements gathered, (stamp, code), the last good frame's time, and the last accepted edge (R270). -/
  irig : List (Nat × Nat) := []
  irigPrev : Option Nat := none
  irigAt : Option Nat := none
  /-- PPS_OUT's level, and whether a step has moved its next edge (R271). -/
  ppsOut : Bool := false
  ppsOdd : Bool := false
  /-- The second whose edge PPS_OUT last dealt with, its frozen grid edge, whether a step has passed an unfrozen one, and the edge at which it
  rose (R251, R271). -/
  ppsIdx : Int := -1
  ppsFrozen : Option Nat := none
  ppsDue : Bool := false
  ppsRise : Nat := 0
  /-- The edge of the last accepted, labelled second (R269). -/
  ppsOkAt : Option Nat := none
  /-- How wide time ran over the last 2^31 ns (R277): the edge, the wide time and the INCR from which each stretch ran, newest first. -/
  segs : List (Nat × Nat × Nat) := [(0, 0, 17179869184)]
  /-- When the root last sent SYNC (R257). -/
  syncAt : Option Nat := none
  /-- The last multiple of 2^31 ns that has its marker (R265). -/
  markAt : Nat := 0
  /-- Frozen grid edges of strobe lines, oldest first, the wide time from which their schedules go on, and lines whose next interval is
  irregular (R251, R272). -/
  strobeFrozen : Tab (List Nat) := []
  strobeFrom : Tab Nat := []
  strobeOdd : BitVec 8 := 0
  ptp1 : PtpPort := {}
  ptp2 : PtpPort := {}
deriving DecidableEq, Repr

/-! ### Pair (R468–R489) -/

/-- States of the Leash claim (R472). -/
inductive Claim where
  | idle | seeking | held | backoff
deriving DecidableEq, Repr

/-- A switchover in progress (R486): 1 commanded, 2 Heel, 3 without sync, 5 update fallback; the session that asked; the edge of
the release; whether this hub was the active one; the mode to go back to. -/
structure Swap where
  kind : Nat
  session : Option Nat
  released : Option Nat := none
  mine : Bool
  back : Mode
deriving DecidableEq, Repr

/-- A mirror record sent and not acknowledged (R475): its sequence, record and the edge of its last sending. -/
structure Mirror where
  seq : Nat
  r : MirrorRec
  at_ : Nat
deriving DecidableEq, Repr

/-- The pair unit. Partner fields hold what its last status block or bark said. -/
structure Pair where
  claim : Claim := .idle
  /-- Edge at which the present claim state began. -/
  since : Nat := 0
  /-- LEASH_IN toggles; edge of its last edge and of the first of the present run (R470). -/
  leashIn : Bool := false
  lastEdge : Nat := 0
  runStart : Nat := 0
  /-- The own toggle reads back at the ball (R470). -/
  readback : Bool := true
  link : Bool := false
  goodRun : Nat := 0
  crcErr : Nat := 0
  /-- Edges of CRC failures within the last 1 ms. -/
  crcTimes : List Nat := []
  lastGood : Nat := 0
  node : Nat := 0xFF
  mode : Nat := 0xFF
  pClaim : Bool := false
  pPlanned : Bool := false
  pFit : Bool := false
  pSync : Bool := false
  pHash : Nat := 0
  /-- No mirrored record has been refused or missed since the last transfer (R476–R478). -/
  whole : Bool := true
  planned : Bool := false
  txSeq : Nat := 0
  statSeq : Nat := 0
  out : List Mirror := []
  rxSeq : Nat := 0
  /-- A mirrored commit that waits for its instant, in ns (R477); on the active, whether it has been acknowledged. -/
  commit : Option (List Staged × Nat) := none
  commitSeq : Nat := 0
  /-- The session whose commit waits for its mirrored instant, on the active. -/
  commitBy : Option Nat := none
  /-- Edge of the last release of a held claim: the drivers follow it two edges later (R474). -/
  freed : Option Nat := none
  /-- Pins of pair-gated banks that disagree with the active's, by bank × 24 + pin, since which edge (R482). -/
  shSince : Tab Nat := []
  /-- Edge of the last bark sent (R483). -/
  barkSent : Option Nat := none
  shValid : Bool := false
  shEf : Bool := false
  shBank : Nat := 0
  shPin : Nat := 0
  shSt : Nat := 0
  barkAt : Option Nat := none
  bark : List Byte := []
  lost : Bool := false
  rounds : Nat := 0
  swap : Option Swap := none
  /-- The edge of the commanded switchover that made this hub active on an image it has just been updated to (R443). -/
  newAt : Option Nat := none
  /-- Newest hinge records mirrored for each service and not yet adopted (R479). -/
  adopt : Tab (Option Hinge) := []
deriving DecidableEq, Repr

/-! ### Key store (R404–R421) -/

/-- One of the 64 key slots (R404–R408): state 0 empty, 1 loaded, 2 exhausted (0x8001:01). `ahead` is the stored
write-ahead count (R408) and `lastCount` the last nanosecond count used for a tag (R413). -/
structure KeySlot where
  state : Nat := 0
  key : List Byte := []
  attr : Nat := 0
  uses : Nat := 0
  ahead : Nat := 0
  lastCount : Nat := 0
deriving DecidableEq, Repr

/-- The security unit. `rootKey` is the one-time-programmable root key, which no access returns (R405); `lc` the life-cycle state
and `intent` the target of a transition under way (R418, R419). -/
structure Security where
  slots : Tab KeySlot := []
  rngOk : Bool := false
  mask : Nat := 0
  rootKey : List Byte := List.replicate 32 0
  lc : Nat := 0
  intent : Option Nat := none
deriving DecidableEq, Repr
/-! ### Phase unit and calendar (R276–R297) -/

/-- A phase tracker (R278–R281). `st` is TRK_STATE. Instants are LTB nanoseconds, the phase is in 2^-32 turn, the frequency
in 2^-17 Hz and its rate in 2^-12 Hz/s. -/
structure Tracker where
  st : Nat := 0
  tn : Int := 0
  phi : Int := 0
  f : Nat := 0
  r : Int := 0
  amp : Nat := 0
  /-- The lock conditions have held since, and over how many inputs; the amplitude, rate and residual have been bad since. -/
  goodSince : Option Int := none
  goodN : Nat := 0
  lowSince : Option Int := none
  rateSince : Option Int := none
  residSince : Option Int := none
  lastIn : Option Int := none
  /-- ST32 of the input instant of the last update (R297). -/
  lastSt : Nat := 0
  unlockedAt : Int := 0
  /-- When the last usable input came, the interval to the one before it (R280), and the last crossing of the model that has been given out
  (R295). -/
  lastAt : Int := 0
  gap : Int := 0
  crossed : Int := 0
  /-- Confirmed items of the tapped channel that no input has used yet (R181, R276). -/
  seen : List Item := []
deriving DecidableEq, Repr

/-- A calendar entry (R285, R286): its fields, state and reason, the absolute target phase in 2^-32 turn, and the firing
grid edge as last computed. -/
structure CalEntry where
  trk : Nat := 0
  cycle : Nat := 0
  angle : Nat := 0
  lead : Int := 0
  action : Nat := 0
  operand : Nat := 0
  repeat_ : Nat := 0
  tag : Nat := 0
  st : Nat := 0
  reason : Nat := 0
  phiT : Int := 0
  fire : Nat := 0
  fireSt : Nat := 0
deriving DecidableEq, Repr

/-- The phase unit. -/
structure Phase where
  trk : Tab Tracker := []
  cal : Tab CalEntry := []
deriving DecidableEq, Repr

/-! ### Station services (R298–R325) -/

/-- A signal (R308): VALUE, QUALITY and change time; the last good value and, once it is no longer good, the edge since when
(R319). -/
structure Signal where
  value : Nat := 0
  quality : Nat := 0
  changed : Nat := 0
  good : Nat := 0
  badSince : Option Nat := none
deriving DecidableEq, Repr

/-- What a log record says, but for the fields its entry fills in (R314). -/
structure LogRec where
  typ : Nat
  flags : Nat := 0
  point : Nat := 0xFFFF
  edge : Nat
  judge : Nat
  chan : Nat
  raw : Nat := 0
  step : Nat := 0
  extra : Nat := 0
deriving DecidableEq, Repr

/-- The sequence-of-events log (R314–R317): the next SEQ, the oldest SEQ still in the cache, records not yet in flash with
the edge the oldest entered, and the records in flash by SEQ. -/
structure SoeLog where
  next : Nat := 0
  /-- Records entered since the first one, so that the held range is known across a wrap of SEQ. -/
  cached : Nat := 0
  waiting : List (Nat × Nat) := []
  flash : Tab (List Byte) := []
  /-- SEQ of the records in each log sector, oldest sector first: sector number and records (R316). -/
  sectors : List (Nat × List Nat) := []
  /-- SEQ of the records (no markers) entered since the SOE service's hinge record, and those a restart will repeat (R342). -/
  since : List Nat := []
  replay : List Nat := []
  /-- A step whose marker waits (R266): its count and its edge; the unread items that each input had then, the inputs whose stamp was read
  before it, and the records that stand behind the marker. -/
  hold : Option (Nat × Nat) := none
  pre : Tab Nat := []
  olds : List Nat := []
  behind : List LogRec := []
deriving DecidableEq, Repr

/-- One pole of an operation (R321–R324): its calendar entry, release (edge, ST32), contact ST32, predicted time, residual,
whether it was cancelled, and whether a time step fell after its release. -/
structure Pole where
  entry : Option Nat := none
  fired : Option (Nat × Nat) := none
  contact : Option Nat := none
  t : Int := 0
  resid : Int := 0
  cancelled : Bool := false
  stepped : Bool := false
deriving DecidableEq, Repr

/-- A breaker (R318–R324): the operation in progress with its kind (1 close, 2 open), bands, flags of the record, margin in
µs and poles; consecutive outliers per pole; when it last operated; and the records kept, newest first. -/
structure Breaker where
  kind : Nat := 0
  /-- The pole endpoints' outputs were released without the calendar (FALLBACK 1). -/
  uncontrolled : Bool := false
  band : Nat := 0
  flags : Nat := 0
  margin : Nat := 0
  cmdSt : Nat := 0
  result : Nat := 0
  poles : List Pole := []
  outliers : List Nat := [0, 0, 0]
  lastOp : Option Nat := none
  seq : Nat := 0
  ops : List (List Byte) := []
deriving DecidableEq, Repr

/-- The station services. -/
structure Station where
  svp : Tab SvPub := []
  svs : Tab SvSub := []
  gp : Tab GoosePub := []
  gs : Tab GooseSub := []
  sig : Tab Signal := []
  soe : Tab SoeIn := []
  chatter : Tab Chatter := []
  log : SoeLog := {}
  csw : Tab Breaker := []
deriving DecidableEq, Repr
/-! ### Service cores (R326–R351) -/

/-- One service instance (R329, R341–R343): its core, SVC_STATE, its newest record in data TCM and in DRAM, the edges of its
restarts within 10 s, hinge points passed on the present image, the edge of its last hinge point, and whether it is to be
restarted with a trap code. -/
structure Svc where
  core : Nat := 0xFF
  state : Nat := 0
  tcm : Option Hinge := none
  dram : Option Hinge := none
  restarts : List Nat := []
  hinges : Nat := 0
  hingeAt : Nat := 0
  seq : Nat := 0
  trap : Option Nat := none
  /-- The restart loads its state from the DRAM copy (causes 4, or no usable slot). -/
  fromDram : Bool := false
  trapped : Bool := false
  /-- It runs on the image that the handover in progress moves to (R439). -/
  moved : Bool := false
deriving DecidableEq, Repr

/-- One logical core (R326, R340): CORE_STATE, loads in per mille, the edge of its last lockstep mismatch, its last trap
code, whether it runs the new image of a handover, and its cycle counter. -/
structure CoreSt where
  state : Nat := 0
  load10 : Nat := 0
  load1s : Nat := 0
  peak : Nat := 0
  lastMismatch : Option Nat := none
  cause : Nat := 0
  cyclesFrom : Nat := 0
  /-- The signal coprocessor (R327): four 48-bit accumulators with their sticky overflow flags, the last CORDIC result and the DFT bins; and its
  operations that have not retired, oldest first, with `none` for an unresolved branch (R334). -/
  acc : List Int := [0, 0, 0, 0]
  ovf : BitVec 4 := 0
  cordic : W24 × W24 × W24 := (0, 0, 0)
  bins : Tab (BitVec 48 × BitVec 48) := []
  rename : List (Option CoOp) := []
  /-- The edge at which the last 10 ms load window ended (R331). -/
  winAt : Option Nat := none
deriving DecidableEq, Repr

/-- A message in the trace buffer: its words, and whether it is a marker. -/
structure TraceMsg where
  typ : Nat
  core : Nat
  seq : Nat
  stamp : Nat
  payload : List Nat
deriving DecidableEq, Repr

/-- The cores and the trace unit. `buf` is the on-chip trace buffer, oldest first. -/
structure Cores where
  cores : Tab CoreSt := []
  svcs : Tab Svc := []
  buf : List TraceMsg := []
  seq : Nat := 0
  head : Nat := 0
  lap : Nat := 0
  /-- Messages dropped since the previous marker, and since the last read of SC_TRACE_DROP. -/
  lost : Nat := 0
  rcMsg : Nat := 0
  rcFlow : Nat := 0
  /-- The trace port has sent its alignment pair since it was enabled, and words since the last pair (R348). -/
  aligned : Bool := false
  /-- A step whose marker waits (R266), its count and edge, and what stands behind it. -/
  hold : Option (Nat × Nat) := none
  behind : List TraceMsg := []
  portWords : Nat := 0
deriving DecidableEq, Repr
/-! ### CAN (R352–R377) -/

/-- One entry of a transmit queue (R362): its sequence number, frame, and whether it is a session's. -/
structure CanEntry where
  seq : Nat
  frame : CanFrame
  session : Bool := false
  /-- Edge at which it entered the queue. -/
  since : Nat := 0
deriving DecidableEq, Repr

/-- One CAN controller. `state` is 0x7011:01; `abort` holds the outcome and sequence number of CAN_ABORT; `rx` is the receive
buffer, filter and items; `hits` the counts of CAN_FHIT; `bufs` the time-triggered buffers. -/
structure CanCtl where
  state : Nat := 0
  tec : Nat := 0
  rec_ : Nat := 0
  tdcv : Nat := 0
  queue : List CanEntry := []
  nextSeq : Nat := 0
  /-- Session frames that found the queue full and wait in the session server, in the order of arrival (R362). -/
  waiting : List CanFrame := []
  /-- The head frame is past its start-of-frame sample point, and an abort decision on it is pending (R364). -/
  onBus : Bool := false
  aborting : Bool := false
  /-- The pending abort names the head alone. -/
  abortOne : Bool := false
  abortValid : Bool := false
  abort : Nat × Nat := (0, 0)
  rx : List (Nat × List Item) := []
  hits : Tab Nat := []
  bufs : Tab CanFrame := []
  /-- Edge of the first drop of the second that has been reported (R361). -/
  dropAt : Option Nat := none
  /-- A restart has been commanded with BUSOFF_AUTO 0 (R366). -/
  restart : Bool := false
  wakeCause : Nat := 0
  wakeId : Nat := 0
  wufErrors : Nat := 0
  tt : Nat := 0
  /-- Cycle_Count, local mark in 4 ns edges and Master_Ref_Mark of the last reference accepted (R373). -/
  lastRef : Option (Nat × Nat × Nat) := none
  /-- The ST32 that the last reference of a hub master carried, as a slave records it (R371 ff.). -/
  refSt : Nat := 0
  /-- Edge of the last reference mark, from which time marks and UNCERT count. -/
  markAt : Nat := 0
  tur : Nat := 0x1000000
  cycle : Nat := 0
  level : Nat := 0
  master : Bool := false
  prio : Nat := 0
  /-- A WT step is to set Disc_Bit in the next reference message (R372). -/
  disc : Bool := false
  /-- Filters that have accepted a frame since the last check of a trigger (R371), by trigger × 32 + filter. -/
  seen : Tab Bool := []
  /-- An arbitrating window is open until the next trigger: the edge of its mark, or of the end of the last frame in it (R371). -/
  window : Option Nat := none
  /-- The head may have begun in a window that has closed since. -/
  begun : Bool := false
  /-- Triggers that have acted, by the cycles counted from the last reference mark. -/
  acted : List (Nat × Nat) := []
  /-- The reference message offered and not yet sent: its Cycle_Count, its mark and its bytes (R372). -/
  ref : Option (Nat × Nat × List Byte) := none
  /-- The number of the last cycle instant at which a reference was offered, plus 1. -/
  refIdx : Nat := 0
  /-- The head is the exclusive frame of a trigger, sent once (R365, R375). -/
  exclusive : Option CanFrame := none
deriving DecidableEq, Repr

/-! ### Bridge and station ports (R378–R403) -/

/-- The four registers of a fabric window (R386, R403). -/
structure Window where
  base : Nat := 0
  size : Nat := 12
  target : Nat := 0
  attr : Nat := 4
deriving DecidableEq, Repr

/-- A prefetch line (R394): node, aligned address, its bytes, the edge it was filled at and its place in the order of use. -/
structure PfLine where
  node : Nat
  addr : Nat
  data : List Byte
  filled : Nat
deriving DecidableEq, Repr

/-- A line fill in flight (R394): its remote access, place, and whether a write has overlapped it. -/
structure PfFill where
  id : Nat
  node : Nat
  addr : Nat
  spoiled : Bool := false
deriving DecidableEq, Repr

/-- A host read that waits for a remote access or a line fill (R382): its number, the fabric address of each byte in the host's order
(R391), and the edge it began at. -/
structure HostRead where
  id : Nat
  want : List Nat
  since : Nat
deriving DecidableEq, Repr

/-- An entry of the PRP node table (R401): the source, sequence numbers seen with their edges, and when last seen. -/
structure PrpNode where
  mac : Nat
  seqs : List (Nat × Nat) := []
  last : Nat
deriving DecidableEq, Repr

/-- The bridge. Window and semaphore tables, the latched failure, interrupts and MSI-X, prefetch, mailbox, tunnels and PRP. -/
structure Bridge where
  windows : Tab Window := []
  errValid : Bool := false
  errCode : Nat := 0
  errAddr : Nat := 0
  pend : BitVec 21 := 0
  intEn : BitVec 21 := 0
  /-- The MSI-X table's address and data words, and its mask bits; the pending-bit array. -/
  msixWords : Tab Nat := []
  msixMask : BitVec 64 := BitVec.allOnes 64
  pba : BitVec 64 := 0
  /-- Remote writes the PCIe context has posted and that are not resolved, and the failures since the last fence, by number and code
in their order (R389). A fence read that waits: the edge it began at, and the first number it does not cover. -/
  posted : List Nat := []
  /-- Posted host writes behind one that a full channel holds: fabric address and bytes (R388, R398). -/
  postQ : List (Nat × List Byte) := []
  fenceFails : List (Nat × Nat) := []
  fence : Option (Nat × Nat) := none
  sems : Tab (Option (Nat × Nat)) := []
  lines : List PfLine := []
  fills : List PfFill := []
  hits : Nat := 0
  reads : List HostRead := []
  mbReq : Tab Byte := []
  mbTaken : List (List Byte) := []
  mbBusy : Bool := false
  mbOut : List (List Byte) := []
  mbResp : Option (List Byte) := none
  /-- Station frames steered to a tunnel and not yet sent (R399): tunnel, ST32 of ingress and bytes. -/
  tunIn : List (Nat × Nat × List Byte) := []
  /-- Sequence numbers of the redundancy control trailer and of supervision frames (R401). -/
  prpSup : Nat := 0
  /-- When a supervision frame was last due (R401). -/
  prpAt : Option Nat := none
  prpSeq : Nat := 0
  prp : List PrpNode := []
  pcieUp : Bool := false
deriving DecidableEq, Repr
/-! ### Store and update (R423–R447) -/

/-- An image slot (R432): its state, content, and what its header says. -/
structure Slot where
  state : Nat := 0
  image : List Byte := []
  version : Nat := 0
  rollback : Nat := 0
  /-- The slot's signature was verified only under key 0 (R416). -/
  key0 : Bool := false
deriving DecidableEq, Repr

/-- An erase (R427): the physical sector (device in bit 31), suspended or not, how often, and the edge it last resumed at. -/
structure Erase where
  sector : Nat
  suspended : Bool := false
  suspends : Nat := 0
  resumed : Nat := 0
deriving DecidableEq, Repr

/-- A trial in progress (R438–R441): slot, kind (handover or at reset), and the edge its 10 s count from. -/
structure Trial where
  slot : Nat
  atReset : Bool
  since : Option Nat := none
deriving DecidableEq, Repr

/-- A record of the journal (R426): type, sequence, logical and physical sector, the erase count, epoch or slot state, and a checkpoint's
pointer. -/
structure JRec where
  typ : Nat
  logical : Nat := 0
  phys : Nat := 0
  val : Nat := 0
  ptr : Nat := 0
  seq : Nat := 0
deriving DecidableEq, Repr

/-- The store unit. `updState` is UPD_STATE. Erase counts are by physical sector; `remap` takes a logical sector
(area × 2^24 + sector) to its spare. -/
structure Store where
  wp : Bool := false
  slots : Tab Slot := []
  running : Nat := 0
  committed : Option Nat := none
  trial : Option Trial := none
  failed : Nat := 0
  lastHash : List Byte := []
  updState : Nat := 0
  owner : Option Nat := none
  updSlot : Nat := 0
  /-- A handover hands back to the former image (R441), and the mode a handover returns to. -/
  handBack : Bool := false
  handFrom : Mode := .active
  /-- The empty core that is loaded with the image a handover moves to (R439). -/
  target : Option Nat := none
  /-- The committed image is new on this hub since the last switchover that ended healthy (R443). -/
  fresh : Bool := false
  erase : Option Erase := none
  eraseQ : List Nat := []
  counts : Tab Nat := []
  retired : List Nat := []
  remap : Tab Nat := []
  sparesUsed : List Nat := []
  /-- Log sectors given up (R430). -/
  logGone : List Nat := []
  /-- Physical sectors with an erase intent and no completion (R428). -/
  intents : List Nat := []
  /-- The sequence of the next journal record, and the records that the journal holds, oldest first (R426). -/
  journal : Nat := 0
  records : List JRec := []
  /-- The journal checkpoint that the anchor names, the sequence of its newer copy, and the copies that are good (R425, R426). -/
  checkpoint : Nat := 0
  anchorSeq : Nat := 0
  anchors : Nat := 3
  /-- Sectors of the configuration store in use, oldest first: number, and the records in each with their bytes (R431). -/
  cfg : List (Nat × List (Nat × Nat)) := []
  /-- The epoch reserved in the journal (R431). -/
  reserved : Nat := 0
  /-- The format version of each settings group in force (R444). -/
  formats : Tab Nat := []
deriving DecidableEq, Repr

/-! ### Self-test and repair (R490–R502) -/

/-- A repair entry (R495, 0xB002): macro, kind (0 row, 1 column), spare, row or column. -/
structure Repair where
  macro_ : Nat
  kind : Nat
  spare : Nat
  loc : Nat
deriving DecidableEq, Repr

/-- The self-test's state, most of it in the anchor (R493–R501). -/
structure Bist where
  pointer : Nat := 0
  rounds : Nat := 0
  candidates : List Finding := []
  results : List (List Byte) := []
  map : List Repair := []
  /-- Macros whose retirement the next start carries out, and those retired. -/
  toRetire : List Nat := []
  retired : List Nat := []
  /-- Macros retired at this start, until the configuration has been adapted to them (R497–R500). -/
  newly : List Nat := []
  unrepairable : Bool := false
  clear : Bool := false
  remap : List Byte := []
  /-- Entries of the map already applied at an earlier start. -/
  applied : Nat := 0
  running : Option Nat := none
  /-- Edge at which the running slice began. -/
  sliceAt : Nat := 0
  last : Nat := 0
  outcome : Nat := 0
  startAt : Nat := 0
  /-- Slices already run in this shutdown for their candidates, and how many the pointer has passed. -/
  early : List Nat := []
  ran : Nat := 0
deriving DecidableEq, Repr

/-! ### Power (R503–R526) -/

/-- A feed (R505–R507): usable, excluded, tripped or shorted, the edges since when it has been usable or not, and whether its
loss counts for DEGRADED. -/
structure Feed where
  usable : Bool := false
  excluded : Bool := false
  tripped : Bool := false
  shorted : Bool := false
  goodSince : Option Nat := none
  badSince : Option Nat := some 0
  lost : Bool := false
deriving DecidableEq, Repr

/-- A field channel (R509–R518): commanded state, the element's own state (0 off, 1 starting, 2 on, 3 tripped, 4 shorted), and
the edge its start or its off command began. `frac` is the energy below 1 mJ not yet in ENERGY, in 10^-7 mJ, of any channel. -/
structure Field where
  cmd : Bool := false
  state : Nat := 0
  startAt : Nat := 0
  frac : Nat := 0
  /-- Edge of its last energy step (R519), and of its last telemetry packet (R521). -/
  tickAt : Nat := 0
  telAt : Nat := 0
deriving DecidableEq, Repr

/-- The power unit. `inUse` is 0 none, 1 A, 2 B; `change` the feed being changed to with the edge the old one began to turn
off; `ramp` tells that the feed in use still ramps. -/
structure Power where
  a : Feed := {}
  b : Feed := {}
  inUse : Nat := 0
  ramp : Bool := false
  change : Option (Nat × Nat) := none
  warn : Bool := false
  fields : Tab Field := []
  vina : Nat := 0
  vinb : Nat := 0
  /-- Edge at which ENERGY was last due in the store (R520). -/
  storedAt : Nat := 0
deriving DecidableEq, Repr

/-! ### The machine -/

/-- The hub's state. `clock` counts 4 ns edges since power-on and `free` the free values drawn: both are the model's
own fields, not the spec's. `od` holds the applied value of every dictionary entry that no other field holds, in the
canonical form of a sparse table over the entries' defaults. `pending` is the queue of waiting commands, first in first
out. -/
structure State where
  clock : Nat := 0
  free : Nat := 0
  pending : List Instr := []
  sent : List Output := []
  /-- For each bit that a write of 1 clears, by the numbers of `namespace W1c`, one more than the edge at which the hub last set it
  (R6). -/
  setAt : Tab Nat := []
  od : Tab Val := []
  store : Tab Val := []
  dict : Dict := {}
  ctxs : Tab RegCtx := []
  fc : Collector := {}
  modes : Modes := {}
  ring : Ring := {}
  sw : Switch := {}
  shutter : Shutter := {}
  chans : Tab Chan := []
  heldDel : List HeldDel := []
  locks : Tab Lock := []
  engines : Tab Engine := []
  clusters : Tab Cluster := []
  banks : Tab Bank := []
  dram : List Host.Cell := []
  /-- Writes to DRAM that wait for its initialisation (R74): who waits for the answer, offset and bytes, oldest first. -/
  dramWait : List (Waiter × Nat × List Byte) := []
  time : Time := {}
  phase : Phase := {}
  pair : Pair := {}
  sec : Security := {}
  station : Station := {}
  cores : Cores := {}
  can : Tab CanCtl := []
  bridge : Bridge := {}
  flash : Store := {}
  bist : Bist := {}
  power : Power := {}
deriving DecidableEq, Repr

/-- The machine right after a power-on reset, still in RESET: every field at its default above (the spec's reset values,
and those a log entry names where the spec gives none). -/
def State.reset : State := {}

end Sys2Proof.Machine
end

