-- ==== Sys2Proof/Machine/Ops.lean ====
section
/-!
DEFINITION. The named operations over the state that every family uses: sparse tables, dictionary entries and counters,
free values, the record of outputs, instants, serial arithmetic, byte order and check codes.
-/

namespace Sys2Proof.Machine

/-! ### Sparse tables -/

/-- Read key `k`; an unlisted key reads as `d k`. -/
def tgetF {α : Type} (d : Nat → α) : Tab α → Nat → α
  | [], k => d k
  | (j, v) :: t, k => if j = k then v else tgetF d t k

/-- Remove key `k`. -/
def tdel {α : Type} (t : Tab α) (k : Nat) : Tab α :=
  t.filter (fun p => p.1 ≠ k)

/-- Put `v` at key `k` in rising key order. -/
def tput {α : Type} (k : Nat) (v : α) : Tab α → Tab α
  | [] => [(k, v)]
  | (j, w) :: t => if k < j then (k, v) :: (j, w) :: t
      else if k = j then (k, v) :: t
      else (j, w) :: tput k v t

/-- Write key `k`: writing what an unlisted key reads as removes the entry, so the form stays canonical. -/
def tsetF {α : Type} [DecidableEq α] (d : Nat → α) (t : Tab α) (k : Nat) (v : α) : Tab α :=
  if v = d k then tdel t k else tput k v t

/-- Keys strictly rising. -/
def keysRise {α : Type} : Tab α → Bool
  | [] => true
  | [_] => true
  | (j, _) :: (k, w) :: t => j < k && keysRise ((k, w) :: t)

/-- The canonical form: keys strictly rising and no entry equal to what its key reads as when unlisted. -/
def Tab.wfWith {α : Type} [DecidableEq α] (d : Nat → α) (t : Tab α) : Bool :=
  keysRise t && t.all (fun p => decide (p.2 ≠ d p.1))

/-- Read with one default for every key. -/
def tget {α : Type} (d : α) (t : Tab α) (k : Nat) : α := tgetF (fun _ => d) t k

/-- Write with one default for every key. -/
def tset {α : Type} [DecidableEq α] (d : α) (t : Tab α) (k : Nat) (v : α) : Tab α := tsetF (fun _ => d) t k v

/-! ### Numbers -/

/-- Serial comparison of R13: `a` is after `b` among `n`-bit numbers. -/
def serialAfter (n a b : Nat) : Bool :=
  let d := (2 ^ n + a - b % 2 ^ n) % 2 ^ n
  1 ≤ d && d ≤ 2 ^ (n - 1)

/-- The serial distance of R13, `(a − b) mod 2^n`. -/
def serialDist (n a b : Nat) : Nat := (2 ^ n + a - b % 2 ^ n) % 2 ^ n

/-- A number as `n` bytes, most significant byte first (R3, R29). -/
def beBytes : Nat → Nat → List Byte
  | 0, _ => []
  | n + 1, v => BitVec.ofNat 8 (v / 256 ^ n) :: beBytes n v

/-- The number of a big-endian byte list. -/
def ofBe (l : List Byte) : Nat := l.foldl (fun a b => a * 256 + b.toNat) 0

/-- A number as `n` bytes, least significant byte first. -/
def leBytes (n v : Nat) : List Byte := (beBytes n v).reverse

/-- The number of a little-endian byte list. -/
def ofLe (l : List Byte) : Nat := ofBe l.reverse

/-- A two's complement number of `n` bits. -/
def toSigned (n v : Nat) : Int := if v % 2 ^ n < 2 ^ (n - 1) then (v % 2 ^ n : Nat) else (v % 2 ^ n : Nat) - (2 ^ n : Nat)

/-- An integer as `n` bits of two's complement. -/
def ofSigned (n : Nat) (i : Int) : Nat := (i % (2 ^ n : Nat)).toNat

/-- Bit `i` of a number. -/
def bitOf (v i : Nat) : Bool := v / 2 ^ i % 2 = 1

/-- A truth value as a bit. -/
def b2n (b : Bool) : Nat := if b then 1 else 0

/-- Clamp to an interval. -/
def clampI (lo hi v : Int) : Int := if v < lo then lo else if v > hi then hi else v

/-- The nearest integer to `a / b` for positive `b`; which way a tie goes is free (`Config.tieUp`). -/
def divNear (a b : Int) : Int := if Config.tieUp then (2 * a + b) / (2 * b) else -((b - 2 * a) / (2 * b))

/-- The nearest integer to a rational. -/
def ratNear (r : Rat) : Int := divNear r.num r.den

/-- One bit of a CRC register of `w` bits, most significant bit first (R87). -/
def crcStep (w poly reg : Nat) (bit : Bool) : Nat :=
  let top := bitOf reg (w - 1)
  let r := reg * 2 % 2 ^ w
  if top != bit then r ^^^ poly else r

/-- A CRC over bytes, bits most significant first. -/
def crcMsb (w poly init : Nat) (l : List Byte) : Nat :=
  l.foldl (fun r b => (List.range 8).foldl (fun r i => crcStep w poly r (bitOf b.toNat (7 - i))) r) init

/-- CRC-16 of R43 and R87: polynomial 0x1021, initial value 0xFFFF, no reflection, no final XOR. -/
def crc16 (l : List Byte) : Nat := crcMsb 16 0x1021 0xFFFF l

/-- One byte of the reflected CRC-32 of IEEE 802.3 clause 3.2.9. -/
def crc32Byte (r : Nat) (b : Byte) : Nat :=
  (List.range 8).foldl (fun r _ => if bitOf r 0 then (r / 2) ^^^ 0xEDB88320 else r / 2) (r ^^^ b.toNat)

/-- The CRC-32 of IEEE 802.3 clause 3.2.9 (R87). -/
def crc32 (l : List Byte) : W32 := BitVec.ofNat 32 ((l.foldl crc32Byte 0xFFFFFFFF) ^^^ 0xFFFFFFFF)

/-! ### Abort codes (R56) -/

namespace Abort

/-- header short, command unknown, reserved flag set. -/
def malformedTransaction : Nat := 0x01010000
/-- data length differs from the type's size. -/
def lengthMismatch : Nat := 0x01010001
/-- offset not contiguous. -/
def segmentOutOfSequence : Nat := 0x01010002
/-- segment gap over 1 s. -/
def transactionTimedOut : Nat := 0x01010003
/-- session number not open. -/
def noSuchSession : Nat := 0x02010000
/-- path or total limit reached. -/
def noFreeSession : Nat := 0x02010001
/-- challenge response wrong or late. -/
def authenticationFailed : Nat := 0x02010002
/-- open refused after repeated failures. -/
def pathLocked : Nat := 0x02010003
/-- fifth transaction in flight. -/
def tooManyOutstanding : Nat := 0x02010004
/-- tag of an outstanding transaction reused. -/
def tagInUse : Nat := 0x02010005
/-- index unassigned or empty. -/
def objectDoesNotExist : Nat := 0x03010000
/-- subindex absent. -/
def subindexDoesNotExist : Nat := 0x03010001
/-- fabric address not served (R17 to R23). -/
def addressError : Nat := 0x03010002
/-- session fabric access to a selection register or block. -/
def selectionRegisterRefused : Nat := 0x03010003
/-- const or ro written. -/
def writeToReadOnly : Nat := 0x04010000
/-- wo read. -/
def readOfWriteOnly : Nat := 0x04010001
/-- role mask not met. -/
def roleNotPermitted : Nat := 0x04010002
/-- object or role barred in this state. -/
def notInThisLifeCycleState : Nat := 0x04010003
/-- object or request barred in this mode. -/
def notInThisMode : Nat := 0x04010004
/-- illegal value or reserved encoding. -/
def valueOutOfRange : Nat := 0x05010000
/-- STRING or DOMAIN above its maximum. -/
def valueTooLong : Nat := 0x05010001
/-- cross-object check failed. -/
def configurationInconsistent : Nat := 0x06010000
/-- entry changed by a later commit. -/
def staleStagingSet : Nat := 0x06010001
/-- entry or byte limit reached. -/
def stagingSetFull : Nat := 0x06010002
/-- pending slot occupied. -/
def commitPending : Nat := 0x06010003
/-- scheduled instant too near. -/
def commitTooSoon : Nat := 0x06010004
/-- scheduled instant too distant. -/
def commitTargetTooFar : Nat := 0x06010005
/-- tracker unlocked at the commit horizon. -/
def trackerNotLocked : Nat := 0x06010006
/-- pending commit dropped. -/
def commitCancelledByModeChange : Nat := 0x06010007
/-- configuration area cannot be kept. -/
def configurationWriteProtected : Nat := 0x06010008
/-- under 250 ms since the last apply. -/
def commitRateExceeded : Nat := 0x06010009
/-- empty staging set, or no pending commit to cancel. -/
def nothingStaged : Nat := 0x0601000A
/-- pending commit cancelled by command 4 of 0x1220:01. -/
def commitCancelled : Nat := 0x0601000B
/-- serving unit temporarily unable. -/
def busyRetry : Nat := 0x07010000
/-- selected item retired. -/
def resourceRetired : Nat := 0x07010001
/-- channel item revoked before confirmation. -/
def itemRevoked : Nat := 0x07010002
/-- slot holds no key. -/
def keySlotEmpty : Nat := 0x08010000
/-- purpose mask forbids the use. -/
def keyPurposeRefused : Nat := 0x08010001
/-- key stopped at zero. -/
def useCountExhausted : Nat := 0x08010002
/-- image signature check failed. -/
def signatureInvalid : Nat := 0x08010003
/-- anti-rollback counter lower than stored. -/
def rollbackRefused : Nat := 0x08010004
/-- header check failed. -/
def imageHeaderRefused : Nat := 0x09010000
/-- body differs from header hash. -/
def imageBodyHashMismatch : Nat := 0x09010001
/-- second update started. -/
def updateInProgress : Nat := 0x09010002
/-- split write; the low byte is the first failed part. -/
def partialWrite : Nat := 0x0A020000
/-- no response within 0x1202:02 ms. -/
def remoteNodeSilent : Nat := 0x0A010000
/-- a part of a split read failed. -/
def splitReadFailed : Nat := 0x0A010001
/-- ECC failure while serving the access. -/
def uncorrectableError : Nat := 0x0B010000

end Abort

/-! ### Outputs, free values, instants -/

/-- Record an output. -/
def State.emit (s : State) (o : Output) : State := { s with sent := o :: s.sent }

/-- The next free number of `w` bits: an unconstrained value (`Config.free`). -/
def State.freeNat (s : State) (w : Nat) : Nat := Config.free w s.free % 2 ^ w

/-- Advance the counter of free values. -/
def State.drew (s : State) : State := { s with free := s.free + 1 }

/-- A periodic activity that was last due at `last` is due again: at once the first time. -/
def State.due (s : State) (last : Option Nat) (period : Nat) : Bool := !last.any (fun t => s.clock < period + t)

/-- ST32 of the present instant: nanoseconds of wide time modulo 2^32 (formats of chapter 00). -/
def State.st32 (s : State) : Nat := s.time.wt / 2 ^ 32 % 2 ^ 32

/-- An event record with the present ST32. -/
def State.event (s : State) (e : Event) (args : List Nat) : State := s.emit (.event e s.st32 args)

/-- 4 ns edges in a millisecond and a microsecond. -/
def ticksMs (n : Nat) : Nat := 250000 * n

/-- 4 ns edges in a microsecond. -/
def ticksUs (n : Nat) : Nat := 250 * n

/-- The present instant in 0.1 ns. -/
def State.now10 (s : State) : Nat := s.clock * 40

/-! ### Dictionary entries -/

/-- The key of an entry: index, subindex and selected item. -/
def objKey (index sub item : Nat) : Nat := 65536 * (index * 256 + sub) + item

/-- What an unlisted key of the dictionary reads as: the entry's default. -/
def objDefaultKey (k : Nat) : Val := objDefault (k / 65536 / 256) (k / 65536 % 256)

/-- The applied value of an entry. -/
def State.val (s : State) (index sub : Nat) (item : Nat := 0) : Val :=
  tgetF objDefaultKey s.od (objKey index sub item)

/-- A value as a number; bytes read as 0. -/
def valNat : Val → Nat
  | .num n => n
  | .bytes _ => 0

/-- A value as bytes; a number reads as none. -/
def valBytes : Val → List Byte
  | .num _ => []
  | .bytes b => b

/-- The applied number of an entry. -/
def State.o (s : State) (index sub : Nat) (item : Nat := 0) : Nat := valNat (s.val index sub item)

/-- The applied number of a signed entry. -/
def State.oi (s : State) (index sub : Nat) (item : Nat := 0) : Int :=
  match Desc.find index sub with
  | some d => d.ty.decode (s.o index sub item)
  | none => s.o index sub item

/-- The applied bytes of a STRING or DOMAIN entry. -/
def State.ob (s : State) (index sub : Nat) (item : Nat := 0) : List Byte := valBytes (s.val index sub item)

/-- Set an entry's applied value. -/
def State.setVal (s : State) (index sub item : Nat) (v : Val) : State :=
  { s with od := tsetF objDefaultKey s.od (objKey index sub item) v }

/-- Set an entry's applied number. -/
def State.setO (s : State) (index sub item n : Nat) : State := s.setVal index sub item (.num n)

/-- Add to a counter entry that saturates at 0xFFFF_FFFF. -/
def State.bumpBy (s : State) (index sub item by_ : Nat) : State :=
  s.setO index sub item (min (s.o index sub item + by_) 0xFFFFFFFF)

/-- Advance a counter entry by one, saturating. -/
def State.bump (s : State) (index sub : Nat) (item : Nat := 0) : State := s.bumpBy index sub item 1

/-- Set the counters `index:lo` to `index:hi` of an item to 0. -/
def State.clearSubs (s : State) (index lo hi item : Nat) : State :=
  (List.range (hi + 1 - lo)).foldl (fun s i => s.setO index (lo + i) item 0) s

/-! ### Sessions and contexts -/

/-- Session `n`. -/
def State.session (s : State) (n : Nat) : Session := tget {} s.dict.sessions n

/-- Replace session `n`. -/
def State.setSession (s : State) (n : Nat) (v : Session) : State :=
  { s with dict := { s.dict with sessions := tset {} s.dict.sessions n v } }

/-- What an unlisted number of a session's own entries reads as: the entry's default. -/
def ownDefault (k : Nat) : Nat := valNat (objDefaultKey k)

/-- A session's own number for an entry (R47). -/
def State.ownGet (s : State) (n index sub : Nat) : Nat := tgetF ownDefault (s.session n).own (objKey index sub 0)

/-- Set a session's own number for an entry. -/
def State.ownSet (s : State) (n index sub v : Nat) : State :=
  let x := s.session n
  s.setSession n { x with own := tsetF ownDefault x.own (objKey index sub 0) v }

/-- The key of a register context: nodes 0–0x7F, sessions 0x80 + number (R41), the PCIe port 0xFF. -/
def ctxKey : Ctx → Nat
  | .node n => n
  | .session n => 0x80 + n
  | .pcie => 0xFF

/-- An access of the context reaches the hub: the PCIe endpoint answers from 100 ms after a reset on (R73). -/
def State.reaches (s : State) (c : Ctx) : Bool := decide (c ≠ .pcie) || s.modes.pcieReady

/-- A register context. -/
def State.ctx (s : State) (c : Ctx) : RegCtx := tget {} s.ctxs (ctxKey c)

/-- Replace a register context. -/
def State.setCtx (s : State) (c : Ctx) (v : RegCtx) : State :=
  { s with ctxs := tset {} s.ctxs (ctxKey c) v }

/-! ### Bits cleared by writing 1 (R6) -/

namespace W1c

/-- FC_FIRST.VALID. -/
def first : Nat := 0
/-- DDR_STATUS.ECC_ERR. -/
def ecc : Nat := 1
/-- SHT_GFAIL.VALID. -/
def gfail : Nat := 2
/-- PA_SHADOW.VALID. -/
def shadow : Nat := 3
/-- BR_ERR.VALID. -/
def brErr : Nat := 4
/-- BR_MB_STATUS.RESP_VALID. -/
def resp : Nat := 5
/-- CAN_ABORT.VALID of controller `k`. -/
def abort (k : Nat) : Nat := 8 + k
/-- BR_INT_PEND bit `v`. -/
def pend (v : Nat) : Nat := 32 + v
/-- Flag `f` of cluster `k`. -/
def flag (k f : Nat) : Nat := 64 + 8 * k + f
/-- Flag `f` of cluster `k` has been toggled by engines an odd number of times at an edge (R227). -/
def toggled (k f : Nat) : Nat := 192 + 8 * k + f

end W1c

/-- The hub sets bit `k` at this edge. -/
def State.noteSet (s : State) (k : Nat) : State := { s with setAt := tset 0 s.setAt k (s.clock + 1) }

/-- The hub has set bit `k` at this same edge: a write of 1 does not clear it (R6). -/
def State.setNow (s : State) (k : Nat) : Bool := tget 0 s.setAt k = s.clock + 1

/-- A host interrupt source (R383): its BR_INT_PEND bit is set; on the change from 0 a message is sent, or held while the vector is
masked. A source that sets the bit at the edge of a clear keeps it (R6). -/
def State.hostInt (s : State) (v : Nat) : State :=
  let br := s.bridge
  if v ≥ 21 then s
  else if br.pend.getLsbD v then s.noteSet (W1c.pend v)
  else
    let s := s.noteSet (W1c.pend v)
    let s := { s with bridge := { br with pend := br.pend ||| (1#21 <<< v) } }
    if !Config.msixEnabled then s
    else if br.msixMask.getLsbD v then { s with bridge := { s.bridge with pba := s.bridge.pba ||| (1#64 <<< v) } }
    else s.emit (.msix v)

/-- Bytes of data per segment on a path (R43). -/
def segMax : Path → Nat
  | .ring => 2032
  | .can => 48
  | .udp => 1456
  | .mailbox => 4080
  | .uart => 1024

/-- A response header (R35): the request's command with bit 7 set, session, tag, index, subindex, flags, length or abort code, and
offset. -/
def respHeader (t : Txn) (flags len off : Nat) : List Byte :=
  beBytes 1 (t.cmd ||| 0x80) ++ beBytes 1 t.sess ++ beBytes 2 t.tag ++ beBytes 2 t.index ++ beBytes 1 t.sub ++ beBytes 1 flags
    ++ beBytes 4 len ++ beBytes 4 off

/-- A value in segments of a path (R38): ascending offsets, the last one flagged. -/
def respSegs (t : Txn) (max : Nat) (off : Nat) : Nat → List Byte → List (List Byte)
  | 0, _ => []
  | f + 1, d =>
    if d.length ≤ max then [respHeader t 1 d.length off ++ d]
    else (respHeader t 0 max off ++ d.take max) :: respSegs t max (off + max) f (d.drop max)

/-- The segments of a response (R35, R38). -/
def respWire (t : Txn) : Resp → List (List Byte)
  | .ok d => respSegs t (segMax t.path) 0 (d.length + 1) d
  | .abort c => [respHeader t 0x81 c 0]

/-- A mailbox response (R385): placed in the free buffer with vector 0, else queued. -/
def State.mbPut (s : State) (b : List Byte) : State :=
  match s.bridge.mbResp with
  | none => ({ s with bridge := { s.bridge with mbResp := some b } }.noteSet W1c.resp).hostInt 0
  | some _ => { s with bridge := { s.bridge with mbOut := s.bridge.mbOut ++ [b] } }

/-- Session frames that wait for a place enter the transmit queue of a controller as QUEUE_DEPTH allows, each with the next sequence
number (R362). -/
def State.canFill (s : State) (k : Nat) : State :=
  let x := tget {} s.can k
  let room := s.o 0x7002 1 k - x.queue.length
  let l := x.waiting.take room
  { s with can := tset {} s.can k { x with
      queue := x.queue ++ l.zipIdx.map (fun f => { seq := (x.nextSeq + f.2) % 256, frame := f.1, session := true, since := s.clock }),
      nextSeq := (x.nextSeq + l.length) % 256, waiting := x.waiting.drop room } }

/-- A session frame of a CAN controller (R367): an FD frame of DLC 15 under the response identifier of a node above a base, behind the
entries of the transmit queue, in the session server while the queue is full (R362). -/
def State.canSession (s : State) (k base node : Nat) (b : List Byte) : State :=
  let x := tget {} s.can k
  let f : CanFrame := {
    fdf := true, brs := s.o 0x7002 4 k = 1, dlc := 15,
    id := BitVec.ofNat 29 ((base + 0x80 + node) * 2 ^ 18), data := b ++ List.replicate (64 - b.length) 0 }
  State.canFill { s with can := tset {} s.can k { x with waiting := x.waiting ++ [f] } } k

/-- Under PRP a station frame leaves on both ports with one sequence number (R401). -/
def State.prpSent (s : State) : State :=
  if s.o 0x7841 1 = 0 then s
  else ({ s with bridge := { s.bridge with prpSeq := (s.bridge.prpSeq + 1) % 65536 } }.bump 0x7845 1).bump 0x7845 2

/-- Bytes with the UART's escapes (R43). -/
def uartEscape (l : List Byte) : List Byte := l.flatMap (fun b => if b = 0x7E || b = 0x7D then [0x7D, b ^^^ 0x20] else [b])

/-- A UART frame (R43): a transaction and its CRC-16 between two flags, escaped. -/
def uartFrame (b : List Byte) : List Byte := [0x7E] ++ uartEscape (b ++ beBytes 2 (crc16 b)) ++ [0x7E]

/-- One segment of a response goes to the identity its path names (R37, R43): under the identifier base, or from the UDP port, of the
session's open (R60); a number that names no session answers under the present ones. -/
def State.respondSeg (s : State) (t : Txn) (b : List Byte) : State :=
  let x := s.session t.sess
  let mine := decide (x.path = t.path) && x.ident = t.ident && (x.isOpen || x.challenge.isSome)
  match t.path with
  | .mailbox => s.mbPut b
  | .ring => { s with ring := { s.ring with orig := s.ring.orig ++ [
      { hdr := { typ := 4, cls := 3, source := s.ring.node, dest := t.ident, length := b.length }, payload := b, src := 6 }] } }
  | .can => s.canSession (t.ident / 256) (if mine then x.base else s.o 0x7002 3 (t.ident / 256)) (t.ident % 256) b
  | .udp => (s.emit (.datagram t.ident (if mine then x.port else s.o 0x1203 0) b)).prpSent
  | .uart => s.emit (.uart (uartFrame b))

/-- Answer a transaction (R35): the response is an output, and its segments leave on the session's path. -/
def State.respond (s : State) (t : Txn) (r : Resp) : State :=
  (respWire t r).foldl (fun s b => s.respondSeg t b) (s.emit (.response t.path t.ident t.sess t.tag (t.cmd ||| 0x80) r))

/-- Answer session `n` (R35): under the header of the transaction being served, which is then over; of a request given as a row of its
own, without a header, as a command `cmd` under tag 0. A session that is no longer open is not answered. -/
def State.answerAs (s : State) (n cmd : Nat) (r : Resp) : State :=
  let x := s.session n
  if !x.isOpen then s
  else match x.serving with
    | some t => (s.setSession n { x with serving := none }).respond t r
    | none => s.respond { path := x.path, ident := x.ident, cmd := cmd, sess := n, tag := 0 } r

/-- Answer to session `n`: a write's response. -/
def State.answer (s : State) (n : Nat) (r : Resp) : State := s.answerAs n 0x11 r

/-- Answer a read by session `n`. -/
def State.answerRead (s : State) (n : Nat) (r : Resp) : State := s.answerAs n 0x10 r

/-- What an action of a session comes to: the state after it, or the abort it fails with (R56). -/
abbrev Act := Except Nat State

/-- Carry out a session's action and answer its write (R35, R48). A number that names no open session asks for nothing. -/
def State.act (s : State) (n : Nat) (r : Act) : State :=
  if !(s.session n).isOpen then s else
  match r with
  | .ok t => t.answer n (.ok [])
  | .error c => s.answer n (.abort c)

/-- Carry out an action that no session asked for. -/
def State.actQuiet (s : State) (r : Act) : State :=
  match r with
  | .ok t => t
  | .error _ => s

/-! ### Roles, life cycle and mode (R31, R64, R420, R476, R488, R548 steps 2 to 5) -/

/-- The roles that a role grants, as a mask (R31). -/
def roleGrant (role : Nat) : Nat :=
  match role with
  | 0 => 1
  | 1 => 3
  | 2 => 7
  | 3 => 9
  | _ => 31

/-- Key loads are barred in RETURNED and SCRAPPED (R409, R420). -/
def State.keyBarred (s : State) : Bool := s.sec.lc ≥ 3

/-- Modes in which a field channel takes commands (R510). -/
def State.efMode (s : State) (ch : Nat) : Bool :=
  match s.modes.mode with
  | .active | .degraded | .handover | .standby => true
  | .maintenance => bitOf (s.o 0x1112 17) ch
  | _ => false

/-- A pair address is configured (R85). -/
def State.pairMember (s : State) : Bool := s.o 0x2001 0 ≠ 0xFF

/-- Step 3, the path: KEY_PLAIN on the mailbox and the UART alone (R409). -/
def pathBar (p : Path) (index sub : Nat) : Bool := index = 0x8003 && sub = 1 && p ≠ .mailbox && p ≠ .uart

/-- Step 4: entries closed in a life-cycle state (R409, R420, R500). -/
def State.lcBar (s : State) (index sub : Nat) : Bool :=
  (index = 0x8003 && sub ≤ 2 && s.keyBarred) || (index = 0xB005 && s.sec.lc ≠ 0)

/-- Step 5: entries closed in a mode (R64, R476, R488, R510). -/
def State.modeBar (s : State) (index sub : Nat) : Bool :=
  (index = 0x1112 && s.modes.mode ≠ .maintenance)
    || ((index = 0x3A06 || index = 0x5040 || index = 0x3602) && s.modes.mode = .standby)
    || (index = 0xA804 && !s.pairMember) || (index = 0xB840 && sub > 2 && !s.efMode (sub - 1))

/-- What bars session `n` from writing an entry whose roles are `mask` (R548 steps 2 to 5): its role or path, the life-cycle state, or the
mode. -/
def State.writeBar (s : State) (n mask index sub : Nat) : Option Nat :=
  let x := s.session n
  if roleGrant x.role &&& mask = 0 || pathBar x.path index sub then some Abort.roleNotPermitted
  else if s.lcBar index sub then some Abort.notInThisLifeCycleState
  else if s.modeBar index sub then some Abort.notInThisMode
  else none

/-- A session's write of an entry that acts, given as a row of its own: refused where it is barred, else `run`. A number that names no open
session asks for nothing. -/
def State.asWrite (s : State) (n mask index sub : Nat) (run : State → State) : State :=
  if !(s.session n).isOpen then s
  else match s.writeBar n mask index sub with
    | some c => s.answer n (.abort c)
    | none => run s

/-- The type-3 frame that answers a fabric request (R90, R92): status 0 done, 1 address error, 2 uncorrectable, 3 busy. -/
def State.fabricAnswer (s : State) (node seq status part count typ : Nat) (payload : List Byte) : State :=
  { s with ring := { s.ring with orig := s.ring.orig ++ [
    { hdr := { typ := 3, cls := 3, source := s.ring.node, dest := node, length := payload.length,
               spec := 65536 * ((((seq % 65536 * 256 + status) * 256 + part) * 256 + count % 256) * 256 + typ) },
      payload := payload, src := 4 }] } }

/-- The status of an access that failed with an abort code. -/
def fabricStatus (code : Nat) : Nat :=
  if code = Abort.uncorrectableError then 2 else if code = Abort.busyRetry then 3
  else if code = Abort.valueOutOfRange then 0 else 1

/-- A window write that was held is over (R187): who waits for it is answered. A host waits for no answer. -/
def State.heldEnd (s : State) (w : Waiter) (err : Option Nat) : State :=
  match w with
  | .none => s
  | .host _ => s
  | .session n => s.answer n (match err with | none => .ok [] | some c => .abort c)
  | .node n seq part count => s.fabricAnswer n seq (match err with | none => 0 | some c => fabricStatus c) part count 2 []

/-- Answer a register, window or fabric access with a number of `n` bytes, little-endian (R2). -/
def State.reply (s : State) (c : Ctx) (n v : Nat) : State := s.emit (.data c (leBytes n v))

/-- Record a commit's outcome (R55): its result code and the offending entry. -/
def State.commitResult (s : State) (code index sub : Nat) : State :=
  ((s.setO 0x1222 1 0 code).setO 0x1222 4 0 (index * 256 + sub)).event .commitOutcome [code, index * 256 + sub]

/-- The pending commit ends unapplied, with its outcome (R54, R55). -/
def State.commitDrop (s : State) (code : Nat) : State :=
  match s.dict.pendingCommit with
  | none => s
  | some _ => { s with dict := { s.dict with pendingCommit := none } }.commitResult code 0 0

/-! ### Failures of host accesses (R381) -/

/-- The counter of 0x7803 that a failure advances. -/
def failSub (code : Nat) : Option Nat :=
  if code = Abort.addressError then some 1 else if code = Abort.remoteNodeSilent then some 2 else if code / 256 = Abort.partialWrite / 256 then some 3
  else if code = Abort.splitReadFailed then some 4 else if code = Abort.busyRetry then some 5 else none

/-- A host access that cannot be served: counted, and latched if it is the first since BR_ERR.VALID was cleared. -/
def State.hostFail (s : State) (code addr : Nat) : State :=
  let s := match failSub code with | some k => s.bump 0x7803 k | none => s
  if s.bridge.errValid then s
  else ({ s with bridge := { s.bridge with errValid := true, errCode := code, errAddr := addr } }.noteSet W1c.brErr).hostInt 20

/-- A host read of `n` bytes fails (R381): every byte 0xFF, or a Completer Abort. -/
def State.hostReadFail (s : State) (n code addr : Nat) : State :=
  let s := s.hostFail code addr
  s.emit (if s.o 0x7801 0 = 0 then .data .pcie (List.replicate n 0xFF) else .failed .pcie code)

/-- A refused access of a context: of the host, latched for address errors; of the others, answered by its code. -/
def State.refuseAccess (s : State) (c : Ctx) (code addr : Nat) : State :=
  match c with
  | .pcie => if code = Abort.valueOutOfRange then s else s.hostFail code (s.ring.node * 2 ^ 40 + addr)
  | c => s.emit (.failed c code)

/-- A refused read of `n` bytes of a context. -/
def State.refuseRead (s : State) (c : Ctx) (n code addr : Nat) : State :=
  match c with
  | .pcie => s.hostReadFail n code (s.ring.node * 2 ^ 40 + addr)
  | c => s.emit (.failed c code)

/-! ### Items of the units -/

/-- Engine `e`. -/
def State.eng (s : State) (e : Nat) : Engine := tget {} s.engines e

/-- Replace engine `e`. -/
def State.setEng (s : State) (e : Nat) (v : Engine) : State := { s with engines := tset {} s.engines e v }

/-- Channel `c`. -/
def State.chan (s : State) (c : Nat) : Chan := tget {} s.chans c

/-- Replace channel `c`. -/
def State.setChan (s : State) (c : Nat) (v : Chan) : State := { s with chans := tset {} s.chans c v }

/-- Cluster `c`. -/
def State.cluster (s : State) (c : Nat) : Cluster := tget {} s.clusters c

/-- Replace cluster `c`. -/
def State.setCluster (s : State) (c : Nat) (v : Cluster) : State := { s with clusters := tset {} s.clusters c v }

/-- Bank `b`. -/
def State.bank (s : State) (b : Nat) : Bank := tget {} s.banks b

/-- Replace bank `b`. -/
def State.setBank (s : State) (b : Nat) (v : Bank) : State := { s with banks := tset {} s.banks b v }

/-- Lock group `g`. -/
def State.lock (s : State) (g : Nat) : Lock := tget {} s.locks g

/-- Replace lock group `g`. -/
def State.setLock (s : State) (g : Nat) (v : Lock) : State := { s with locks := tset {} s.locks g v }

/-- Egress queue `q`. -/
def State.queue (s : State) (q : Nat) : Queue := tget {} s.sw.queues q

/-- Replace egress queue `q`. -/
def State.setQueue (s : State) (q : Nat) (v : Queue) : State :=
  { s with sw := { s.sw with queues := tset {} s.sw.queues q v } }

/-- A ring port. -/
def State.port (s : State) : Port → RingPort
  | .a => s.ring.a
  | .b => s.ring.b

/-- Replace a ring port. -/
def State.setPort (s : State) (p : Port) (v : RingPort) : State :=
  match p with
  | .a => { s with ring := { s.ring with a := v } }
  | .b => { s with ring := { s.ring with b := v } }

/-- Counter `sub` of a port (0x2020 for A, 0x2021 for B). -/
def State.portCount (s : State) (p : Port) (sub : Nat) : State :=
  s.bump (0x2020 + p.toNat) sub

/-- Speculation tag `g`. -/
def State.specTag (s : State) (g : Nat) : Option SpecTag := tget none s.shutter.tags g

/-- Replace speculation tag `g`. -/
def State.setSpecTag (s : State) (g : Nat) (v : Option SpecTag) : State :=
  { s with shutter := { s.shutter with tags := tset none s.shutter.tags g v } }

/-- One byte of DRAM at an offset from 0x10_0000_0000: an unlisted byte reads 0. -/
def State.dramByte (s : State) (a : Nat) : Byte := tget 0 s.dram a

/-- Write one byte of DRAM. -/
def State.setDram (s : State) (a : Nat) (b : Byte) : State := { s with dram := tset 0 s.dram a b }

/-- Write bytes of DRAM from an offset. -/
def State.writeDram (s : State) (a : Nat) : List Byte → State
  | [] => s
  | b :: l => (s.setDram a b).writeDram (a + 1) l

/-- Read `n` bytes of DRAM from an offset. -/
def State.readDram (s : State) (a n : Nat) : List Byte := (List.range n).map (fun i => s.dramByte (a + i))

/-- Store bytes in DRAM: a word known to be uncorrectable is good again once it is written whole (R146). -/
def State.dramStore (s : State) (a : Nat) (l : List Byte) : State :=
  let t := s.writeDram a l
  { t with sw := { t.sw with badWords := t.sw.badWords.filter (fun w => !(a ≤ 4 * w && 4 * w + 4 ≤ a + l.length)) } }

/-- The first uncorrectable word in a range of DRAM (R146). -/
def State.dramBadIn (s : State) (off len : Nat) : Option Nat :=
  s.sw.badWords.find? (fun w => 4 * w + 4 > off && 4 * w < off + len)

/-- Memory's canonical form: addresses strictly rising, no byte listed that equals what an unlisted byte reads as. -/
def Memory.wf (m : List Host.Cell) : Bool := Tab.wfWith (fun _ => (0 : Byte)) m

/-! ### Settings with a special reading -/

/-- The port's media mode (R83). -/
def State.media (s : State) (p : Port) : Nat := s.o 0x2002 (p.toNat + 1)

/-- The port is in mode 0 (R83). -/
def State.unused (s : State) (p : Port) : Bool := s.media p = 0

/-- The port carries frames: link up and trained, synthesiser locked, not in an own or announced outage (R96, R120, R121). -/
def State.ready (s : State) (p : Port) : Bool :=
  let x := s.port p
  !s.unused p && x.up && x.trained && x.synth && x.joined &&
    (match x.outage with | some o => o.stage ≠ .active | none => true)

end Sys2Proof.Machine
end

