-- ==== Sys2Proof/Machine/Frames.lean ====
section
/-!
DEFINITION. Station Ethernet frames as bytes (R400, R401), which of them a mode lets pass (R61), session datagrams (R43, R44, R60), and the
requests that arrive on session paths.
-/

namespace Sys2Proof.Machine

/-! ### Fields -/

/-- Byte `i` of a frame; beyond its end 0. -/
def byteAt (b : List Byte) (i : Nat) : Nat := (b.getD i 0).toNat

/-- A big-endian 16-bit number in a frame. -/
def half (b : List Byte) (i : Nat) : Nat := byteAt b i * 256 + byteAt b (i + 1)

/-- The frame carries an IEEE 802.1Q tag. -/
def tagged (b : List Byte) : Bool := half b 12 = 0x8100

/-- Its EtherType, after the tag. -/
def etherType (b : List Byte) : Nat := if tagged b then half b 16 else half b 12

/-- Its VID, when it is tagged. -/
def frameVid (b : List Byte) : Option Nat := if tagged b then some (half b 14 % 4096) else none

/-- Its class: the priority code point, 0 untagged (R127). -/
def framePcp (b : List Byte) : Nat := if tagged b then half b 14 / 8192 else 0

/-- Its destination address. -/
def frameDest (b : List Byte) : Nat := ofBe (b.take 6)

/-- Its source address. -/
def frameSrc (b : List Byte) : Nat := ofBe ((b.drop 6).take 6)

/-- Where the IPv4 header begins. -/
def ipAt (b : List Byte) : Nat := if tagged b then 18 else 14

/-- Where the header after the IPv4 header begins. -/
def l4At (b : List Byte) : Nat := ipAt b + byteAt b (ipAt b) % 16 * 4

/-- PRP supervision: the multicast address and EtherType 0x88FB. -/
def isPrpSup (b : List Byte) : Bool := frameDest b / 256 = 0x01154E0001 && etherType b = 0x88FB

/-! ### What a mode lets pass (R61) -/

/-- The column of R61 that a station frame falls under. -/
inductive StationUse where
  | sessions | ptp | prp | other
deriving DecidableEq, Repr

/-- The use of a frame: ARP and IPv4 serve sessions. -/
def stationUse (b : List Byte) : StationUse :=
  if etherType b = 0x88F7 then .ptp else if isPrpSup b then .prp
  else if etherType b = 0x0806 || etherType b = 0x0800 then .sessions else .other

/-- The station ports serve this use in the present mode (R61): none before JOIN or halted; sessions and PTP in JOIN, PRP supervision besides
in FAILSAFE; all elsewhere. -/
def State.stationMay (s : State) (u : StationUse) : Bool :=
  match s.modes.mode with
  | .reset | .boot | .configure => false
  | .join => u = .sessions || u = .ptp
  | .failsafe => u ≠ .other
  | .shutdown => s.modes.shut ≠ .halted
  | _ => true

/-! ### Session datagrams (R43, R44, R60) -/

/-- The UDP ports at which session transactions are taken: UDP_PORT, and the ports of sessions opened under another (R60). -/
def State.udpPorts (s : State) : List Nat :=
  s.o 0x1203 0 :: ((s.dict.sessions.filter (fun e => (e.2.isOpen || e.2.challenge.isSome) && decide (e.2.path = .udp))).map (fun e => e.2.port))

/-- The frame is UDP to IPV4_ADDR on a session port (R400). -/
def State.isSessionUdp (s : State) (b : List Byte) : Bool :=
  etherType b = 0x0800 && byteAt b (ipAt b + 9) = 17 && ofBe ((b.drop (ipAt b + 16)).take 4) = s.o 0x7842 1
    && s.udpPorts.contains (half b (l4At b + 2))

/-- Sum of a frame's bytes as 16-bit numbers, the last padded. -/
def sum16 : List Byte → Nat
  | a :: b :: l => a.toNat * 256 + b.toNat + sum16 l
  | [a] => a.toNat * 256
  | [] => 0

/-- The UDP checksum is absent or good (R44). -/
def udpOk (b : List Byte) : Bool :=
  let i := l4At b
  let n := half b (i + 4)
  half b (i + 6) = 0 ||
    (sum16 ((b.drop (ipAt b + 12)).take 8) + 17 + n + sum16 ((b.drop i).take n)) % 65535 = 0

/-! ### Requests that have arrived -/

/-- A request has arrived whole on a path (R43). -/
def State.arrived (s : State) (a : Arrival) : State := { s with dict := { s.dict with inbox := s.dict.inbox ++ [a] } }

/-- A session datagram reaches the session server (R37, R43): its identity is the IPv4 source address and UDP source port. -/
def State.datagramIn (s : State) (b : List Byte) : State :=
  let i := l4At b
  s.arrived {
    path := .udp, ident := ofBe ((b.drop (ipAt b + 12)).take 4) * 65536 + half b i, via := half b (i + 2)
    bytes := (b.drop (i + 8)).take (half b (i + 4) - 8) }

end Sys2Proof.Machine
end

