-- ==== Sys2Proof/Machine/ItemOps.lean ====
section
/-!
DEFINITION. Shared operations on channel items and on an engine's speculation (R150–R193), and calendar entries and
trackers as channels and engines see them.
-/

namespace Sys2Proof.Machine

/-! ### Finding bindings -/

/-- The item whose entry `index:sub` has the number `v`, among the entries that differ from their default. -/
def State.findItem (s : State) (index sub v : Nat) : Option Nat :=
  (s.od.find? (fun p => p.1 / 65536 = index * 256 + sub && p.2 = .num v)).map (fun p => p.1 % 65536)

/-- The channel whose consumer is engine `e` (R180). -/
def State.consChan (s : State) (e : Nat) : Option Nat := s.findItem 0x5002 0 (0x1000 + e)

/-- The channel whose producer is engine `e` (R180). -/
def State.prodChan (s : State) (e : Nat) : Option Nat := s.findItem 0x5001 0 (0x1000 + e)

/-- The engine that consumes channel `c`, if its consumer is an engine. -/
def State.chanEng (s : State) (c : Nat) : Option Nat :=
  let v := s.o 0x5002 0 c
  if v / 0x1000 = 1 then some (v % 0x1000) else none

/-- Channel size in items (R185). -/
def State.chanSize (s : State) (c : Nat) : Nat := s.o 0x5005 0 c * 64

/-- SPEC_EN of channel `c` (R175). -/
def State.specEn (s : State) (c : Nat) : Bool := bitOf (s.o 0x2601 (c / 32 + 1)) (c % 32)

/-- The member channels of commit group `g`, in order (R170). -/
def State.members (s : State) (g : Nat) : List Nat :=
  ((List.range 8).map (fun m => s.o (0x2610 + g) (m + 1))).takeWhile (· ≠ 0xFFFF)

/-- The commit group that holds channel `c`, if any. -/
def State.groupOf (s : State) (c : Nat) : Option Nat :=
  (s.od.find? (fun p => 0x2610 ≤ p.1 / 65536 / 256 && p.1 / 65536 / 256 ≤ 0x268F && p.2 = .num c)).map
    (fun p => p.1 / 65536 / 256 - 0x2610)

/-! ### Items in channels -/

/-- Tracker `k`. -/
def State.trk (s : State) (k : Nat) : Tracker := tget {} s.phase.trk k

/-- Replace tracker `k`. -/
def State.setTrk (s : State) (k : Nat) (v : Tracker) : State :=
  { s with phase := { s.phase with trk := tset {} s.phase.trk k v } }

/-- The tracker that taps channel `c` sees items of it that are confirmed now (R181). -/
def State.tapSee (s : State) (c : Nat) (l : List Item) : State :=
  let k := s.o 0x500A 0 c
  if k < 4 && !l.isEmpty then s.setTrk k { s.trk k with seen := (s.trk k).seen ++ l } else s

/-- Set the high-water marks from the present level (R201, R203). -/
def chanMark (x : Chan) : Chan :=
  { x with hwm := max x.hwm x.items.length, hwmRc := max x.hwmRc x.items.length }

/-- Write one item into channel `c`; `none` when the channel is full (R187). A confirmed item is seen by the channel's tap (R181). A quarantined channel takes and discards
it (R198); an item of KIND 15 is dropped and counted (R179). -/
def State.chanWrite (s : State) (c : Nat) (i : Item) : Option State :=
  let x := s.chan c
  if x.quarantined then some (s.bump 0x5012 5 c)
  else if i.kind = 15 then some (s.bump 0x5012 1 c)
  else if x.items.length ≥ s.chanSize c then none
  else
    let s := s.setChan c (chanMark { x with items := x.items ++ [i], itemsIn := (x.itemsIn + 1) % 2 ^ 32 })
    some (if i.unc.isNone then s.tapSee c [i] else s)

/-- Write items in order until the channel is full; the items left over are returned. -/
def State.chanWriteAll (s : State) (c : Nat) : List Item → State × List Item
  | [] => (s, [])
  | i :: l =>
    match s.chanWrite c i with
    | some t => t.chanWriteAll c l
    | none => (s, i :: l)

/-- Items of the packet that begins at the head of a list: up to its EOP, or before a later SOP. -/
def packetItems : List Item → List Item
  | [] => []
  | i :: l => if i.eop then [i] else i :: (match l with | [] => [] | j :: _ => if j.sop then [] else packetItems l)

/-- The packet at the head may be read (R191, R192): its EOP is present, or `thresh` of its items are. -/
def packetReady (engine : Bool) (l : List Item) (thresh : Nat) : Bool :=
  let p := (packetItems l).filter (fun i => engine || i.unc.isNone)
  p.any (·.eop) || p.length ≥ thresh

/-- The item a read of the channel would return, if it has something to give (R189, R191, R157). -/
def State.chanPeek (s : State) (c : Nat) (engine : Bool) : Option Item :=
  let x := s.chan c
  let l := x.items.drop x.held
  if x.quarantined then none
  else match l with
    | [] => none
    | h :: _ =>
      if h.unc.isSome && !engine then none
      else if s.o 0x5006 0 c = 1 && !x.inPacket && h.sop && !packetReady engine l (s.o 0x5007 0 c) then none
      else some h

/-- Remove one item from the front (a read that does not speculate), with packet state (R191, R200). -/
def State.chanPop (s : State) (c : Nat) (h : Item) : State :=
  let x := s.chan c
  s.setChan c { x with items := x.items.eraseIdx x.held, itemsOut := (x.itemsOut + 1) % 2 ^ 32, waited := false,
                       inPacket := if h.eop then false else x.inPacket || h.sop }

/-- Hold one item at the front: a speculating engine has pulled it (R154). -/
def State.chanHold (s : State) (c : Nat) (h : Item) : State :=
  let x := s.chan c
  s.setChan c { x with held := x.held + 1, waited := false, inPacket := if h.eop then false else x.inPacket || h.sop }

/-- A read that finds nothing: inside a packet it counts one underrun for the whole wait (R191). -/
def State.chanIdle (s : State) (c : Nat) (waits : Bool) : State :=
  let x := s.chan c
  if s.o 0x5006 0 c = 1 && x.inPacket && (x.quarantined || (x.items.drop x.held).isEmpty) then
    if x.waited then s
    else (s.setChan c { x with waited := waits }).bump 0x5012 2 c
  else s

/-- What is left in the channel of the packet its consumer is inside (R191). -/
def packetRest (x : Chan) : List Item :=
  match x.items.drop x.held with
  | [] => []
  | i :: l => if x.inPacket && !i.sop then packetItems (i :: l) else []

/-- Remove the items that satisfy `p`, held or not; the rest close up in order (R155). A consumer that had entered a packet that leaves is
inside none (R192). -/
def State.chanRemove (s : State) (c : Nat) (p : Item → Bool) : State :=
  let x := s.chan c
  let n := (x.items.filter p).length
  if n = 0 then s else
  let h := ((x.items.take x.held).filter (fun i => !p i)).length
  s.setChan c { x with items := x.items.filter (fun i => !p i), held := h,
                       taken := ((x.items.take x.taken).filter (fun i => !p i)).length,
                       inPacket := x.inPacket && h = x.held && !(packetRest x).any p,
                       itemsOut := (x.itemsOut + n) % 2 ^ 32 }

/-- The items a speculating engine held leave the channel as consumed; what an earlier engine state took stays until it is resolved. -/
def State.chanConsume (s : State) (c : Nat) : State :=
  let x := s.chan c
  s.setChan c { x with items := x.items.take x.taken ++ x.items.drop x.held, held := x.taken,
                       itemsOut := (x.itemsOut + (x.held - x.taken)) % 2 ^ 32 }

/-- An engine that is parked or muted gives up what it holds (R154, R164, R169): confirmed items are consumed; unconfirmed ones are
taken, and leave the channel when their frame is resolved. Its wait is over. -/
def State.chanOrphan (s : State) (c : Nat) : State :=
  let x := s.chan c
  let keep := (x.items.take x.held).filter (·.unc.isSome)
  s.setChan c { x with items := keep ++ x.items.drop x.held, held := keep.length, taken := keep.length, waited := false,
                       itemsOut := (x.itemsOut + (x.held - keep.length)) % 2 ^ 32 }

/-- Taken items whose frame has been confirmed are consumed (R154). -/
def State.takenSettle (s : State) (c : Nat) : State :=
  let x := s.chan c
  let keep := (x.items.take x.taken).filter (·.unc.isSome)
  if keep.length = x.taken then s
  else s.setChan c { x with items := keep ++ x.items.drop x.taken, held := x.held - (x.taken - keep.length), taken := keep.length,
                            itemsOut := (x.itemsOut + (x.taken - keep.length)) % 2 ^ 32 }

/-- The class of a ring delivery has no earlier delivery in the list. -/
def headOf (l : List HeldDel) (d : HeldDel) : Bool := match l.find? (fun x => x.cls = d.cls) with | some x => x = d | none => false

/-- Held deliveries after some have gone: a ring delivery that is now the head of its class begins its hold (R187, R188). -/
def State.promote (s : State) (before : List HeldDel) : State :=
  { s with heldDel := s.heldDel.map (fun d : HeldDel =>
    if d.cls < 8 && headOf s.heldDel d && !before.any (fun x => headOf before x && x.cls = d.cls && x.ch = d.ch && x.since = d.since)
    then { d with since := s.clock } else d) }

/-- Items that wait for a full channel and satisfy `p` are dropped (R156). -/
def State.heldDrop (s : State) (p : Item → Bool) : State :=
  let l := s.heldDel.map (fun d : HeldDel => { d with items := d.items.filter (fun i => !p i) })
  { s with heldDel := l.filter (fun d => !d.items.isEmpty) }.promote s.heldDel

/-- Numbers of the channels that hold anything. -/
def State.chanKeys (s : State) : List Nat := s.chans.map (·.1)

/-- Numbers of the engines that differ from their reset state. -/
def State.engKeys (s : State) : List Nat := s.engines.map (·.1)

/-- Deliver items of a class to a channel: behind earlier deliveries that the class holds (for class 8, writes of this hub's own, those of
the same channel), else as far as space goes; the rest wait (R156, R187). -/
def State.deliverItems (s : State) (cls c : Nat) (l : List Item) : State :=
  let hold : State → List Item → State := fun s l =>
    { s with heldDel := s.heldDel ++ [{ cls := cls, ch := c, items := l, since := s.clock }] }
  if s.heldDel.any (fun d => d.cls = cls && (cls < 8 || d.ch = c)) then hold s l
  else
    let (t, r) := s.chanWriteAll c l
    if r.isEmpty then t else hold t r

/-! ### Leaving speculation -/

/-- Begin the replay of what is staged and confirmed: draining with the shift of R161, or direct when nothing is staged. An engine that
still speculates goes on staging behind what it releases. -/
def engDrain (x : Engine) : Engine :=
  match x.staging.take (x.ckpt.elim x.staging.length (·.staged)) with
  | [] => { x with sh := if x.ckpt.isSome then .speculating else .direct, shift := 0 }
  | o :: _ => { x with sh := .draining, shift := x.tick - o.off }

/-- The engine leaves speculation on confirmation or release: its held items are consumed, its checkpoint goes, and what it staged is
replayed, unless a calendar entry holds it, or behind what it replays already (R161, R167, R171). -/
def State.engConfirm (s : State) (e : Nat) : State :=
  let x := s.eng e
  let s := match s.consChan e with
    | some c => s.chanConsume c
    | none => s
  let y := { x with ckpt := none, gotEop := false }
  s.setEng e (if x.sh = .calendarHeld || x.sh = .draining then y else engDrain y)

/-- The engine's checkpoint is restored and what it staged since is discarded (R162); its read position returns. It
leaves a barrier it had reached (R166). -/
def State.engRestore (s : State) (e : Nat) : State :=
  let x := s.eng e
  match x.ckpt with
  | none => s
  | some k =>
    let s := match s.consChan e with
      | some c => s.setChan c { s.chan c with held := (s.chan c).taken }
      | none => s
    s.setEng e { x with r := k.regs, ckpt := none, staging := x.staging.take k.staged, gotEop := false, barrier := false,
                        waiting := false, syncAt := none, capture := none,
                        sh := if x.sh = .calendarHeld then .calendarHeld
                              else if x.sh = .draining && k.staged > 0 then .draining else .direct }

/-- Restore every listed engine whose checkpoint satisfies `p`. -/
def State.restoreAll (s : State) (p : Ckpt → Bool) : State :=
  s.engKeys.foldl (fun s e => match (s.eng e).ckpt with
    | some k => if p k then s.engRestore e else s
    | none => s) s

/-! ### Calendar entries and trackers as channels and engines see them -/

/-- Calendar entry `i`. -/
def State.cal (s : State) (i : Nat) : CalEntry := tget {} s.phase.cal i

/-- Replace calendar entry `i`. -/
def State.setCal (s : State) (i : Nat) (v : CalEntry) : State :=
  { s with phase := { s.phase with cal := tset {} s.phase.cal i v } }

/-- The entry is armed or frozen (R286). -/
def calLive (x : CalEntry) : Bool := x.st = 1 || x.st = 2

/-- The engines an entry of action 1 releases (R285). -/
def State.calEngines (s : State) (x : CalEntry) : List Nat :=
  if x.action ≠ 1 then []
  else if x.operand ≥ 2 ^ 15 then (s.members (x.operand % 128)).filterMap s.chanEng
  else [x.operand % 256]

/-- A live entry of action 1 holds engine `e` (R167). -/
def State.calHolds (s : State) (e : Nat) : Bool := s.phase.cal.any (fun y => calLive y.2 && (s.calEngines y.2).contains e)

/-- A calendar-held engine discards its staging and is muted (R169, R293): it is not restored, and it gives up what it holds. -/
def State.mute (s : State) (e : Nat) : State :=
  let x := s.eng e
  if x.sh ≠ .calendarHeld then s
  else
    let s := match s.consChan e with
      | some c => s.chanOrphan c
      | none => s
    s.setEng e { x with sh := .muted, staging := [], ckpt := none, shift := 0, gotEop := false }

end Sys2Proof.Machine
end

