-- ==== Sys2Proof/Machine/CswOps.lean ====
section
/-!
DEFINITION. The end of a calendar entry (R292, R293) and what controlled switching does at it (R322–R324): the breaker's
poles, fallback, learning and the operation's record.
-/

namespace Sys2Proof.Machine

/-- Calendar entry `i` fails (state 4) or is cancelled (state 5) with a reason (R292, R293): an event names it, and the engines it held are
muted. -/
def State.calEndOne (s : State) (st reason i : Nat) : State :=
  let x := s.cal i
  let s := (s.setCal i { x with st := st, reason := reason }).bump 0x3501 (if st = 5 then 4 else 3)
  let s := s.event .calendar [i, x.tag, x.trk, reason, x.fireSt]
  (s.calEngines x).foldl (fun s e => s.mute e) s

/-! ### Breakers -/

/-- Breaker `b`. -/
def State.brk (s : State) (b : Nat) : Breaker := tget {} s.station.csw b

/-- Replace breaker `b`. -/
def State.setBrk (s : State) (b : Nat) (v : Breaker) : State :=
  { s with station := { s.station with csw := tset {} s.station.csw b v } }

/-- The channel bound to core endpoint `ep` as producer: the services write it (R298). -/
def State.epOut (s : State) (ep : Nat) : Option Nat := s.findItem 0x5001 0 (0x4000 + ep)

/-- The channel bound to core endpoint `ep` as consumer: the services read it (R298). -/
def State.epIn (s : State) (ep : Nat) : Option Nat := s.findItem 0x5002 0 (0x4000 + ep)

/-- Write items to a core endpoint's channel, under class 8 of the held deliveries. -/
def State.epWrite (s : State) (ep : Nat) (l : List Item) : State :=
  match s.epOut ep with
  | some c => s.deliverItems 8 c l
  | none => s

/-- Write the command item of an operation to pole `p` of breaker `b` (R318). -/
def State.cswItem (s : State) (b p kind : Nat) : State :=
  s.epWrite (0xD0 + 3 * b + p) [{ sop := true, eop := true, kind := 3, data := BitVec.ofNat 24 (0xB0 + kind) }]

/-- Pole `p`'s state in an operation. -/
def cswPole (x : Breaker) (p : Nat) : Pole := x.poles.getD p {}

/-- Change pole `p`. -/
def cswSetPole (x : Breaker) (p : Nat) (v : Pole) : Breaker := { x with poles := x.poles.set p v }

/-- The sub of BASE and COUNT for a kind, band and pole (R325). -/
def cswSub (kind band p : Nat) : Nat := 9 * (kind - 1) + 3 * band + p + 1

/-- BASE of a pole: T_NOMINAL where none has been learned or written (R325). -/
def State.cswBase (s : State) (b kind band p : Nat) : Nat :=
  match s.val 0x3A07 (cswSub kind band p) b with
  | .num n => n
  | .bytes _ => s.o 0x3A03 (3 * (kind - 1) + p + 1) b

/-- Round a quotient to the nearest integer, ties away from zero (R323). -/
def divAway (a : Int) (w : Nat) : Int :=
  let m : Int := ((2 * a.natAbs + w) / (2 * w) : Nat)
  if a < 0 then -m else m

/-- Learn one pole of a controlled operation into the operation's own band (R323). -/
def State.cswLearn (s : State) (b p : Nat) : State :=
  let x := s.brk b
  let q := cswPole x p
  if q.contact.isNone || q.stepped || q.resid.natAbs > 1000 * s.o 0x3A05 7 b then s
  else
    let k := cswSub x.kind x.band p
    let w := min (s.o 0x3A08 k b + 1) (s.o 0x3A05 8 b)
    let base : Int := s.cswBase b x.kind x.band p + divAway q.resid w
    (s.setO 0x3A07 k b (base.toNat % 2 ^ 32)).setO 0x3A08 k b (min (s.o 0x3A08 k b + 1) 255)

/-- The record of an operation (R324), little-endian. Fields of a pole that did not operate, and a margin above 16 bits, are
free. -/
def cswRecord (x : Breaker) (outcome : Nat) (fr : Nat) : List Byte :=
  let pole : Nat → List Byte := fun p =>
    let q := cswPole x p
    let f := fr / 2 ^ (96 * p)
    leBytes 4 (match q.fired with | some (_, st) => st | none => f) ++ leBytes 4 (q.contact.getD (f / 2 ^ 32))
      ++ leBytes 4 (ofSigned 32 q.t) ++ leBytes 4 (if q.contact.isSome then ofSigned 32 q.resid else f / 2 ^ 64)
  leBytes 1 x.kind ++ leBytes 1 outcome ++ leBytes 1 x.flags ++ [0] ++ leBytes 4 x.seq ++ leBytes 4 x.cmdSt
    ++ pole 0 ++ pole 1 ++ pole 2 ++ leBytes 2 (if x.margin < 65536 then x.margin else fr / 2 ^ 288) ++ [0, 0]

/-- The outcome of an operation: what cut it short, else that of its worst pole (R323, R324). -/
def cswOutcome (x : Breaker) : Nat :=
  if x.result ≠ 0 then x.result
  else b2n (x.poles.any (fun q => q.resid.natAbs > 1000 * x.margin))

/-- End the operation of breaker `b`: learn, count, record and emit it (R323, R324). -/
def State.cswFinish (s : State) (b : Nat) : State :=
  let outcome := cswOutcome (s.brk b)
  let learn := !(s.brk b).uncontrolled && outcome ≠ 6 && outcome ≠ 4
  let s := if learn then [0, 1, 2].foldl (fun s p => s.cswLearn b p) s else s
  let x := s.brk b
  let rec_ := cswRecord x outcome (s.freeNat 304)
  let s := s.drew.setBrk b { x with
    kind := 0, uncontrolled := false, band := 0, flags := 0, margin := 0, cmdSt := 0, result := 0, poles := [],
    lastOp := if x.poles.any (·.fired.isSome) then some s.clock else x.lastOp,
    seq := (x.seq + 1) % 2 ^ 32, ops := (rec_ :: x.ops).take 16 }
  let s := s.bump 0x3A0A 1 b
  let s := if outcome = 1 then s.bump 0x3A0A 2 b else s
  s.event .csw (b :: rec_.map (·.toNat))

/-- Every pole of the operation has made or parted contact or was cancelled. -/
def cswDone (x : Breaker) : Bool := x.poles.all (fun q => q.contact.isSome || q.cancelled)

/-- End the operation once no pole is still awaited. -/
def State.cswSettle (s : State) (b : Nat) : State :=
  if (s.brk b).kind ≠ 0 && cswDone (s.brk b) then s.cswFinish b else s

/-- Cancel the entries of the poles that have not fired (R291, R321). -/
def State.cswCancel (s : State) (b : Nat) : State :=
  (s.brk b).poles.foldl (fun s q =>
    match q.entry, q.fired with
    | some i, none => if calLive (s.cal i) then s.calEndOne 5 5 i else s
    | _, _ => s) s

/-- The poles that have not fired operate at once: their command items are written and they count as fired now. -/
def State.cswAtOnce (s : State) (b : Nat) : State :=
  [0, 1, 2].foldl (fun s p =>
    let x := s.brk b
    let q := cswPole x p
    if q.fired.isSome then s
    else (s.setBrk b (cswSetPole x p { q with entry := none, fired := some (s.clock, s.st32) })).cswItem b p x.kind) s

/-- Apply FALLBACK (R320, R322): 0 refuses the operation, 1 writes the command items without an armed entry. -/
def State.cswFallback (s : State) (b : Nat) : State :=
  let x := s.brk b
  let s := s.bump 0x3A0A 4 b
  if s.o 0x3A05 (8 + x.kind) b = 0 then (s.setBrk b { x with result := 3 }).cswFinish b
  else (s.setBrk b { x with result := 2, uncontrolled := true }).cswAtOnce b

/-- A pole's arming was refused or its entry failed (R322). -/
def State.cswPoleFailed (s : State) (b : Nat) : State :=
  let s := s.cswCancel b
  let x := s.brk b
  if x.poles.any (·.fired.isSome) then
    (s.setBrk b { x with result := 4, uncontrolled := true, flags := x.flags ||| 0x80 }).cswAtOnce b
  else s.cswFallback b

/-- The breaker and pole whose unfired entry is calendar entry `i`. -/
def State.cswOf (s : State) (i : Nat) : Option (Nat × Nat) :=
  (List.range 8).flatMap (fun b => [(b, 0), (b, 1), (b, 2)])
    |>.find? (fun bp => let q := cswPole (s.brk bp.1) bp.2
                        q.entry = some i && q.fired.isNone && !q.cancelled)

/-- Calendar entry `i` ends; an entry of a breaker's pole ends the pole's part as R321 and R322 say. -/
def State.calEnd (s : State) (st reason i : Nat) : State :=
  let s := s.calEndOne st reason i
  match s.cswOf i with
  | none => s
  | some (b, p) =>
    let x := s.brk b
    if st = 4 then s.cswPoleFailed b
    else (s.setBrk b (cswSetPole { x with result := 5 } p { cswPole x p with cancelled := true })).cswSettle b

/-- The calendar has released entry `i`: its pole has fired (R321). -/
def State.cswFired (s : State) (i st : Nat) : State :=
  match s.cswOf i with
  | none => s
  | some (b, p) => let x := s.brk b
                   s.setBrk b (cswSetPole x p { cswPole x p with fired := some (s.clock, st) })

end Sys2Proof.Machine
end

