-- ==== Sys2Proof/Machine/LogOps.lean ====
section
/-!
DEFINITION. Shared operations of the sequence-of-events log (R314–R316): the layout of a record, its entry into the cache, and
what the log holds.
-/

namespace Sys2Proof.Machine

/-- Records the cache holds at most (R316). -/
def logCap : Nat := 524288

/-- The offset in DRAM of the cache's slot for a SEQ (R135, R316). -/
def State.logSlot (s : State) (seq : Nat) : Nat := 2 ^ 20 * s.o 0x1006 0 - 2 ^ 24 + seq % logCap * 32

/-- The service that writes the log runs (R299). -/
def State.soeRuns (s : State) : Bool :=
  match s.modes.mode with
  | .reset | .boot | .configure => false
  | _ => true

/-- The 32 bytes of a record (R314). -/
def logBytes (r : LogRec) (flags seq : Nat) : List Byte :=
  let b := leBytes 1 r.typ ++ leBytes 1 flags ++ leBytes 2 r.point ++ leBytes 4 seq ++ leBytes 4 r.edge ++ leBytes 4 r.judge
    ++ leBytes 2 r.chan ++ leBytes 3 r.raw ++ leBytes 1 r.step ++ [0, 0] ++ leBytes 4 r.extra
  b ++ leBytes 4 (crc32 b).toNat

/-- FLAGS bits 3 and 4: MAINTENANCE, and TIME_STATUS not LOCKED at entry (R314). -/
def State.logFlags (s : State) : Nat := b2n (s.modes.mode = .maintenance) * 8 + b2n (s.time.status ≠ .locked) * 16

/-- Enter a record (R314, R316): it takes the next SEQ, stands in the cache and waits for flash. A record that a restarted SOE
service repeats takes the SEQ it carried the first time (R342). -/
def State.logWrite (s : State) (r : LogRec) : State :=
  let l := s.station.log
  match (if r.typ = 1 then [] else l.replay) with
  | q :: rest =>
    { s.dramStore (s.logSlot q) (logBytes r (r.flags ||| s.logFlags) q) with
      station := { s.station with log := { l with replay := rest, since := l.since ++ [q] } } }
  | [] =>
    let s := s.dramStore (s.logSlot l.next) (logBytes r (r.flags ||| s.logFlags) l.next)
    let s := { s with station := { s.station with log := { l with
      next := (l.next + 1) % 2 ^ 32, cached := min (l.cached + 1) logCap, waiting := l.waiting ++ [(l.next, s.clock)],
      since := if r.typ = 1 then l.since else l.since ++ [l.next] } } }
    s.bump 0x3905 1

/-- A record enters the log; while the marker of a step waits, only one from before the step does, and any other stands behind the marker
(R266). -/
def State.logPut (s : State) (old : Bool) (r : LogRec) : State :=
  if s.station.log.hold.isSome && !old then
    { s with station := { s.station with log := { s.station.log with behind := s.station.log.behind ++ [r] } } }
  else s.logWrite r

/-- A record of an instant after any step under way. -/
def State.logEnter (s : State) (r : LogRec) : State := s.logPut false r

/-- A marker enters the log (R265, R314): UPPER and LOWER of the reference count, and STEP. The channel field is free. -/
def State.logMarker (s : State) (step : Bool) (count : Nat) : State :=
  s.drew.logEnter {
    typ := 1, edge := count / 2 ^ 32, judge := count, chan := s.freeNat 16, step := b2n step }

/-- The step marker enters, and the records behind it after it (R266). -/
def State.logRelease (s : State) : State :=
  match s.station.log.hold with
  | none => s
  | some (count, _) =>
    let l := s.station.log.behind
    let s := { s with station := { s.station with log := { s.station.log with hold := none, behind := [], pre := [], olds := [] } } }
    l.foldl State.logWrite (s.logMarker true count)

/-- The hold ends once every record stamped before the step has entered, or after 1.0 s (R266). DESIGN CHOICE: those records are the ones whose items
stood in an input, or whose stamp had been read, at the step. -/
def State.logHoldEnd (s : State) : State :=
  match s.station.log.hold with
  | none => s
  | some (_, t) =>
    if s.station.log.pre.isEmpty && s.station.log.olds.isEmpty || s.clock ≥ 250000000 + t then s.logRelease else s

/-- At a step (R266): the marker waits for the records from before it; a step during a hold puts its marker behind. -/
def State.logStep (s : State) (count : Nat) : State :=
  let chans := (List.range 48).filterMap (fun n => (s.findItem 0x5002 0 (0x40A0 + n)).map (fun c => (n, (s.chan c).items.length)))
  let pre := chans.foldl (fun t p => tset 0 t p.1 p.2) ([] : Tab Nat)
  let olds := (List.range 48).filter (fun n => (tget {} s.station.soe n).stamp.isSome)
  if s.station.log.hold.isSome || pre.isEmpty && olds.isEmpty then s.logMarker true count
  else { s with station := { s.station with log := { s.station.log with hold := some (count, s.clock), pre := pre, olds := olds } } }

/-- The oldest SEQ held, in flash or in the cache (R325). -/
def State.logOldest (s : State) : Nat :=
  let l := s.station.log
  match l.sectors.flatMap (·.2) with
  | q :: _ => q
  | [] => (2 ^ 32 + l.next - l.cached) % 2 ^ 32

/-- The newest SEQ held (R325). -/
def State.logNewest (s : State) : Nat := (2 ^ 32 + s.station.log.next - 1) % 2 ^ 32

/-- How many records are held. -/
def State.logHeld (s : State) : Nat := (2 ^ 32 + s.station.log.next - s.logOldest) % 2 ^ 32

/-- A held record's bytes: from the cache while it stands there, else from flash. -/
def State.logRead (s : State) (seq : Nat) : List Byte :=
  let l := s.station.log
  if (2 ^ 32 + l.next - 1 - seq) % 2 ^ 32 < l.cached then s.readDram (s.logSlot seq) 32
  else tget [] l.flash seq

end Sys2Proof.Machine
end

