-- ==== Sys2Proof/Machine/CoreOps.lean ====
section
/-!
DEFINITION. Shared operations of the service cores (R329–R347): instances, what a core endpoint reads from a channel and holds,
and the trace buffer.
-/

namespace Sys2Proof.Machine

/-- Instance `n`. -/
def State.svc (s : State) (n : Nat) : Svc := tget {} s.cores.svcs n

/-- Replace instance `n`. -/
def State.setSvc (s : State) (n : Nat) (v : Svc) : State := { s with cores := { s.cores with svcs := tset {} s.cores.svcs n v } }

/-- Core `k`. -/
def State.coreSt (s : State) (k : Nat) : CoreSt := tget {} s.cores.cores k

/-- Replace core `k`. -/
def State.setCoreSt (s : State) (k : Nat) (v : CoreSt) : State :=
  { s with cores := { s.cores with cores := tset {} s.cores.cores k v } }

/-- The instance runs: it is placed and neither restarting, quiesced nor failed (0x4011:02). -/
def State.svcUp (s : State) (n : Nat) : Bool := (s.svc n).state = 2

/-- The modes in which SV, GOOSE and signals run (R299). -/
def State.stationRuns (s : State) : Bool :=
  match s.modes.mode with
  | .active | .degraded | .handover | .maintenance | .standby => true
  | _ => false

/-- The modes in which publications send frames (R299). -/
def State.stationSends (s : State) : Bool := s.stationRuns && s.modes.mode ≠ .standby

/-- The confirmed items that a core endpoint may read next. -/
def State.epItems (s : State) (c : Nat) : List Item :=
  let x := s.chan c
  if x.quarantined then [] else (x.items.drop x.held).takeWhile (·.unc.isNone)

/-- A core endpoint reads `l` items: they stay in channel RAM, held, until a hinge record covers them (R337). -/
def State.epTake (s : State) (c : Nat) (l : List Item) : State := l.foldl (fun s i => s.chanHold c i) s

/-- Read one whole packet from a channel of PKT_MODE 1, if it stands there. -/
def State.epPacket (s : State) (c : Nat) : Option (List Item × State) :=
  let p := packetItems (s.epItems c)
  match p.getLast? with
  | some i => if i.eop then some (p, s.epTake c p) else none
  | none => none

/-- The stamp pair at the head of a packet and what follows it (R177). -/
def stampPair : List Item → Option (Nat × List Item)
  | a :: b :: l =>
    if a.kind = 1 && b.kind = 2 then some (a.data.toNat % 65536 + 65536 * (b.data.toNat % 65536), l) else none
  | _ => none

/-- The input channels of an instance (R298, R337). Signal-update inputs are read by the system service. -/
def State.svcInputs (s : State) (n : Nat) : List Nat :=
  if n = 0 then (List.range 32).filterMap (fun i => s.epIn (0x60 + i))
  else if 0x100 ≤ n && n < 0x120 then (s.epIn (n - 0x100)).toList
  else if n = 0x400 then (List.range 48).filterMap (fun i => s.epIn (0xA0 + i))
  else if 0x480 ≤ n && n < 0x488 then [0, 1, 2].filterMap (fun p => s.epIn (0xE8 + 3 * (n - 0x480) + p))
  else if n = 0x500 then [s.o 0x3052 1]
  else []

/-! ### Trace (R344–R347) -/

/-- Words of a message: header, stamp and payload. -/
def traceLen (m : TraceMsg) : Nat := 2 + m.payload.length

/-- The words of a message (R344). -/
def traceWords (m : TraceMsg) : List Nat :=
  (m.typ * 2 ^ 28 + m.core % 16 * 2 ^ 24 + m.payload.length % 256 * 2 ^ 16 + m.seq % 65536) :: m.stamp :: m.payload

/-- Words held in the on-chip buffer. -/
def State.traceFill (s : State) : Nat := (s.cores.buf.map traceLen).sum

/-- A dropped message is counted (R346): `flow` for program-flow packets. -/
def State.traceDrop (s : State) (flow : Bool) : State :=
  let c := s.cores
  let s := { s with cores := { c with
    lost := min (c.lost + 1) 0xFFFF,
    rcMsg := if flow then c.rcMsg else min (c.rcMsg + 1) 0xFFFF,
    rcFlow := if flow then min (c.rcFlow + 1) 0xFFFF else c.rcFlow } }
  s.bump 0x4021 (if flow then 4 else 3)

/-- A message enters the buffer, or is dropped under its fill rules (R344, R346): program-flow packets over 75 %, every message
but a marker when there is no room. -/
def State.tracePut (s : State) (typ core stamp : Nat) (payload : List Nat) : State :=
  let m : TraceMsg := { typ := typ, core := core, seq := s.cores.seq, stamp := stamp, payload := payload }
  let fill := s.traceFill
  if typ = 4 && fill * 4 > 3 * 16384 then s.traceDrop true
  else if typ ≠ 1 && fill + traceLen m > 16384 then s.traceDrop (typ = 4)
  else { s with cores := { s.cores with buf := s.cores.buf ++ [m], seq := (s.cores.seq + 1) % 65536 } }

/-- Put a message or a marker behind the marker of a step that waits (R266). -/
def State.traceBehind (s : State) (typ core stamp : Nat) (payload : List Nat) : State :=
  { s with cores := { s.cores with
    behind := s.cores.behind ++ [{ typ := typ, core := core, seq := 0, stamp := stamp, payload := payload }] } }

/-- The stamp lies at or after the step at `count` on the new scale. DEDUCED: one that may be of either scale is taken as of the new one. -/
def State.stampAfter (s : State) (count stamp : Nat) : Bool :=
  (2 ^ 32 + stamp - count % 2 ^ 32) % 2 ^ 32 + count ≤ s.time.wt / 2 ^ 32

/-- A message is generated: while a step's marker waits, one stamped after the step stands behind it (R266). -/
def State.traceIn (s : State) (typ core stamp : Nat) (payload : List Nat) : State :=
  match s.cores.hold with
  | some (count, _) => if s.stampAfter count stamp then s.traceBehind typ core stamp payload else s.tracePut typ core stamp payload
  | none => s.tracePut typ core stamp payload

/-- A service message of a level no higher than TRACE_LEVEL is generated (R344). -/
def State.traceSvc (s : State) (n level code : Nat) (args : List Nat) : State :=
  if level > s.o 0x4020 4 then s
  else s.traceIn 0 ((s.svc n).core % 16) s.st32 ((n * 2 ^ 16 + level * 2 ^ 14 + code) :: args)

/-- A marker enters the trace stream (R265, R344, R346): it carries the loss flag and count, and merges into the buffer's last
message where there is no room and that is a marker. -/
def State.markerPut (s : State) (step start : Bool) (count : Nat) : State :=
  let c := s.cores
  let pay := [count / 2 ^ 32 % 2 ^ 32, count % 2 ^ 32, b2n step + 2 * b2n start + 4 * b2n (c.lost ≠ 0) + c.lost * 2 ^ 16]
  let s := { s with cores := { s.cores with lost := 0 } }
  match c.buf.getLast? with
  | some m =>
    if m.typ = 1 && s.traceFill + 5 > 16384 then
      ({ s with cores := { s.cores with buf := c.buf.dropLast ++ [{ m with stamp := s.st32, payload := pay }] } }).bump 0x3070 10
    else s.tracePut 1 0 s.st32 pay
  | none => s.tracePut 1 0 s.st32 pay

/-- A marker of the trace stream (R265, R266): that of a step waits for the messages stamped before it, and any other behind it. -/
def State.traceMarker (s : State) (step start : Bool) (count : Nat) : State :=
  if s.cores.hold.isSome then s.traceBehind 1 0 s.st32 [count, b2n step, b2n start]
  else if step then { s with cores := { s.cores with hold := some (count, s.clock) } }
  else s.markerPut step start count

/-- One message or marker behind a step's marker enters. -/
def State.traceAfter (s : State) (m : TraceMsg) : State :=
  match m.typ, m.payload with
  | 1, [count, step, start] => s.markerPut (step = 1) (start = 1) count
  | _, _ => s.tracePut m.typ m.core m.stamp m.payload

/-- The hold of the trace stream ends 1.0 s after the step (R266). DESIGN CHOICE: it always lasts as long as the spec lets it, since messages stamped
before the step may come until then. -/
def State.traceHoldEnd (s : State) : State :=
  match s.cores.hold with
  | none => s
  | some (count, t) =>
    if s.clock < 250000000 + t then s
    else
      let l := s.cores.behind
      l.foldl State.traceAfter (State.markerPut { s with cores := { s.cores with hold := none, behind := [] } } true false count)

end Sys2Proof.Machine
end

