-- ==== Sys2Proof/Machine/ChanOps.lean ====
section
/-!
DEFINITION. Shared operations of channels, speculation, commit groups and engines (R150–R199, R231): confirming and revoking a
frame's items, releasing and failing a commit group, quarantine, parking an engine.
-/

namespace Sys2Proof.Machine

/-- End every live entry that satisfies `p`, in ascending number. -/
def State.calEndAll (s : State) (st reason : Nat) (p : CalEntry → Bool) : State :=
  ((s.phase.cal.filter (fun e => calLive e.2 && p e.2)).map (·.1)).foldl
    (fun s i => if calLive (s.cal i) then s.calEnd st reason i else s) s

/-- A locked tracker is lost with a cause (R280): it runs free on its last frequency, with no rate of change. -/
def State.trkLose (s : State) (k cause : Nat) : State :=
  let x := s.trk k
  if x.st ≠ 2 then s
  else
    let s := s.setTrk k { x with
      st := 3, r := 0, unlockedAt := (s.time.ltb * 4 : Nat), goodSince := none, goodN := 0, lowSince := none, rateSince := none, residSince := none }
    (s.setO (0x3420 + k) 8 0 cause).event .calendar [0x10000 + k, 3, cause]

/-- The tapped channel is quarantined, or its producer engine parked (R280). -/
def State.tapLost (s : State) (c : Nat) : State :=
  let k := s.o 0x500A 0 c
  if k < 4 then s.trkLose k 6 else s

/-! ### Commit groups -/

/-- Why a group failed (R172). -/
inductive GFail where
  | revoked | parked | quarantined | emptied (chs : List Nat) | timeout | calendar
deriving DecidableEq, Repr

/-- One member's code in the record of a failure (R172). -/
def State.memberCode (s : State) (r : GroupRun) (why : GFail) (c : Nat) : Nat :=
  let e := (s.chanEng c).getD 0
  let armed := r.armed.contains e
  if (s.eng e).st = .parked then 4
  else if (s.chan c).quarantined then 5
  else if why = .revoked || (match why with | .emptied l => l.contains c | _ => false) then 2
  else if r.confirmed && armed then 0
  else if why = .calendar then 6
  else if !r.confirmed then 1
  else 3

/-- The 24 bits of member codes, member 0 in [2:0]; 7 where there is no member. -/
def State.memberCodes (s : State) (r : GroupRun) (why : GFail) : Nat :=
  let l := (s.members r.g).map (s.memberCode r why)
  (List.range 8).foldl (fun a i => a + (l.getD i 7) * 8 ^ i) 0

/-- A commit group fails (R172): every member restores its checkpoint and its packet's items leave its channel. The
first failure is recorded; every failure is counted. -/
def State.groupFail (s : State) (r : GroupRun) (why : GFail) : State :=
  let codes := s.memberCodes r why
  let s := { s with shutter := { s.shutter with groups := s.shutter.groups.filter (fun q => q.inst ≠ r.inst) } }
  let s := s.chanKeys.foldl (fun s c => s.chanRemove c (fun i => i.grp = some (r.g, r.inst))) s
  let s := s.restoreAll (fun k => k.grp = some (r.g, r.inst))
  let s := s.heldDrop (fun i => i.grp = some (r.g, r.inst))
  let s := s.bump 0x26A0 7
  let s := if s.shutter.gfailValid then s
    else { s with shutter := { s.shutter with
      gfailValid := true, gfailGroup := r.g, gfailCodes := codes, gfailSt32 := s.st32 } }.noteSet W1c.gfail
  let s := s.calEndAll 4 7 (fun x => x.action = 1 && x.operand = 2 ^ 15 + r.g)
  s.event .groupFailure [r.g, codes]

/-- Fail every group run that satisfies `p`. -/
def State.groupFailAll (s : State) (p : GroupRun → Bool) (why : GFail) : State :=
  (s.shutter.groups.filter p).foldl (fun s r => s.groupFail r why) s

/-- Release every group run whose items are confirmed and whose members are all armed, within the time-out (R171). -/
def State.groupTryRelease (s : State) : State :=
  s.shutter.groups.foldl (fun s r =>
    let engs := (s.members r.g).filterMap s.chanEng
    if r.confirmed && !engs.isEmpty && engs.all (fun e => r.armed.contains e)
        && s.now10 ≤ r.th + 10000 * s.o 0x2602 0 then
      let s := { s with shutter := { s.shutter with groups := s.shutter.groups.filter (fun q => q.inst ≠ r.inst) } }
      let s := engs.foldl (fun s e =>
        match (s.eng e).ckpt with
        | some k => if k.grp = some (r.g, r.inst) then s.engConfirm e else s
        | none => s) s
      s.bump 0x26A0 6
    else s) s

/-! ### Verdicts -/

/-- Confirm the frame of tag `g` (R153, R161): its items lose UNC, engines that speculated on it begin replay, its
group may be released. -/
def State.confirmTag (s : State) (g : Nat) : State :=
  let clr : Item → Item := fun i => if i.unc = some g then { i with unc := none } else i
  let s := s.setSpecTag g none
  let s := s.chanKeys.foldl (fun s c =>
    let l := (s.chan c).items.filter (fun i => i.unc = some g)
    (s.setChan c { s.chan c with items := (s.chan c).items.map clr }).tapSee c (l.map clr)) s
  let s := { s with heldDel := s.heldDel.map (fun d : HeldDel => { d with items := d.items.map clr }) }
  let s := { s with shutter := { s.shutter with groups := s.shutter.groups.map (fun r : GroupRun =>
    if r.tag = some g then { r with tag := none, confirmed := true } else r) } }
  let s := s.engKeys.foldl (fun s e => match (s.eng e).ckpt with
    | some k => if k.tag = some g then
        if k.grp.isNone then s.engConfirm e
        else s.setEng e { s.eng e with ckpt := some { k with tag := none } }
      else s
    | none => s) s
  let s := s.chanKeys.foldl (fun s c => s.takenSettle c) s
  (s.bump 0x26A0 1).groupTryRelease

/-- Revoke the frame of tag `g` (R153, R155, R162): its items leave every channel, its group fails, and every engine
with its checkpoint is restored. -/
def State.revokeTag (s : State) (g : Nat) : State :=
  let n := s.chans.foldl (fun n p => n + (p.2.items.filter (fun i => i.unc = some g)).length) 0
  let s := s.setSpecTag g none
  let s := s.groupFailAll (fun r => r.tag = some g) .revoked
  let s := s.chanKeys.foldl (fun s c => s.chanRemove c (fun i => i.unc = some g)) s
  let s := s.heldDrop (fun i => i.unc = some g)
  let s := s.restoreAll (fun k => k.tag = some g)
  (s.bump 0x26A0 2).bumpBy 0x26A0 3 0 n

/-! ### Quarantine and park -/

/-- Revoke what is unconfirmed in channel `c` alone, drop the rest, and leave it empty (R186, R198). A consumer inside a packet stays
inside it (R191), unless the packet's items are revoked (R192). -/
def State.chanEmpty (s : State) (c : Nat) : State :=
  let x := s.chan c
  let n := (x.items.filter (·.unc.isSome)).length
  let tags := x.items.filterMap (·.unc)
  let s := match s.chanEng c with
    | some e => match (s.eng e).ckpt with
      | some k => if (k.tag.any tags.contains) || k.grp.isSome || x.held > x.taken then s.engRestore e else s
      | none => s
    | none => s
  let s := s.setChan c { s.chan c with items := [], held := 0, taken := 0, covered := 0,
                                       inPacket := x.inPacket && !(x.items.take x.held ++ packetRest x).any (·.unc.isSome),
                                       itemsOut := (x.itemsOut + x.items.length) % 2 ^ 32 }
  s.bumpBy 0x26A0 3 0 n

/-- Quarantine channel `c` (R198). Ring deliveries held for it are discarded and counted as undeliverable. -/
def State.quarantine (s : State) (c : Nat) : State :=
  let s := (s.setChan c { s.chan c with quarantined := true }).tapLost c
  let s := s.groupFailAll (fun r => (s.members r.g).contains c) .quarantined
  let s := s.chanEmpty c
  let ring : HeldDel → Bool := fun d => d.ch = c && d.cls < 8
  let n := (s.heldDel.filter ring).length
  ({ s with heldDel := s.heldDel.filter (fun d => !ring d) }.promote s.heldDel).bumpBy 0x2024 5 0 n

/-- Shutter effects of a park (R164): staging and checkpoint go; the items held stay consumed and are resolved with their frame. An armed
calendar entry goes on holding the engine (R167). -/
def State.engDropSpec (s : State) (e : Nat) : State :=
  let x := s.eng e
  let s := match s.consChan e with
    | some c => s.chanOrphan c
    | none => s
  s.setEng e { x with staging := [], ckpt := none, sh := if s.calHolds e then .calendarHeld else .direct, shift := 0, gotEop := false }

/-- The engine executes nothing more (R231, R232): the Shutter effects of R164 apply, and it waits for nothing. -/
def State.engHalt (s : State) (e : Nat) : State :=
  let s := s.engDropSpec e
  s.setEng e { s.eng e with barrier := false, waiting := false, syncAt := none, capture := none }

/-- Park engine `e` with a cause (R231): a running or group-idle engine executes nothing more; the first park since the
last restart is recorded; a commit group it belongs to fails. -/
def State.enginePark (s : State) (e cause : Nat) : State :=
  let x := s.eng e
  if x.st = .running || x.st = .groupIdle then
    let s := s.setEng e { x with
      st := .parked,
      parkCause := if x.parkCause = 0 then cause else x.parkCause,
      parkPc := if x.parkCause = 0 then x.r.pc else x.parkPc,
      parkSt32 := if x.parkCause = 0 then s.st32 else x.parkSt32 }
    let s := s.groupFailAll (fun r => ((s.members r.g).filterMap s.chanEng).contains e) .parked
    let s := (s.calEndAll 4 6 (fun x => (s.calEngines x).contains e)).engHalt e
    match s.prodChan e with
    | some c => s.tapLost c
    | none => s
  else s

/-- The lock group of engine `e`: the group of a channel it produces or consumes (R194). -/
def State.engLock (s : State) (e : Nat) : Option Nat :=
  let f : Option Nat → Option Nat := fun c => match c with
    | some c => let g := s.o 0x5009 0 c; if g < 64 then some g else none
    | none => none
  match f (s.consChan e) with
  | some g => some g
  | none => f (s.prodChan e)

/-- The member engines of lock group `g` (R194). -/
def State.lockMembers (s : State) (g : Nat) : List Nat :=
  let chans := (s.od.filter (fun p => p.1 / 65536 = 0x5009 * 256 && p.2 = .num g)).map (fun p => p.1 % 65536)
  let codes := chans.flatMap (fun c => [s.o 0x5001 0 c, s.o 0x5002 0 c])
  ((codes.filter (fun v => v / 0x1000 = 1)).map (· % 0x1000)).eraseDups

/-- The start values of engine `e` (R207); one that an armed calendar entry names is calendar-held from its start (R167). -/
def State.engStartValues (s : State) (e : Nat) : Engine :=
  let x := s.eng e
  { x with
    r := { pc := s.o 0x6002 0 e, x := BitVec.ofNat 24 (s.o 0x600B 1 e), y := BitVec.ofNat 24 (s.o 0x600B 2 e),
           wrapBot := (x.r.wrapPend.map (·.1)).getD (s.o 0x6004 1 e),
           wrapTop := (x.r.wrapPend.map (·.2)).getD (s.o 0x6004 2 e) },
    cnt := 0, cmp := BitVec.ofNat 24 (s.o 0x600B 3 e), f := false, item := 64, edge := 0, cap := 0,
    cmpLatch := false, matched := false, strobes := 0, cals := 0,
    out := BitVec.ofNat 48 (s.o 0x6008 2 e), dir := BitVec.ofNat 48 (s.o 0x6008 1 e),
    acc := 0, divInt := s.o 0x6003 1 e, divFrac := s.o 0x6003 2 e,
    waiting := false, sh := if s.calHolds e then .calendarHeld else .direct, ckpt := none, staging := [], shift := 0, gotEop := false,
    barrier := false, rbFails := [], syncAt := none, capture := none }

/-- Engine `e` held before its first instruction (R195): a wrap pair that is pending stays so until the group's start (R229, R239). -/
def State.engIdle (s : State) (e : Nat) : Engine :=
  let x := s.eng e
  let y := s.engStartValues e
  { y with st := .groupIdle,
           r := { y.r with wrapBot := s.o 0x6004 1 e, wrapTop := s.o 0x6004 2 e, wrapPend := x.r.wrapPend } }

/-- Start engine `e` (R207, R232, R233): a lock-group member enters group idle and takes its start values at the group's
start. The record of the last park is cleared. -/
def State.engineStart (s : State) (e : Nat) : State :=
  if (s.eng e).st = .retired then s
  else
    let x := if (s.engLock e).isSome then s.engIdle e else { s.engStartValues e with st := .running }
    s.setEng e { x with parkCause := 0, parkPc := 0, parkSt32 := 0 }

/-- Stop engine `e`: it executes nothing more and its pins take their park states (R232, R234). -/
def State.engineStop (s : State) (e : Nat) : State :=
  if (s.eng e).st = .retired then s
  else
    let s := s.engHalt e
    s.setEng e { s.eng e with st := .stopped }

end Sys2Proof.Machine
end

