-- ==== Sys2Proof/Machine/Pads.lean ====
section
/-!
DEFINITION. Pads and pins: which engine drives a pin, the level a pad shows under mode, override, pair gating, park states and
bank supply, and the sample an engine reads (R61, R204–R209, R231–R236, R240–R246).
-/

namespace Sys2Proof.Machine

/-- Bank of pair pin `p` of engine `e` (R204). -/
def pinBank (e p : Nat) : Nat := 2 * (e / 32) + p / 24

/-- Pin within its bank. -/
def pinIn (p : Nat) : Nat := p % 24

/-- The pins of a window of `n` pins from base `b`, wrapping at 48 (R205). -/
def window (b n : Nat) : List Nat := (List.range n).map (fun i => (b + i) % 48)

/-- The pins of a window as a mask. -/
def winMask (b n : Nat) : W48 :=
  (window b n).foldl (fun m p => m ||| (1#48 <<< p)) 0

/-- A value placed on a window: bit `i` goes to pin `(b + i) mod 48`. -/
def winBits (b n v : Nat) : W48 :=
  (List.range n).foldl (fun m i => if bitOf v i then m ||| (1#48 <<< ((b + i) % 48)) else m) 0

/-- The value a window reads from pin levels. -/
def winRead (lvl : Nat → Bool) (b n : Nat) : Nat :=
  (List.range n).foldl (fun a i => a + b2n (lvl ((b + i) % 48)) * 2 ^ i) 0

/-- DRIVE_MASK of engine `e` (R206). -/
def State.driveMask (s : State) (e : Nat) : W48 := BitVec.ofNat 48 (s.o 0x6007 0 e)

/-- The engine whose DRIVE_MASK holds a bank's pin. -/
def State.driver (s : State) (b pin : Nat) : Option Nat :=
  let p := 24 * (b % 2) + pin
  (List.range 32).map (fun i => 32 * (b / 2) + i) |>.find? (fun e => (s.driveMask e).getLsbD p)

/-- PIN_CFG of a bank's pin (R242). -/
def State.pinCfg (s : State) (b pin : Nat) : Nat := s.o (0x6810 + b) (pin + 1)

/-- The claim's hardware gate is closed (R474): the drivers are enabled from the second edge of the held state to the second edge after the
release. -/
def State.gateClosed (s : State) : Bool :=
  if s.pair.claim = .held then 2 + s.pair.since ≤ s.clock
  else match s.pair.freed with
    | some t => s.clock < 2 + t
    | none => false

/-- The drivers of bank `b` are off by the pair's gate (R474). -/
def State.gateOpen (s : State) (b : Nat) : Bool := s.pairMember && bitOf (s.o 0x6803 0) b && !s.gateClosed

/-- Test permission of a bank's pin in MAINTENANCE (R64). -/
def State.permitted (s : State) (b pin : Nat) : Bool :=
  s.modes.mode = .maintenance && bitOf (s.o 0x1112 (b + 1)) pin

/-- The level at which a bank's pin is driven, if its driver is on (R61, R231, R234, R242, R246). -/
def State.padDrive (s : State) (b pin : Nat) : Option Bool :=
  let m := s.modes.mode
  if (s.bank b).unpowered || m = .reset || m = .boot || m = .configure || (m = .shutdown && s.modes.shut = .halted)
      || s.gateOpen b then none
  else match s.driver b pin with
    | none => none
    | some e =>
      let x := s.eng e
      let p := 24 * (b % 2) + pin
      let held := s.modes.override && !s.permitted b pin
      let r : Option Bool :=
        if x.st = .retired then none
        else if held || x.st ≠ .running then
          match s.o 0x6009 (p + 1) e with
          | 0 => if held then (if x.holdDir.getLsbD p then some (x.holdOut.getLsbD p) else none)
                 else if x.dir.getLsbD p then some (x.out.getLsbD p) else none
          | 1 => some false
          | 2 => some true
          | _ => none
        else if x.dir.getLsbD p then some (x.out.getLsbD p) else none
      match r with
      | some true => if bitOf (s.pinCfg b pin) 5 then none else some true
      | r => r

/-- The level of a pad at the present edge (R235, R242): the hub's own driver, unless what is outside overcomes it; else what drives it from
outside; else the pull, which acts whenever the driver is off, at float too (DEDUCED, R242 over R61: log entry 121); a pin that nothing
drives and nothing pulls shows a free level. -/
def State.padNow (s : State) (b pin : Nat) : Bool :=
  let x := s.bank b
  match s.padDrive b pin with
  | some l => if x.wins.getLsbD pin then x.ext.getLsbD pin else l
  | none =>
    if x.known.getLsbD pin then x.ext.getLsbD pin
    else match s.pinCfg b pin / 4 % 4 with
      | 1 => true
      | 2 => false
      | _ => Config.floating s.clock s.free b pin

/-- The synchronised pad sample before the glitch filter (R209, R244): the pad as it stood two edges ago; an unpowered bank reads 0
(R241). -/
def State.padLevel (s : State) (b pin : Nat) : Bool := !(s.bank b).unpowered && (s.bank b).sync2.getLsbD pin

/-- The sample an engine reads on a bank's pin: filtered where FILT is not 0 (R209, R244). -/
def State.pinSample (s : State) (b pin : Nat) : Bool :=
  if (s.bank b).unpowered then false
  else if s.pinCfg b pin / 256 % 256 = 0 then s.padLevel b pin
  else (s.bank b).filt.getLsbD pin

/-- The glitch filter's delay on a pin in ns (R244). -/
def State.filtDelay (s : State) (b pin : Nat) : Nat :=
  let d := s.o 0x6802 (b + 1)
  s.pinCfg b pin / 256 % 256 * (if d = 0 then 65536 else d) * 4

/-- Sample of pair pin `p` of engine `e`. -/
def State.engPin (s : State) (e p : Nat) : Bool := s.pinSample (pinBank e p) (pinIn p)

/-- Apply a pin write to the output registers (R206, R209). -/
def pinApply (x : Engine) (w : PinWrite) : Engine :=
  { x with out := (x.out &&& ~~~w.vMask) ||| (w.v &&& w.vMask), dir := (x.dir &&& ~~~w.dMask) ||| (w.d &&& w.dMask) }

/-- Two pin writes of one tick: the second wins where both write a pin (R210, R212). -/
def pinMerge (a b : PinWrite) : PinWrite :=
  { vMask := a.vMask ||| b.vMask, v := (a.v &&& ~~~b.vMask) ||| (b.v &&& b.vMask),
    dMask := a.dMask ||| b.dMask, d := (a.d &&& ~~~b.dMask) ||| (b.d &&& b.dMask) }

/-- Only the pins of a mask (R206). -/
def pinOnly (m : W48) (w : PinWrite) : PinWrite :=
  { vMask := w.vMask &&& m, v := w.v &&& m, dMask := w.dMask &&& m, d := w.d &&& m }

/-- The write writes no pin. -/
def pinNone (w : PinWrite) : Bool := w.vMask = 0 && w.dMask = 0

end Sys2Proof.Machine
end

