-- ==== Sys2Proof/Machine/PowerOps.lean ====
section
/-!
DEFINITION. Shared operations of the power unit and of the Leash claim (R470–R474, R509–R513): field channels, what taking and
releasing the claim does, and how modes act on the channels.
-/

namespace Sys2Proof.Machine

/-- The monitor's reading of the core rail, which FAIL_N follows (R62). -/
def State.coreRail (s : State) (bad : Bool) : State := { s with modes := { s.modes with railBad := bad } }

/-- Field channel `c` (R503). -/
def State.field (s : State) (c : Nat) : Field := tget {} s.power.fields c

/-- Replace field channel `c`. -/
def State.setField (s : State) (c : Nat) (v : Field) : State :=
  { s with power := { s.power with fields := tset {} s.power.fields c v } }

/-- The gate of the field channels is open (R474). -/
def State.efGated (s : State) : Bool := s.pairMember && s.pair.claim ≠ .held

/-- VOUT of channel `c` in mV. -/
def State.vout (s : State) (c : Nat) : Nat := s.o (0xB830 + c) 3

/-- The island bus in mV (R503, 0xB850:06). -/
def State.island (s : State) : Nat := s.o 0xB850 6

/-- Feed `f` (0 A, 1 B). -/
def State.feed (s : State) (f : Nat) : Feed := if f = 0 then s.power.a else s.power.b

/-- The feed is fitted (0xB800:06). -/
def State.fitted (s : State) (f : Nat) : Bool := bitOf (s.o 0xB800 6) f

/-- The feed is usable (R505). -/
def State.feedOk (s : State) (f : Nat) : Bool :=
  let x := s.feed f
  x.usable && !x.excluded && !x.tripped && !x.shorted && s.fitted f

/-- EF_STATE of channel `c` (R509). -/
def State.efState (s : State) (c : Nat) : Nat :=
  if c < 2 then
    let f := if c = 0 then s.power.a else s.power.b
    let me := s.power.inUse = c + 1
    if f.shorted then 4 else if f.tripped then 3 else if f.excluded then 6
    else if me then (if s.power.ramp then 1 else 2)
    else if s.feedOk c then 0 else 7
  else
    let x := s.field c
    if x.state ≥ 3 then x.state else if x.cmd && s.efGated then 5 else x.state

/-- Begin driving the element of channel `c` (R512). -/
def State.fieldStart (s : State) (c : Nat) : State :=
  s.setField c { s.field c with cmd := true, state := 1, startAt := s.clock }

/-- Command channel `c` on (R510): with the gate open only the commanded state is set; a channel that is on or starting keeps
its state; a tripped or shorted channel keeps its latch. -/
def State.fieldOn (s : State) (c : Nat) : State :=
  let x := s.field c
  if x.state ≥ 3 then s
  else if s.efGated then s.setField c { x with cmd := true }
  else if x.cmd && x.state ≠ 0 then s
  else s.fieldStart c

/-- Turn channel `c` off (R510): a shorted element stays shorted; a trip latch stays. -/
def State.fieldOff (s : State) (c : Nat) : State :=
  let x := s.field c
  if x.state ≥ 3 then s.setField c { x with cmd := false, startAt := s.clock }
  else s.setField c { x with cmd := false, state := 0, startAt := if x.cmd then s.clock else x.startAt }

/-- The field channels. -/
def fieldChans : List Nat := [2, 3, 4, 5, 6, 7]

/-- The field channels take their fail-safe states (R511): off, or hold the state at entry. -/
def State.fieldsSafe (s : State) : State :=
  fieldChans.foldl (fun s c => if s.o (0xB810 + c) 2 = 1 then s else s.fieldOff c) s

/-- Every field channel turns off. -/
def State.fieldsOff (s : State) : State := fieldChans.foldl (fun s c => s.fieldOff c) s

/-- Field channels without test permission turn off (R61, R64). -/
def State.fieldsPermit (s : State) : State :=
  fieldChans.foldl (fun s c => if bitOf (s.o 0x1112 17) c then s else s.fieldOff c) s

/-- The channels of POWER_ON_MASK are commanded on (R510). -/
def State.fieldsPowerOn (s : State) : State :=
  fieldChans.foldl (fun s c => if bitOf (s.o 0xB841 0) c then s.fieldOn c else s) s

/-! ### The claim -/

/-- The hub holds the claim. -/
def State.holds (s : State) : Bool := s.pair.claim = .held

/-- LEASH_IN counts as toggling: an edge has arrived within the last 20 µs (R470). -/
def State.leashToggles (s : State) : Bool := s.pair.leashIn && s.clock < ticksUs 20 + s.pair.lastEdge

/-- The partner holds the Leash as far as this hub can tell. -/
def State.partnerHolds (s : State) : Bool := s.leashToggles || (s.pair.link && s.pair.pClaim)

/-- The claim is held (R472): the gate closes and each channel commanded on is driven fully on at 90 % of the island bus, else it
starts (R474, R513). The claim is counted, with its cause and ST32 (R488). -/
def State.claimTake (s : State) (cause : Nat) : State :=
  let s := { s with pair := { s.pair with claim := .held, since := s.clock } }
  let s := ((s.bump 0xA805 1).setO 0xA806 1 0 cause).setO 0xA806 2 0 s.st32
  fieldChans.foldl (fun s c =>
    let x := s.field c
    if !x.cmd || x.state ≥ 3 then s
    else if s.vout c * 10 ≥ s.island * 9 then s.setField c { x with state := 2 }
    else s.fieldStart c) s

/-- A held claim is released (R473, R474): the gate opens and the elements turn off; what is commanded stays commanded. A claim
that is being sought ends too. -/
def State.claimRelease (s : State) : State :=
  let held := s.holds
  let s := { s with pair := { s.pair with claim := .idle, since := s.clock, freed := if held then some s.clock else s.pair.freed } }
  if held then
    fieldChans.foldl (fun s c =>
      let x := s.field c
      if x.state = 1 || x.state = 2 then s.setField c { x with state := 0 } else s) s
  else s

/-- Conditions 1 (but for the mode) to 3 of R471: the collector is not HELD, no fatal report has come since its last recovery,
and LEASH_IN has been silent for 20 µs. -/
def State.claimClear (s : State) : Bool := s.fc.state ≠ .held && !s.fc.fatal && !s.leashToggles

/-- Condition 4 of R471: the pair link is down or the partner's newest status block shows no claim. -/
def State.claimLink (s : State) : Bool := !s.pair.link || !s.pair.pClaim

/-- A pin of a pair-gated bank has test permission (R64, R471). -/
def State.gatedPermit (s : State) : Bool :=
  (List.range 16).any (fun b => bitOf (s.o 0x6803 0) b && s.o 0x1112 (b + 1) ≠ 0)

/-- Condition 1's mode part of R471. -/
def State.claimMode (s : State) : Bool :=
  match s.modes.mode with
  | .standby | .handover => true
  | .maintenance => s.modes.transit || s.gatedPermit
  | .join | .failsafe => s.modes.transit
  | _ => false

/-- Start seeking the claim (R472). -/
def State.claimSeek (s : State) : State :=
  if s.pair.claim = .idle && s.pairMember then { s with pair := { s.pair with claim := .seeking, since := s.clock, readback := true } } else s

end Sys2Proof.Machine
end

