-- ==== Sys2Proof/Machine/PairOps.lean ====
section
/-!
DEFINITION. Shared operations of the pair link (R475–R483): the configuration hash, synchrony and fitness, and sending mirror
records.
-/

namespace Sys2Proof.Machine

/-- The persistence of the entry under a key (R32). -/
def keyPers (k : Nat) : Pers :=
  match Desc.find (k / 65536 / 256) (k / 65536 % 256) with
  | some d => d.pers
  | none => .v

/-- The applied values of C-class entries that differ from their defaults. -/
def State.cVals (s : State) : Tab Val := s.od.filter (fun e => keyPers e.1 = .c)

/-- The configuration hash (R475): CRC-32 over the applied C-class values. -/
def State.configHash (s : State) : Nat := (crc32 (Config.configBytes s.cVals)).toNat

/-- The pair is in sync (R477, R478): the link is up, both hubs report equal hashes, and no mirrored record has been refused or missed. -/
def State.inSync (s : State) : Bool := s.pair.link && s.pair.pHash = s.configHash && s.pair.whole

/-- The output register of a pin disagrees with its synchronised pad sample (R482). Pins that no engine drives out have nothing to compare
(DEDUCED, log entry 124). -/
def State.padDiffers (s : State) (b pin : Nat) : Bool :=
  match s.driver b pin with
  | none => false
  | some e =>
    let p := 24 * (b % 2) + pin
    (s.eng e).dir.getLsbD p && (s.eng e).out.getLsbD p != s.padLevel b pin

/-- The pins that the standby compares with the active's (R482). -/
def State.shadowPins (s : State) : List (Nat × Nat) :=
  if s.modes.mode ≠ .standby || !s.inSync then []
  else ((List.range 16).filter (fun b => bitOf (s.o 0x6803 0) b)).flatMap (fun b =>
    ((List.range 24).filter (fun p => bitOf (s.o 0xA803 (b + 1)) p)).map (fun p => (b, p)))

/-- At an edge a standby compares its outputs with the active's pads (R482): how long each pin has disagreed. -/
def State.shadowEdge (s : State) : State :=
  let l := (s.shadowPins.filter (fun x => s.padDiffers x.1 x.2)).map (fun x => x.1 * 24 + x.2)
  { s with pair := { s.pair with shSince := l.foldl (fun t k => tput k (tget s.clock s.pair.shSince k) t) [] } }

/-- The self-test checks of a standby (R483): scrubs on time, LEASH_IN toggling, and the pair link up. The collector's self-test is a command
of its own and LEASH_OUT stands static low while the hub claims nothing, so neither fails here. -/
def State.barkTest (s : State) : Bool := s.fc.scrubOnTime && s.leashToggles && s.pair.link

/-- The hub is fit (R483). -/
def State.ownFit (s : State) : Bool := s.modes.mode = .standby && s.fc.state ≠ .held && !s.fc.fatal && s.barkTest

/-- The record type of a mirror record (R475). -/
def mirrorType : MirrorRec → Nat
  | .commit _ _ => 1
  | .write _ => 2
  | .hinge _ _ => 3
  | .calendar _ _ _ => 4
  | .config _ => 5

/-- A mirror block (R475): one segment of a record. -/
def mirrorBlock (block typ seq off : Nat) (last : Bool) (seg : List Byte) : List Byte :=
  let b := beBytes 1 1 ++ beBytes 1 block ++ beBytes 1 typ ++ beBytes 1 (b2n last) ++ beBytes 4 seq ++ beBytes 4 off
    ++ beBytes 4 seg.length ++ seg
  b ++ beBytes 4 (crc32 b).toNat

/-- Emit a block on the pair link; the block sequence advances. -/
def State.linkBlock (s : State) (kind : Nat) (b : Nat → List Byte) : State :=
  let n := s.pair.statSeq
  { s with pair := { s.pair with statSeq := (n + 1) % 256 } }.emit (.pairLink kind ((b n).map (fun x : Byte => x.toNat)))

/-- The segments of a record, each of at most 1 024 bytes. -/
def State.mirrorSegs (s : State) (typ seq off : Nat) : Nat → List Byte → State
  | 0, _ => s
  | f + 1, d =>
    let last := d.length ≤ 1024
    let s := s.linkBlock 1 (fun n => mirrorBlock n typ seq off last (d.take 1024))
    if last then s else s.mirrorSegs typ seq (off + 1024) f (d.drop 1024)

/-- Send a record on the pair link, or, while the link is down, to the partner's node as type-8 frames (R90, R475). -/
def State.mirrorOut (s : State) (seq : Nat) (r : MirrorRec) : State :=
  let d := Config.mirrorBytes r
  let typ := mirrorType r
  if s.pair.link then s.mirrorSegs typ seq 0 (d.length / 1024 + 1) d
  else if s.pair.node = 0xFF then s
  else
    let spec := (typ * 256 * 2 ^ 32 + seq) * 2 ^ 16
    let o : Orig := {
      hdr := { typ := 8, cls := 4, source := s.ring.node, dest := s.pair.node, length := d.length, spec := spec }
      payload := d, src := 6 }
    { s with ring := { s.ring with orig := s.ring.orig ++ [o] } }.bump 0xA805 7

/-- The active hub mirrors a record to its partner (R476). On the link it waits for its acknowledgement. -/
def State.mirror (s : State) (r : MirrorRec) : State :=
  if !s.pairMember || !s.holds then s
  else
    let seq := (s.pair.txSeq + 1) % 2 ^ 32
    let p := s.pair
    let m : Mirror := { seq := seq, r := r, at_ := s.clock }
    { s with pair := { p with txSeq := seq, out := if p.link then p.out ++ [m] else p.out } }.mirrorOut seq r

end Sys2Proof.Machine
end

