-- ==== Sys2Proof/Machine/CanOps.lean ====
section
/-!
DEFINITION. Shared operations of the CAN controllers (R353, R354, R362–R366): a controller, aborting entries of its transmit
queue, and what a mode change does to it.
-/

namespace Sys2Proof.Machine

/-- Controller `k`. -/
def State.ctl (s : State) (k : Nat) : CanCtl := tget {} s.can k

/-- Replace controller `k`. -/
def State.setCtl (s : State) (k : Nat) (v : CanCtl) : State := { s with can := tset {} s.can k v }

/-- Count in 0x7010:`sub` of controller `k`. -/
def State.canCount (s : State) (k sub : Nat) : State := s.bump 0x7010 sub k

/-- The controller is enabled (R376). -/
def State.canEnabled (s : State) (k : Nat) : Bool := s.o 0x7001 1 k = 1

/-- Modes in which channel frames are sent (R353). -/
def canSendMode : Mode → Bool
  | .active | .degraded | .handover | .maintenance => true
  | _ => false

/-- Modes in which a controller takes part in its bus (R353). -/
def canBusMode : Mode → Bool
  | .join | .failsafe | .standby => true
  | m => canSendMode m

/-- TT_MODE of controller `k`. -/
def State.ttMode (s : State) (k : Nat) : Nat := s.o 0x7030 1 k

/-- TT_STATE (R374): out of schedule at least, while the schedule is configured. -/
def State.ttState (s : State) (k : Nat) : Nat := if s.ttMode k = 0 then 0 else max 1 (s.ctl k).tt

/-- CANn_STB is high (R61, R353, R368): in the modes with STB high, and in DOZE unless the controller runs a wake detector that needs its
transceiver awake. The spec gives no level for a controller that is not enabled in another mode: there the model drives it low
(DESIGN CHOICE, log entry 122). -/
def State.canStb (s : State) (k : Nat) : Bool :=
  match s.modes.mode with
  | .reset | .boot | .configure | .shutdown => true
  | .doze => !(bitOf (s.o 0x1131 0) k && s.o 0x7003 1 k ≠ 0)
  | _ => false

/-- The controller takes part in its bus: error-active or error-passive. -/
def State.canOn (s : State) (k : Nat) : Bool := (s.ctl k).state = 2 || (s.ctl k).state = 3

/-- An arbitrating window lets the head begin: it was queued within TX_ENABLE NTU of the mark, or of the end of the last frame (R371). -/
def State.canWindow (s : State) (k : Nat) : Bool :=
  match (s.ctl k).window, (s.ctl k).queue.head? with
  | some w, some e => e.since * 4 ≤ s.o 0x7030 9 k * s.o 0x7030 3 k + w * 4
  | _, _ => false

/-- The head of the queue may be offered (R371, R374): always without a schedule; in an arbitrating window otherwise, or still on the bus
from one; out of schedule a session frame always (DEDUCED, log entry 122: in schedule R371 keeps the whole queue to its windows). -/
def State.canOffers (s : State) (k : Nat) : Bool :=
  let x := s.ctl k
  s.ttMode k = 0 || (x.tt ≠ 4 && (x.begun || s.canWindow k || (x.tt < 3 && x.queue.head?.any (·.session))))

/-- The head may be on the bus. -/
def State.headOffered (s : State) (k : Nat) : Bool := s.canOn k && !(s.ctl k).queue.isEmpty && s.canOffers k

/-- A frame has ended on the bus: an open window counts TX_ENABLE from here (R371). -/
def State.canEnded (s : State) (k : Nat) : State :=
  s.setCtl k { s.ctl k with window := (s.ctl k).window.map (fun _ => s.clock), begun := false }

/-- The head of the transmit queue. -/
def canHead (x : CanCtl) : Option CanEntry := x.queue.head?

/-- Keep the outcome of an abort of a single entry (R364). -/
def canOutcome (x : CanCtl) (one : Bool) (code seq : Nat) : CanCtl :=
  if one then { x with abortValid := true, abort := (code, seq) } else x

/-- An outcome of a single-entry abort is kept at this edge (R6). -/
def State.noteAbort (s : State) (k : Nat) (one : Bool) : State := if one then s.noteSet (W1c.abort k) else s

/-- Abort the entries that satisfy `p` (R364): an entry not yet past its start-of-frame sample point is cancelled and removed; the
head, once past it, runs to its end. Every abort is counted, and session frames that waited take the places. -/
def State.canAbort (s : State) (k : Nat) (one onBus : Bool) (p : CanEntry → Bool) : State :=
  let x := s.ctl k
  let late := onBus && s.headOffered k && x.queue.head?.any p
  let cut := if late then x.queue.drop 1 else x.queue
  let gone := cut.filter p
  let y := { x with queue := (if late then x.queue.take 1 else []) ++ cut.filter (fun e => !p e),
                    onBus := x.onBus || late, aborting := x.aborting || late, abortOne := if late then one else x.abortOne }
  let y := gone.foldl (fun y e => canOutcome y one 0 e.seq) y
  (((s.setCtl k y).noteAbort k (one && !gone.isEmpty)).bumpBy 0x7010 6 k (gone.length + b2n late)).canFill k

/-- A mode with no bus participation (R353, R354): the controller leaves the bus, once a frame past its start-of-frame sample
point has ended. -/
def State.canLeave (s : State) (k : Nat) (onBus : Bool) : State :=
  let x := { s.ctl k with tt := if (s.ctl k).tt = 4 then 4 else min (s.ctl k).tt 1, lastRef := none, master := false, window := none,
                           begun := false, ref := none, exclusive := none }
  let st := if s.modes.mode = .doze && s.canEnabled k then 5 else 0
  if onBus && s.headOffered k then s.setCtl k { x with onBus := true }
  else s.setCtl k { x with state := st, onBus := false }

/-- A controller acts on a change of mode (R353, R354, R372, R374): from the mode before to the present mode. Whether the head is past its
start-of-frame sample point is free. -/
def State.canModeOne (s : State) (old : Mode) (k : Nat) : State :=
  let m := s.modes.mode
  let busy := s.freeNat 1 = 1 && s.headOffered k
  let s := s.drew
  let s := if canSendMode old && !canSendMode m then
      let s := s.canAbort k false busy (fun e => !e.session)
      s.setCtl k { s.ctl k with master := false, ref := none, exclusive := none }
    else s
  if canBusMode m then
    let x := s.ctl k
    if (x.state = 0 || x.state = 5) && s.canEnabled k then s.setCtl k { x with state := 1 } else s
  else s.canLeave k busy

/-- Every controller acts on a change of mode. -/
def State.canModes (s : State) (old : Mode) : State :=
  (List.range 8).foldl (fun s k => s.canModeOne old k) s

/-- Node `n` is a gateway node of controller `k` (R367). -/
def State.canGateway (s : State) (k n : Nat) : Bool :=
  n < 128 && bitOf ((s.ob 0x7002 5 k).getD (n / 8) 0).toNat (n % 8)

/-- A delivered type-4 frame is the response of a gateway node (R367): it goes out on the bus that lists the node. -/
def State.gatewayFor (s : State) (f : Frame) : Option Nat :=
  if f.hdr.typ = 4 && (f.payload.head?.any (fun b => b.toNat ≥ 128)) then
    (List.range 8).find? (fun k => s.o 0x7001 10 k = 1 && s.canGateway k f.hdr.source)
  else none

end Sys2Proof.Machine
end

