-- ==== Sys2Proof/Machine/ModeOps.lean ====
section
/-!
DEFINITION. Shared operations of the modes (R58–R68): markers of the fault-record queue, the change of mode with
all that it does to engines, pins, field channels, the calendar, the pending commit and the buses, and the causes of DEGRADED.
-/

namespace Sys2Proof.Machine

/-! ### The fault-record queue (R458) -/

/-- Merge the markers at the front of the queue that no fault record separates into the latest of them (R265). -/
def mergeFront : Tab FaultRec → Tab FaultRec × Nat
  | (i, a) :: (j, b) :: l =>
    if a.typ = 1 && b.typ = 1 then let (t, n) := mergeFront ((j, b) :: l); (t, n + 1) else ((i, a) :: (j, b) :: l, 0)
  | l => (l, 0)

/-- Drop the oldest fault record, and merge the markers this brings together at the front. -/
def dropOldest (q : Tab FaultRec) : Tab FaultRec × Nat := mergeFront (q.eraseP (fun r => r.2.typ = 0))

/-- Drop the oldest fault records until at most `room` records stay; each drop frees at least one place. -/
def dropTo (room : Nat) : Nat → Tab FaultRec × Nat → Tab FaultRec × Nat
  | 0, q => q
  | f + 1, (q, n) => if q.length ≤ room then (q, n) else let (t, m) := dropOldest q; dropTo room f (t, n + m)

/-- A marker of the fault-record queue (R458): STEP, start, loss, and the reference count. -/
def faultMarker (flags count : Nat) : FaultRec :=
  { typ := 1, b1 := flags, b2 := 0, w4 := count / 2 ^ 32 % 2 ^ 32, w8 := count % 2 ^ 32, w12 := 0 }

/-- Append a record at the next position. -/
def State.faultPut (s : State) (r : FaultRec) : State :=
  { s with fc := { s.fc with queue := s.fc.queue ++ [(s.fc.next, r)], next := s.fc.next + 1 } }

/-- A record enters the queue of 1 024 (R458): when it is full the oldest fault records are dropped and a loss marker follows. -/
def State.faultPush (s : State) (r : FaultRec) : State :=
  if s.fc.queue.length < 1024 then s.faultPut r
  else
    let room := if r.typ = 1 then 1023 else 1022
    let (q, n) := dropTo room 4 (s.fc.queue, 0)
    let s := { s with fc := { s.fc with queue := q } }.bumpBy 0x3070 10 0 n
    if r.typ = 1 then s.faultPut { r with b1 := r.b1 ||| 4 }
    else (s.faultPut (faultMarker 4 (s.time.wt / 2 ^ 32))).faultPut r

/-! ### Changes of mode -/

/-- The output-enable override holds outputs at park in this mode (R61). -/
def modeOverride : Mode → Bool
  | .reset | .boot | .configure | .join | .maintenance | .failsafe | .shutdown => true
  | _ => false

/-- The override holds a bank's pin (R61, R64). -/
def State.overHolds (s : State) (b pin : Nat) : Bool := s.modes.override && !s.permitted b pin

/-- The engines whose DRIVE_MASK is not empty. -/
def State.drivers (s : State) : List Nat :=
  (s.od.filter (fun p => p.1 / 65536 = 0x6007 * 256)).map (fun p => p.1 % 65536)

/-- The pins of engine `e` that the override holds now and did not hold in `before`, or all it holds when `all`. -/
def State.newlyHeld (s before : State) (all : Bool) (e : Nat) : W48 :=
  (List.range 48).foldl (fun m p =>
    let b := pinBank e p
    if s.overHolds b (pinIn p) && (all || !before.overHolds b (pinIn p)) then m ||| (1#48 <<< p) else m) 0

/-- Pins that the override begins to hold keep, for park state hold, the level and direction they have now (R234). -/
def State.holdLatch (s before : State) (all : Bool) : State :=
  s.drivers.foldl (fun s e =>
    let x := s.eng e
    let m := s.newlyHeld before all e
    if m = 0 then s
    else s.setEng e { x with
      holdOut := (x.holdOut &&& ~~~m) ||| (x.out &&& m), holdDir := (x.holdDir &&& ~~~m) ||| (x.dir &&& m) }) s

/-- The engines whose ENABLE is 1 (R233). -/
def State.enabledEngines (s : State) : List Nat :=
  (s.od.filter (fun p => p.1 / 65536 = 0x6001 * 256 && p.2 = .num 1)).map (fun p => p.1 % 65536)

/-- The engine is in the keep-alive set (R77). -/
def State.keepAliveEng (s : State) (e : Nat) : Bool := bitOf (s.o 0x1130 (e / 32 + 1)) (e % 32)

/-- Every engine outside the keep-alive set parks for DOZE (R77 step 2); one that is parked already stays as it is. -/
def State.dozePark (s : State) : State := s.enabledEngines.foldl (fun s e => if s.keepAliveEng e then s else s.enginePark e 6) s

/-- The links that enter low-power idle in DOZE (R61, R77, R83): ring ports of mode 1, and station ports that are on. -/
def State.dozeLinks (s : State) : List Nat :=
  [Port.a, Port.b].filterMap (fun p => if s.media p = 1 then some p.toNat else none)
    ++ [0, 1].filterMap (fun p => if s.o 0x7840 (p + 1) ≠ 0 then some (2 + p) else none)

/-- What a change of mode does to the engines (R233, R234): started at JOIN, stopped at SHUTDOWN, parked in DOZE outside the
keep-alive set and restarted at wake. -/
def State.modeEngines (s : State) (old : Mode) : State :=
  match s.modes.mode with
  | .join => s.enabledEngines.foldl (fun s e => s.engineStart e) s
  | .shutdown => s.enabledEngines.foldl (fun s e => s.engineStop e) s
  | .doze => s.dozePark
  | _ =>
    if old = .doze then
      s.enabledEngines.foldl (fun s e => if (s.eng e).st = .parked && (s.eng e).parkCause = 6 then s.engineStart e else s) s
    else s

/-- What a change of mode does to the field channels (R61, R510, R511). -/
def State.modeFields (s : State) (old : Mode) : State :=
  match s.modes.mode with
  | .active => if old = .join || old = .failsafe || old = .maintenance then s.fieldsPowerOn else s
  | .failsafe | .shutdown => s.fieldsSafe
  | .maintenance => s.fieldsPermit
  | _ => s

/-- A pending or mirrored commit is cancelled by a mode change (R54). -/
def State.commitCancelMode (s : State) : State :=
  let s := s.commitDrop Abort.commitCancelledByModeChange
  match s.pair.commit with
  | some _ =>
    let by_ := s.pair.commitBy
    let s := { s with pair := { s.pair with commit := none, commitBy := none } }.commitResult Abort.commitCancelledByModeChange 0 0
    match by_ with
    | some n => s.answer n (.abort Abort.commitCancelledByModeChange)
    | none => s
  | none => s

/-- The test permission of MAINTENANCE is cleared (R64). -/
def State.clearPermits (s : State) : State := s.clearSubs 0x1112 1 17 0

/-- The 10 s of a reset trial count from reaching ACTIVE, DEGRADED or STANDBY (R440). -/
def State.trialClock (s : State) : State :=
  match s.flash.trial with
  | some t =>
    let serves := s.modes.mode = .active || s.modes.mode = .degraded || s.modes.mode = .standby
    if serves && t.atReset && t.slot = s.flash.running && t.since.isNone then
      { s with flash := { s.flash with trial := some { t with since := some s.clock } } }
    else s
  | none => s

/-- A change to a mode whose override parks the outputs has the effect of a park on what every speculating engine has staged, and a commit
group that one of them belongs to fails (R61, R164). -/
def State.modeShutter (s : State) (old : Mode) : State :=
  if !s.modes.override || modeOverride old then s
  else s.engKeys.foldl (fun s e =>
    if (s.eng e).ckpt.isSome then
      (s.groupFailAll (fun r => ((s.members r.g).filterMap s.chanEng).contains e) .parked).engDropSpec e
    else s) s

/-- Enter a mode along a transition of R65, with everything the change does: MODE_ENTRY and PREV, permissions, engines and held pins,
links in and out of low-power idle for DOZE (R77, R79), field channels, the calendar and the pending commit on FAILSAFE and SHUTDOWN (R54,
R292), the CAN controllers (R354), and the host interrupt of vector 2. -/
def State.setMode (s : State) (m : Mode) : State :=
  if s.modes.mode = m then { s with modes := { s.modes with transit := false } }
  else
    let before := s
    let old := s.modes.mode
    let s := { s with modes := { s.modes with
      mode := m, prev := old, entrySt32 := s.st32, entryAt := s.clock, override := modeOverride m, transit := false,
      waking := false, lpi := if m = Mode.doze then s.dozeLinks else [] } }
    let s := if old = .maintenance then s.clearPermits else s
    let s := if m = .failsafe || m = .shutdown then s.commitCancelMode.calEndAll 5 9 (fun _ => true) else s
    let s := (s.modeEngines old).modeShutter old
    let s := s.holdLatch before (m = Mode.join)
    let s := (s.modeFields old).canModes old
    let s := if m = .join then s.logMarker false (s.time.wt / 2 ^ 32) else s
    let s := if m = .configure then s.traceMarker false true (s.time.wt / 2 ^ 32) else s
    let s := if m = .configure then s.event .timeStep [0, s.time.wt / 2 ^ 64 % 2 ^ 32, s.time.wt / 2 ^ 32 % 2 ^ 32] else s
    s.trialClock.hostInt 2

/-- A wake event (R79): in DOZE it begins the wake sequence. -/
def State.wake (s : State) : State :=
  if s.modes.mode = .doze then { s with modes := { s.modes with waking := true } } else s

/-- ACTIVE and DEGRADED follow the causes of DEGRADED (R65). -/
def State.degradeSettle (s : State) : State :=
  match s.modes.mode with
  | .active => if s.modes.degraded.isEmpty then s else s.setMode .degraded
  | .degraded => if s.modes.degraded.isEmpty then s.setMode .active else s
  | _ => s

/-- A cause of DEGRADED comes or goes (R65): 0 ring closure, 1 partner, 2 feed, 3 retired resource, 4 store protected,
5 ring ports missing at the join time-out. -/
def State.degrade (s : State) (cause : Nat) (on : Bool) : State :=
  let l := if on then cause :: s.modes.degraded.filter (· ≠ cause) else s.modes.degraded.filter (· ≠ cause)
  { s with modes := { s.modes with degraded := l } }.degradeSettle

/-- Take the active hub's mode (R65): ACTIVE without a cause of DEGRADED, else DEGRADED. From JOIN only a retired resource, a protected
store or a missing ring port leads straight to DEGRADED; any other cause follows from ACTIVE. -/
def State.goActive (s : State) : State :=
  let l := s.modes.degraded
  if l.isEmpty then s.setMode .active
  else if s.modes.mode = .join && !l.any (fun c => c ≥ 3) then (s.setMode .active).setMode .degraded
  else s.setMode .degraded

/-- The hub is in the RETURNED life-cycle state (R419). -/
def State.returned (s : State) : Bool := s.sec.lc = 3

/-- Leave JOIN, MAINTENANCE or FAILSAFE for service (R65): a RETURNED hub takes MAINTENANCE; a single hub or the claim holder becomes
active; a hub whose partner holds the Leash becomes standby; else the transition stays in progress until the claim is settled,
and the hub seeks it where R471 allows. -/
def State.returnService (s : State) : State :=
  if s.returned then s.setMode .maintenance
  else if !s.pairMember || s.holds then s.goActive
  else if s.partnerHolds then s.setMode .standby
  else
    let s := { s with modes := { s.modes with transit := true } }
    if s.claimClear && s.claimLink && s.claimMode then s.claimSeek else s

end Sys2Proof.Machine
end

