-- ==== Sys2Proof/Machine/SvcOps.lean ====
section
/-!
DEFINITION. Shared operations of service instances (R329–R343): planned loads and placement, hinge records, restart, failure, and the
retirement of a core. An operation that raises further faults answers with their reports.
-/

namespace Sys2Proof.Machine

/-! ### Placement (R329, R330) -/

/-- Planned load of an SV stream by its rate: publication and subscription figures (R329). -/
def svLoad (rate p14 p48 p96 : Nat) : Nat := if rate = 4800 then p14 else if rate = 14400 then p48 else p96

/-- The SOE inputs that are bound to a channel. -/
def State.soeBound (s : State) : Nat := ((List.range 48).filter (fun i => (s.epIn (0xA0 + i)).isSome)).length

/-- The enabled instances with their planned loads, in ascending service number (R329). -/
def State.svcEnabled (s : State) : List (Nat × Nat) :=
  [(0, 300)]
    ++ ((List.range 32).filter (fun n => s.o 0x3811 1 n = 1)).map (fun n => (0x100 + n, svLoad (s.o 0x3811 7 n) 18 45 260))
    ++ ((List.range 64).filter (fun n => s.o 0x3821 1 n = 1)).map (fun n => (0x140 + n, svLoad (s.o 0x3821 7 n) 20 50 280))
    ++ ((List.range 128).filter (fun n => s.o 0x3841 1 n = 1)).map (fun n => (0x200 + n, 4))
    ++ ((List.range 256).filter (fun n => s.o 0x3851 1 n = 1)).map (fun n => (0x300 + n, 3))
    ++ [(0x400, 2 * s.soeBound)]
    ++ ((List.range 8).filter (fun n => s.o 0x3A01 1 n = 1)).map (fun n => (0x480 + n, 25))
    ++ (if s.o 0x3052 1 ≠ 0xFFFF then [(0x500, 10)] else [])
    ++ (if s.o 0x3040 1 ≠ 0 then [(0x501, 40)] else [])

/-- Insert by planned load, descending; equal loads keep their order, which is by ascending service number. -/
def insertLoad (x : Nat × Nat) : List (Nat × Nat) → List (Nat × Nat)
  | [] => [x]
  | y :: l => if x.2 > y.2 then x :: y :: l else y :: insertLoad x l

/-- The order of R330. -/
def sortLoads (l : List (Nat × Nat)) : List (Nat × Nat) := l.foldl (fun acc x => insertLoad x acc) []

/-- Cores in service (R326, R330). -/
def State.coresUp (s : State) : List Nat :=
  (List.range 16).filter (fun k => (s.coreSt k).state ≠ 2 && (s.coreSt k).state ≠ 3)

/-- Put one instance on the first core that admits it. `acc` holds each core with its load and how many instances it has. -/
def placeOne (ceil load : Nat) : List (Nat × Nat × Nat) → Option (Nat × List (Nat × Nat × Nat))
  | [] => none
  | (k, l, n) :: r =>
    if l + load ≤ ceil then some (k, (k, l + load, n + 1) :: r)
    else (placeOne ceil load r).map (fun x => (x.1, (k, l, n) :: x.2))

/-- Place the instances in order. -/
def placeAll (ceil : Nat) : List (Nat × Nat) → List (Nat × Nat × Nat) → Option (List (Nat × Nat) × List (Nat × Nat × Nat))
  | [], acc => some ([], acc)
  | (n, l) :: r, acc =>
    match placeOne ceil l acc with
    | none => none
    | some (k, acc) => (placeAll ceil r acc).map (fun x => ((n, k) :: x.1, x.2))

/-- The placement of R330, or none when the commit fails: the core of each instance. -/
def State.svcPlace (s : State) : Option (List (Nat × Nat)) :=
  match s.coresUp with
  | [] => none
  | k0 :: cores =>
    let rest := sortLoads (s.svcEnabled.filter (fun x => x.1 ≠ 0))
    match placeAll (s.o 0x4002 0) rest ((k0, 300, 1) :: cores.map (fun k => (k, 0, 0))) with
    | none => none
    | some (p, acc) =>
      if (acc.filter (fun x => x.2.2 = 0)).length < s.o 0x4003 0 then none else some ((0, k0) :: p)

/-- Planned load of a service now enabled; 0 of any other. -/
def State.svcPlanned (s : State) (n : Nat) : Nat :=
  match s.svcEnabled.find? (fun x => x.1 = n) with
  | some x => x.2
  | none => 0

/-- The instances on core `k`. -/
def State.svcsOn (s : State) (k : Nat) : List Nat := (s.cores.svcs.filter (fun x => x.2.core = k)).map (·.1)

/-- Planned load of core `k`. -/
def State.corePlanned (s : State) (k : Nat) : Nat := ((s.svcsOn k).map s.svcPlanned).sum

/-! ### Hinge records (R336–R338) -/

/-- HINGE_MAX of a service in µs (R336). -/
def hingeMaxOf (n : Nat) : Nat := min (Config.hingeMax n) (if n = 0 then 10000 else 1000)

/-- The state a service has now (R336). -/
def State.hingeBody (s : State) (n : Nat) : HingeBody :=
  if 0x100 ≤ n && n < 0x120 then .svp (tget {} s.station.svp (n - 0x100))
  else if 0x140 ≤ n && n < 0x180 then .svs (tget {} s.station.svs (n - 0x140))
  else if 0x200 ≤ n && n < 0x280 then .gp (tget {} s.station.gp (n - 0x200))
  else if 0x300 ≤ n && n < 0x400 then .gs (tget {} s.station.gs (n - 0x300))
  else if n = 0x400 then .soe s.station.log.next s.station.soe s.station.chatter
  else if n = 0x500 then .irig s.time.irig s.time.irigPrev
  else .none

/-- The state of a service that starts cold: the one its configuration alone gives. -/
def coldBody (n : Nat) : HingeBody :=
  if 0x100 ≤ n && n < 0x120 then .svp {}
  else if 0x140 ≤ n && n < 0x180 then .svs {}
  else if 0x200 ≤ n && n < 0x280 then .gp {}
  else if 0x300 ≤ n && n < 0x400 then .gs {}
  else if n = 0x400 then .soe 0 [] []
  else if n = 0x500 then .irig [] none
  else .none

/-- Give service `n` a state. -/
def State.hingeLoad (s : State) (n : Nat) (b : HingeBody) : State :=
  let st := s.station
  match b with
  | .svp x => { s with station := { st with svp := tset {} st.svp (n - 0x100) x } }
  | .svs x => { s with station := { st with svs := tset {} st.svs (n - 0x140) x } }
  | .gp x => { s with station := { st with gp := tset {} st.gp (n - 0x200) x } }
  | .gs x => { s with station := { st with gs := tset {} st.gs (n - 0x300) x } }
  | .soe _ i c => { s with station := { st with soe := i, chatter := c } }
  | .irig l p => { s with time := { s.time with irig := l, irigPrev := p } }
  | .none => s

/-- The format version an instance writes (R338): that of the running image, and during a handover trial the one it imported (R440). -/
def State.hingeFmt (s : State) (n : Nat) : Nat :=
  let slot := match s.flash.trial with
    | some t => if t.atReset then s.flash.running else s.flash.committed.getD s.flash.running
    | none => s.flash.running
  Config.hingeFormat n (tget {} s.flash.slots slot).version

/-- An instance reaches a hinge point (R336): the record goes to a TCM slot; what its core endpoints hold is covered by it, and the
SOE records entered so far will not be repeated (R342). -/
def State.hinge (s : State) (n : Nat) : State :=
  let x := s.svc n
  let r : Hinge := { format := s.hingeFmt n, seq := x.seq, st32 := s.st32, body := s.hingeBody n }
  let s := s.setSvc n { x with tcm := some r, seq := (x.seq + 1) % 2 ^ 32, hinges := x.hinges + 1, hingeAt := s.clock }
  let s := (s.svcInputs n).foldl (fun s c =>
    let y := s.chan c
    s.setChan c { y with covered := y.held, coveredIn := y.inPacket }) s
  if n = 0x400 then { s with station := { s.station with log := { s.station.log with since := [], replay := [] } } } else s

/-- The newest record is copied to DRAM (R336, R337): the items it covers leave their channels. -/
def State.hingeCopy (s : State) (n : Nat) : State :=
  let x := s.svc n
  let s := s.setSvc n { x with dram := x.tcm }
  (s.svcInputs n).foldl (fun s c =>
    let y := s.chan c
    s.setChan c { y with
      items := y.items.drop y.covered, held := y.held - y.covered, covered := 0,
      itemsOut := (y.itemsOut + y.covered) % 2 ^ 32 }) s

/-- The read position of a channel goes back to the newest record's, or to the DRAM copy's (R341): held items are read again. -/
def State.readBack (s : State) (fromDram : Bool) (c : Nat) : State :=
  let y := s.chan c
  if fromDram then
    s.setChan c { y with held := 0, covered := 0, inPacket := (match y.items with | i :: _ => !i.sop | [] => false) }
  else s.setChan c { y with held := y.covered, inPacket := y.coveredIn }

/-! ### Restart and failure (R341–R343) -/

/-- The edges of restarts within the last 10 s. -/
def State.restartsIn (s : State) (n : Nat) : List Nat :=
  (s.svc n).restarts.filter (fun t => s.clock < ticksMs 10000 + t)

/-- A controlled-switching operation whose instance restarts (R342): cancelled before any pole has fired, else its remaining poles
complete. -/
def State.cswRestart (s : State) (n : Nat) : State :=
  if n < 0x480 || n ≥ 0x488 then s
  else
    let b := n - 0x480
    let x := s.brk b
    if x.kind = 0 then s
    else if x.poles.any (·.fired.isSome) then (if x.poles.all (·.fired.isSome) then s else s.cswPoleFailed b)
    else
      let s := s.cswCancel b
      (s.setBrk b { s.brk b with result := 5 }).cswFinish b

/-- The instance stops and begins a restart (R341). -/
def State.svcBegin (s : State) (n cause : Nat) (fromDram : Bool) : State :=
  let x := s.svc n
  let s := s.setSvc n { x with
    state := 3, trap := some cause, fromDram := fromDram, trapped := x.trapped || cause ≠ 0, restarts := s.clock :: s.restartsIn n }
  let s := if cause = 0 then s else s.setO 0x4011 8 n cause
  (s.bump 0x4011 7 n).cswRestart n

/-- A restarting instance resumes (R341): its state and read positions come from its newest record, else it starts cold. Trace
messages 0x003 and 0x004 tell which. -/
def State.svcResume (s : State) (n : Nat) : State :=
  let x := s.svc n
  let cause := x.trap.getD 0
  let rec_ : Option Hinge := if x.fromDram then x.dram else x.tcm
  let dram := x.fromDram || x.tcm.isNone
  let s := s.setSvc n { x with state := 2, trap := none, fromDram := false, hingeAt := s.clock }
  let s := (s.svcInputs n).foldl (fun s c => s.readBack dram c) s
  let s := if n = 0x400 then
      let l := s.station.log
      { s with station := { s.station with log := { l with replay := l.since, since := [] } } } else s
  match rec_.or x.dram with
  | some r =>
    let s := s.hingeLoad n r.body
    if dram then s.traceSvc n (Config.traceLevel 4) 4 [cause, 0] else s.traceSvc n (Config.traceLevel 3) 3 [cause, r.seq]
  | none => (s.hingeLoad n (coldBody n)).traceSvc n (Config.traceLevel 4) 4 [cause, 1]

/-! ### Placement in force -/

/-- An instance starts cold on a core (R341). -/
def State.svcStart (s : State) (n k : Nat) : State :=
  let s := s.setSvc n { core := k, state := 2, hingeAt := s.clock }
  (s.hingeLoad n (coldBody n)).traceSvc n (Config.traceLevel 1) 1 [k]

/-- An instance is stopped: it is no longer enabled. -/
def State.svcStop (s : State) (n : Nat) : State :=
  let s := (s.traceSvc n (Config.traceLevel 2) 2 []).cswRestart n
  s.setSvc n {}

/-- An instance moves to another core (R330, R332): it is quiesced at a hinge point and resumes there from that record, by way of its DRAM copy. -/
def State.svcMove (s : State) (n k : Nat) : State :=
  let s := if (s.svc n).state = 2 then (s.hinge n).hingeCopy n else s
  let x := s.svc n
  (s.setSvc n { x with core := k }).traceSvc n (Config.traceLevel 5) 5 [x.core, k]

/-- A placement takes effect (R330): instances no longer enabled stop, new and failed ones start, the others move or stay. -/
def State.applyPlacement (s : State) (p : List (Nat × Nat)) : State :=
  let gone := (s.cores.svcs.map (·.1)).filter (fun n => !p.any (fun x => x.1 = n))
  let s := gone.foldl (fun s n => s.svcStop n) s
  p.foldl (fun s nk =>
    let x := s.svc nk.1
    if x.core = 0xFF || x.state = 5 then s.svcStart nk.1 nk.2
    else if x.core = nk.2 then s
    else s.svcMove nk.1 nk.2) s

/-- The present configuration's placement takes effect where it can be met. -/
def State.placeNow (s : State) : State :=
  match s.svcPlace with
  | some p => s.applyPlacement p
  | none => s

/-- A core is retired until the next reset (R332, R340): its instances move as a whole to the lowest empty core in service, else one
at a time where they fit; one that fits nowhere fails, named under source 0x54. The hub has a retired resource. -/
def State.coreRetire (s : State) (k state : Nat) : State × List Report :=
  let s := s.setCoreSt k { s.coreSt k with state := state }
  let l := s.svcsOn k
  let (s, rs) : State × List Report :=
    match s.coresUp.find? (fun j => (s.svcsOn j).isEmpty) with
    | some j => (l.foldl (fun s n => s.svcMove n j) s, [])
    | none =>
      let order := if l.contains 0 then 0 :: ((sortLoads ((l.filter (· ≠ 0)).map (fun n => (n, s.svcPlanned n)))).map (·.1))
        else (sortLoads (l.map (fun n => (n, s.svcPlanned n)))).map (·.1)
      order.foldl (fun a n =>
        match a.1.coresUp.find? (fun j => a.1.corePlanned j + a.1.svcPlanned n ≤ a.1.o 0x4002 0) with
        | some j => (a.1.svcMove n j, a.2)
        | none => (a.1.setSvc n { a.1.svc n with state := 5 }, a.2 ++ [{ source := 0x54, syndrome := n }])) (s, [])
  (s.degrade 3 true, rs)

end Sys2Proof.Machine
end

