-- ==== Sys2Proof/Machine/FlashOps.lean ====
section
/-!
DEFINITION. Shared operations of the flash store (R424–R428, R432, R435): areas and sectors, the journal, the anchor and the erase queue, and
image slots.
-/

namespace Sys2Proof.Machine

/-! ### Areas (R424) -/

/-- A logical sector: area (1 journal, 2 configuration, 3 image A, 4 event log, 6 image B, in the order of the table) and number. -/
def lsec (area i : Nat) : Nat := area * 2 ^ 24 + i

/-- The physical sector a logical sector begins at: device in bit 31. -/
def homePhys (k : Nat) : Nat :=
  let i := k % 2 ^ 24
  match k / 2 ^ 24 with
  | 1 => 1 + i
  | 2 => 33 + i
  | 3 => 161 + i
  | 4 => if i < 607 then 417 + i else 2 ^ 31 + 257 + (i - 607)
  | 6 => 2 ^ 31 + 1 + i
  | _ => 0

/-- The logical sector whose home a physical sector is; none for the anchor and the spare pool. -/
def homeOf (p : Nat) : Option Nat :=
  let i := p % 2 ^ 31
  if i = 0 then none
  else if p < 2 ^ 31 then
    if i < 33 then some (lsec 1 (i - 1)) else if i < 161 then some (lsec 2 (i - 33)) else if i < 417 then some (lsec 3 (i - 161))
    else if i < 1024 then some (lsec 4 (i - 417)) else none
  else if i < 257 then some (lsec 6 (i - 1)) else if i < 674 then some (lsec 4 (607 + (i - 257))) else none

/-- The physical sector of a logical one. -/
def State.phys (s : State) (k : Nat) : Nat := tgetF homePhys s.flash.remap k

/-- The logical sector that a physical one serves. -/
def State.logicalOf (s : State) (p : Nat) : Option Nat :=
  match s.flash.remap.find? (fun e => e.2 = p) with
  | some e => some e.1
  | none => match homeOf p with
    | some k => if s.phys k = p then some k else none
    | none => none

/-! ### Journal, anchor and the erase queue (R425–R427) -/

/-- A record's 32 bytes, little-endian, with the CRC-32 of the first 28 (R426). -/
def JRec.bytes (r : JRec) : List Byte :=
  let b := leBytes 4 r.typ ++ leBytes 4 r.seq ++ leBytes 4 r.logical ++ leBytes 4 r.phys ++ leBytes 4 r.val ++ leBytes 8 r.ptr
  b ++ leBytes 4 (crc32 b).toNat

/-- Records of 32 bytes in a sector of 64 KiB, and those that the ring holds beside the sector being written. -/
def journalSector : Nat := 2048

/-- Records are programmed behind the newest. The oldest sector of the ring gives way to the one being written. -/
def Store.journalAdd (f : Store) (l : List JRec) : Store :=
  let r := f.records ++ l.zipIdx.map (fun x => { x.1 with seq := (f.journal + x.2) % 2 ^ 32 })
  { f with journal := (f.journal + l.length) % 2 ^ 32, records := r.drop (r.length - 31 * journalSector) }

/-- The next queued erase begins when none is in progress: its intent is recorded. -/
def State.eraseKick (s : State) : State :=
  let f := s.flash
  match f.erase, f.eraseQ with
  | none, p :: l =>
    let g : Store := { f with
      erase := some { sector := p, resumed := s.clock }, eraseQ := l,
      intents := if f.intents.contains p then f.intents else f.intents ++ [p] }
    { s with flash := g.journalAdd [{ typ := 1, logical := (s.logicalOf p).getD 0, phys := p }] }
  | _, _ => s

/-- Queue physical sectors for erase. -/
def State.eraseQueue (s : State) (l : List Nat) : State :=
  { s with flash := { s.flash with eraseQ := s.flash.eraseQ ++ l.filter (fun p => !s.flash.eraseQ.contains p) } }.eraseKick

/-- The physical sector of the anchor copy that the next update writes: the one with the older sequence number, or the only good one. -/
def State.anchorOld (s : State) : Nat :=
  match s.flash.anchors with
  | 1 => 0
  | 2 => 2 ^ 31
  | _ => s.flash.anchorSeq % 2 * 2 ^ 31

/-- The anchor is updated. -/
def State.anchorUpdate (s : State) : State :=
  if s.flash.anchors = 0 then s
  else { s with flash := { s.flash with anchorSeq := (s.flash.anchorSeq + 1) % 2 ^ 32 } }.eraseQueue [s.anchorOld]

/-- Records enter the journal: at the end of a sector a checkpoint is written into the anchor, and the next sector is erased. -/
def State.journalWrite (s : State) (l : List JRec) : State :=
  let a := s.flash.journal
  let b := a + l.length
  let s := { s with flash := s.flash.journalAdd l }
  if b / journalSector = a / journalSector then s
  else { s with flash := { s.flash with checkpoint := b % 2 ^ 32 } }.anchorUpdate.eraseQueue
    [s.phys (lsec 1 ((b / journalSector + 1) % 32))]

/-- A suspended erase goes on. -/
def State.eraseResume (s : State) : State :=
  match s.flash.erase with
  | none => s
  | some e => if e.suspended then { s with flash := { s.flash with erase := some { e with suspended := false, resumed := s.clock } } } else s

/-! ### Image slots (R432) -/

/-- Image slot `i` (R432). -/
def State.imgSlot (s : State) (i : Nat) : Slot := tget {} s.flash.slots i

/-- Replace image slot `i`. -/
def State.setImgSlot (s : State) (i : Nat) (v : Slot) : State :=
  { s with flash := { s.flash with slots := tset {} s.flash.slots i v } }

/-- The journal record of a slot's state. -/
def slotRecord (i st : Nat) : JRec := { typ := 7, logical := lsec (if i = 0 then 3 else 6) 0, phys := homePhys (lsec (if i = 0 then 3 else 6) 0), val := st }

/-- Set the state of image slot `i`: a journal record and the anchor say it (R425, R426). -/
def State.setSlotSt (s : State) (i st : Nat) : State :=
  ((s.setImgSlot i { s.imgSlot i with state := st }).journalWrite [slotRecord i st]).anchorUpdate

/-- An update is abandoned in states 1–4 (R435): by UPD_CMD 4, its owner's end, or SHUTDOWN. The slot becomes invalid. -/
def State.updDrop (s : State) : State :=
  if 1 ≤ s.flash.updState && s.flash.updState ≤ 4 then
    { s with flash := { s.flash with updState := 0, owner := none } }.setSlotSt s.flash.updSlot 2
  else s

end Sys2Proof.Machine
end

