-- ==== Sys2Proof/Machine/StoreOps.lean ====
section
/-!
DEFINITION. Shared operations of the changes of mode that units cause (R65–R81, R441): the failure of a trial, DOZE, the entry into
FAILSAFE and SHUTDOWN, and what a reset rebuilds and keeps.
-/

namespace Sys2Proof.Machine

/-- The empty core that a handover loads: the lowest-numbered one; with none, the lowest in service. -/
def State.emptyCore (s : State) : Option Nat := (s.coresUp.find? (fun k => (s.svcsOn k).isEmpty)).or s.coresUp.head?

/-- A hand-back begins (R441): the instances that run on the failed image are to move to the former one; `during` a handover those are the
ones already moved. -/
def State.handBegin (s : State) (during : Bool) : State :=
  let cs := s.cores.svcs.map (fun x => (x.1, { x.2 with moved := during && !x.2.moved }))
  let s := { s with cores := { s.cores with svcs := cs } }
  { s with flash := { s.flash with handBack := true, target := s.emptyCore } }

/-- An activation fails (R441): FAILED_ACTIVATIONS advances, the trial slot returns to valid, or is rejected at the third failure. A
handover trial hands back, within FAILSAFE where the hub is there; a reset trial ends in a fault report under source 0x83. -/
def State.trialFail (s : State) : State × List Report :=
  match s.flash.trial with
  | none => (s, [])
  | some t =>
    let n := min (s.flash.failed + 1) 3
    let s := { s with flash := { s.flash with failed := n, trial := none, updState := 0, owner := none } }
    let s := (s.setSlotSt t.slot (if n = 3 then 5 else 1)).event .update [8, t.slot, n]
    if t.atReset then (s, [{ source := 0x83, syndrome := t.slot }])
    else
      let back := s.modes.mode
      let s := s.handBegin (s.flash.running ≠ t.slot)
      match back with
      | .active | .degraded | .standby =>
        (({ s with flash := { s.flash with handFrom := back } }).setMode .handover, [])
      | _ => (s, [])

/-- The hub may enter FAILSAFE from this mode (R65). -/
def failsafeFrom : Mode → Bool
  | .configure | .join | .active | .degraded | .standby | .handover | .maintenance | .doze => true
  | _ => false

/-- A switchover in progress is given up by a cause of higher rank (R68): the session that asked is answered. -/
def State.swapDrop (s : State) : State :=
  match s.pair.swap with
  | none => s
  | some w =>
    let s := { s with pair := { s.pair with swap := none, planned := false } }
    match w.session with
    | some n => s.answer n (.abort Abort.busyRetry)
    | none => s

/-! ### DOZE (R77–R79, R349) -/

/-- Wide time as a wake marker carries it (R344). -/
def State.wakeWt (s : State) : List Nat :=
  let n := s.time.wt / 2 ^ 32
  let sec := n / 1000000000
  [sec % 2 ^ 32, sec / 2 ^ 32 % 2 ^ 16, n % 1000000000, s.time.wt % 2 ^ 32]

/-- Cycles of a core at 800 MHz since its last wake or reset (R326, R344). -/
def State.coreCycles (s : State) (k : Nat) : Nat := (s.clock - (s.coreSt k).cyclesFrom) * 16 / 5

/-- The cores enter DOZE (R77 step 3, R349): instances stop at hinge points, and each core emits its sleep marker and gates. -/
def State.dozeCores (s : State) : State :=
  let s := (s.cores.svcs.map (·.1)).foldl (fun s n =>
    if s.svcUp n then let t := s.hinge n; t.setSvc n { t.svc n with state := 4 } else s) s
  s.coresUp.foldl (fun s k =>
    let c := s.coreCycles k
    (s.traceIn 2 k s.st32 [c % 2 ^ 32, c / 2 ^ 32]).setCoreSt k { s.coreSt k with state := 1 }) s

/-- An erase in progress is suspended (R427), and DRAM enters self-refresh (R77 step 4). -/
def State.dozeDram (s : State) : State :=
  let s := match s.flash.erase with
    | some e => if e.suspended then s
        else { s with flash := { s.flash with erase := some { e with suspended := true, suspends := e.suspends + 1 } } }.bump 0x9002 2
    | none => s
  { s with sw := { s.sw with selfRefresh := true } }

/-- Leaving DOZE (R79, R349): DRAM and the erase go on; each core clears its cycle counter and emits its wake marker, and with
TRACE_FLOW a program-counter synchronisation, whose word is free; instances resume. -/
def State.dozeOut (s : State) : State :=
  if s.modes.mode ≠ .doze then s
  else
    let s := { s with sw := { s.sw with selfRefresh := false } }.eraseResume
    let s := (List.range 16).foldl (fun s k =>
      if (s.coreSt k).state ≠ 1 then s
      else
        let s := (s.setCoreSt k { s.coreSt k with state := 0, cyclesFrom := s.clock }).traceIn 3 k s.st32 s.wakeWt
        if s.o 0x4020 2 = 0 then s else (s.traceIn 5 k s.st32 [s.freeNat 32]).drew) s
    { s with cores := { s.cores with svcs := s.cores.svcs.map (fun x => (x.1, if x.2.state = 4 then { x.2 with state := 2 } else x.2)) } }

/-- A FAILSAFE cause (R65, R68, R441): the hub enters FAILSAFE from the modes that allow it, whatever transition is in progress; a trial
fails by it. -/
def State.failsafe (s : State) : State × List Report :=
  if !failsafeFrom s.modes.mode then (s, [])
  else (s.swapDrop.dozeOut.setMode .failsafe).trialFail

/-! ### Restart of services (R339–R343) -/

/-- A trap or a reaction restarts instance `n` (R339, R343): the third restart within 10 s fails it instead, named under source 0x53;
a failed system service moves the hub to FAILSAFE, from the modes that allow it and ending what is in progress (R65, R68). An instance that is not running is left as it is. -/
def State.svcRestart (s : State) (n cause : Nat) (fromDram : Bool) : State × List Report :=
  let x := s.svc n
  if x.core = 0xFF || x.state = 0 || x.state = 3 || x.state = 5 then (s, [])
  else if (s.restartsIn n).length ≥ 2 then
    let s := s.setSvc n { x with state := 5, trap := some cause, trapped := x.trapped || cause ≠ 0 }
    let s := if cause = 0 then s else s.setO 0x4011 8 n cause
    let s := (s.traceSvc n (Config.traceLevel 6) 6 [(s.restartsIn n).length]).cswRestart n
    let (s, l) := if n = 0 then s.failsafe else (s, [])
    (s, l ++ [{ source := 0x53, syndrome := n }])
  else (s.svcBegin n cause fromDram, [])

/-- Restart several instances, collecting the reports. -/
def State.svcRestarts (s : State) (l : List Nat) (cause : Nat) (fromDram : Bool) : State × List Report :=
  l.foldl (fun a n => let (t, r) := a.1.svcRestart n cause fromDram; (t, a.2 ++ r)) (s, [])

/-! ### SHUTDOWN (R80, R81) -/

/-- Every running instance is quiesced at a hinge point (R80 step 3). -/
def State.svcsQuiesce (s : State) : State :=
  (s.cores.svcs.map (·.1)).foldl (fun s n => if s.svcUp n then let t := s.hinge n; t.setSvc n { t.svc n with state := 4 } else s) s

/-- SHUTDOWN begins (R80 steps 1–3); on an island supply warning it runs shortened, with every field channel off, and a handover stops
where it stands (R81, R511). -/
def State.shutdownBegin (s : State) (warned : Bool) : State :=
  let s := (s.swapDrop.dozeOut.claimRelease.updDrop).setMode .shutdown
  let s := if warned then { s.fieldsOff with flash := { s.flash with target := none, handBack := false } } else s.svcsQuiesce
  { s with modes := { s.modes with shut := .flush, shutWarned := warned, shutWaiting := false } }

/-- A SHUTDOWN request that waited for a handover to end goes ahead (R68, R442). -/
def State.shutIfWaiting (s : State) : State :=
  match s.modes.mode with
  | .active | .degraded | .standby => if s.modes.shutWaiting then s.shutdownBegin false else s
  | _ => s

/-! ### Reset (R69, R70) -/

/-- The cause is of the power-on kind (R69). -/
def powerOn (c : Nat) : Bool := c = 1 || c = 2

/-- The earlier of two causes, each with its edge; at one edge the lower code. -/
def earlier (a b : Nat × Nat) : Nat × Nat := if b.2 < a.2 || (b.2 = a.2 && b.1 < a.1) then b else a

/-- The earliest cause of a list. -/
def earliest : List (Nat × Nat) → Nat × Nat
  | [] => (0, 0)
  | a :: l => l.foldl earlier a

/-- RESET_CAUSE and WARM of a reset's causes (R69): the earliest power-on cause if there is one. -/
def resetKind (l : List (Nat × Nat)) : Nat × Bool :=
  let p := l.filter (fun c => powerOn c.1)
  if p.isEmpty then ((earliest l).1, true) else ((earliest p).1, false)

/-- The entries a reset leaves (R32): factory and store-kept ones, ENERGY as last written to the store (R520), and RECOVERIES, which counts
from power-on (R466), through a warm reset. Configuration returns when it is loaded. -/
def State.odAfter (s : State) (warm : Bool) : Tab Val :=
  let kept := s.od.filter (fun e => match keyPers e.1 with
    | .f | .n => true
    | _ => warm && e.1 / 65536 = 0xA004 * 256 + 1)
  (List.range 8).foldl (fun t c =>
    let k := objKey (0xB830 + c) 5 0
    tsetF objDefaultKey t k (tgetF objDefaultKey s.store k)) kept

/-- The key slots after a reset (R404, R406, R408): volatile keys are gone, and each count stands at its block's end as stored. -/
def keysAfter (t : Tab KeySlot) : Tab KeySlot :=
  (t.filter (fun e => !bitOf e.2.attr 16 && e.2.state ≠ 0)).map (fun e =>
    (e.1, { e.2 with uses := e.2.ahead, state := if e.2.ahead = 0 then 2 else 1, lastCount := 0 }))

/-- SEQ of the newest record in flash plus one. -/
def SoeLog.flashNext (l : SoeLog) : Nat := ((l.sectors.flatMap (·.2)).getLast?).map (· + 1) |>.getD 0

/-- The log after a reset (R70, R316): a warm reset keeps the cache; a power-on reset leaves what is in flash. -/
def logAfter (l : SoeLog) (warm : Bool) : SoeLog :=
  if warm then { l with since := [], replay := [] }
  else { l with next := l.flashNext % 2 ^ 32, cached := 0, waiting := [], since := [], replay := [] }

/-- The collector after a reset (R452, R456, R457): a warm reset keeps the record with FROM_RESET, the recovery history and HELD; a reset of
cause 0x06 counts as a recovery. -/
def fcAfter (c : Collector) (warm fault : Bool) (now : Nat) : Collector :=
  if !warm then {}
  else {
    first := { c.first with fromReset := c.first.valid }
    state := if c.state = .held then .held else .normal
    recoveries := if fault && c.state ≠ .held then now :: c.recoveries else c.recoveries }

/-- The image slots after a reset (R435, R441, R442): an update being received is abandoned; a reset during a trial fails it. -/
def flashAfter (f : Store) : Store :=
  let f := if 1 ≤ f.updState && f.updState ≤ 4 then
      { f with slots := tset {} f.slots f.updSlot { (tget ({} : Slot) f.slots f.updSlot) with state := 2 } } else f
  let f := { f with updState := 0, owner := none, handBack := false, target := none, erase := none }
  match f.trial with
  | none => f
  | some t =>
    if t.atReset && f.running ≠ t.slot then f
    else
      let n := min (f.failed + 1) 3
      { f with trial := none, failed := n,
               slots := tset {} f.slots t.slot { (tget ({} : Slot) f.slots t.slot) with state := if n = 3 then 5 else 1 } }

/-- The hub as a reset leaves it: everything at its reset value but what R70 and the store keep. EF0 and EF1 keep their state. -/
def State.rebuild (s : State) (warm fault : Bool) : State :=
  let fresh : State := {}
  { fresh with
    clock := s.clock, free := s.free, pending := s.pending, sent := s.sent, od := s.odAfter warm, store := s.store,
    fc := fcAfter s.fc warm fault s.clock,
    sw := if warm then { fresh.sw with trained := s.sw.trained, ddrRate := s.sw.ddrRate, selfRefresh := true } else fresh.sw,
    dram := if warm then s.dram else [],
    sec := { s.sec with slots := keysAfter s.sec.slots, rngOk := false, mask := 0 },
    station := { fresh.station with log := logAfter s.station.log warm },
    cores := if warm then { fresh.cores with head := s.cores.head, lap := s.cores.lap } else fresh.cores,
    flash := flashAfter s.flash,
    bist := { s.bist with running := none, early := [], ran := 0 },
    power := { fresh.power with
      a := s.power.a, b := s.power.b, inUse := s.power.inUse, ramp := s.power.ramp, change := s.power.change,
      vina := s.power.vina, vinb := s.power.vinb } }

/-- A reset cause (R69–R72): it begins a reset, or joins the one that lasts. Only the first cause counts in RESET_COUNT. A power-on
cause that joins a warm reset makes it a power-on reset. -/
def State.beginReset (s : State) (cause : Nat) : State :=
  let again := s.modes.mode = .reset
  let causes := (if again then s.modes.causes else []) ++ [(cause, s.clock)]
  let (rc, warm) := resetKind causes
  let straps := s.modes
  let recover := cause = 5 || (again && s.modes.recovery)
  let s := if again then s else s.commitCancelMode.event .other [0x1103, cause]
  let s := if !again || (!warm && s.modes.warm) then s.rebuild warm (cause = 6) else s
  let s := if again then s else s.bump 0x1104 0
  let s := { s with modes := { s.modes with
    mode := .reset, prev := .reset, override := true, causes := causes, resetCause := rc, warm := warm, recovery := recover && warm,
    modeSel := straps.modeSel, pairId := straps.pairId, dramInit := straps.dramInit && warm } }
  if cause = 6 && !again && s.fc.state ≠ .held then s.bump 0xA004 1 else s

/-- Recoveries within the last 60 min (R457). -/
def State.recoveriesHour (s : State) : Nat := (s.fc.recoveries.filter (fun t => s.clock < ticksMs 3600000 + t)).length

/-- One more recovery would exceed RECOVERY_LIMIT (R457). -/
def State.recoveryFull (s : State) : Bool := s.recoveriesHour + 1 > s.o 0xA003 2

/-- The instants kept are those of the last RECOVERY_LIMIT + 1 recoveries (R457). -/
def State.recoveryNote (s : State) : State :=
  { s with fc := { s.fc with recoveries := (s.clock :: s.fc.recoveries).take (s.o 0xA003 2 + 1) } }

end Sys2Proof.Machine
end

