-- ==== Sys2Proof/Machine/React.lean ====
section
/-!
DEFINITION. A fault report and its reaction (R449–R457): the first-error record, the counts, the fault-record queue, the collector's
state, and the reaction that the source's REACTION entry names.
-/

namespace Sys2Proof.Machine

/-- The class of a source (R449): 0 corrected, 1 contained, 2 fatal. -/
def srcClass (n : Nat) : Nat :=
  if [0x17, 0x40, 0x83, 0x84, 0xA5].contains n then 2
  else if [0x00, 0x01, 0x03, 0x05, 0x06, 0x11, 0x13, 0x16, 0x20, 0x21, 0x30, 0x31, 0x32, 0x33, 0x34, 0x50, 0x52, 0x53, 0x54,
    0x61, 0x63, 0x70, 0x71, 0x72, 0x74, 0x81, 0x82, 0xA3, 0xA4, 0xB0, 0xB1, 0xB2, 0xB3, 0xC0, 0xC1, 0xC2, 0xD1].contains n then 1
  else 0

/-- The local reaction a source accepts (R449, R453): 1 channel, 2 engine, 3 service, 0 none. -/
def srcMark (n : Nat) : Nat :=
  if n = 0x20 || n = 0x21 then 1 else if 0x30 ≤ n && n ≤ 0x33 then 2 else if n = 0x50 || n = 0x53 || n = 0x54 then 3 else 0

/-- REACTION of a source (R453). -/
def State.reaction (s : State) (source : Nat) : Nat := s.o 0xA020 source

/-- QUIET of a source (R456). -/
def State.quiet (s : State) (source : Nat) : Bool := bitOf (s.reaction source) 4

/-- The collector becomes HELD and the hub enters FAILSAFE (R457). -/
def State.hold (s : State) : State × List Report := { s with fc := { s.fc with state := .held } }.failsafe

/-- Apply one reaction code to a resource (R453): the state after it, whether it is then in progress (R454), and further reports. In
RESET and BOOT a hub-wide reaction changes no mode and is complete at once. -/
def State.applyReaction (s : State) (source code res : Nat) : State × Bool × List Report :=
  let down := s.modes.mode = .reset || s.modes.mode = .boot
  match code with
  | 0 => (s, false, [])
  | 1 =>
    let busy := match s.chanEng res with
      | some e => (match (s.eng e).ckpt with | some k => k.tag.isSome && (s.chan res).held > 0 | none => false)
      | none => false
    (s.quarantine res, busy, [])
  | 2 => (s.enginePark res 4, (s.eng res).st = .running || (s.eng res).st = .groupIdle, [])
  | 3 =>
    let (t, l) := s.svcRestart res 0 false
    (t, (t.svc res).state = 3, l)
  | 6 =>
    if down then (s, false, [])
    else
      let cause := if source = 0x83 && s.flash.failed ≥ 3 then 8 else 6
      if cause = 6 && s.recoveryFull then let (t, l) := s.hold; (t, true, l) else (s.beginReset cause, true, [])
  | c =>
    if down then (s, false, [])
    else
      let was := s.modes.mode
      let s := if c = 5 && s.pairMember then s.claimRelease else s
      let (t, l) := s.failsafe
      ({ t with fc := { t.fc with byReaction := t.fc.byReaction || (was ≠ .failsafe && failsafeFrom was) } }, true, l)

/-- A merged report's reaction is applied (R454): it is more severe than every reaction applied since the recorded error, or local to a
resource not yet reacted upon. -/
def reactsAgain (l : List (Nat × Nat)) (code res : Nat) : Bool :=
  l.all (fun x => x.1 < code) || (1 ≤ code && code ≤ 3 && !l.contains (code, res))

/-- Record a report (R450, R451, R458): it latches, merges or overflows; the counts advance; it enters the queue. -/
def State.recordReport (s : State) (r : Report) : State :=
  let cls := srcClass r.source
  let f := s.fc.first
  let merged := f.valid && !s.fc.reacting.isEmpty
  let overflows := f.valid && s.fc.reacting.isEmpty
  let first : FirstErr :=
    if merged then { f with merged := min (f.merged + 1) 0xFFFF, cls := max f.cls cls }
    else if overflows then { f with overflow := true }
    else { valid := true, cls := cls, source := r.source, st32 := s.st32, syndrome := r.syndrome % 2 ^ 32,
           address := r.address % 2 ^ 48 }
  let c := s.fc
  let s := { s with fc := { c with
    first := first,
    rcCorr := if cls = 0 then min (c.rcCorr + 1) 0xFF else c.rcCorr,
    rcCont := if cls = 1 then min (c.rcCont + 1) 0xFFFF else c.rcCont,
    rcFatal := if cls = 2 then min (c.rcFatal + 1) 0xFF else c.rcFatal,
    fatal := c.fatal || cls = 2 } }
  let s := if f.valid then s else s.noteSet W1c.first
  let s := s.bump 0xA001 (cls + 1)
  let s := s.faultPush { typ := 0, b1 := r.source, b2 := cls + 4 * b2n merged + 8 * b2n overflows, w4 := s.st32, w8 := r.syndrome % 2 ^ 32,
                         w12 := r.address % 2 ^ 32 }
  if !f.valid && bitOf (s.reaction r.source) 3 then s.hostInt 1 else s

/-- The collector's state after a report (R455): a contained or fatal report without QUIET makes it FAULTED and restarts the quiet
timer; such a report wakes the hub (R79). -/
def State.faultState (s : State) (r : Report) : State :=
  if srcClass r.source = 0 then s
  else
    let s := s.wake
    if s.quiet r.source then s
    else { s with fc := { s.fc with state := if s.fc.state = .held then .held else .faulted, quietSince := s.clock } }

/-- One report: recorded, judged and reacted to. The reports its reaction gives rise to are returned. -/
def State.react (s : State) (r : Report) : State × List Report :=
  let code := s.reaction r.source % 8
  let res := r.syndrome % 2 ^ 24
  let fresh := !s.fc.first.valid
  let running := s.fc.reacting
  let s := (s.recordReport r).faultState r
  if running.isEmpty || reactsAgain running code res then
    let (t, busy, l) := s.applyReaction r.source code res
    let keep := if fresh then (if busy then [(code, res)] else [])
      else if running.isEmpty then [] else (code, res) :: running
    (if code = 6 && t.modes.mode = .reset then t else { t with fc := { t.fc with reacting := keep } }, l)
  else (s, [])

/-- A report with the reports that follow from its reactions, to a depth. -/
def State.reportFuel : Nat → State → Report → State
  | 0, s, r => (s.recordReport r).faultState r
  | n + 1, s, r => (s.react r).2.foldl (fun s q => s.reportFuel n q) (s.react r).1

/-- A fault report (R450–R458). A reaction's own reports follow it; their depth is bounded by the reactions there are. -/
def State.report (s : State) (r : Report) : State := s.reportFuel 4 r

/-- Several reports in order. -/
def State.reports (s : State) (l : List Report) : State := l.foldl (fun s r => s.report r) s

/-- A level condition begins or ends at a resource of a source (R455). -/
def State.levelSet (s : State) (source res : Nat) (on : Bool) : State :=
  let l := s.fc.levels.filter (· ≠ (source, res))
  { s with fc := { s.fc with levels := if on then (source, res) :: l else l } }

/-- A level condition of a source without QUIET is still reported (R455). -/
def State.levelHeld (s : State) : Bool := s.fc.levels.any (fun x => !s.quiet x.1)

/-- A service operation that gives rise to reports, with them reported. -/
def State.withReports (x : State × List Report) : State := x.1.reports x.2

end Sys2Proof.Machine
end

