-- ==== Sys2Proof/Machine/Engines.lean ====
section
/-!
DEFINITION. The pin engines (R204–R239): fetching, reserved operands, one meaning for each instruction, compare matches,
staging and replay, park and restart, cluster flags and counters. One instruction command is one tick of its engine.
-/

namespace Sys2Proof.Machine

/-! ### Fetch and operands -/

/-- Engine `k` of cluster `c`, as the rows name it whose instruction meets what the cluster shares: its flags and its grants (R204, R222, R227). -/
def clEng (c k : Fin 16) : Fin 256 := ⟨16 * c.val + k.val, by omega⟩

/-- The cluster of an engine (R204). -/
def clOf (e : Fin 256) : Fin 16 := ⟨e.val / 16, by omega⟩

/-- The place of an engine in its cluster (R204). -/
def engPlace (e : Fin 256) : Fin 16 := ⟨e.val % 16, by omega⟩

/-- Bits `[hi:lo]` of a word. -/
def fld (w hi lo : Nat) : Nat := w / 2 ^ lo % 2 ^ (hi + 1 - lo)

/-- The word at an address of cluster `c`'s instruction memory: its PROGRAM, zero beyond its length (R204, R238). -/
def State.imWord (s : State) (c a : Nat) : Nat := ofBe (((s.ob (0x6100 + c) 0).drop (3 * a)).take 3)

/-- The word engine `e` would execute on this tick. -/
def State.engWord (s : State) (e : Nat) : Nat := s.imWord (e / 16) (s.eng e).r.pc

/-- Side-set bits that R230 refuses: set at or above SIDE_COUNT, or with side-set disabled. -/
def State.sideBad (s : State) (e w : Nat) : Bool :=
  if fld w 19 19 = 1 then fld w 18 15 ≥ 2 ^ s.o 0x6005 8 e else fld w 18 15 ≠ 0

/-- Reserved operands of each opcode (R230), but for side-set. -/
def State.operandBad (s : State) (e w : Nat) : Bool :=
  match fld w 23 20 with
  | 0 => fld w 11 10 ≠ 0
  | 1 =>
    let idx := fld w 5 0
    fld w 9 6 ≠ 0 ||
    (match fld w 14 12 with
      | 0 => idx > 47 || fld w 10 10 = 1
      | 1 => idx > 7 || (fld w 10 10 = 1 && fld w 11 11 = 0)
      | 2 => idx ≠ 0 || fld w 11 10 ≠ 0
      | 3 => idx > 31 || fld w 11 10 ≠ 0
      | 4 => idx > 7 || fld w 11 10 ≠ 0
      | _ => true)
  | 2 => fld w 11 7 = 0 || fld w 11 7 > 24 || fld w 4 0 ≠ 0
  | 3 => fld w 11 7 = 0 || fld w 11 7 > 24 || fld w 14 12 = 7 || fld w 4 0 ≠ 0
  | 4 => fld w 13 0 ≠ 0
  | 5 => fld w 14 11 = 15 || fld w 8 7 = 3 || fld w 6 0 ≠ 0
  | 6 => fld w 6 0 ≠ 0
  | 7 => fld w 14 12 > 3 || (fld w 14 12 ≥ 2 && fld w 11 8 ≠ 0)
  | 8 => fld w 14 12 > 5 || fld w 11 10 = 3 || (fld w 11 10 ≠ 2 && fld w 6 0 ≠ 0)
  | 9 =>
    fld w 12 7 ≠ 0 ||
    (match fld w 14 13 with
      | 0 => fld w 6 0 ≠ 0 || (s.engLock e).isNone
      | 1 => (match s.consChan e with | some c => !(s.members (fld w 6 0)).contains c | none => true)
      | 2 => fld w 6 0 ≠ 0 || (s.engLock e).isSome
      | _ => true)
  | 10 => fld w 11 0 ≠ 0
  | 11 => fld w 14 13 = 3 || fld w 11 3 ≠ 0
  | _ => false

/-- Why a word parks its engine: 1 undefined opcode, 2 reserved operand; `none` for a legal word (R230). -/
def State.wordBad (s : State) (e w : Nat) : Option Nat :=
  if fld w 23 20 ≥ 12 then some 1
  else if s.operandBad e w || s.sideBad e w then some 2
  else none

/-- The modes in which an enabled engine runs (R234): in DOZE only the keep-alive set does. -/
def State.enginesRun (s : State) (e : Nat) : Bool :=
  match s.modes.mode with
  | .reset | .boot | .configure | .shutdown => false
  | .doze => bitOf (s.o 0x1130 (e / 32 + 1)) (e % 32)
  | _ => true

/-- The instructions of R159 stall: in the speculating and held states, and while a checkpoint stands. -/
def engSpec (x : Engine) : Bool := x.sh = .speculating || x.sh = .groupHeld || x.sh = .calendarHeld || x.ckpt.isSome

/-! ### One tick -/

/-- What an instruction does on its tick: it waits, or it completes with an optional jump and a pin write; `over`: it has completed, and
its tick ended, already. -/
inductive EngRes where
  | stall (s : State)
  | done (s : State) (jump : Option Nat) (w : PinWrite)
  | over (s : State)

/-- The divider's accumulator at the start of the next tick (R208). -/
def accNext (x : Engine) : Nat :=
  let a := x.acc + x.divFrac
  if a ≥ 256 then a - 256 else a

/-- Cycles of a tick that begins with accumulator `acc` (R208). -/
def tickLen (x : Engine) : Nat :=
  let i := if x.divInt = 0 then 65536 else x.divInt
  if x.acc + x.divFrac ≥ 256 then i + 1 else i

/-- The end of a tick: the next one begins, and CNT advances (R208, R210). -/
def engTickEnd (x : Engine) : Engine :=
  { x with tick := x.tick + 1, cnt := x.cnt + 1, acc := accNext x, matched := false }

/-- The registers after an instruction that does not jump: the next address, or the wrap (R229). -/
def engAdvance (r : EngRegs) : EngRegs :=
  if r.pc = r.wrapTop then
    match r.wrapPend with
    | some (b, t) => { r with pc := b, wrapBot := b, wrapTop := t, wrapPend := none }
    | none => { r with pc := r.wrapBot }
  else { r with pc := (r.pc + 1) % 1024 }

/-- The side-set write of a word (R212). -/
def State.sideWrite (s : State) (e w : Nat) : PinWrite :=
  let n := s.o 0x6005 8 e
  if fld w 19 19 = 1 && n > 0 then
    let b := s.o 0x6005 7 e
    if s.o 0x6005 9 e = 1 then { dMask := winMask b n, d := winBits b n (fld w 18 15) }
    else { vMask := winMask b n, v := winBits b n (fld w 18 15) }
  else {}

/-- Staging entries that are not the reserved one. -/
def stagedNormal (x : Engine) : Nat := (x.staging.filter (fun i => !i.reserved)).length

/-- Stage a pin write on the present tick: it joins that tick's entry, or takes a new one; `none` when 8 are held (R160). -/
def engStage (x : Engine) (w : PinWrite) : Option Engine :=
  if x.staging.any (fun i => i.off = x.tick && !i.reserved) then
    some { x with staging := x.staging.map (fun i => if i.off = x.tick && !i.reserved then { i with w := pinMerge i.w w } else i) }
  else if stagedNormal x ≥ 8 then none
  else some { x with staging := x.staging ++ [{ off := x.tick, w := w }] }

/-- Make a pin write in the engine's Shutter state (R160, R165); `none` when it must wait. -/
def engWrite (x : Engine) (w : PinWrite) : Option Engine :=
  if pinNone w then some x
  else match x.sh with
    | .direct => some (pinApply x w)
    | .muted => some x
    | _ => engStage x w

/-- Finish a completing instruction: side-set and pin writes, the next address, the end of the tick. -/
def State.engFinish (s : State) (e w : Nat) (jump : Option Nat) (pw : PinWrite) : Option State :=
  let x := s.eng e
  let t := pinOnly (s.driveMask e) (pinMerge pw (s.sideWrite e w))
  (engWrite x t).map (fun x =>
    let r := match jump with
      | some a => { x.r with pc := a % 1024 }
      | none => engAdvance x.r
    s.setEng e { engTickEnd { x with r := r } with waiting := false })

/-- The word at the engine's program counter cannot be read: it is uncorrectable (R237). -/
def State.wordLost (s : State) (e : Nat) : Bool := (s.cluster (e / 16)).badWords.contains (s.eng e).r.pc

/-- A tick of an engine held in group idle: it executes nothing, and CNT runs (R195, R210). -/
def State.engIdleTick (s : State) (e : Nat) : State := s.setEng e (engTickEnd (s.eng e))

/-- One tick of engine `e`: if it is running and its word is a legal word that `sel` accepts, execute it (R211); a waiting
instruction re-executes on the next tick. In group idle the tick passes. Otherwise nothing happens. -/
def State.engRun (s : State) (e : Nat) (sel : Nat → Bool) (op : Nat → State → EngRes) : State :=
  let w := s.engWord e
  if !(s.enginesRun e && sel w && (s.wordBad e w).isNone) || s.wordLost e then s
  else if (s.eng e).st = .groupIdle then s.engIdleTick e
  else if (s.eng e).st = .running then
    let wait : State → State := fun t => t.setEng e { engTickEnd (t.eng e) with waiting := true }
    match op w s with
    | .stall t => wait t
    | .done t j pw =>
      match t.engFinish e w j pw with
      | some u => u
      | none => wait s
    | .over t => t
  else s

/-- The word has opcode `k`. -/
def isOp (k w : Nat) : Bool := fld w 23 20 = k

/-! ### Grants -/

/-- Places from the engine after the one last granted to engine `k` of the cluster (R222). -/
def grantDist (c : Cluster) (k : Nat) : Nat := (k + 15 - c.last) % 16

/-- Items that waiting engines ask for and that are granted before engine `k`: those nearer in round-robin order (R222). -/
def State.grantAhead (s : State) (cl k : Nat) : Nat :=
  let c := s.cluster cl
  ((c.wants.filter (fun w => w.1 ≠ k && grantDist c w.1 < grantDist c k && (s.eng (16 * cl + w.1)).waiting
    && (s.eng (16 * cl + w.1)).st = .running)).map (·.2)).sum

/-- Engine `e` asks to move `n` items on this tick (R222): its cluster moves 16 in each 20 ns, granted round robin. An engine that is not
granted waits, and the tick is counted. -/
def State.grant (s : State) (e n : Nat) : State × Bool :=
  let c := s.cluster (e / 16)
  let k := e % 16
  let used := if c.win = s.clock / 5 then c.used else 0
  let wants := c.wants.filter (fun w => w.1 ≠ k)
  if used + s.grantAhead (e / 16) k + n ≤ 16 then
    (s.setCluster (e / 16) { c with win := s.clock / 5, used := used + n, last := k, wants := wants }, true)
  else
    ((s.setCluster (e / 16) { c with wants := wants ++ [(k, n)], stall := min (c.stall + 1) 0xFFFFFFFF }).bump 0x6021 4 e, false)

/-! ### Items -/

/-- The result of a pull. -/
inductive PullRes where
  | wait (s : State)
  | got (s : State) (data : W24) (item : BitVec 7)

/-- ITEM's bits for an item: IDLE, SOP, EOP, KIND (R225). -/
def itemBits (i : Item) : BitVec 7 := BitVec.ofNat 7 (b2n i.sop * 32 + b2n i.eop * 16 + i.kind % 16)

/-- The engine takes its checkpoint on an item (R158). -/
def engEnter (x : Engine) (i : Item) : Engine :=
  { x with ckpt := some { regs := x.r, tag := i.unc, grp := i.grp, staged := x.staging.length },
           sh := if x.sh = .calendarHeld then .calendarHeld else .speculating }

/-- How an engine takes an item (R158, R159, R165, R171): `none` while it must wait; else whether the item stays in the channel, held, and
the engine after. -/
def engTakes (x : Engine) (i : Item) : Option (Bool × Engine) :=
  let special := i.unc.isSome || i.grp.isSome
  match x.ckpt, x.sh with
  | some k, _ => if (i.unc.isNone || i.unc = k.tag) && (i.grp.isNone || i.grp = k.grp) then some (true, x) else none
  | none, .draining => if special then none else some (false, x)
  | none, .muted =>
    if i.unc.isSome then none
    else if i.grp.isSome then some (true, engEnter { x with sh := .direct } i)
    else some (false, { x with sh := .direct })
  | none, _ => if special then some (true, engEnter x i) else some (false, x)

/-- A PULL on this tick would return an item other than the idle item (R213). -/
def State.engReady (s : State) (e : Nat) : Bool :=
  match s.consChan e with
  | none => false
  | some c => (match s.chanPeek c true with
    | some i => (engTakes (s.eng e) i).isSome
    | none => false)

/-- Pull one item from the consumer channel (R189, R219, R222). -/
def State.engPull (s : State) (e : Nat) (nb : Bool) : PullRes :=
  match s.consChan e with
  | none => .got s 0x800000 64
  | some c =>
    match s.chanPeek c true with
    | none =>
      if nb then .got (s.chanIdle c false) (BitVec.ofNat 24 (s.o 0x5008 0 c)) 64
      else .wait (s.chanIdle c true)
    | some i =>
      match engTakes (s.eng e) i with
      | none => .wait s
      | some (stays, y) =>
        match s.grant e 1 with
        | (t, false) => .wait t
        | (t, true) =>
          if stays then .got ((t.setEng e { y with gotEop := y.gotEop || (i.grp.isSome && i.eop) }).chanHold c i) i.data (itemBits i)
          else .got ((t.setEng e y).chanPop c i) i.data (itemBits i)

/-- Push items in one tick: all or none; the engine waits while the channel lacks room, or the cluster's grant (R187, R220–R222). -/
def State.engPush (s : State) (e : Nat) (l : List Item) : Option State × State :=
  match s.prodChan e with
  | none => (some (s.bumpBy 0x6021 5 e l.length), s)
  | some c =>
    if !(s.chan c).quarantined && (s.chan c).items.length + l.length > s.chanSize c then (none, s)
    else match s.grant e l.length with
      | (t, false) => (none, t)
      | (t, true) => (some (t.chanWriteAll c l).1, s)

/-! ### Sources and shifting -/

/-- The source value of IN and MOV (R211, R223). -/
def State.engSource (s : State) (e code : Nat) : W24 :=
  let x := s.eng e
  match code with
  | 0 => x.r.x
  | 1 => x.r.y
  | 2 => x.r.isr
  | 3 => x.r.osr
  | 4 => BitVec.ofNat 24 (winRead (s.engPin e) (s.o 0x6005 1 e) (s.o 0x6005 2 e))
  | 5 => x.cnt
  | 6 => x.cap
  | _ => 0

/-- Shift `n` bits into ISR (R217). -/
def isrShift (isr v : W24) (n : Nat) (lsb : Bool) : W24 :=
  let b := BitVec.ofNat 24 (v.toNat % 2 ^ n)
  if lsb then (isr >>> n) ||| (b <<< (24 - n)) else (isr <<< n) ||| b

/-- The IN_PACK bits most recently entered, extended (R217). -/
def packBits (isr : W24) (n : Nat) (lsb sign : Bool) : W24 :=
  let v := if lsb then isr.toNat / 2 ^ (24 - n) else isr.toNat % 2 ^ n
  if sign && bitOf v (n - 1) then BitVec.ofNat 24 (v + (2 ^ 24 - 2 ^ n)) else BitVec.ofNat 24 v

/-- The value and the new OSR of an OUT of `n` bits (R218). -/
def osrShift (osr : W24) (n : Nat) (lsb : Bool) : W24 × W24 :=
  if lsb then (BitVec.ofNat 24 (osr.toNat % 2 ^ n), osr >>> n)
  else (osr >>> (24 - n), osr <<< n)

/-- A write of a value to the OUT window's levels or directions. -/
def State.outWindow (s : State) (e v : Nat) (dirs : Bool) : PinWrite :=
  let b := s.o 0x6005 3 e
  let n := s.o 0x6005 4 e
  if dirs then { dMask := winMask b n, d := winBits b n v } else { vMask := winMask b n, v := winBits b n v }

/-- Reverse the 24 bits of a word (R223). -/
def rev24 (v : W24) : W24 :=
  BitVec.ofNat 24 ((List.range 24).foldl (fun a i => a + b2n (v.getLsbD i) * 2 ^ (23 - i)) 0)

/-! ### Instructions -/

/-- JMP (R213). -/
def execJmp (e : Fin 256) (s : State) : Host.Outcome State Fault Refusal :=
  .next (s.engRun e (isOp 0) (fun w s =>
    let x := s.eng e
    let a := some (fld w 9 0)
    let go : Bool → State → EngRes := fun c t => .done t (if c then a else none) {}
    match fld w 14 12 with
    | 0 => go true s
    | 1 => go x.f s
    | 2 => go (!x.f) s
    | 3 => go (x.r.x - 1 ≠ 0) (s.setEng e { x with r := { x.r with x := x.r.x - 1 } })
    | 4 => go (x.r.y - 1 ≠ 0) (s.setEng e { x with r := { x.r with y := x.r.y - 1 } })
    | 5 => go (s.engPin e (s.o 0x6005 0x0A e)) s
    | 6 => go (!s.engPin e (s.o 0x6005 0x0A e)) s
    | _ => go (s.engReady e) s))

/-- A cluster flag becomes set: its route raises the host interrupt or tells service firmware (R227). -/
def State.flagRaised (s : State) (c f : Nat) : State :=
  match s.o 0x6110 (c + 1) / 16 ^ f % 16 with
  | 1 => s.hostInt (4 + c)
  | 2 => s.emit (.note 0x6110 [c, f])
  | _ => s

/-- Give a cluster flag a value, raising its route when it becomes set (R227). -/
def State.flagPut (s : State) (c f : Nat) (v : Bool) : State :=
  let x := s.cluster c
  if x.flags.getLsbD f = v then s
  else if v then (s.setCluster c { x with flags := x.flags ||| (1#8 <<< f) }).flagRaised c f
  else s.setCluster c { x with flags := x.flags &&& ~~~(1#8 <<< f) }

/-- Set a cluster flag (R227). -/
def State.flagSet (s : State) (c f : Nat) : State := (s.noteSet (W1c.flag c f)).flagPut c f true

/-- Clear a cluster flag: a set at the same edge wins (R6, R227). -/
def State.flagClear (s : State) (c f : Nat) : State := if s.setNow (W1c.flag c f) then s else s.flagPut c f false

/-- An engine toggles a cluster flag (R227). An odd number of toggles at one edge is noted: a register write of that edge comes before
them. -/
def State.flagToggle (s : State) (c f : Nat) : State :=
  let k := W1c.toggled c f
  let s := if s.setNow k then { s with setAt := tset 0 s.setAt k 0 } else s.noteSet k
  s.flagPut c f (!(s.cluster c).flags.getLsbD f)

/-- A register write sets or clears a cluster flag: a toggle of the same edge acts on the value that the write leaves (R227). -/
def State.flagWrite (s : State) (c f : Nat) (v : Bool) : State :=
  if s.setNow (W1c.toggled c f) then
    (if v then s.noteSet (W1c.flag c f) else s).flagPut c f (if s.setNow (W1c.flag c f) then false else !v)
  else if v then s.flagSet c f else s.flagClear c f

/-- The capture of a WAIT on a pin completes (R216): EDGE refers to the instant the pad crossed, and the capture is no longer armed. -/
def State.captured (s : State) (e idx st : Nat) : Engine :=
  let x := s.eng e
  { x with edge := serialDist 32 st ((8 + s.filtDelay (pinBank e idx) (pinIn idx)) % 2 ^ 32), cap := x.cnt, capture := none }

/-- WAIT (R214–R216). A wait on a pin arms the capture on its first tick; the capture examines the pin at every 250 MHz edge. -/
def execWait (c k : Fin 16) (s : State) : Host.Outcome State Fault Refusal :=
  let e := clEng c k
  .next (s.engRun e (isOp 1) (fun w s =>
    let x := s.eng e
    let idx := fld w 5 0
    let pol := fld w 11 11 = 1
    match fld w 14 12 with
    | 0 =>
      if engSpec x then .stall s
      else match x.capture with
        | some (_, _, some st) => .done (s.setEng e (s.captured e idx st)) none {}
        | _ =>
          if s.engPin e idx = pol then .done (s.setEng e (s.captured e idx s.st32)) none {}
          else .stall (s.setEng e { x with capture := some (idx, pol, none) })
    | 1 =>
      let c := s.cluster (e / 16)
      if engSpec x then .stall s
      else if c.flags.getLsbD idx = pol then
        .done (if fld w 10 10 = 1 then s.flagClear (e / 16) idx else s) none {}
      else .stall s
    | 2 => if x.cmpLatch then .done (s.setEng e { x with cmpLatch := false }) none {} else .stall s
    | 3 =>
      if x.cals.getLsbD idx then .done (s.setEng e { x with cals := x.cals &&& ~~~(1#32 <<< idx) }) none {}
      else .stall s
    | _ =>
      if x.strobes.getLsbD idx then .done (s.setEng e { x with strobes := x.strobes &&& ~~~(1#8 <<< idx) }) none {}
      else .stall s))

/-- IN (R217). -/
def execInp (c k : Fin 16) (s : State) : Host.Outcome State Fault Refusal :=
  let e := clEng c k
  .next (s.engRun e (isOp 2) (fun w s =>
    let x := s.eng e
    if engSpec x then .stall s else
    let n := fld w 11 7
    let lsb := fld w 6 6 = 1
    let isr := isrShift x.r.isr (s.engSource e (fld w 14 12)) n lsb
    let cnt := min (x.r.isrCnt + n) 24
    let pack := s.o 0x6006 1 e
    if fld w 5 5 = 1 && cnt ≥ pack then
      let i : Item := { kind := s.o 0x6006 3 e, data := packBits isr pack lsb (s.o 0x6006 4 e = 1) }
      match s.engPush e [i] with
      | (some t, _) => .done (t.setEng e { t.eng e with r := { x.r with isr := 0, isrCnt := 0 } }) none {}
      | (none, t) => .stall t
    else .done (s.setEng e { x with r := { x.r with isr := isr, isrCnt := cnt } }) none {}))

/-- Load OSR and ITEM from a pulled item (R219). -/
def osrLoad (x : Engine) (d : W24) (i : BitVec 7) : Engine :=
  { x with r := { x.r with osr := d, osrCnt := 0 }, item := i }

/-- OUT (R218). -/
def execOutp (c k : Fin 16) (s : State) : Host.Outcome State Fault Refusal :=
  let e := clEng c k
  .next (s.engRun e (isOp 3) (fun w s =>
    let n := fld w 11 7
    let lsb := fld w 6 6 = 1
    let go : State → EngRes := fun s =>
      let x := s.eng e
      let (v, osr) := osrShift x.r.osr n lsb
      let r := { x.r with osr := osr, osrCnt := min (x.r.osrCnt + n) 24 }
      let put : EngRegs → State := fun r => s.setEng e { x with r := r }
      match fld w 14 12 with
      | 0 => .done (put { r with x := v }) none {}
      | 1 => .done (put { r with y := v }) none {}
      | 2 => .done (put { r with isr := isrShift r.isr v n lsb, isrCnt := min (r.isrCnt + n) 24 }) none {}
      | 3 => .done (put r) none {}
      | 4 => .done (put r) none (s.outWindow e v.toNat false)
      | 5 => .done (put r) none (s.outWindow e v.toNat true)
      | _ => .done (put r) (some (v.toNat % 1024)) {}
    if fld w 5 5 = 1 && (s.eng e).r.osrCnt ≥ s.o 0x6006 2 e then
      match s.engPull e false with
      | .wait t => .stall t
      | .got t d i => go (t.setEng e (osrLoad (t.eng e) d i))
    else go s))

/-- PULL (R219). -/
def execPull (c k : Fin 16) (s : State) : Host.Outcome State Fault Refusal :=
  let e := clEng c k
  .next (s.engRun e (isOp 4) (fun w s =>
    match s.engPull e (fld w 14 14 = 1) with
    | .wait t => .stall t
    | .got t d i => .done (t.setEng e (osrLoad (t.eng e) d i)) none {}))

/-- PUSH (R220). -/
def execPush (c k : Fin 16) (s : State) : Host.Outcome State Fault Refusal :=
  let e := clEng c k
  .next (s.engRun e (isOp 5) (fun w s =>
    let x := s.eng e
    if engSpec x then .stall s else
    let src := fld w 8 7
    let d := match src with | 0 => x.r.isr | 1 => x.r.x | _ => x.r.y
    match s.engPush e [{ kind := fld w 14 11, sop := fld w 10 10 = 1, eop := fld w 9 9 = 1, data := d }] with
    | (none, t) => .stall t
    | (some t, _) =>
      .done (if src = 0 then t.setEng e { t.eng e with r := { x.r with isr := 0, isrCnt := 0 } } else t) none {}))

/-- MOV (R223). -/
def execMov (e : Fin 256) (s : State) : Host.Outcome State Fault Refusal :=
  .next (s.engRun e (isOp 6) (fun w s =>
    let x := s.eng e
    let a := s.engSource e (fld w 11 9)
    let v := match fld w 8 7 with
      | 0 => a
      | 1 => ~~~a
      | 2 => rev24 a
      | _ => a + 1
    let put : EngRegs → State := fun r => s.setEng e { x with r := r }
    match fld w 14 12 with
    | 0 => .done (put { x.r with x := v }) none {}
    | 1 => .done (put { x.r with y := v }) none {}
    | 2 => .done (put { x.r with isr := v, isrCnt := 0 }) none {}
    | 3 => .done (put { x.r with osr := v, osrCnt := 0 }) none {}
    | 4 => .done s none (s.outWindow e v.toNat false)
    | 5 => .done s none (s.outWindow e v.toNat true)
    | 6 => .done s (some (v.toNat % 1024)) {}
    | _ => if engSpec x then .stall s else .done (s.setEng e { x with cmp := v, cmpLatch := false }) none {}))

/-- SET (R224). -/
def execSetImm (e : Fin 256) (s : State) : Host.Outcome State Fault Refusal :=
  .next (s.engRun e (isOp 7) (fun w s =>
    let x := s.eng e
    let imm := fld w 11 0
    let b := s.o 0x6005 5 e
    let n := s.o 0x6005 6 e
    match fld w 14 12 with
    | 0 => .done (s.setEng e { x with r := { x.r with x := BitVec.ofNat 24 imm } }) none {}
    | 1 => .done (s.setEng e { x with r := { x.r with y := BitVec.ofNat 24 imm } }) none {}
    | 2 => .done s none { vMask := winMask b n, v := winBits b n imm }
    | _ => .done s none { dMask := winMask b n, d := winBits b n imm }))

/-- The truth of a comparison of 24-bit numbers (R225): 0 equal, 1 not equal, 2 less, 3 greater or equal. -/
def cmpRel (a b : W24) (rel : Nat) (signed : Bool) : Bool :=
  let lt := if signed then a.slt b else a.ult b
  match rel with
  | 0 => a = b
  | 1 => a ≠ b
  | 2 => lt
  | _ => !lt

/-- CMP (R225). -/
def execCmp (e : Fin 256) (s : State) : Host.Outcome State Fault Refusal :=
  .next (s.engRun e (isOp 8) (fun w s =>
    let x := s.eng e
    let signed := fld w 7 7 = 1
    let a : W24 := match fld w 14 12 with
      | 0 => x.r.x
      | 1 => x.r.y
      | 2 => x.r.isr
      | 3 => x.r.osr
      | 4 => x.cnt
      | _ => x.item.setWidth 24
    let imm : BitVec 7 := BitVec.ofNat 7 (fld w 6 0)
    let b : W24 := match fld w 11 10 with
      | 0 => x.r.y
      | 1 => x.cmp
      | _ => if signed then imm.signExtend 24 else imm.setWidth 24
    .done (s.setEng e { x with f := cmpRel a b (fld w 9 8) signed }) none {}))

/-- The word is SYNC with a mode. -/
def isSync (m w : Nat) : Bool := isOp 9 w && fld w 14 13 = m

/-- Every member of the group that can count is at the barrier (R166, R196, R226). -/
def State.barrierFull (s : State) (g : Nat) : Bool :=
  (s.lockMembers g).all (fun m => (s.eng m).barrier || (s.eng m).st = .parked || (s.eng m).st = .retired)

/-- The side-set write of a completing instruction would find 8 entries held (R160). -/
def State.sideFull (s : State) (e w : Nat) : Bool :=
  let x := s.eng e
  !pinNone (pinOnly (s.driveMask e) (s.sideWrite e w)) && x.sh ≠ .direct && x.sh ≠ .muted && stagedNormal x ≥ 8

/-- SYNC mode 0 (R166, R226): the engine waits at the barrier; the last member's arrival begins the group's start. An instruction whose
side-set must wait for the staging queue has not reached the barrier (R160, R228). -/
def execSyncBarrier (e : Fin 256) (s : State) : Host.Outcome State Fault Refusal :=
  .next (s.engRun e (isSync 0) (fun w s =>
    if s.sideFull e w then .stall s else
    let s := s.setEng e { s.eng e with barrier := true }
    match s.engLock e with
    | none => .stall s
    | some g =>
      let l := s.lock g
      .stall (if s.barrierFull g && !l.starting then s.setLock g { l with starting := true, barrier := true, since := s.clock } else s)))

/-- SYNC mode 1 (R171, R226): arms the engine's commit group after its packet's EOP item. -/
def execSyncArm (e : Fin 256) (s : State) : Host.Outcome State Fault Refusal :=
  let t := s.engRun e (isSync 1) (fun w s =>
    let x := s.eng e
    match x.ckpt with
    | some k =>
      match k.grp with
      | some (g, inst) =>
        if x.gotEop && g = fld w 6 0 then
          let s := s.setEng e { x with sh := if x.sh = .calendarHeld then .calendarHeld else .groupHeld }
          let gs := s.shutter.groups.map (fun r : GroupRun => if r.inst = inst then { r with armed := e :: r.armed.filter (· ≠ e) } else r)
          .done { s with shutter := { s.shutter with groups := gs } } none {}
        else .done (s.bump 0x6021 3 e) none {}
      | none => .done (s.bump 0x6021 3 e) none {}
    | none => .done (s.bump 0x6021 3 e) none {})
  .next t.groupTryRelease

/-- A clock restart of an engine (R195, R208, R215): accumulator, CNT and event latches are cleared. -/
def engClockRestart (x : Engine) : Engine :=
  { x with acc := 0, cnt := 0, matched := false, cmpLatch := false, strobes := 0, cals := 0 }

/-- SYNC mode 2 (R226): it waits up to the first edge at least 16 ns after its tick; there the divider restarts, CNT and the event latches
are cleared, and the instruction completes. -/
def execSyncRestart (e : Fin 256) (s : State) : Host.Outcome State Fault Refusal :=
  .next (s.engRun e (isSync 2) (fun w s =>
    let x := s.eng e
    match x.syncAt with
    | none => .stall (s.setEng e { x with syncAt := some s.clock })
    | some a =>
      if s.clock < 4 + a then .stall s
      else match (s.setEng e { x with syncAt := none }).engFinish e w none {} with
        | some t => .over (t.setEng e (engClockRestart (t.eng e)))
        | none => .stall s))

/-- STAMP (R221). -/
def execStamp (c k : Fin 16) (s : State) : Host.Outcome State Fault Refusal :=
  let e := clEng c k
  .next (s.engRun e (isOp 10) (fun w s =>
    let x := s.eng e
    if engSpec x then .stall s else
    let v := if fld w 14 14 = 1 then x.edge else s.st32
    let a : Item := { kind := 1, sop := fld w 13 13 = 1, data := BitVec.ofNat 24 (v % 65536) }
    let b : Item := { kind := 2, eop := fld w 12 12 = 1, data := BitVec.ofNat 24 (v / 65536 % 65536) }
    match s.engPush e [a, b] with
    | (none, t) => .stall t
    | (some t, _) => .done t none {}))

/-- The word is IRQ with an operation. -/
def isIrq (m w : Nat) : Bool := isOp 11 w && fld w 14 13 = m

/-- The part of every IRQ: it stalls in speculation, acts on its flag, and may wake the hub (R159, R227). -/
def State.irqRun (s : State) (e : Nat) (m : Nat) (act : State → Nat → State) : State :=
  s.engRun e (isIrq m) (fun w s =>
    if engSpec (s.eng e) then .stall s
    else
      let t := act s (fld w 2 0)
      .done (if fld w 12 12 = 1 then t.wake else t) none {})

/-- IRQ operation 0 (R227). -/
def execIrqSet (e : Fin 256) (s : State) : Host.Outcome State Fault Refusal :=
  .next (s.irqRun e 0 (fun s f => s.flagSet (e / 16) f))

/-- IRQ operation 1 (R227). -/
def execIrqClear (e : Fin 256) (s : State) : Host.Outcome State Fault Refusal :=
  .next (s.irqRun e 1 (fun s f => s.flagClear (e / 16) f))

/-- IRQ operation 2 (R227). -/
def execIrqToggle (e : Fin 256) (s : State) : Host.Outcome State Fault Refusal :=
  .next (s.irqRun e 2 (fun s f => s.flagToggle (e / 16) f))

/-- An undefined opcode or reserved operand parks the engine and raises source 0x30 (R230, R237); in group idle it does not execute. The
report's address field carries the program counter and the word. -/
def execUndefinedInstruction (e : Fin 256) (s : State) : Host.Outcome State Fault Refusal :=
  let w := s.engWord e
  if s.wordLost e then .next s
  else if (s.eng e).st = .groupIdle && s.enginesRun e && (s.wordBad e w).isSome then .next (s.engIdleTick e)
  else if (s.eng e).st = .running && s.enginesRun e then
    match s.wordBad e w with
    | some k =>
      let pc := (s.eng e).r.pc
      .next ((s.enginePark e k).report { source := 0x30, syndrome := e + k * 2 ^ 24, address := pc * 2 ^ 24 + w })
    | none => .next s
  else .next s

/-! ### Compare, staging, groups -/

/-- The latest value written to a pin, staged values included (R210). -/
def engLatest (x : Engine) (p : Nat) : Bool :=
  match (x.staging.filter (fun i => i.w.vMask.getLsbD p)).getLast? with
  | some i => i.w.v.getLsbD p
  | none => x.out.getLsbD p

/-- CNT takes the value of CMP on this tick (R210, R160): the compare latch is set and CMP_ACTION applied; with 8 entries
held it takes the reserved entry, and with that held too it is lost and counted. -/
def execCompareMatch (e : Fin 256) (s : State) : Host.Outcome State Fault Refusal :=
  let x := s.eng e
  if (x.st = .running || x.st = .groupIdle) && x.cnt = x.cmp && !x.matched then
    let y := { x with cmpLatch := true, matched := true }
    let p := s.o 0x600C 1 e
    let act := s.o 0x600C 2 e
    let lvl := match act with | 1 => true | 2 => false | _ => !engLatest x p
    let m : W48 := 1#48 <<< p
    let w := pinOnly (s.driveMask e) { vMask := m, v := if lvl then m else 0 }
    if act = 0 || p ≥ 48 || pinNone w then .next (s.setEng e y)
    else match engWrite y w with
      | some z => .next (s.setEng e z)
      | none =>
        if y.staging.any (·.reserved) then .next ((s.setEng e y).bump 0x6021 6 e)
        else .next (s.setEng e { y with staging := y.staging ++ [{ off := y.tick, w := w, reserved := true }] })
  else .next s

/-- The oldest staged entry of a draining engine is applied when its tick has come (R161); the released entries gone, writes are direct
again, or staged behind a checkpoint that still stands. -/
def execStagedEntryApply (e : Fin 256) (s : State) : Host.Outcome State Fault Refusal :=
  let x := s.eng e
  match x.sh, x.staging with
  | .draining, i :: l =>
    if x.tick ≥ i.off + x.shift then
      let y := { pinApply x i.w with staging := l, ckpt := x.ckpt.map (fun k : Ckpt => { k with staged := k.staged - 1 }) }
      let last := match y.ckpt with | some k => decide (k.staged = 0) | none => l.isEmpty
      .next (s.setEng e (if last then { y with sh := if y.ckpt.isSome then .speculating else .direct, shift := 0 } else y))
    else .next s
  | _, _ => .next s

/-- A frame of commit group `g` that is neither released nor failed when its time-out has passed since its first header bit fails by
time-out (R171, R172). -/
def execGroupArmTimeout (g : Fin 128) (s : State) : Host.Outcome State Fault Refusal :=
  match s.shutter.groups.find? (fun r => r.g = g.val && r.th + 10000 * s.o 0x2602 0 < s.now10) with
  | some r => .next (s.groupFail r .timeout)
  | none => .next s

/-! ### Park, restart, registers -/

/-- Park command (R231). -/
def execEngineParkCmd (e : Fin 256) (s : State) : Host.Outcome State Fault Refusal :=
  .next (s.enginePark e 3)

/-- Why a restart is refused, by its abort code (R232). -/
def State.restartBar (s : State) (e : Nat) : Option Nat :=
  if (s.eng e).st = .retired then some Abort.resourceRetired
  else if !s.enginesRun e then some Abort.notInThisMode
  else if s.o 0x6001 0 e = 0 then some Abort.configurationInconsistent
  else none

/-- A restart (R232): a running engine is parked first. -/
def State.engineRestart (s : State) (e : Nat) : State :=
  match s.restartBar e with
  | some _ => s
  | none =>
    let s := if (s.eng e).st = .running then s.enginePark e 3 else s
    s.engineStart e

/-- Restart command (R232). -/
def execEngineRestart (e : Fin 256) (s : State) : Host.Outcome State Fault Refusal :=
  .next (s.engineRestart e)

/-- The counters of an engine are cleared (R238). -/
def State.engineClear (s : State) (e : Nat) : State := s.clearSubs 0x6021 1 6 e

/-- ENG_CMD 3. -/
def execEngineClearCounters (e : Fin 256) (s : State) : Host.Outcome State Fault Refusal := .next (s.engineClear e)

/-- Hold a wrap pair pending (R229). -/
def State.wrapWrite (s : State) (e bottom top : Nat) : State :=
  let x := s.eng e
  s.setEng e { x with r := { x.r with wrapPend := some (bottom, top) } }

/-- PE_WRAP write (R229, R239): a 1 in a reserved bit is counted once (R5, R10). -/
def execPeWrapWrite (e : Fin 256) (v : W32) (s : State) : Host.Outcome State Fault Refusal :=
  if (s.eng e).st = .retired then .next s
  else
    let s := if v &&& 0x7C00FC00 = 0 then s else s.bump 0xA0F0 0
    .next (s.wrapWrite e (v.toNat % 1024) (v.toNat / 65536 % 1024))

/-- PE_CL_FLAGS.SET (R227, R239). -/
def execPeClFlagSet (c : Fin 16) (flags : BitVec 8) (s : State) : Host.Outcome State Fault Refusal :=
  .next ((List.range 8).foldl (fun s f => if flags.getLsbD f then s.flagWrite c f true else s) s)

/-- PE_CL_FLAGS.FLAG (R239). -/
def execPeClFlagClear (c : Fin 16) (flags : BitVec 8) (s : State) : Host.Outcome State Fault Refusal :=
  .next ((List.range 8).foldl (fun s f => if flags.getLsbD f then s.flagWrite c f false else s) s)

/-- PE_CL_STALL read: the count, then 0 (R7, R239). -/
def State.readStall (s : State) (c : Nat) : State × Nat := (s.setCluster c { s.cluster c with stall := 0 }, (s.cluster c).stall)

/-- PE_CL_STALL is read. -/
def execPeClStallRead (x : Ctx) (c : Fin 16) (s : State) : Host.Outcome State Fault Refusal :=
  if !s.reaches x then .next s else
  let (t, v) := s.readStall c
  .next (t.reply x 4 v)

/-! ### Output readback (R235) -/

/-- The pins of engine `e` that are driven as outputs, and the levels they should show. -/
def State.shown (s : State) (e : Nat) : W48 × W48 :=
  (List.range 48).foldl (fun (a : W48 × W48) p =>
    if (s.driveMask e).getLsbD p then
      match s.padDrive (pinBank e p) (pinIn p) with
      | some l => (a.1 ||| (1#48 <<< p), if l then a.2 ||| (1#48 <<< p) else a.2)
      | none => a
    else a) (0, 0)

/-- The comparison of one tick (R235): the synchronised sample of every pin that READBACK_MASK names and that is driven, against the level it
should have shown two ticks earlier. -/
def State.readbackTick (s : State) (e : Nat) : State :=
  let x := s.eng e
  if s.driveMask e = 0 || s.clock < x.rbAt then s
  else
    let now := s.shown e
    let m := BitVec.ofNat 48 (s.o 0x600A 1 e) &&& now.1 &&& x.rb2.1
    let fails := (List.range 48).filter (fun p => m.getLsbD p && s.padLevel (pinBank e p) (pinIn p) ≠ x.rb2.2.getLsbD p)
    s.setEng e { x with
      rbAt := s.clock + tickLen x, rb1 := now, rb2 := x.rb1,
      rbFails := fails.foldl (fun t p => tset 0 t p (tget 0 x.rbFails p + 1)) [] }

/-- A readback comparison has failed on READBACK_TICKS consecutive ticks (R235, R237): source 0x31 names the engine, the pin in bits
[29:24] and the level it should show in [30]; the comparison restarts from zero. -/
def execReadbackFail (e : Fin 256) (pin : Fin 48) (s : State) : Host.Outcome State Fault Refusal :=
  let x := s.eng e
  if tget 0 x.rbFails pin ≥ s.o 0x600A 2 e then
    .next (((s.setEng e { x with rbFails := tdel x.rbFails pin }).bump 0x6021 2 e).report {
      source := 0x31, syndrome := e + (pin + 64 * b2n (x.rb1.2.getLsbD pin)) * 2 ^ 24 })
  else .next s

/-- One 250 MHz edge at the engines: an armed capture examines its pin (R216), and readback compares (R235). -/
def State.engineEdge (s : State) : State :=
  s.engKeys.foldl (fun s e =>
    let x := s.eng e
    let s := match x.capture with
      | some (p, l, none) => if s.engPin e p = l then s.setEng e { x with capture := some (p, l, some s.st32) } else s
      | _ => s
    s.readbackTick e) s

end Sys2Proof.Machine
end

