-- ==== Sys2Proof/Machine/Channels.lean ====
section
/-!
DEFINITION. The channel commands (R187–R203): window accesses, delivery into full channels, flush, quarantine release,
counters and their registers, and the starts of lock groups.
-/

namespace Sys2Proof.Machine

/-- An item as a 32-bit word (R177). -/
def itemWord (i : Item) : Nat :=
  b2n i.unc.isSome * 2 ^ 31 + b2n i.sop * 2 ^ 30 + b2n i.eop * 2 ^ 29 + i.kind % 16 * 2 ^ 24 + i.data.toNat

/-- The idle item of a channel as a word (R189). -/
def State.idleWord (s : State) (c : Nat) : Nat := 2 ^ 28 + s.o 0x5008 0 c % 2 ^ 24

/-- A word as a producer's item: UNC and IDLE are ignored (R178). -/
def wordItem (w : Nat) : Item :=
  { sop := bitOf w 30, eop := bitOf w 29, kind := w / 2 ^ 24 % 16, data := BitVec.ofNat 24 w }

/-- Unconfirmed items held by a channel. -/
def unconfirmed (x : Chan) : Nat := (x.items.filter (·.unc.isSome)).length

/-- CH_STATUS of a channel (R203). -/
def State.chStatus (s : State) (c : Nat) : Nat :=
  let x := s.chan c
  b2n x.quarantined * 2 ^ 31 + b2n (x.items.length = s.chanSize c) * 2 ^ 30 + b2n x.inPacket * 2 ^ 29
    + unconfirmed x % 4096 * 2 ^ 17 + x.items.length % 2 ^ 17

/-- The head of a channel is an item whose frame is unresolved: a window read waits for it (R157). -/
def State.headWaits (s : State) (c : Nat) : Bool :=
  match (s.chan c).items.drop (s.chan c).held with
  | i :: _ => i.unc.isSome && !(s.chan c).quarantined
  | [] => false

/-- Read `n` items in order from a channel as a non-engine consumer; each read that finds nothing gives the idle item (R189, R193); `none`
while one of them meets an item whose frame is unresolved: the access waits (R157). -/
def State.windowItems (s : State) (c : Nat) : Nat → Option (State × List Nat)
  | 0 => some (s, [])
  | n + 1 =>
    if s.headWaits c then none
    else match s.chanPeek c false with
      | some i => ((s.chanPop c i).windowItems c n).map (fun x => (x.1, itemWord i :: x.2))
      | none => ((s.chanIdle c false).windowItems c n).map (fun x => (x.1, s.idleWord c :: x.2))

/-- Read of a channel window (R193): the bytes with the state after it, an address error, or `none` while an unconfirmed item makes the
read wait. -/
def State.readWindow (s : State) (ch off len : Nat) : Except Nat (Option (State × List Byte)) :=
  if off % 4 ≠ 0 || len % 4 ≠ 0 || len = 0 then .error Abort.addressError
  else if off = 0x100000 && len = 4 then .ok (some (s, leBytes 4 (s.chStatus ch)))
  else if off + len ≤ 0x100000 && s.o 0x5002 0 ch / 0x1000 = 7 then
    .ok ((s.windowItems ch (len / 4)).map (fun x => (x.1, x.2.flatMap (leBytes 4))))
  else .error Abort.addressError

/-- A channel window is read. A read that waits changes nothing and is given again. -/
def execChannelWindowRead (c : Ctx) (ch : Fin 512) (off len : Nat) (s : State) : Host.Outcome State Fault Refusal :=
  if !s.reaches c then .next s else
  match s.readWindow ch off len with
  | .error e => .next (s.refuseRead c len e (2 ^ 32 + ch * 2 ^ 22 + off))
  | .ok none => .next s
  | .ok (some (t, b)) => .next (t.emit (.data c b))

/-- Cut a byte list into little-endian 32-bit words. -/
def leWords : List Byte → List Nat
  | a :: b :: c :: d :: l => ofLe [a, b, c, d] :: leWords l
  | _ => []

/-- A posted write of the host waits. -/
def Waiter.isHost : Waiter → Bool
  | .host _ => true
  | _ => false

/-- A channel takes `n` items whole: it has space for them, or it is quarantined and discards. -/
def State.chanFits (s : State) (c n : Nat) : Bool := (s.chan c).quarantined || (s.chan c).items.length + n ≤ s.chanSize c

/-- A posted host write is held by a full channel, or waits behind one (R388, R398): the ones after it wait too. -/
def State.postWaits (s : State) : Bool := s.heldDel.any (fun d => d.who.isHost) || !s.bridge.postQ.isEmpty

/-- A posted host write waits for those before it. -/
def State.postLater (s : State) (a : Nat) (data : List Byte) : State :=
  { s with bridge := { s.bridge with postQ := s.bridge.postQ ++ [(a, data)] } }

/-- Write of a channel window (R193): one item per word; items that find the channel full are held (R187, R398), under class
8 of the held deliveries, and `w` waits for them; a host's write is held whole (R398). The answer tells whether any are held. -/
def State.writeWindow (s : State) (w : Waiter) (ch off : Nat) (data : List Byte) : Except Nat (State × Bool) :=
  let len := data.length
  if off % 4 ≠ 0 || len % 4 ≠ 0 || len = 0 || off + len > 0x100000 || s.o 0x5001 0 ch / 0x1000 ≠ 7 then .error Abort.addressError
  else
    let items := (leWords data).map wordItem
    if s.heldDel.any (fun d => d.cls = 8 && d.ch = ch) || (w.isHost && !s.chanFits ch items.length) then
      .ok ({ s with heldDel := s.heldDel ++ [{ cls := 8, ch := ch, items := items, since := s.clock, who := w }] }, true)
    else
      let (t, l) := s.chanWriteAll ch items
      if l.isEmpty then .ok (t, false)
      else .ok ({ t with heldDel := t.heldDel ++ [{ cls := 8, ch := ch, items := l, since := s.clock, who := w }] }, true)

/-- A channel window is written. -/
def execChannelWindowWrite (c : Ctx) (ch : Fin 512) (off : Nat) (data : List Byte) (s : State) :
    Host.Outcome State Fault Refusal :=
  if !s.reaches c then .next s else
  let a := 2 ^ 32 + s.ring.node * 2 ^ 40 + ch * 2 ^ 22 + off
  let w := match c with | .pcie => Waiter.host a | _ => .none
  if decide (c = .pcie) && s.postWaits then .next (s.postLater a data) else
  match s.writeWindow w ch off data with
  | .error e => .next (s.refuseAccess c e (2 ^ 32 + ch * 2 ^ 22 + off))
  | .ok (t, _) => .next t

/-- Put a telemetry reading into a channel: only the newest unwritten one is kept; one that still waits is replaced, and counted (R187). -/
def State.telemetryPut (s : State) (ch : Nat) (l : List Item) : State :=
  let x := s.chan ch
  let s := if x.telemetry.isSome then s.bump 0x5012 4 ch else s
  if x.quarantined || x.items.length + l.length ≤ s.chanSize ch then
    let t := (s.chanWriteAll ch l).1
    t.setChan ch { t.chan ch with telemetry := none }
  else s.setChan ch { s.chan ch with telemetry := some l }

/-- The reading that waits is written, space having appeared (R187). -/
def State.telemetryResume (s : State) (ch : Nat) : State :=
  let t := (s.chanWriteAll ch ((s.chan ch).telemetry.getD [])).1
  t.setChan ch { t.chan ch with telemetry := none }

/-- Channel `c` takes a write: it has space, or it is quarantined and discards (R187, R198). -/
def State.chanRoom (s : State) (c : Nat) : Bool := (s.chan c).quarantined || (s.chan c).items.length < s.chanSize c

/-- Waiting items enter a channel that has space again (R156, R187): the oldest delivery of a ring class (0–7), of the host
window (8), or a waiting telemetry reading (9). -/
def execChannelDeliveryResume (cls : Fin 10) (s : State) : Host.Outcome State Fault Refusal :=
  if cls.val = 9 then
    match s.chanKeys.find? (fun c => match (s.chan c).telemetry with
        | some l => (s.chan c).quarantined || (s.chan c).items.length + l.length ≤ s.chanSize c
        | none => false) with
    | some c => .next (s.telemetryResume c)
    | none => .next s
  else
    let ready : HeldDel → Bool := fun d =>
      d.cls = cls.val && (d.cls < 8 || (if d.who.isHost then s.chanFits d.ch d.items.length else s.chanRoom d.ch))
    match s.heldDel.find? ready with
    | none => .next s
    | some d =>
      let (t, l) := s.chanWriteAll d.ch d.items
      let ahead := s.heldDel.takeWhile (fun d => !ready d)
      let behind := (s.heldDel.drop ahead.length).tail
      if l.isEmpty then .next (({ t with heldDel := ahead ++ behind }.promote s.heldDel).heldEnd d.who none)
      else .next { t with heldDel := ahead ++ { d with items := l } :: behind }

/-- A ring delivery held by a full channel reaches HOLD_LIMIT (R188): the channel is quarantined (R198) and source 0x21 names it. The hold is
that of the head of a class, from the instant at which its channel was found full. -/
def execChannelHoldLimit (ch : Fin 512) (s : State) : Host.Outcome State Fault Refusal :=
  let held := (List.range 8).any (fun k => match s.heldDel.find? (fun d => d.cls = k) with
    | some d => d.ch = ch.val && d.since + ticksUs (s.o 0x5080 0) ≤ s.clock
    | none => false)
  if held && s.chanSize ch ≤ (s.chan ch).items.length then
    .next ((s.quarantine ch).report { source := 0x21, syndrome := ch })
  else .next s

/-- A flush (R202): confirmed items go, those a core endpoint holds among them (R337); items a speculating engine holds stay. -/
def State.chanFlush (s : State) (c : Nat) : State :=
  let x := s.chan c
  let core := s.o 0x5002 0 c / 0x1000 = 4
  let held := if core then [] else x.items.take x.held
  let keep := held ++ (x.items.drop held.length).filter (·.unc.isSome)
  s.setChan c { x with
    items := keep, held := held.length, covered := 0, inPacket := false,
    itemsOut := (x.itemsOut + (x.items.length - keep.length)) % 2 ^ 32 }

/-- CH_CMD 1 (R202). -/
def execChFlush (ch : Fin 512) (s : State) : Host.Outcome State Fault Refusal := .next (s.chanFlush ch)

/-- The reaction that quarantined the channel is still in progress (R199, R454). -/
def State.quarBusy (s : State) (c : Nat) : Bool := s.fc.reacting.contains (1, c)

/-- End a quarantine (R199): refused only while the reaction is in progress. -/
def State.quarRelease (s : State) (c : Nat) : State :=
  if s.quarBusy c then s
  else s.setChan c { s.chan c with quarantined := false, inPacket := false, waited := false }

/-- CH_CMD 2 (R199). -/
def execChQuarantineRelease (ch : Fin 512) (s : State) : Host.Outcome State Fault Refusal := .next (s.quarRelease ch)

/-- The counters of a channel are cleared (R201). -/
def State.chanClear (s : State) (c : Nat) : State := s.clearSubs 0x5012 1 5 c

/-- CH_CMD 3. -/
def execChClearCounters (ch : Fin 512) (s : State) : Host.Outcome State Fault Refusal := .next (s.chanClear ch)

/-- CH_IN read (R203): both counters are sampled on one cycle and the context keeps the CH_OUT sample. A retired channel's
block reads 0. -/
def State.readChIn (s : State) (c : Ctx) : State × Nat :=
  let x := s.ctx c
  let y := s.chan x.chSel
  if y.retired then (s, 0) else (s.setCtx c { x with chOut := some y.itemsOut }, y.itemsIn)

/-- CH_IN is read. -/
def execChInRead (c : Ctx) (s : State) : Host.Outcome State Fault Refusal :=
  if !s.reaches c then .next s else
  let (t, v) := s.readChIn c
  .next (t.reply c 4 v)

/-- CH_OUT read (R203): the held sample once, or the present value. -/
def State.readChOut (s : State) (c : Ctx) : State × Nat :=
  let x := s.ctx c
  let y := s.chan x.chSel
  if y.retired then (s, 0)
  else match x.chOut with
    | some v => (s.setCtx c { x with chOut := none }, v)
    | none => (s, y.itemsOut)

/-- CH_OUT is read. -/
def execChOutRead (c : Ctx) (s : State) : Host.Outcome State Fault Refusal :=
  if !s.reaches c then .next s else
  let (t, v) := s.readChOut c
  .next (t.reply c 4 v)

/-- CH_HWM read (R203): the mark restarts from the present level. -/
def State.readChHwm (s : State) (c : Ctx) : State × Nat :=
  let n := (s.ctx c).chSel
  let y := s.chan n
  if y.retired then (s, 0) else (s.setChan n { y with hwmRc := y.items.length }, y.hwmRc)

/-- CH_HWM is read. -/
def execChHwmRead (c : Ctx) (s : State) : Host.Outcome State Fault Refusal :=
  if !s.reaches c then .next s else
  let (t, v) := s.readChHwm c
  .next (t.reply c 4 v)

/-- A start of a lock group (R195); one already under way takes it in, and acts on its edge whatever the members do (R196, R197). -/
def State.lockStart (s : State) (g : Nat) : State :=
  let l := s.lock g
  s.setLock g { l with starting := true, barrier := false, since := if l.starting then l.since else s.clock }

/-- LOCK_CMD (R195). -/
def execLockCmd (g : Fin 64) (s : State) : Host.Outcome State Fault Refusal := .next (s.lockStart g)

/-- One member at the common edge (R195, R226): from group idle it takes its start values and runs; running, its clock
restarts, its program counter untouched, unless the barrier is complete (`fin`) and it waits there: then its SYNC completes. -/
def State.lockMemberEdge (s : State) (fin : Bool) (m : Nat) : State :=
  let x := s.eng m
  match x.st with
  | .groupIdle => s.setEng m { s.engStartValues m with st := .running }
  | .running =>
    if fin && x.barrier then
      match (s.setEng m { x with barrier := false }).engFinish m (s.engWord m) none {} with
      | some t => t.setEng m (engClockRestart (t.eng m))
      | none => s.setEng m (engClockRestart x)
    else s.setEng m (engClockRestart x)
  | _ => s

/-- The common edge of a start (R195, R196), at least 16 ns after the starting event. A barrier start is held while a member speculates, and
withdrawn when a revoked member has left the barrier (R166). Another start restarts the clocks; a barrier that is complete but held goes on to
its own start. A start that finds a member parked is counted once. -/
def execLockStartEdge (g : Fin 64) (s : State) : Host.Outcome State Fault Refusal :=
  let l := s.lock g
  let ms := s.lockMembers g
  let full := s.barrierFull g && ms.any (fun m => (s.eng m).barrier)
  let spec := ms.any (fun m => (s.eng m).ckpt.isSome && (s.eng m).st = .running)
  if !l.starting || s.clock < 4 + l.since then .next s
  else if l.barrier && !full then .next (s.setLock g { l with starting := false, barrier := false })
  else if l.barrier && spec then .next s
  else
    let parked := ms.any (fun m => (s.eng m).st = .parked)
    let s := ms.foldl (fun s m => s.lockMemberEdge (full && !spec) m) s
    .next (s.setLock g {
      running := true, starting := full && spec, barrier := full && spec, since := s.clock,
      parkedStarts := min (l.parkedStarts + b2n parked) 0xFFFFFF })

end Sys2Proof.Machine
end

