-- ==== Sys2Proof/Machine/RingOps.lean ====
section
/-!
DEFINITION. Frames of the ring (R86–R92): the header's bytes, HCRC and checks, link-scope and flooded types, building a
frame, and the ring state (R114).
-/

namespace Sys2Proof.Machine

/-- The 30 header bytes HCRC covers (R86, R87). -/
def hdrBytes30 (h : Hdr) : List Byte :=
  beBytes 1 (h.version % 4 * 64 + h.typ % 16 * 4 + h.colour % 4)
    ++ beBytes 1 (h.cls % 8 * 32 + b2n h.dir * 16 + b2n h.dup * 8 + b2n h.auth * 4 + b2n h.grp * 2 + b2n h.rsv1)
    ++ beBytes 1 h.source ++ beBytes 1 h.dest
    ++ beBytes 2 (b2n h.split * 2 ^ 15 + b2n h.last * 2 ^ 14 + b2n h.wrapped * 2 ^ 13 + b2n h.test * 2 ^ 12 + h.destCh % 4096)
    ++ beBytes 2 h.seq ++ beBytes 1 h.hops ++ beBytes 1 h.rsv9 ++ beBytes 2 h.length ++ beBytes 4 h.originSt32
    ++ beBytes 4 h.residence ++ beBytes 8 h.spec
    ++ beBytes 2 (1024 * (h.keySlot % 64) + h.tagMode % 4 * 256 + h.rsv28 % 256)

/-- HCRC of a header (R87). -/
def hdrCrc (h : Hdr) : Nat := crc16 (hdrBytes30 h)

/-- The header with its HCRC recomputed. -/
def hdrSeal (h : Hdr) : Hdr := { h with hcrc := hdrCrc h }

/-- Frame bytes: header, payload, tag and trailer (R130). -/
def frameBytes (h : Hdr) : Nat := 32 + h.length + 16 * b2n h.auth + 4

/-- The whole 32 header bytes. -/
def hdrBytes (h : Hdr) : List Byte := hdrBytes30 h ++ beBytes 2 h.hcrc

/-- The checks of R88. -/
def hdrOk (h : Hdr) : Bool :=
  h.hcrc = hdrCrc h && h.version = 1 && h.length ≤ 2048 &&
    (if h.auth then h.tagMode = 1 else h.keySlot = 0 && h.tagMode = 0 && h.rsv28 = 0)

/-- Bytes `i` to `i + n − 1` of a header's type-specific field, 20 ≤ i. -/
def specField (h : Hdr) (i n : Nat) : Nat := h.spec / 256 ^ (28 - i - n) % 256 ^ n

/-- A type-specific field from its eight bytes. -/
def specOf (l : List Nat) : Nat := l.foldl (fun a b => a * 256 + b % 256) 0

/-- The type is delivered in this class (R90). -/
def classOk (h : Hdr) : Bool :=
  match h.typ with
  | 0 => h.cls ≠ 5
  | 1 | 2 | 3 | 4 => h.cls = 3
  | 5 | 6 => h.cls = 5
  | 7 => h.cls = 2
  | 8 | 9 => h.cls = 4
  | _ => false

/-- Supervision subtypes 1 and 5 are flooded (R111). -/
def flooded (h : Hdr) : Bool := h.typ = 6 && (specField h 20 1 = 1 || specField h 20 1 = 5)

/-- Link-scope frames: time, and supervision that is not flooded. -/
def linkScope (h : Hdr) : Bool := h.typ = 5 || (h.typ = 6 && !flooded h)

/-- The switch port of the unit that a type is for (R126): the bridge, the channels, or service firmware with the session server. -/
def localPort (typ : Nat) : Nat :=
  match typ with
  | 0 => 5
  | 1 | 2 | 3 | 7 => 4
  | _ => 6

/-- The port a direction leaves by (R84). -/
def portFor (dir : Bool) : Port := if dir then .b else .a

/-- Own node number in force (R85). -/
def State.node (s : State) : Nat := s.ring.node

/-- The neighbour on a port is the partner (R85). -/
def State.partnerAt (s : State) (p : Port) : Bool :=
  match (s.port p).nbr with
  | some n => s.pairMember && n.pairMember && n.pairAddr = s.o 0x2001 0
  | none => false

/-- The frame is addressed here: own node, broadcast, or the pair address of a pair member (R103). -/
def State.isLocal (s : State) (h : Hdr) : Bool :=
  h.dest = s.node || h.dest = 0xFF || (s.pairMember && h.dest = s.o 0x2001 0)

/-- The frame goes onward (R103). -/
def State.isOnward (s : State) (h : Hdr) : Bool :=
  h.dest = 0xFF || !s.isLocal h || (s.pairMember && h.dest = s.o 0x2001 0 && s.partnerAt (portFor h.dir))

/-- The hub sends and forwards frames in this mode (R61). -/
def State.ringOn (s : State) : Bool :=
  match s.modes.mode with
  | .reset | .boot | .configure => false
  | .shutdown => s.modes.shut ≠ .bist && s.modes.shut ≠ .halted
  | _ => true

/-- The synthesiser of port `p` locks; its first lock calibrates the band at the die's temperature (R121, R122). -/
def State.synthLock (s : State) (p : Port) : State :=
  let x := s.port p
  s.setPort p { x with synth := true, calTemp := some (x.calTemp.getD (s.oi 0xB851 9)) }

/-- The 64-bit serial number of the hub (R57). -/
def State.serial (s : State) : Nat := s.o 0x1003 0

/-- Add a frame to those complete for the switch (R549). -/
def State.originate (s : State) (o : Orig) : State := { s with ring := { s.ring with orig := s.ring.orig ++ [o] } }

/-- Port code of supervision frames (R111). -/
def portCode (p : Port) : Nat := 0x41 + p.toNat

/-- A supervision frame for port `p` (R111). -/
def State.supervise (s : State) (p : Port) (fields : List Nat) (payload : List Byte) : State :=
  s.originate {
    hdr := { typ := 6, cls := 5, source := s.node, dest := 0xFF, length := payload.length, spec := specOf fields }
    payload := payload, src := 6, port := some p }

/-- A TOPOLOGY event on every port in service but `skip` (R111, R115), with the neighbour that the port has. -/
def State.topology (s : State) (ev : Nat) (p : Port) (skip : Option Port) : State :=
  let nbr := match (s.port p).nbr with | some n => n.node | none => 0xFF
  let no := s.ring.topoNo
  let s := { s with ring := { s.ring with topoNo := (no + 1) % 65536 } }
  let f : List Nat := [5, ev, portCode p, nbr, no / 256, no, 0, 0]
  [Port.a, Port.b].foldl (fun s q => if some q ≠ skip && (s.port q).up && !s.unused q then s.supervise q f [] else s) s

/-- RING_STATE (R114): 0 open, 1 closed, 2 closed with planned outage, 3 line. -/
def State.ringState (s : State) : Nat :=
  let ok : RingPort → Bool := fun x => match x.ownSeen with | some n => n ≤ 3 | none => false
  let ends := (s.ring.map.filter (fun e => e.2.lineEnd)).length + b2n (s.unused .a || s.unused .b)
  let planned := s.ring.map.any (fun e => e.2.planned) || s.ring.a.planned.isSome || s.ring.b.planned.isSome
    || s.ring.a.outage.any (fun o => o.stage = .active) || s.ring.b.outage.any (fun o => o.stage = .active)
  if s.ring.down.isEmpty && (ok s.ring.a && ok s.ring.b || planned && s.ring.a.ownSeen.isSome && s.ring.b.ownSeen.isSome) then
    if planned then 2 else 1
  else if ends = 2 && s.ring.down.isEmpty && (s.unused .a || s.ring.a.up) && (s.unused .b || s.ring.b.up) then 3
  else 0

/-! ### Wide-time values -/

/-- One nanosecond in the unit of wide time. -/
def nsU : Nat := 2 ^ 32

/-- Wide time in 2^-32 ns from its three fields (R249). -/
def wtOf (sec ns frac : Nat) : Nat := nsU * (1000000000 * sec + ns) + frac

/-- Fourteen bytes of a WT value (R29). -/
def wtBytes (w : Nat) : List Byte :=
  beBytes 6 (w / nsU / 1000000000) ++ beBytes 4 (w / nsU % 1000000000) ++ beBytes 4 (w % nsU)

/-- A WT value from 14 bytes; `none` where the nanoseconds field is 10^9 or more (R250). -/
def wtRead (l : List Byte) : Option Nat :=
  let ns := ofBe ((l.drop 6).take 4)
  if ns ≥ 1000000000 then none else some (wtOf (ofBe (l.take 6)) ns (ofBe ((l.drop 10).take 4)))

/-- 2^-32 ns as 2^-8 ns, to the nearest. -/
def toQ8 (t : Int) : Int := divNear t (2 ^ 24)

/-! ### Conditions of the guarantee (R464, R465) -/

/-- The pins driven by engine `e` have their READBACK_MASK bits set, and a failing readback is found within 100 µs. -/
def State.readbackGood (s : State) (e : Nat) (pins : W48) : Bool :=
  let d := s.driveMask e &&& pins
  let div := s.o 0x6003 1 e * 256 + s.o 0x6003 2 e
  d = 0 || (d &&& ~~~(BitVec.ofNat 48 (s.o 0x600A 1 e)) = 0 && (2 + s.o 0x600A 2 e) * div * 4 ≤ 100000 * 256)

/-- The engine consumes a channel fed by the ring, which class-7 frames may fill (R464). -/
def State.ringFed (s : State) (e : Nat) : Bool :=
  match s.consChan e with
  | some c => s.o 0x5001 0 c / 0x1000 = 2
  | none => false

/-- The pair pins of engine `e` that lie in pair-gated banks. -/
def State.gatedPins (s : State) (e : Nat) : W48 :=
  (if bitOf (s.o 0x6803 0) (2 * (e / 32)) then 0xFFFFFF#48 else 0)
    ||| (if bitOf (s.o 0x6803 0) (2 * (e / 32) + 1) then 0xFFFFFF000000#48 else 0)

/-- The partner is in STANDBY with the pair link up and not counted as lost (R464, R484). -/
def State.maskedByPair (s : State) : Bool :=
  s.pairMember && s.pair.link && s.pair.mode = Mode.code .standby && !s.pair.lost

/-- SFG_CONDITIONS as they stand now (R465). -/
def State.sfgNow (s : State) : Nat :=
  let c1 := s.o 0xA030 1 = 1 && s.fc.scrubOnTime
  let c2 := s.drivers.all (fun e => s.readbackGood e (s.gatedPins e) && (!s.ringFed e || s.readbackGood e (BitVec.allOnes 48)))
  let c3 := s.ringState = 1
  let c4 := s.maskedByPair
  b2n c1 + 2 * b2n c2 + 4 * b2n c3 + 8 * b2n c4 + 128 * b2n (c1 && c2 && c3 && (c4 || !s.pairMember))

/-- The conditions are evaluated (R465): a change of bit 7 is reported under source 0xA6. -/
def State.sfgUpdate (s : State) : State :=
  let n := s.sfgNow
  let old := s.o 0xA040 0
  let s := s.setO 0xA040 0 0 n
  if bitOf n 7 ≠ bitOf old 7 then s.report { source := 0xA6, syndrome := n } else s

/-- After anything that bears on it, RING_STATE open counts as loss of ring closure (R65, R114), and the conditions of the guarantee
are evaluated. -/
def State.ringUpdate (s : State) : State := (s.degrade 0 (s.ringState = 0)).sfgUpdate

/-- Take the first link-queue frame of port `p` that satisfies `f`. -/
def State.takeLink (s : State) (p : Port) (f : Hdr → Bool) : Option (Frame × State) :=
  match s.ring.linkQ.find? (fun x => x.1 = p && f x.2.hdr) with
  | some x => some (x.2, { s with ring := { s.ring with linkQ := s.ring.linkQ.eraseP (fun y => y.1 = p && f y.2.hdr) } })
  | none => none

/-- Take the first delivered frame that satisfies `f`. -/
def State.takeDelivered (s : State) (f : Hdr → Bool) : Option (Frame × State) :=
  match s.ring.delivered.find? (fun x => f x.hdr) with
  | some x => some (x, { s with ring := { s.ring with delivered := s.ring.delivered.eraseP (fun y => f y.hdr) } })
  | none => none

/-- A supervision header with a subtype. -/
def isSup (k : Nat) (h : Hdr) : Bool := h.typ = 6 && specField h 20 1 = k

/-- The authenticated bytes of a tagged frame (R89): the header with its transit fields 0, then the payload. -/
def frameAad (f : Frame) : List Byte :=
  hdrBytes { f.hdr with hops := 0, rsv9 := 0, residence := 0, hcrc := 0, dir := false, wrapped := false } ++ f.payload

end Sys2Proof.Machine
end

