-- ==== Sys2Proof/Machine/Cells.lean ====
section
/-!
DEFINITION. Cells and queues of the switch (R130–R138): cells and their descriptors, shares, spill to the kennel, drop rules, RED and
eviction, up to the enqueueing of a frame.
-/

namespace Sys2Proof.Machine

/-! ### Cells -/

/-- Cells of a ring frame (R130). -/
def hdrCells (h : Hdr) : Nat := (frameBytes h + 255) / 256

/-- Cells of a packet (R130). -/
def pktCells (p : Pkt) : Nat :=
  match p with
  | .ring f => hdrCells f.hdr
  | .eth b _ => (32 + b.length + 255) / 256
  | .firm _ _ len _ => (32 + len + 255) / 256

/-- Cells of a list of queued frames. -/
def cellsOf (l : List QFrame) : Nat := (l.map (·.n)).sum

/-- The frames of a queue, oldest first. -/
def qFrames (x : Queue) : List QFrame := x.onchip ++ x.returned ++ x.kennel

/-- The queue after frames have left it (R132, R137): it stops being spilled when nothing of its kennel part remains, and an empty queue notes
since when. -/
def qSettle (now : Nat) (x : Queue) : Queue :=
  let x := { x with spilled := x.spilled && !(x.kennel.isEmpty && x.returned.isEmpty) }
  if (qFrames x).isEmpty then { x with emptySince := now } else x

/-- Q_RESERVE of a class (R131). -/
def State.reserve (s : State) (c : Nat) : Nat := s.o 0x2101 (c + 1)

/-- The cells in flight (R130): of frames being received, of copies that wait for the other port's verdict, and of frames at the switch's
ingress. -/
def State.flightCells (s : State) : List Nat :=
  (s.ring.a.rx ++ s.ring.b.rx ++ s.ring.copies.map (·.2)).flatMap (·.cells) ++ (s.sw.ingress ++ s.sw.held).flatMap (·.cells)

/-- Cells of frames that arrive: in flight until queued, delivered or discarded (R130). -/
def State.inFlight (s : State) : Nat := s.flightCells.length

/-- Cells in service outside the return pool (R131, R497): 32 768, less 1 024 for each retired macro and 512 of the return pool. -/
def State.cellsUp (s : State) : Nat := 32256 - 1024 * (s.bist.retired.filter (· < 32)).length

/-- The first cell at or after `i` whose macro is in service. -/
def State.nextCell (s : State) : Nat → Nat → Nat
  | 0, i => i
  | f + 1, i => if s.bist.retired.contains (i / 1024) then s.nextCell f (1024 * (i / 1024 + 1)) else i

/-- Free cells of the shared pool (R131): the cells in service, less the reserves and what is used. -/
def State.freeShared (s : State) : Nat :=
  let reserves := 7 * ((List.range 8).map s.reserve).sum
  let used := (s.sw.queues.map (fun e => cellsOf e.2.onchip - s.reserve (e.1 % 8))).sum
  s.cellsUp - reserves - used - s.inFlight

/-- share(q) of R131. -/
def State.share (s : State) (q : Nat) : Nat :=
  let c := q % 8
  let a := s.oi 0x2102 (c + 1)
  s.reserve c + (if a < 0 then s.freeShared / 2 ^ a.natAbs else s.freeShared * 2 ^ a.natAbs)

/-- Free on-chip cells the queue may draw on: the rest of its reserve and the shared pool. -/
def State.onchipRoom (s : State) (q : Nat) : Nat :=
  s.freeShared + (s.reserve (q % 8) - cellsOf (s.queue q).onchip)

/-- FREE_CELLS on chip outside the return pool (0x2183, SW_STATUS.FREE). -/
def State.freeCells (s : State) : Nat :=
  s.cellsUp - (s.sw.queues.map (fun e => cellsOf e.2.onchip)).sum - s.inFlight

/-- Spill cells in use (0x2202:01). -/
def State.spillUsed (s : State) : Nat := (s.sw.queues.map (fun e => cellsOf e.2.kennel)).sum

/-- Spill cells of the kennel (R135): all but the lowest 64 MiB, in cells of 256 bytes. -/
def State.spillSize (s : State) : Nat := 4096 * (s.sw.kennelMiB - 64)

/-- Free spill cells. -/
def State.spillFree (s : State) : Nat := s.spillSize - s.spillUsed

/-- The cells of the return pool (R131). -/
def inPool (i : Nat) : Bool := 32256 ≤ i && i < 32768

/-- What an unlisted cell reads as: free, but for the 512 cells of the return pool. -/
def cellDefault (i : Nat) : Cell := if inPool i then { owner := 0x38 } else {}

/-- A cell's descriptor; spill cells follow the 32 768 on-chip cells. -/
def State.cell (s : State) (i : Nat) : Cell := tgetF cellDefault s.sw.cells i

/-- Replace a cell's descriptor. -/
def State.setCell (s : State) (i : Nat) (v : Cell) : State :=
  { s with sw := { s.sw with cells := tsetF cellDefault s.sw.cells i v } }

/-- A cell that moves between lists during a walk of the audit is written to its journal; a journal of more than 512 entries abandons the
walk (R140). -/
def State.moved (s : State) (i : Nat) : State :=
  if !s.sw.walking then s
  else if s.sw.journal.length < 512 then { s with sw := { s.sw with journal := i :: s.sw.journal } }
  else State.bump { s with sw := { s.sw with walking := false, journal := [] } } 0x2210 2

/-- A cell taken from a free list: its generation advances modulo 16 (R130). -/
def State.ownCell (s : State) (q i : Nat) : State :=
  let c := s.cell i
  (s.setCell i { c with owner := q, gen := c.gen + 1 }).moved i

/-- A cell passes from one owner to another. -/
def State.passCell (s : State) (q i : Nat) : State := (s.setCell i { s.cell i with owner := q }).moved i

/-- Take `n` on-chip cells for an owner, as many as are free. -/
def State.takeCells (s : State) (q : Nat) : Nat → State × List Nat
  | 0 => (s, [])
  | n + 1 =>
    match s.sw.freed with
    | i :: l =>
      let (s, l) := (State.ownCell { s with sw := { s.sw with freed := l } } q i).takeCells q n
      (s, i :: l)
    | [] =>
      let i := s.nextCell 32 s.sw.fresh
      if i ≥ 32256 then (s, [])
      else
        let (s, l) := (State.ownCell { s with sw := { s.sw with fresh := i + 1 } } q i).takeCells q n
        (s, i :: l)

/-- Take `n` spill cells for queue `q`. -/
def State.takeSpill (s : State) (q : Nat) : Nat → State × List Nat
  | 0 => (s, [])
  | n + 1 =>
    let (i, s) := match s.sw.spillFreed with
      | i :: l => (i, { s with sw := { s.sw with spillFreed := l } })
      | [] => (32768 + s.sw.spillFresh, { s with sw := { s.sw with spillFresh := s.sw.spillFresh + 1 } })
    let (s, l) := (s.ownCell q i).takeSpill q n
    (s, i :: l)

/-- The first `n` cells of the return pool that no read-back frame holds. -/
def State.poolCells (s : State) (n : Nat) : List Nat :=
  let used := s.sw.queues.flatMap (fun e => e.2.returned.flatMap (·.cells))
  (((List.range 512).map (32256 + ·)).filter (fun i => !used.contains i)).take n

/-- KENNEL_LOW in force (R136): set below the threshold, ended above twice it. -/
def State.kennelCheck (s : State) : State :=
  let t := s.o 0x2202 3
  let low := if s.spillFree < t then true else if s.spillFree > 2 * t then false else s.sw.kennelLow
  { s with sw := { s.sw with kennelLow := low } }

/-- Return cells to their free list; cells of the return pool stay in it. -/
def State.freeCellList (s : State) (l : List Nat) : State :=
  let l := l.filter (fun i => !inPool i)
  let s := l.foldl (fun s i => s.passCell 0x3F i) s
  State.kennelCheck { s with sw := { s.sw with
    freed := s.sw.freed ++ l.filter (· < 32768), spillFreed := s.sw.spillFreed ++ l.filter (fun i => 32768 ≤ i) } }

/-! ### Admission -/

/-- An entry of a queue's RED profile (R138): colour 3 is decided as red. -/
def State.redEntry (s : State) (cls colour i : Nat) : Nat := s.o (0x2110 + cls) (3 * min colour 2 + i + 1)

/-- RED's average at an arrival (R137): multiplied down over the idle time of an empty queue, then moved towards the depth. -/
def redAvg (w m : Nat) (avg : Rat) (empty : Bool) (depth : Nat) : Rat :=
  let g : Rat := 1 / ((2 ^ w : Nat) : Rat)
  let a := if empty then avg * (1 - g) ^ m else avg
  a + ((depth : Rat) - a) * g

/-- RED's decision for a frame of a colour at a queue (R137), with the draw of the queue's generator. -/
def State.redDrop (s : State) (cls colour : Nat) (x : Queue) (draw : Nat) : Bool :=
  let mn : Rat := (s.redEntry cls colour 0 : Nat)
  let mx : Rat := (s.redEntry cls colour 1 : Nat)
  let mp : Rat := (s.redEntry cls colour 2 : Nat)
  if x.avg < mn then false
  else if x.avg ≥ mx then true
  else
    let pb := mp / 256 * (x.avg - mn) / (mx - mn)
    let cnt : Rat := ((x.counts.getD (min colour 2) 0 : Nat) : Rat)
    if cnt * pb ≥ 1 then true else decide (((draw : Nat) : Rat) / 65536 < pb / (1 - cnt * pb))

/-- RED at an arrival (R137): the average of a class 0–4 queue moves at each; a frame of ports 0–3 may be dropped. -/
def State.red (s : State) (q : Nat) (f : InFrame) : State × Bool :=
  if f.cls > 4 then (s, false)
  else
    let x := s.queue q
    let empty := (qFrames x).isEmpty
    let x := { x with avg := redAvg (s.o 0x2105 0) ((s.clock - x.emptySince) / 64) x.avg empty (cellsOf (qFrames x)) }
    let s := s.setQueue q x
    if f.src > 3 then (s, false) else (s.drew, s.redDrop f.cls f.colour x (s.freeNat 16))

/-- The count of a colour after an arrival (R137): one more admitted since its last drop, or none after a drop. -/
def State.redCount (s : State) (q : Nat) (f : InFrame) (dropped : Bool) : State :=
  if f.cls > 4 then s
  else
    let x := s.queue q
    let k := min f.colour 2
    s.setQueue q { x with counts := x.counts.set k (if dropped then 0 else x.counts.getD k 0 + 1) }

/-- What happens to a frame that has come to its queue. -/
inductive Fit where
  | onchip | kennel | no
deriving DecidableEq, Repr

/-- Where the frame of `n` cells fits, of which it holds `own` in flight (R132, R134, R136). `limited`: Q_LIMIT binds it. -/
def State.fit (s : State) (q n own : Nat) (limited : Bool) : Fit :=
  let x := s.queue q
  let c := q % 8
  let lim := s.o 0x2103 (c + 1)
  if !x.spilled && cellsOf x.onchip + n ≤ s.share q && n ≤ s.onchipRoom q + own then .onchip
  else if n ≤ s.spillFree && !(limited && (cellsOf x.kennel + n > lim && lim ≠ 0 || (c ≤ 4 && s.sw.kennelLow))) then .kennel
  else .no

/-- A frame as it stands in a queue, with its cells. -/
def queued (f : InFrame) (cells : List Nat) : QFrame :=
  { pkt := f.pkt, cls := f.cls, colour := f.colour, src := f.src, n := pktCells f.pkt, cells := cells, rx := f.rx }

/-- Append a frame to a queue's on-chip part: the cells it holds in flight become the queue's, or it takes cells (R130). -/
def State.appendOn (s : State) (q : Nat) (f : InFrame) : State :=
  let n := pktCells f.pkt
  let (s, l) :=
    if f.cells.length = n then (f.cells.foldl (fun s i => s.passCell q i) s, f.cells) else (s.freeCellList f.cells).takeCells q n
  let x := s.queue q
  s.setQueue q { x with onchip := x.onchip ++ [queued f l] }

/-- Append a frame to a queue's kennel part: the first one spills the queue, which counts, and for classes 6 and 7 reports
(R132, R134). -/
def State.appendKennel (s : State) (q : Nat) (f : InFrame) : State :=
  let (s, l) := (s.freeCellList f.cells).takeSpill q (pktCells f.pkt)
  let x := s.queue q
  let first := !x.spilled
  let s := s.setQueue q { x with kennel := x.kennel ++ [queued f l], spilled := true }
  let s := s.kennelCheck
  let s := s.setO 0x2202 2 0 (max (s.o 0x2202 2) s.spillUsed)
  if !first then s
  else
    let s := s.bump 0x2182 (q + 1)
    if f.cls ≥ 6 then (s.bump 0x2180 5).report { source := 0x12, syndrome := q } else s

/-- The frame that a queue would lose to an eviction: the newest that is not being sent (R134). -/
def evictable (x : Queue) : Option QFrame :=
  match (qFrames x).getLast? with
  | some f => if f.sending then none else some f
  | none => none

/-- The queue of classes `lo` to `hi` that holds the most cells and has a frame to evict. -/
def State.victim (s : State) (lo hi : Nat) : Option Nat :=
  let l := (s.sw.queues.filter (fun e => lo ≤ e.1 % 8 && e.1 % 8 ≤ hi && (evictable e.2).isSome)).map
    (fun e => (cellsOf (qFrames e.2), e.1))
  (l.foldl (fun (b : Option (Nat × Nat)) e => match b with
    | some c => if e.1 > c.1 then some e else b
    | none => some e) none).map (·.2)

/-- Evict one frame of queue `q`. -/
def State.evict (s : State) (q : Nat) : State :=
  let x := s.queue q
  match evictable x with
  | none => s
  | some f =>
    let y := if !x.kennel.isEmpty then { x with kennel := x.kennel.dropLast }
      else if !x.returned.isEmpty then { x with returned := x.returned.dropLast }
      else { x with onchip := x.onchip.dropLast }
    ((s.setQueue q (qSettle s.clock y)).freeCellList f.cells).bump 0x2180 3

/-- Evict until a frame of class 6 or 7 fits; class 7 may evict class 6 only when no lower class remains (R134). -/
def State.evictFor (s : State) (q n own cls : Nat) : Nat → State × Fit
  | 0 => (s, s.fit q n own false)
  | k + 1 =>
    match s.fit q n own false with
    | .no =>
      match s.victim 0 4 with
      | some v => (s.evict v).evictFor q n own cls k
      | none =>
        if cls = 7 then
          match s.victim 6 6 with
          | some v => (s.evict v).evictFor q n own cls k
          | none => (s, .no)
        else (s, .no)
    | r => (s, r)

/-- How many frames are queued: no more can be evicted. -/
def State.queuedFrames (s : State) : Nat := (s.sw.queues.map (fun e => (qFrames e.2).length)).sum

/-- Enqueue a frame whose admission is decided. -/
def State.place (s : State) (q : Nat) (f : InFrame) : Fit → State
  | .onchip => s.appendOn q f
  | .kennel => s.appendKennel q f
  | .no => s

/-- A frame is dropped at its queue: its cells are free again. -/
def State.dropIn (s : State) (f : InFrame) (sub : Nat) : State := (s.bump 0x2180 sub).freeCellList f.cells

/-- What has become of a frame that came to its queue: taken, dropped, or held back. -/
inductive Taken where
  | yes | dropped | held
deriving DecidableEq, Repr

/-- The drop rules of classes other than 5 (R132, R134): on chip, to the kennel, dropped, after eviction, or held. In DOZE a frame that would
spill wakes the hub and waits for DRAM (R79, R141). -/
def State.takeIn (s : State) (q : Nat) (f : InFrame) : State × Taken :=
  let n := pktCells f.pkt
  match s.fit q n f.cells.length (f.cls ≤ 4 || f.src ≥ 4) with
  | .no =>
    if f.src ≥ 4 then (s, .held)
    else if f.cls ≤ 4 then (s.dropIn f 2, .dropped)
    else
      let (s, r) := s.evictFor q n f.cells.length f.cls (s.queuedFrames + 1)
      match r with
      | .no => ((s.dropIn f 4).report { source := 0x13, syndrome := q }, .dropped)
      | r => (s.place q f r, .yes)
  | .kennel => if s.sw.selfRefresh then (s.wake, .held) else (s.appendKennel q f, .yes)
  | .onchip => (s.appendOn q f, .yes)

/-- Enqueue a frame at its egress queue (R132, R134, R137). -/
def State.enqueue (s : State) (f : InFrame) : State × Taken :=
  let s := s.kennelCheck
  let q := 8 * f.dst + f.cls
  let (s, drop) := s.red q f
  if drop then ((s.dropIn f 1).redCount q f true, .dropped)
  else if f.cls = 5 then
    if cellsOf (s.queue q).onchip + pktCells f.pkt > min (s.share q) (s.o 0x2103 6) then (s.dropIn f 2, .dropped)
    else (s.appendOn q f, .yes)
  else
    match s.takeIn q f with
    | (s, .held) => (s, .held)
    | (s, r) => (s.redCount q f (r = .dropped), r)

end Sys2Proof.Machine
end

