-- ==== Sys2Proof/Machine/SecOps.lean ====
section
/-!
DEFINITION. Shared operations of the key store (R404–R415): a slot, its uses, the key that answers a role's open, ring tags
and the count a tag is bound to.
-/

namespace Sys2Proof.Machine

/-- Key slot `n`. -/
def State.slot (s : State) (n : Nat) : KeySlot := tget {} s.sec.slots n

/-- Replace key slot `n`. -/
def State.setSlot (s : State) (n : Nat) (v : KeySlot) : State :=
  { s with sec := { s.sec with slots := tset {} s.sec.slots n v } }

/-- The key is volatile (R406). -/
def slotVolatile (k : KeySlot) : Bool := bitOf k.attr 16

/-- The slot holds an unexhausted key with purpose bit `i` (R406). -/
def slotServes (k : KeySlot) (i : Nat) : Bool := k.state = 1 && bitOf k.attr i

/-- One use of a key (R407, R408): the count falls by one; at 0 the slot is exhausted; at 2^20 source 0x75 names the slot.
Crossing into a new block writes the next block's end ahead. -/
def State.useKey (s : State) (n : Nat) : State :=
  let k := s.slot n
  if k.state ≠ 1 || slotVolatile k then s
  else
    let u := k.uses - 1
    let s := s.setSlot n { k with uses := u, state := if u = 0 then 2 else 1, ahead := if u < k.ahead then k.uses - min k.uses (2 ^ 20) else k.ahead }
    if u = 2 ^ 20 then s.report { source := 0x75, syndrome := n } else s

/-- The lowest slot that serves purpose bit `i` (R415). -/
def State.purposeSlot (s : State) (i : Nat) : Option Nat :=
  (List.range 64).find? (fun n => slotServes (s.slot n) i)

/-- The nanosecond count of wide time. -/
def State.nsCount (s : State) : Nat := s.time.wt / 2 ^ 32

/-- Rebuild a full nanosecond count from ST32, near a reference count (R267, R13). -/
def rebuildCount (st ref : Nat) : Int :=
  let d := serialDist 32 st (ref % 2 ^ 32)
  if d ≤ 2 ^ 31 then (ref : Int) + d else (ref : Int) - ((2 ^ 32 : Nat) - d : Int)

/-- The 12-byte IV of a ring tag (R412). -/
def ringIv (h : Hdr) (count : Nat) : List Byte :=
  beBytes 1 h.source ++ beBytes 1 h.cls ++ beBytes 2 h.seq ++ beBytes 8 count

/-- The tag of a delivered frame checks good (R411, R412): its slot holds a RING_TAG key, the rebuilt count lies within
REPLAY_WINDOW, and the GMAC over the authenticated bytes is the tag received. -/
def State.tagGood (s : State) (f : Frame) : Bool :=
  let k := s.slot f.hdr.keySlot
  let c := rebuildCount f.hdr.originSt32 s.nsCount
  let far := (c - s.nsCount).natAbs
  slotServes k 0 && far ≤ 1000000 * s.o 0x8010 4 && f.tag = Config.gmac k.key (ringIv f.hdr c.toNat) (frameAad f)

end Sys2Proof.Machine
end

