-- ==== Sys2Proof/Machine/RingRx.lean ====
section
/-!
DEFINITION. Reception of ring frames (R86–R110, R150–R156, R171): a header is checked, delivered, forwarded, wrapped or
discarded; a trailer confirms or revokes; late and broken frames.
-/

namespace Sys2Proof.Machine

/-! ### Duplicate discard (R109) -/

/-- The verdict of the duplicate check. -/
inductive DupRes where
  | accept | lateFill | duplicate | tooOld
deriving DecidableEq, Repr

/-- The check of R109 at instant `now`: the verdict, and the entry as it stands once the frame is confirmed. -/
def dupCheck (e : DupEntry) (seq now : Nat) : DupRes × DupEntry :=
  if !e.valid || now - e.last > ticksMs 64 then
    (.accept, { valid := true, newest := seq, map := 0, last := now })
  else
    let d := (65536 + seq - e.newest) % 65536
    if d = 0 then (.duplicate, { e with last := now })
    else if d ≤ 32768 then
      (.accept, { e with map := (e.map <<< d) ||| (1#64 <<< (d - 1)), newest := seq, last := now })
    else
      let back := (65536 + e.newest - seq) % 65536
      if back > 64 then (.tooOld, { e with last := now })
      else if e.map.getLsbD (back - 1) then (.duplicate, { e with last := now })
      else (.lateFill, { e with map := e.map ||| (1#64 <<< (back - 1)), last := now })

/-- The duplicate table's key of a frame. -/
def dupKey (h : Hdr) : Nat := h.source * 8 + h.cls

/-- The duplicate verdict of a header against the table as it stands. -/
def State.dupVerdict (s : State) (h : Hdr) : DupRes := (dupCheck (tget {} s.ring.dup (dupKey h)) h.seq s.clock).1

/-- Enter a confirmed frame into the duplicate table, counting its outcome (R110). -/
def State.dupEnter (s : State) (h : Hdr) : DupRes × State :=
  let (r, e) := dupCheck (tget {} s.ring.dup (dupKey h)) h.seq s.clock
  let s := { s with ring := { s.ring with dup := tset {} s.ring.dup (dupKey h) e } }
  (r, match r with
    | .accept => s
    | .lateFill => s.bump 0x2024 3
    | .duplicate => s.bump 0x2024 1
    | .tooOld => s.bump 0x2024 2)

/-! ### Delivery of type-0 frames -/

/-- A payload as items, most significant byte first (R3, R177). -/
def payloadItems : List Byte → List Item
  | a :: b :: c :: d :: l => wordItem (ofBe [a, b, c, d]) :: payloadItems l
  | _ => []

/-- Split a group payload into packets, each SOP to EOP (R170). -/
def splitPackets : List Item → List (List Item)
  | [] => []
  | i :: l =>
    match splitPackets l with
    | [] => [[i]]
    | p :: ps => if i.eop then [i] :: p :: ps else (i :: p) :: ps

/-- The type-0 frame is well formed for delivery (R91). -/
def type0Ok (h : Hdr) : Bool :=
  let n := specField h 20 2
  n ≥ 1 && h.length = 4 * n && h.destCh ≤ 0x1FF && !(h.grp && h.destCh > 0x7F)

/-- Channel `c` takes ring deliveries from this source (R183). -/
def State.chanTakes (s : State) (c src : Nat) : Bool :=
  s.o 0x5001 0 c / 0x1000 = 2 && (s.o 0x5003 0 c = 0xFF || s.o 0x5003 0 c = src) && !(s.chan c).quarantined

/-- The channels and items of a type-0 frame: one channel, or each member of its commit group (R170, R183). `none`: it is
undeliverable. -/
def State.targets (s : State) (f : Frame) : Option (List (Nat × List Item)) :=
  let items := payloadItems f.payload
  if !type0Ok f.hdr then none
  else if f.hdr.grp then
    let ms := s.members f.hdr.destCh
    let ps := splitPackets items
    if ms.length = ps.length && !ms.isEmpty && ms.all (fun c => s.chanTakes c f.hdr.source)
        && ps.all (fun p => p.head?.any (·.sop) && p.getLast?.any (·.eop)) then some (ms.zip ps)
    else none
  else if s.chanTakes f.hdr.destCh f.hdr.source then some [(f.hdr.destCh, items)]
  else none

/-- Write a frame's items into its channels, under a speculation tag or confirmed; a group frame opens a group run. -/
def State.writeFrame (s : State) (f : Frame) (ts : List (Nat × List Item)) (tag : Option Nat) (th : Nat) : State :=
  let inst := s.shutter.nextInst
  let grp := if f.hdr.grp then some (f.hdr.destCh, inst) else none
  let s := if f.hdr.grp then
      { s with shutter := { s.shutter with
          nextInst := inst + 1,
          groups := s.shutter.groups ++ [{ g := f.hdr.destCh, inst := inst, th := th, tag := tag, confirmed := tag.isNone }] } }
    else s
  ts.foldl (fun s t => s.deliverItems f.hdr.cls t.1 (t.2.map (fun i : Item => { i with unc := tag, grp := grp }))) s

/-- The frame is speculative (R97, R150) but for the tag: class 7, type 0, targets speculating, speculation on. -/
def State.specEligible (s : State) (f : Frame) (ts : List (Nat × List Item)) : Bool :=
  f.hdr.typ = 0 && f.hdr.cls = 7 && s.o 0x2600 0 = 1 && ts.all (fun t => s.specEn t.1)

/-- A free speculation tag, if any (R150). -/
def State.freeTag (s : State) : Option Nat := (List.range 4).find? (fun g => (s.specTag g).isNone)

/-- The latest confirmation instant, in 0.1 ns (R152). -/
def latestConfirm (h : Hdr) (th : Nat) : Nat :=
  th + 8 * (36 + h.length + 16 * b2n h.auth) + 1600 + 1600 * b2n h.auth

/-- An authentication failure (R108). -/
def State.authFail (s : State) (h : Hdr) : State :=
  let s := if h.auth then s.bump 0x8020 2 else s
  (s.bump 0x2024 4).report { source := 0x05, syndrome := h.source + h.keySlot * 256 }

/-- A frame to the pair address that the hub's role does not deliver (R104): types 1, 2, 4 and 7 without the claim, and in STANDBY all but
types 0, 8 and 9. A frame to the own number is delivered in any role. -/
def State.standbyOut (s : State) (h : Hdr) : Bool :=
  s.pairMember && h.dest = s.o 0x2001 0 && h.dest ≠ s.node &&
    (((h.typ = 1 || h.typ = 2 || h.typ = 4 || h.typ = 7) && s.pair.claim ≠ .held)
      || (s.modes.mode = .standby && h.typ ≠ 0 && h.typ ≠ 8 && h.typ ≠ 9))

/-- The class must be tagged and the frame is not (R411). -/
def State.tagMissing (s : State) (h : Hdr) : Bool := !h.auth && bitOf (s.o 0x8010 3) h.cls

/-- A frame that is to be delivered only in MAINTENANCE, elsewhere (R91). -/
def State.testOut (s : State) (h : Hdr) : Bool := h.test && s.modes.mode ≠ .maintenance

/-- Hand a confirmed frame to its unit: items to channels, other types to the unit that serves them (R90, R92). -/
def State.deliverNow (s : State) (f : Frame) (th : Nat) : State :=
  match f.hdr.typ with
  | 0 =>
    match s.targets f with
    | some ts => s.writeFrame f ts none th
    | none => s.bump 0x2024 5
  | _ =>
    match s.gatewayFor f with
    | some k => s.canSession k (s.o 0x7002 3 k) f.hdr.source f.payload
    | none =>
      if f.hdr.typ = 4 then s.arrived { path := .ring, ident := f.hdr.source, bytes := f.payload }
      else { s with ring := { s.ring with delivered := s.ring.delivered ++ [f] } }

/-- Deliver a frame received on port `p` (R126, R129): at once where its unit's egress was idle, else through the queue of that egress, which takes
over its cells. The answer says whether it did. -/
def State.deliver (s : State) (p : Port) (r : RxFrame) : State × Bool :=
  if r.through then (s.deliverNow r.f r.th, false)
  else
    let h := r.f.hdr
    let i : InFrame := { pkt := .ring r.f, cls := h.cls, colour := h.colour, src := p.toNat, dst := localPort h.typ, rx := some (r.th, p), cells := r.cells }
    ({ s with sw := { s.sw with ingress := s.sw.ingress ++ [i] } }, true)

/-- Deliver a frame whose trailer and tag are good: what its role ignores goes, an untagged frame of a tagged class is a failure, the duplicate
check is made (R109), and a class mismatch or a TEST frame is discarded and counted (R90, R91). The answer says whether a queue took its cells. -/
def State.deliverGood (s : State) (p : Port) (r : RxFrame) : State × Bool :=
  let h := r.f.hdr
  if s.standbyOut h then (s, false)
  else if s.tagMissing h then (s.authFail h, false)
  else
    let (v, s) := s.dupEnter h
    if v = .duplicate || v = .tooOld then (s, false)
    else if !classOk h then (s.portCount p 9, false)
    else if s.testOut h then (s.bump 0x2024 6, false)
    else s.deliver p r

/-! ### Forwarding -/

/-- RESIDENCE increased by the hop time and the measured link delay, both in 2^-8 ns (R94): out of range it becomes invalid. -/
def residenceAdd (r hop delay : Nat) : Nat :=
  if r = 0x80000000 then r
  else
    let v := toSigned 32 r + hop + toSigned 32 delay
    if v < -(2 ^ 31 : Int) + 1 || v > (2 ^ 31 : Int) - 1 then 0x80000000 else ofSigned 32 v

/-- The egress is idle for the frame (R128). -/
def State.egressIdle (s : State) (q : Port) (cls : Nat) : Bool :=
  let empty : Nat → Bool := fun k =>
    let x := s.queue (8 * q.toNat + k)
    x.onchip.isEmpty && x.kennel.isEmpty && x.returned.isEmpty
  let x := s.port q
  if cls = 7 then empty 7 && (match x.tx with | some h => h.cls ≠ 7 | none => true)
  else x.tx.isNone && x.suspended.isNone && (List.range 8).all (fun k => (k < cls && cls ≥ 5) || empty k)

/-- The frame is forwarded cut-through on ring egress `q` (R128): both ring ports run at one rate. -/
def State.cutThrough (s : State) (q : Port) (cls : Nat) : Bool :=
  bitOf (s.o 0x2100 (q.toNat + 1)) cls && s.ready q && s.egressIdle q cls

/-- The egress towards a local unit is idle for the frame (R128): its queue and every higher one are empty, for classes 0–4 all, and nothing
is being delivered there while it arrives; for the channels, no delivery is held either (R187). -/
def State.localIdle (s : State) (q cls : Nat) : Bool :=
  let need : Nat → Bool := fun k => k ≥ cls || cls ≤ 4
  bitOf (s.o 0x2100 (q + 1)) cls
    && (List.range 8).all (fun k => !need k || (qFrames (s.queue (8 * q + k))).isEmpty)
    && (q ≠ 5 || (s.heldDel.all (fun d => d.cls ≥ 8 || !need d.cls)
      && (s.ring.a.rx ++ s.ring.b.rx).all (fun r => match r.lcl with | .spec _ => false | _ => true)))

/-- The delay of frames received on a port, as 32 bits in 2^-8 ns: LINK_DELAY + LINK_ASYM (R94, R256). -/
def State.linkDelay (s : State) (p : Port) : Nat :=
  ofSigned 32 (s.oi 0x3032 (p.toNat + 1) + s.oi 0x3033 (p.toNat + 1))

/-- The header as it is forwarded (R86): HOPS, and DIR and WRAPPED at a wrap; RESIDENCE and HCRC follow when it leaves. -/
def forwardHdr (h : Hdr) (wrap : Bool) : Hdr :=
  { h with hops := h.hops - 1, dir := if wrap then !h.dir else h.dir, wrapped := h.wrapped || wrap }

/-- A frame of port `p` forwarded cut-through: RESIDENCE grows by a hop of at most 500 ns (R94, R123), and HCRC is made afresh. -/
def State.cutHdr (s : State) (p : Port) (h : Hdr) : Hdr :=
  hdrSeal { h with residence := residenceAdd h.residence (Config.free 17 s.free % 128001) (s.linkDelay p) }

/-- Where an onward frame leaves, and its header; counts on the way (R103). A wrapped frame goes to the other port whether or not that is
ready; a port in mode 0 takes nothing (R114). -/
def State.route (s : State) (h : Hdr) : State × Option (Port × Hdr) :=
  if h.hops = 0 then (s, none)
  else
    let q := portFor h.dir
    if s.unused q then (s, none)
    else if s.ready q then (s, some (q, forwardHdr h false))
    else if h.dup || h.wrapped then (s.portCount q 0x0C, none)
    else
      let s := s.portCount q.other 0x0D
      (s, if s.unused q.other then none else some (q.other, forwardHdr h true))

/-- The classes whose delivery to the own or pair address wakes a dozing hub (R79). -/
def State.wakesOn (s : State) (h : Hdr) : Bool :=
  h.dest ≠ 0xFF && s.isLocal h && (h.cls = 3 || h.cls = 4 || h.cls = 6 || h.cls = 7)

/-- Push a frame whose trailer is awaited; it takes cells in flight (R130). -/
def State.pushRx (s : State) (p : Port) (r : RxFrame) : State :=
  let (s, l) := s.takeCells 0x39 (hdrCells r.f.hdr)
  s.setPort p { s.port p with rx := { r with cells := l } :: (s.port p).rx }

/-- The same SEQ of the same source and class is unresolved from the other port (R110). -/
def State.copyOpen (s : State) (h : Hdr) (p : Port) : Bool :=
  (s.port p.other).rx.any (fun r => r.f.hdr.source = h.source && r.f.hdr.cls = h.cls && r.f.hdr.seq = h.seq
    && (match r.lcl with | .spec _ => true | .trailer => true | _ => false))

/-- How a local frame is taken in at its header (R97, R110, R150): its state of delivery, and whether its unit's egress is idle for it. Whatever is
not speculative is judged at its trailer. -/
def State.localHeader (s : State) (p : Port) (f : Frame) (th : Nat) : State × Lcl × Bool :=
  let h := f.hdr
  if h.typ ≥ 10 then (s, .none, false)
  else
    let s := if s.wakesOn h then s.wake else s
    let idle := s.localIdle (localPort h.typ) h.cls
    if h.typ = 6 then (s, .trailer, true)
    else if s.copyOpen h p then (s, .copy, idle)
    else
      let v := s.dupVerdict h
      let takes := idle && (v = .accept || v = .lateFill) && !s.standbyOut h && !s.tagMissing h && classOk h && !s.testOut h
      match s.targets f with
      | none => (s, .trailer, idle)
      | some ts =>
        if takes && s.specEligible f ts then
          match s.freeTag with
          | some g =>
            let t : SpecTag := { source := h.source, cls := h.cls, seq := h.seq, port := p, deadline := latestConfirm h th }
            ((s.setSpecTag g (some t)).writeFrame f ts (some g) th, .spec g, idle)
          | none => (s.bump 0x26A0 5, .trailer, idle)
        else (s, .trailer, idle)

/-- Suspend the frame in progress on port `p` at payload offset `off`. -/
def State.suspend (s : State) (p : Port) (h : Hdr) (off : Nat) : State :=
  ((s.setPort p { s.port p with tx := none, suspended := some (h, off) }).emit (.ordered p 2)).portCount p 0x10

/-- A class-7 frame becomes ready on a port that sends a lower frame (R101): how much of that has left is free; it is suspended at a multiple
of 64 bytes, or completed where 64 bytes or fewer remain. -/
def State.suspendFree (s : State) (p : Port) (h : Hdr) : State :=
  let body := h.length + 16 * b2n h.auth + 4
  let off := 64 * (s.freeNat 12 % (body / 64 + 1))
  let s := s.drew
  if off + 64 < body then s.suspend p h off else s.setPort p { s.port p with tx := none, quietAt := some s.clock }

/-- A frame begins to pass cut-through on egress `q` (R101, R103). -/
def State.cutIn (s : State) (q : Port) (h : Hdr) : State :=
  let s := match (s.port q).tx with
    | some g => if h.cls = 7 && g.cls ≠ 7 then s.suspendFree q g else s
    | none => s
  ((s.setPort q { s.port q with tx := some h }).emit (.ringHeader q h)).portCount q 2

/-- A good header that came in its direction, of a frame that is not the hub's own (R103): delivered here, forwarded, wrapped or neither. Its
trailer is checked whatever becomes of it (R106). -/
def State.headerIn (s : State) (p : Port) (f : Frame) (th : Nat) : State :=
  let h := f.hdr
  let s := if h.typ ≥ 10 then s.portCount p 8 else s
  let (s, lcl, idle) := if s.isLocal h then s.localHeader p f th else (s, .none, false)
  let r : RxFrame := { f := f, th := th, lcl := lcl, through := idle }
  if !s.isOnward h then s.pushRx p r
  else
    let s := if h.hops = 0 then s.portCount p 7 else s
    match s.route h with
    | (s, none) => s.pushRx p r
    | (s, some (q, g)) =>
      if s.cutThrough q h.cls then ((s.cutIn q (s.cutHdr p g)).drew).pushRx p { r with egress := some q, cut := true }
      else s.pushRx p { r with egress := some q }

/-- A complete header arrives, 32 bytes after its first bit (R103): it is checked, then delivered, forwarded, wrapped or discarded. The payload
that follows it is the command's; its items enter a speculating channel here. A refused frame, one against its direction and one that came round
the ring are discarded to their end. -/
def execHeaderReceived (p : Port) (f : Frame) (s : State) : Host.Outcome State Fault Refusal :=
  let h := f.hdr
  let x := s.port p
  if !s.ringOn || !x.up || !x.trained || s.unused p then .next s
  else
    let s := s.portCount p 1
    if !hdrOk h then .next (s.portCount p 3)
    else if (if h.dir then p = .b else p = .a) then .next (s.portCount p 0x0B)
    else
      let s := if h.colour = 3 then s.portCount p 0x0A else s
      let th := s.now10 - 256
      if linkScope h || (h.source = s.node && isSup 1 h) then
        -- an own ANNOUNCE that came round tells of closure, and of a second hub with this node number
        .next (s.pushRx p { f := f, th := th, lcl := .link })
      else if h.source = s.node then .next s
      else .next (s.headerIn p f th)

/-! ### Verdicts -/

/-- A stored frame whose trailer is good goes to its egress, with its cells (R105). -/
def State.storeForward (s : State) (p q : Port) (r : RxFrame) : State :=
  let h := forwardHdr r.f.hdr (portFor r.f.hdr.dir ≠ q)
  let i : InFrame := {
    pkt := .ring { r.f with hdr := h }, cls := h.cls, colour := h.colour, src := p.toNat, dst := q.toNat, rx := some (r.th, p), cells := r.cells }
  { s with sw := { s.sw with ingress := s.sw.ingress ++ [i] } }

/-- End a cut-through frame on its egress: its trailer follows; where it is suspended there, after RESUME, which waits for the class-7 frames
(R101, R102). -/
def State.endCut (s : State) (q : Port) (h : Hdr) (trailer : W32) : State :=
  let y := s.port q
  let same : Hdr → Bool := fun g => g.source = h.source && g.cls = h.cls && g.seq = h.seq
  let out : State → State := fun s => s.emit (.ringTrailer q h.source h.cls h.seq trailer)
  if y.suspended.any (fun g => same g.1) then
    if y.tx.isSome || !(qFrames (s.queue (8 * q.toNat + 7))).isEmpty then s.setPort q { y with suspEnd := some trailer }
    else out ((s.setPort q { y with suspended := none }).emit (.ordered q 3))
  else out (s.setPort q { y with tx := if y.tx.any same then none else y.tx })

/-- Deliver a frame; its cells are free unless a queue has taken them. -/
def State.deliverEnd (s : State) (p : Port) (r : RxFrame) : State :=
  match s.deliverGood p r with
  | (s, true) => s
  | (s, false) => s.freeCellList r.cells

/-- Copies of a resolved frame that waited for it (R110): confirmed, they are duplicates; revoked, they are checked again. -/
def State.resolveCopies (s : State) (h : Hdr) : State :=
  let same : Frame → Bool := fun g => g.hdr.source = h.source && g.hdr.cls = h.cls && g.hdr.seq = h.seq
  let l := s.ring.copies.filter (fun c => same c.2.f)
  let s := { s with ring := { s.ring with copies := s.ring.copies.filter (fun c => !same c.2.f) } }
  l.foldl (fun s c => s.deliverEnd c.1 c.2) s

/-- A link-scope or flooded frame whose trailer is judged (R91, R108, R111). -/
def State.settleLink (s : State) (p : Port) (f : Frame) : State :=
  let h := f.hdr
  if h.typ = 6 && specField h 20 1 ≥ 6 then s.portCount p 8
  else if h.typ = 5 && specField h 20 1 ≥ 4 then s.portCount p 8
  else if !classOk h then s.portCount p 9
  else if s.testOut h then s.bump 0x2024 6
  else if s.tagMissing h || (h.auth && !s.tagGood f) then s.authFail h
  else { s with ring := { s.ring with linkQ := s.ring.linkQ ++ [(p, f)] } }

/-- A speculation tag is that of a frame received on port `p`. -/
def tagOf (t : SpecTag) (p : Port) (h : Hdr) : Bool := t.source = h.source && t.cls = h.cls && t.seq = h.seq && t.port = p

/-- The frame of tag `g` is unresolved at its latest confirmation instant (R152): revoked and counted; its trailer decides no more, and copies
that waited are checked again. -/
def State.specLate (s : State) (g : Nat) (t : SpecTag) : State :=
  let off : RxFrame → RxFrame := fun r => if r.lcl = .spec g && tagOf t t.port r.f.hdr then { r with lcl := .none } else r
  let s := s.setPort t.port { s.port t.port with rx := (s.port t.port).rx.map off }
  ((s.revokeTag g).bump 0x26A0 4).resolveCopies { typ := 0, cls := t.cls, source := t.source, dest := 0, seq := t.seq }

/-- A session frame of the ring fails its checks (R44). -/
def State.sessionBad (s : State) (h : Hdr) : State := if h.typ = 4 then s.bump 0x1209 1 else s

/-- The local outcome of a frame whose trailer is judged (R106, R108, R110). The answer says whether its cells are kept: by a queue, or by a copy
that waits. -/
def State.settleCells (s : State) (p : Port) (r : RxFrame) (good : Bool) : State × Bool :=
  let h := r.f.hdr
  let tagOk := !h.auth || s.tagGood r.f
  match r.lcl with
  | .none => (s, false)
  | .link => (if good then s.settleLink p r.f else s, false)
  | .spec g =>
    match s.specTag g with
    | none => (s, false)
    | some t =>
      if !tagOf t p h then (s, false)
      else if s.now10 > t.deadline then (s.specLate g t, false)
      else if good && tagOk then (((s.confirmTag g).dupEnter h).2.resolveCopies h, false)
      else
        let s := (s.revokeTag g).resolveCopies h
        (if good then s.authFail h else s, false)
  | .trailer =>
    if h.typ = 6 then (if good then s.settleLink p r.f else s, false)
    else if good && tagOk then
      let (s, kept) := s.deliverGood p r
      (s.resolveCopies h, kept)
    else
      let s := (s.resolveCopies h).sessionBad h
      (if good then s.authFail h else s, false)
  | .copy =>
    if !good then (s.sessionBad h, false)
    else if !tagOk then ((s.sessionBad h).authFail h, false)
    else if s.copyOpen h p then ({ s with ring := { s.ring with copies := s.ring.copies ++ [(p, r)] } }, true)
    else s.deliverGood p r

/-- A frame's reception ends: its local outcome, and its cells are free unless they are kept. -/
def State.settle (s : State) (p : Port) (r : RxFrame) (good : Bool) : State :=
  match s.settleCells p r good with
  | (s, true) => s
  | (s, false) => s.freeCellList r.cells

/-- An errored block or a CRC error on port `p`, for ERR_LIMIT (R119): those of the last second are kept, at most 1 001. -/
def State.errNote (s : State) (p : Port) : State :=
  let x := s.port p
  s.setPort p { x with errTimes := (s.clock :: x.errTimes.filter (fun t => s.clock - t < ticksMs 1000)).take 1001 }

/-- The trailer of the frame in progress on port `p` is compared with the computed CRC-32 (R87, R106): the items are
confirmed or revoked, a cut-through frame is ended unchanged or stomped, a stored one is forwarded or discarded. A
terminate block out of place is a CRC error (R107). -/
def execTrailerChecked (p : Port) (trailer : W32) (lengthOk : Bool) (s : State) : Host.Outcome State Fault Refusal :=
  match (s.port p).rx with
  | [] => .next s
  | r :: l =>
    let s := s.setPort p { s.port p with rx := l }
    let crc := crc32 (r.f.payload ++ r.f.tag)
    let good := lengthOk && trailer = crc
    let stomped := lengthOk && trailer = crc ^^^ 0xFFFFFFFF
    let s := if good then s else if stomped then s.portCount p 5 else (s.portCount p 4).errNote p
    match r.egress with
    | none => .next (s.settle p r good)
    | some q =>
      if r.cut then
        let s := if good || stomped then s else s.portCount q 6
        .next ((s.endCut q r.f.hdr (if good || stomped then trailer else crc ^^^ 0xFFFFFFFF)).settle p r good)
      else if good then .next ((s.storeForward p q r).settle p { r with cells := [] } good)
      else .next (s.settle p r good)

/-- Abort the frame in progress on port `p` after `got` bytes of payload and tag (R107): zeros up to the declared end, then
the inverted CRC; the local items are revoked and the error charged to the receiving port. -/
def State.rxAbort (s : State) (p : Port) (got : Nat) : State :=
  match (s.port p).rx with
  | [] => s
  | r :: l =>
    let s := ((s.setPort p { s.port p with rx := l }).portCount p 4).errNote p
    let body := r.f.payload ++ r.f.tag
    let sent := body.take got ++ List.replicate (r.f.hdr.length + 16 * b2n r.f.hdr.auth - min got body.length) 0
    let s := match r.egress with
      | some q => if r.cut then s.endCut q r.f.hdr (crc32 sent ^^^ 0xFFFFFFFF) else s
      | none => s
    s.settle p r false

/-- The receive link fails or gives an error block, during a frame (R107) or outside one (R119). -/
def execReceiveLinkError (p : Port) (got : Nat) (s : State) : Host.Outcome State Fault Refusal :=
  .next (if (s.port p).rx.isEmpty then s.errNote p else s.rxAbort p got)

/-- A speculative frame is unresolved at its latest confirmation instant (R152): it is revoked and counted. -/
def execSpecDeadline (g : Fin 4) (s : State) : Host.Outcome State Fault Refusal :=
  match s.specTag g with
  | some t => .next (if s.now10 < t.deadline then s else s.specLate g t)
  | none => .next s

end Sys2Proof.Machine
end

