-- ==== Sys2Proof/Machine/RingSup.lean ====
section
/-!
DEFINITION. Join, supervision, planned outages, training and the transmit synthesiser (R84, R85, R100–R102, R111–R122).
-/

namespace Sys2Proof.Machine

/-! ### Links going and coming -/

/-- The port can carry supervision: its link is up and trained and its synthesiser locked. -/
def State.linkLive (s : State) (p : Port) : Bool :=
  let x := s.port p
  !s.unused p && x.up && x.trained && x.synth

/-- The port has lost its place in the ring: it must pass R112 again. -/
def portUnjoin (x : RingPort) : RingPort := { x with joined := false, helloOk := false, delayMeas := 0, clean := 0, ownSeen := none }

/-- Record an unplanned link-down event of a node's port (R114). -/
def State.downAdd (s : State) (node port : Nat) : State :=
  { s with ring := { s.ring with down := (node, port) :: s.ring.down.filter (· ≠ (node, port)) } }

/-- Take a link-down event back. -/
def State.downDel (s : State) (node port : Nat) : State :=
  { s with ring := { s.ring with down := s.ring.down.filter (· ≠ (node, port)) } }

/-- An unplanned failure of the link on port `p` (R115): reported, sent as TOPOLOGY event 0 on the other port, and RING_STATE
opens. -/
def State.unplannedDown (s : State) (p : Port) : State :=
  let s := s.report { source := 0x04, syndrome := p.toNat }
  let s := s.topology 0 p (some p)
  ((s.downAdd s.node (portCode p)).event .topology [0, s.node, portCode p]).ringUpdate

/-- Abort every frame being received on a port (R107): how much of the first has arrived is free. -/
def State.rxAbortAll (s : State) (p : Port) : State :=
  (s.port p).rx.foldl (fun s _ => (s.rxAbort p (s.freeNat 12)).drew) s

/-- A port's link goes down (R107, R115, R116). In a planned outage the own ANNOUNCE keeps its last return, so RING_STATE does not open. -/
def State.linkDown (s : State) (p : Port) : State :=
  let s := s.rxAbortAll p
  let x := s.port p
  let planned := x.planned.isSome || x.outage.any (fun o => o.stage = .active)
  let s := s.setPort p { portUnjoin x with
    up := false, trained := false, training := false, tx := none, suspended := none, suspEnd := none, outage := none,
    ownSeen := if planned then x.ownSeen else none }
  let s := if planned then s.ringUpdate else s.unplannedDown p
  s.setPort p { s.port p with nbr := none }

/-- A port declares its link down (R115). -/
def execLinkDown (p : Port) (s : State) : Host.Outcome State Fault Refusal :=
  if (s.port p).up then .next (s.linkDown p) else .next s

/-- The receiver regains a signal: training or adaptation begins (R118), and automatic retrain is allowed again (R120). -/
def execLinkUp (p : Port) (s : State) : Host.Outcome State Fault Refusal :=
  let x := s.port p
  if s.unused p || x.up || s.modes.mode = .reset then .next s
  else .next (s.setPort p { x with up := true, training := true, trained := false, autoStopped := false, retrains := [], errTimes := [] })

/-- Training or adaptation ends (R118). -/
def execTrainingComplete (p : Port) (ok : Bool) (s : State) : Host.Outcome State Fault Refusal :=
  let x := s.port p
  if !x.training then .next s
  else if ok then .next (s.setPort p { x with training := false, trained := true, vert := 100, horiz := x.horiz })
  else .next (s.setPort p { x with training := false, trained := false, failedAt := some s.clock })

/-- 10 ms after a failure the port trains again, and the attempt is counted (R118). -/
def execTrainingRetryTimer (p : Port) (s : State) : Host.Outcome State Fault Refusal :=
  let x := s.port p
  if x.up && !x.trained && !x.training && s.media p = 1 && s.due x.failedAt (ticksMs 10) then
    .next ((s.setPort p { x with training := true }).portCount p 0x0E)
  else .next s

/-! ### HELLO and ANNOUNCE -/

/-- The HELLO frame of port `p` (R111). -/
def State.hello (s : State) (p : Port) : State :=
  let flags := b2n s.modes.pairId + 2 * b2n s.pairMember + 4 * b2n (s.unused p.other)
  s.supervise p [0, portCode p, flags, s.o 0x2001 0, 0, 0, 0, 0] (beBytes 8 s.serial)

/-- The period of HELLO and ANNOUNCE (R111). -/
def State.supPeriod (s : State) : Nat := if s.modes.mode = .join then ticksMs 1 else ticksMs 10

/-- HELLO is due on each live port (R111). -/
def execHelloTimer (s : State) : Host.Outcome State Fault Refusal :=
  if !s.ringOn || !s.due s.ring.helloAt s.supPeriod then .next s
  else
    let s := { s with ring := { s.ring with helloAt := some s.clock } }
    .next ([Port.a, Port.b].foldl (fun s p => if s.linkLive p then s.hello p else s) s)

/-- The ANNOUNCE frame, for port `p` (R111). -/
def State.announce (s : State) (p : Port) : State :=
  let active := fun q : Port => (s.port q).outage.any (fun o => o.stage = .active)
  let flags := b2n s.ring.a.joined + 2 * b2n s.ring.b.joined + 4 * b2n (s.unused .a || s.unused .b)
    + 8 * b2n (active .a || active .b)
  s.supervise p [1, flags, s.o 0x2001 0, 0, 0, 0, 0, 0] (beBytes 8 s.serial)

/-- A port's counts at an ANNOUNCE period: clean periods, and periods since the own ANNOUNCE returned. -/
def portPeriod (x : RingPort) : RingPort :=
  { x with clean := x.clean + 1, ownSeen := x.ownSeen.map (· + 1) }

/-- ANNOUNCE is due on both ports; a period of R112 and R114 ends. DESIGN CHOICE: the refusal of R113 ends when two periods have passed on both
ports without a second hub of the own number, as R112 lets a port join again. -/
def execAnnounceTimer (s : State) : Host.Outcome State Fault Refusal :=
  if !s.ringOn || !s.due s.ring.annAt s.supPeriod then .next s
  else
    let s := (s.setPort .a (portPeriod s.ring.a)).setPort .b (portPeriod s.ring.b)
    let s := { s with ring := { s.ring with annAt := some s.clock, dupNode := s.ring.dupNode && !(s.ring.a.clean ≥ 2 && s.ring.b.clean ≥ 2) } }
    .next ([Port.a, Port.b].foldl (fun s p => if s.linkLive p then s.announce p else s) s)

/-- What a HELLO says of the neighbour (R84, R111). -/
def helloNbr (f : Frame) : Nbr :=
  { node := f.hdr.source, pairId := bitOf (specField f.hdr 22 1) 0, pairMember := bitOf (specField f.hdr 22 1) 1,
    pairAddr := specField f.hdr 23 1, serial := ofBe f.payload }

/-- The hubs of the pair are neighbours (R85): the last HELLO on one of the ports came from the partner. -/
def State.pairAdjacent (s : State) : Bool := !s.pairMember || s.ring.a.partner || s.ring.b.partner

/-- Links to a node of the ring map through a port (R112). -/
def mapWay (e : MapEnt) (p : Port) : Nat := match p with | .a => e.award | .b => e.bward

/-- Port `p` of a hub whose partner is no neighbour faces away from it (R85). DEDUCED: by the ring map the partner is no nearer through it than
through the other port; a partner not yet in the map is near neither. -/
def State.facesAway (s : State) (p : Port) : Bool :=
  match s.ring.map.find? (fun e => e.2.pairAddr = s.o 0x2001 0) with
  | some e => mapWay e.2 p ≥ mapWay e.2 p.other
  | none => true

/-- HELLO from the neighbour on port `p`: the wiring (R84) and the pair's adjacency (R85) are checked again; a fault names
the port when a neighbour is first found wrong. -/
def execHelloReceived (p : Port) (s : State) : Host.Outcome State Fault Refusal :=
  match s.takeLink p (isSup 0) with
  | none => .next s
  | some (f, s) =>
    let n := helloNbr f
    let known := (s.port p).nbr = some n
    let wired := specField f.hdr 21 1 = portCode p.other
    let s := s.setPort p { s.port p with nbr := some n }
    let s := s.setPort p { s.port p with partner := s.partnerAt p }
    let s := if s.partnerAt p then { s with pair := { s.pair with node := n.node } } else s
    let ok := wired && (s.pairAdjacent || !s.facesAway p)
    let wait := !s.unused p.other && (s.port p.other).nbr.isNone
    let x := s.port p
    let s := s.setPort p { x with helloOk := ok, joined := x.joined && ok }
    if known || (wired && (s.pairAdjacent || wait)) then .next s.ringUpdate
    else .next (s.report { source := 0x00, syndrome := p.toNat + b2n wired * 2 ^ 24 }).ringUpdate

/-- A second hub answers to the own node number (R113): neither port stays joined; the fault names both serials. DESIGN CHOICE: the report
carries the low 32 bits of the other hub's serial in its syndrome and the low 48 bits of the own one in its address. -/
def State.dupNodeSeen (s : State) (serial : Nat) : State :=
  let first := !s.ring.dupNode
  let clr : RingPort → RingPort := fun x => { x with clean := 0, joined := false }
  let s := { s with ring := { s.ring with dupNode := true, a := clr s.ring.a, b := clr s.ring.b } }
  if first then s.report { source := 0x01, syndrome := serial % 2 ^ 32, address := s.serial % 2 ^ 48 } else s

/-- An ANNOUNCE arrives on port `p` (R112–R114): the own one has come round, or a second hub has the own number, or another
hub enters the ring map. DESIGN CHOICE: the own hub is no entry of the map and is not counted in RING_SIZE, and a hub that has announced itself
keeps its entry until reset. -/
def execAnnounceReceived (p : Port) (s : State) : Host.Outcome State Fault Refusal :=
  match s.takeLink p (isSup 1) with
  | none => .next s
  | some (f, s) =>
    if f.hdr.source = s.node then
      if ofBe f.payload = s.serial then .next (s.setPort p { s.port p with ownSeen := some 0 }).ringUpdate
      else .next (s.dupNodeSeen (ofBe f.payload)).ringUpdate
    else
      let m := tget {} s.ring.map f.hdr.source
      let links := min (s.o 0x2003 0 + 1 - f.hdr.hops) 0xFF
      let b := specField f.hdr 21 1
      let m := { m with lineEnd := bitOf b 2, planned := bitOf b 3, pairAddr := specField f.hdr 22 1 }
      let m := match p with
        | .a => { m with award := links }
        | .b => { m with bward := links }
      .next { s with ring := { s.ring with map := tset {} s.ring.map f.hdr.source m } }.ringUpdate

/-- The conditions of R112. -/
def State.joinOk (s : State) (p : Port) : Bool :=
  let x := s.port p
  s.linkLive p && x.helloOk && x.delayMeas ≥ 8 && x.clean ≥ 2 && !s.ring.dupNode

/-- Both ring ports have joined; an unused port counts as joined (R76). -/
def State.bothJoined (s : State) : Bool := [Port.a, Port.b].all (fun p => s.unused p || (s.port p).joined)

/-- A port joins (R112): its link-down event ends, and TOPOLOGY event 1 tells the ring (R115). -/
def execPortJoined (p : Port) (s : State) : Host.Outcome State Fault Refusal :=
  let x := s.port p
  if x.joined || !s.joinOk p then .next s
  else
    let s := (s.setPort p { x with joined := true, planned := none }).downDel s.node (portCode p)
    let s := if s.bothJoined then s.degrade 5 false else s
    .next ((s.topology 1 p none).event .topology [1, s.node, portCode p]).ringUpdate

/-- The own ANNOUNCE has not come round within three periods: RING_STATE is judged again (R114). -/
def execRingClosureTimeout (s : State) : Host.Outcome State Fault Refusal := .next s.ringUpdate

/-! ### LEAVE, notices and TOPOLOGY -/

/-- A neighbour's link is marked planned-down (R116). -/
def State.plannedMark (s : State) (p : Port) (m : Planned) : State := (s.setPort p { s.port p with planned := some m }).ringUpdate

/-- What a notice announces (R111). -/
def State.noticeOf (s : State) (f : Frame) (retrain : Bool) : Planned :=
  { bound := specField f.hdr 24 2, lead := specField f.hdr 22 2, since := s.clock, retrain := retrain }

/-- LEAVE from the neighbour (R116). -/
def execLeaveReceived (p : Port) (s : State) : Host.Outcome State Fault Refusal :=
  match s.takeLink p (isSup 2) with
  | some (_, s) => .next (s.plannedMark p { bound := 0, lead := 0, since := s.clock, retrain := false })
  | none => .next s

/-- RECAL_NOTICE from the neighbour (R116). -/
def execRecalNoticeReceived (p : Port) (s : State) : Host.Outcome State Fault Refusal :=
  match s.takeLink p (isSup 3) with
  | some (f, s) => .next (s.plannedMark p (s.noticeOf f false))
  | none => .next s

/-- RETRAIN_NOTICE from the neighbour (R116): when its lead has passed this end leaves ring service too (R120). -/
def execRetrainNoticeReceived (p : Port) (s : State) : Host.Outcome State Fault Refusal :=
  match s.takeLink p (isSup 4) with
  | some (f, s) => .next (s.plannedMark p (s.noticeOf f true))
  | none => .next s

/-- The bound of an own outage in µs (R120, R122). -/
def Outage.bound (o : Outage) : Nat := if o.recal then 150 else 2000

/-- The lead of an own outage's notice in µs (R120, R122). -/
def Outage.lead (o : Outage) : Nat := if o.recal then 1000 else 100

/-- A planned outage has exceeded its bound by 50 µs: it counts as an unplanned link failure (R116). -/
def execPlannedOutageOverrun (p : Port) (s : State) : Host.Outcome State Fault Refusal :=
  let x := s.port p
  if x.planned.any (fun m => m.bound ≠ 0 && ticksUs (m.lead + m.bound + 50) + m.since ≤ s.clock) then
    .next ((s.setPort p { x with planned := none }).unplannedDown p)
  else if x.outage.any (fun o => o.stage = .active && ticksUs (o.bound + 50) + o.since ≤ s.clock) then
    .next ((s.setPort p { x with outage := none, joined := false }).unplannedDown p)
  else .next s

/-- Two hubs announced within 1 ms: the lower node number proceeds and the other defers (R117). -/
def State.yieldOutage (s : State) (src : Nat) : State :=
  let f : RingPort → RingPort := fun x => match x.outage with
    | some o => if o.stage = .announced && s.clock - o.since ≤ ticksMs 1 && src < s.node
        then { x with outage := some { o with stage := .deferred } } else x
    | none => x
  { s with ring := { s.ring with a := f s.ring.a, b := f s.ring.b } }

/-- A neighbour's planned outage has ended. -/
def State.plannedEnd (s : State) (src : Nat) : State :=
  let f : RingPort → RingPort := fun x => if x.nbr.any (fun n => n.node = src) then { x with planned := none } else x
  { s with ring := { s.ring with a := f s.ring.a, b := f s.ring.b } }

/-- A TOPOLOGY frame (R111, R115, R117). -/
def execTopologyReceived (p : Port) (s : State) : Host.Outcome State Fault Refusal :=
  match s.takeLink p (isSup 5) with
  | none => .next s
  | some (f, s) =>
    let src := f.hdr.source
    let ev := specField f.hdr 21 1
    let port := specField f.hdr 22 1
    let planned : Bool → State → State := fun b s =>
      { s with ring := { s.ring with map := tset {} s.ring.map src { tget {} s.ring.map src with planned := b } } }
    let rec_ : State → State := fun s => (s.event .topology [ev, src, port]).ringUpdate
    match ev with
    | 0 => .next (rec_ (s.downAdd src port))
    | 1 => .next (rec_ (s.downDel src port))
    | 2 =>
      let s := planned true s
      .next (rec_ ({ s with ring := { s.ring with otherOutage := some (s.clock, src) } }.yieldOutage src))
    | 3 => .next (rec_ ((planned false s).plannedEnd src))
    | _ => .next s

/-! ### Own planned outages (R117, R120–R122) -/

/-- The own outage must wait (R117): the other port is not in service, or another hub's outage is active or was announced
within the last 5 ms. -/
def State.outageBlocked (s : State) (p : Port) : Bool :=
  !s.ready p.other || s.ring.map.any (fun e => e.2.planned)
    || (match s.ring.otherOutage with | some (t, _) => s.clock - t < ticksMs 5 | none => false)

/-- Announce the outage: the notice to the neighbour and TOPOLOGY event 2, or defer it (R117, R120, R122). -/
def State.outageTry (s : State) (p : Port) (o : Outage) : State :=
  if s.outageBlocked p then s.setPort p { s.port p with outage := some { o with stage := .deferred } }
  else
    let s := s.setPort p { s.port p with outage := some { o with stage := .announced, since := s.clock } }
    let sub := if o.recal then 3 else 4
    (s.supervise p [sub, portCode p, o.lead / 256, o.lead, o.bound / 256, o.bound, 0, 0] []).topology 2 p none

/-- A retrain is asked for (R120): once in 10 s; after 4 within one hour without recovery automatic retrain stops. -/
def State.retrainTry (s : State) (p : Port) : State :=
  let x := s.port p
  let hour := x.retrains.filter (fun t => s.clock - t < ticksMs 3600000)
  if x.outage.isSome || x.autoStopped || !x.joined then s
  else if x.lastRetrain.any (fun t => s.clock - t < ticksMs 10000) then s
  else if hour.length ≥ 4 then
    (s.setPort p { x with autoStopped := true }).report { source := 0x03, syndrome := p.toNat }
  else s.outageTry p { recal := false, stage := .deferred, since := s.clock }

/-- The margin is read with the vertical one below MARGIN_RETRAIN for 10 ms (R119): a fall below MARGIN_WARN raises source 0x02; a margin above
MARGIN_WARN ends the count of R120. -/
def execMarginRetrainTimeout (p : Port) (vert horiz : Nat) (s : State) : Host.Outcome State Fault Refusal :=
  let x := s.port p
  let warn := s.o 0x2006 1
  let s := s.setPort p { x with
    vert := min vert 255, horiz := min horiz 255, retrains := if vert > warn then [] else x.retrains }
  let s := if vert < warn && x.vert ≥ warn then s.report { source := 0x02, syndrome := p.toNat } else s
  if vert < s.o 0x2006 2 && s.o 0x2007 0 = 1 then .next (s.retrainTry p) else .next s

/-- More than ERR_LIMIT errored blocks or CRC errors within 1 s: the port retrains (R119). -/
def execErrorLimitExceeded (p : Port) (s : State) : Host.Outcome State Fault Refusal :=
  let n := ((s.port p).errTimes.filter (fun t => s.clock - t < ticksMs 1000)).length
  .next (if n > s.o 0x2006 3 then s.retrainTry p else s)

/-- 50 ms of deferral: the recalibration proceeds as unplanned (R117), a loss of lock that is not announced (R122). -/
def execRecalDeferTimeout (p : Port) (s : State) : Host.Outcome State Fault Refusal :=
  let x := s.port p
  match x.outage with
  | some o =>
    if o.recal && o.stage = .deferred && ticksMs 50 + o.since ≤ s.clock then
      let s := s.setPort p { portUnjoin x with synth := false, outage := none, calTemp := some o.temp, tx := none, suspended := none, suspEnd := none }
      .next ((s.portCount p 0x0F).unplannedDown p)
    else .next s
  | none => .next s

/-- 5 ms after another hub's announcement a deferred outage is tried again (R117). -/
def execOutageDeferralExpiry (p : Port) (s : State) : Host.Outcome State Fault Refusal :=
  match (s.port p).outage with
  | some o => if o.stage = .deferred then .next (s.outageTry p o) else .next s
  | none => .next s

/-- A queued frame moves to the other port with its DIR and a fresh HCRC (R120). -/
def redirect (q : Port) (f : QFrame) : QFrame :=
  match f.pkt with
  | .ring g => { f with pkt := .ring { g with hdr := hdrSeal { g.hdr with dir := decide (q = .b) } } }
  | _ => f

/-- The frame is a copy of a duplicated frame. -/
def qDup (f : QFrame) : Bool := match f.pkt with | .ring g => g.hdr.dup | _ => false

/-- The frame has link scope and belongs to its port. -/
def qLink (f : QFrame) : Bool := match f.pkt with | .ring g => linkScope g.hdr | _ => false

/-- A queued frame enters the same class's queue of another port, with the cells it has (R120). DESIGN CHOICE: one that fits nowhere is dropped as a
tail drop. -/
def State.requeue (s : State) (q : Port) (f : QFrame) : State :=
  let on := f.cells.all (fun c => decide (c < 32256))
  let s := if on then s else s.freeCellList f.cells
  let f := redirect q f
  let i : InFrame := { pkt := f.pkt, cls := f.cls, colour := f.colour, src := f.src, dst := q.toNat, rx := f.rx, cells := if on then f.cells else [] }
  let k := 8 * q.toNat + f.cls
  match s.fit k f.n i.cells.length false with
  | .no => s.dropIn i 2
  | r => s.place k i r

/-- Move the queued frames of port `p`, class `k`, to the other port; copies of duplicated frames are discarded (R120). -/
def State.moveQueue (s : State) (p : Port) (k : Nat) : State :=
  let q := 8 * p.toNat + k
  let a := s.queue q
  let keep : List QFrame → List QFrame := fun l => l.filter (fun f => !qDup f && qLink f)
  let l := qFrames a
  let s := s.setQueue q (qSettle s.clock { a with onchip := keep a.onchip, kennel := keep a.kennel, returned := keep a.returned })
  let s := (l.filter qDup).foldl (fun s f => s.freeCellList f.cells) s
  (l.filter (fun f => !qDup f && !qLink f)).foldl (fun s f => s.requeue p.other f) s

/-- A port leaves ring service for a retrain (R120): what is in flight on the link is lost, and its queued frames go the other way. -/
def State.leaveService (s : State) (p : Port) : State :=
  let s := s.rxAbortAll p
  let s := s.setPort p { s.port p with trained := false, training := true, tx := none, suspended := none, suspEnd := none }
  (List.range 8).foldl (fun s k => s.moveQueue p k) s

/-- The lead of a notice has passed: the port leaves ring service and the recalibration or retrain begins, at both ends of a link that retrains
(R120–R122). -/
def execNoticeLeadExpiry (p : Port) (s : State) : Host.Outcome State Fault Refusal :=
  let x := s.port p
  match x.outage, x.planned with
  | some o, _ =>
    if o.stage ≠ .announced || s.clock < ticksUs o.lead + o.since then .next s
    else
      let s := s.setPort p { x with outage := some { o with stage := .active, since := s.clock } }
      if o.recal then .next (s.setPort p { s.port p with synth := false }).ringUpdate
      else .next (s.leaveService p).ringUpdate
  | none, some m =>
    if !m.retrain || m.out || s.clock < ticksUs m.lead + m.since then .next s
    else .next ((s.setPort p { x with planned := some { m with out := true } }).leaveService p).ringUpdate
  | none, none => .next s

/-- A retrain is done: the port rejoins, and TOPOLOGY event 3 ends the outage (R120). -/
def execRetrainDone (p : Port) (s : State) : Host.Outcome State Fault Refusal :=
  let x := s.port p
  match x.outage with
  | some o =>
    if o.stage = .active && !o.recal then
      let s := s.setPort p { x with
        outage := none, trained := true, training := false, lastRetrain := some s.clock, retrains := s.clock :: x.retrains.take 7 }
      .next ((s.portCount p 0x0E).topology 3 p none).ringUpdate
    else .next s
  | none => .next s

/-- The die has drifted 10 °C since the band was calibrated: a recalibration is asked for (R122). -/
def execSynthRecalStart (p : Port) (temp : Int) (s : State) : Host.Outcome State Fault Refusal :=
  let x := s.port p
  if x.calTemp.any (fun t => (temp - t).natAbs ≥ 10) && x.outage.isNone && x.synth then
    .next (s.outageTry p { recal := true, stage := .deferred, since := s.clock, temp := temp })
  else .next s

/-- An unannounced loss of lock: counted, and RING_STATE opens until the port rejoins (R121, R122). -/
def execSynthLockLoss (p : Port) (s : State) : Host.Outcome State Fault Refusal :=
  let x := s.port p
  if !x.synth then .next s
  else
    let s := s.setPort p { portUnjoin x with synth := false, tx := none, suspended := none, suspEnd := none }
    .next ((s.portCount p 0x0F).downAdd s.node (portCode p)).ringUpdate

/-- The synthesiser locks (R121): its first lock calibrates the band at the die's temperature, and an announced recalibration ends with it
(R122). -/
def execSynthRelock (p : Port) (s : State) : Host.Outcome State Fault Refusal :=
  let s := s.synthLock p
  match (s.port p).outage with
  | some o =>
    if o.recal && o.stage = .active then
      .next ((s.setPort p { s.port p with outage := none, calTemp := some o.temp }).topology 3 p none).ringUpdate
    else .next s
  | none => .next s

/-! ### Ordered sets (R100–R102) -/

/-- The port has sent nothing for 10 µs: KEEP (R100). -/
def execKeepTimer (p : Port) (s : State) : Host.Outcome State Fault Refusal :=
  let x := s.port p
  if s.linkLive p && s.ringOn && x.tx.isNone && s.due x.quietAt (ticksUs 10) then
    .next ((s.setPort p { x with quietAt := some s.clock }).emit (.ordered p 1))
  else .next s

/-- A class-7 frame waits behind a lower frame (R101): the frame is suspended at a multiple of 64 bytes, unless 64 bytes or
fewer remain. -/
def execClass7Suspend (p : Port) (off : Nat) (s : State) : Host.Outcome State Fault Refusal :=
  let x := s.port p
  let q := s.queue (8 * p.toNat + 7)
  match x.tx with
  | some h =>
    if h.cls ≠ 7 && !(q.onchip.isEmpty && q.returned.isEmpty) && off % 64 = 0
        && off + 64 < h.length + 16 * b2n h.auth + 4 then .next (s.suspend p h off)
    else .next s
  | none => .next s

/-- The frame being received on port `p` is suspended upstream, until its reception goes on to its end: its cut-through egress suspends it at the
same offset (R102). -/
def execSuspendReceived (p : Port) (off : Nat) (s : State) : Host.Outcome State Fault Refusal :=
  match (s.port p).rx with
  | r :: l =>
    let s := s.setPort p { s.port p with rx := { r with upSusp := true } :: l }
    match r.egress with
    | some q =>
      match (s.port q).tx with
      | some h => if r.cut && h.seq = r.f.hdr.seq && h.source = r.f.hdr.source && h.cls = r.f.hdr.cls then .next (s.suspend q h off) else .next s
      | none => .next s
    | none => .next s
  | [] => .next s

end Sys2Proof.Machine
end

