-- ==== Sys2Proof/Machine/Remote.lean ====
section
/-!
DEFINITION. Remote fabric accesses at their originator (R40, R92, R173, R174, R381, R382, R389): parts, answers, and how an access ends.
-/

namespace Sys2Proof.Machine

/-- The remote access with a number. -/
def State.remote (s : State) (id : Nat) : Option Remote := s.ring.remotes.find? (fun r => r.id = id)

/-- A remote access is over. -/
def State.remoteDrop (s : State) (id : Nat) : State :=
  { s with ring := { s.ring with remotes := s.ring.remotes.filter (fun r => r.id ≠ id) } }

/-- Every part has been sent. -/
def Remote.sent (r : Remote) : Bool := (List.range r.parts).all (fun k => (tget none r.seqs k).isSome)

/-- Every part has been sent and answered. -/
def Remote.done (r : Remote) : Bool := r.sent && (List.range r.parts).all (fun k => (tget none r.answers k).isSome)

/-- The lowest-numbered part that is not answered with status 0. -/
def Remote.firstBad (r : Remote) : Option Nat := (List.range r.parts).find? (fun k => tget none r.answers k ≠ some 0)

/-- The abort code an access ends with, or none (R40, R173, R174). Answers 4 and 5 are the model's own, of a broadcast part that was
refused here; no frame brings them. -/
def Remote.code (r : Remote) : Option Nat :=
  match r.firstBad with
  | none => none
  | some k =>
    some (if r.parts > 1 then (if r.write then Abort.partialWrite + k else Abort.splitReadFailed)
      else match tget none r.answers k with
        | none => Abort.remoteNodeSilent
        | some 1 => Abort.addressError
        | some 2 => Abort.uncorrectableError
        | some 4 => Abort.valueOutOfRange
        | some 5 => Abort.selectionRegisterRefused
        | some _ => Abort.busyRetry)

/-- The bytes of a read whose parts are all answered. -/
def Remote.data (r : Remote) : List Byte := (List.range r.parts).flatMap (fun k => tget [] r.bytes k)

/-- The whole fabric address of an access (R16). -/
def Remote.fabAddr (r : Remote) : Nat := r.node * 2 ^ 40 + r.addr % 2 ^ 40

/-- Host reads that wait on an access are answered from its bytes, which begin at a fabric address, or fail (R381, R391). -/
def State.hostReadsEnd (s : State) (id start : Nat) (data : Except Nat (List Byte)) : State :=
  let l := s.bridge.reads.filter (fun h => h.id = id)
  let s := { s with bridge := { s.bridge with reads := s.bridge.reads.filter (fun h => h.id ≠ id) } }
  l.foldl (fun s h => match data with
    | .ok b => s.emit (.data .pcie (h.want.map (fun a => b.getD (a - start) 0)))
    | .error c => s.hostReadFail h.want.length c (h.want.headD start)) s

/-- A posted write of the host is resolved (R389); a failure is latched and counted (R381). -/
def State.postedEnd (s : State) (r : Remote) : State :=
  let s := { s with bridge := { s.bridge with posted := s.bridge.posted.filter (· ≠ r.id) } }
  match r.code with
  | none => s
  | some c => { s with bridge := { s.bridge with fenceFails := s.bridge.fenceFails ++ [(r.id, c)] } }.hostFail c r.fabAddr

/-- A remote access ends: who asked for it is answered. -/
def State.remoteEnd (s : State) (r : Remote) : State :=
  let s := s.remoteDrop r.id
  match r.who with
  | .session n =>
    match r.code with
    | some c => s.answerAs n (if r.write then 0x19 else 0x18) (.abort c)
    | none => s.answerAs n (if r.write then 0x19 else 0x18) (.ok (if r.write then [] else r.data))
  | .host id =>
    if r.write then s.postedEnd r
    else s.hostReadsEnd id r.fabAddr (match r.code with | some c => .error c | none => .ok r.data)

/-- The access is a line fill of the prefetch buffer (R394), which ends by a command of its own. -/
def State.isFill (s : State) (id : Nat) : Bool := s.bridge.fills.any (fun f => f.id = id)

/-- End an access whose parts are all sent and answered. -/
def State.remoteSettle (s : State) (id : Nat) : State :=
  match s.remote id with
  | some r => if r.done && !s.isFill id then s.remoteEnd r else s
  | none => s

/-! ### Starting an access (R390) -/

/-- A range cut at every 2 048-byte boundary of its address, with the offset of each part. -/
def parts2k (addr off : Nat) : Nat → Nat → List (Nat × Nat)
  | 0, _ => []
  | f + 1, len =>
    if len = 0 then []
    else
      let n := min len (2048 - (addr + off) % 2048)
      (off, n) :: parts2k addr (off + n) f (len - n)

/-- The parts of an access: offset and length of each. -/
def splitParts (addr len : Nat) : List (Nat × Nat) := parts2k addr 0 (len / 2048 + 2) len

/-- The frame of one part (R86, R90): a request of several parts has SPLIT set, and LAST on its last. -/
def State.partFrame (s : State) (id node addr : Nat) (data : Option (List Byte)) (count k : Nat) (p : Nat × Nat) : Orig :=
  let a := node * 2 ^ 40 + (addr + p.1) % 2 ^ 40
  let h : Hdr := { typ := 1, cls := 3, source := s.node, dest := node, split := decide (count > 1), last := decide (count > 1) && k + 1 = count }
  match data with
  | none => { hdr := { h with spec := a * 2 ^ 16 + p.2 }, payload := [], src := 4, remote := some (id, k) }
  | some d =>
    { hdr := { h with typ := 2, length := p.2, spec := a * 2 ^ 16 + k * 2 ^ 8 + count % 256 },
      payload := (d.drop p.1).take p.2, src := 4, remote := some (id, k) }

/-- Start a remote access: its parts are originated in order. `pre` are answers known already. -/
def State.remoteStart (s : State) (who : Asker) (node addr len : Nat) (data : Option (List Byte)) (pre : Tab (Option Nat)) : State :=
  let id := s.ring.nextId
  let ps := splitParts addr len
  let r : Remote := {
    id := id, who := who, write := data.isSome, node := node, addr := addr, len := len, parts := ps.length, answers := pre }
  let fs := (ps.zip (List.range ps.length)).map (fun p => s.partFrame id node addr data ps.length p.2 p.1)
  { s with ring := { s.ring with nextId := id + 1, remotes := s.ring.remotes ++ [r], orig := s.ring.orig ++ fs } }

/-! ### Answers -/

/-- An answer's header names a part of an access: its SEQ, its part number for a write, and the type of the request (R90). -/
def Remote.matches (r : Remote) (h : Hdr) : Option Nat :=
  (List.range r.parts).find? (fun k => tget none r.seqs k = some (specField h 20 2) && (tget none r.answers k).isNone
    && (if r.write then specField h 25 1 = 2 && specField h 23 1 = k else specField h 25 1 = 1))

/-- A type-3 frame reaches the originator (R92): the part it names is answered; one that names none is late and discarded. -/
def execReadResponseReceived (s : State) : Host.Outcome State Fault Refusal :=
  match s.takeDelivered (fun h => h.typ = 3) with
  | none => .next s
  | some (f, s) =>
    match s.ring.remotes.find? (fun r => (r.matches f.hdr).isSome) with
    | none => .next s
    | some r =>
      match r.matches f.hdr with
      | none => .next s
      | some k =>
        let r := { r with answers := tset none r.answers k (some (min (specField f.hdr 22 1) 3)), bytes := tset [] r.bytes k f.payload }
        .next ({ s with ring := { s.ring with remotes := s.ring.remotes.map (fun x : Remote => if x.id = r.id then r else x) } }.remoteSettle r.id)

/-- REMOTE_TIMEOUT has passed since the last part was sent (R173, R174): a session's access, or a posted write of the host, ends with
what is answered. Host reads follow READ_DEADLINE alone (R382). -/
def execSplitRemoteTimeout (id : Nat) (s : State) : Host.Outcome State Fault Refusal :=
  match s.remote id with
  | none => .next s
  | some r =>
    let host := match r.who with | .host _ => !r.write | .session _ => false
    let late := match r.sentAt with | some t => decide (s.clock ≥ ticksMs (s.o 0x1202 2) + t) | none => false
    if host || !late || !r.sent then .next s else .next (s.remoteEnd r)

end Sys2Proof.Machine
end

