-- ==== Sys2Proof/Machine/RingTx.lean ====
section
/-!
DEFINITION. Origination of ring frames (R96, R98, R99, R139, R184, R411–R413, R481, R549).
-/

namespace Sys2Proof.Machine

/-! ### Admission -/

/-- The class-7 bucket refilled to the present edge (R98), in 1/2000 byte. -/
def State.bucketNow (s : State) : Int :=
  min ((2000 * s.o 0x2005 1 : Nat) : Int) (s.ring.bucket + ((s.clock - s.ring.bucketAt) * s.o 0x2005 2 : Nat))

/-- The bucket admits a frame of `w` wire bytes (R98). -/
def State.bucketAdmits (s : State) (w : Nat) : Bool :=
  let full := 2000 * s.o 0x2005 1
  (if 2000 * w > full then decide (s.bucketNow = full) else decide (s.bucketNow ≥ ((2000 * w : Nat) : Int)))

/-- Take a frame's wire bytes from the bucket. -/
def State.bucketTake (s : State) (w : Nat) : State :=
  { s with ring := { s.ring with bucket := s.bucketNow - ((2000 * w : Nat) : Int), bucketAt := s.clock } }

/-- The hub has originated 32 768 frames of the class within the last 64 ms (R98). -/
def State.classFull (s : State) (cls : Nat) : Bool :=
  ((tget [] s.ring.sentTimes cls).filter (fun t => s.clock - t < ticksMs 64)).length ≥ 32768

/-- Next SEQ of a class, and its advance (R86, R99). -/
def State.takeSeq (s : State) (cls : Nat) : Nat × State :=
  let n := tget 0 s.ring.seqs cls
  let times := (tget [] s.ring.sentTimes cls).filter (fun t => s.clock - t < ticksMs 64)
  (n, { s with ring := { s.ring with
    seqs := tset 0 s.ring.seqs cls ((n + 1) % 65536), sentTimes := tset [] s.ring.sentTimes cls (s.clock :: times) } })

/-! ### Policers (R139) -/

/-- The policer bound to a source port and class. -/
def State.policer (s : State) (src cls : Nat) : Option Nat :=
  (List.range 64).find? (fun p => s.o (0x2140 + p) 5 = 0x80 + src * 16 + cls)

/-- Colour a frame of `b` bytes at policer `p`: tokens in 1/2 000 000 byte, so that CIR in kbit/s adds that many an edge. -/
def State.police (s : State) (p b : Nat) : State × Nat :=
  let o := 0x2140 + p
  let u := 2000000
  let cap := (u * s.o o 2, u * s.o o 4)
  let (tc, tp) := match s.sw.police.find? (fun e => e.1 = p) with
    | some (_, tc, tp, at_) =>
      (min cap.1 (tc + (s.clock - at_) * s.o o 1), min cap.2 (tp + (s.clock - at_) * s.o o 3))
    | none => cap
  let (colour, tc, tp) :=
    if tp < u * b then (2, tc, tp) else if tc < u * b then (1, tc, tp - u * b) else (0, tc - u * b, tp - u * b)
  ({ s with sw := { s.sw with police := tput p (tc, tp, s.clock) s.sw.police } }, colour)

/-- The colour of an originated frame (R139): classes 5–7 and frames with no policer are green. -/
def State.colour (s : State) (src cls b : Nat) : State × Nat :=
  if cls ≥ 5 || src < 2 then (s, 0)
  else match s.policer src cls with
    | some p => s.police p b
    | none => (s, 0)

/-! ### Parts of remote accesses -/

/-- A part of a remote access is handed to the switch under a sequence number (R92, R173), or, with a number of no frame, is discarded here. -/
def State.partSent (s : State) (part : Option (Nat × Nat)) (seq : Nat) : State :=
  match part with
  | none => s
  | some (id, k) =>
    { s with ring := { s.ring with remotes := s.ring.remotes.map (fun r : Remote =>
      if r.id ≠ id then r else { r with seqs := tset none r.seqs k (some seq), sentAt := some s.clock }) } }

/-- The part of an access that an own frame carries. -/
def Remote.partOf (r : Remote) (h : Hdr) : Option Nat :=
  if h.cls = 3 && h.typ = (if r.write then 2 else 1) then (List.range r.parts).find? (fun k => tget none r.seqs k = some h.seq) else none

/-- An own frame leaves on the ring: REMOTE_TIMEOUT counts from the last part sent (R173), and a part of a broadcast write, which was applied here,
counts as answered, which may end its access (R92). -/
def State.partLeft (s : State) (h : Hdr) : State :=
  match s.ring.remotes.find? (fun r => (r.partOf h).isSome) with
  | none => s
  | some r =>
    match r.partOf h with
    | none => s
    | some k =>
      let r := { r with
        sentAt := some s.clock,
        answers := if r.node = 0xFF && (tget none r.answers k).isNone then tset none r.answers k (some 0) else r.answers }
      State.remoteSettle { s with ring := { s.ring with remotes := s.ring.remotes.map (fun x : Remote => if x.id = r.id then r else x) } } r.id

/-! ### Tags (R411–R413) -/

/-- The tag of an own frame whose first header bit leaves now, with the count in ORIGIN_ST32 (R411–R413); `none` when the count would lead wide
time by more than 1 s (counted), or the key has been used up. -/
def State.tagFrame (s : State) (h : Hdr) (payload : List Byte) : State × Option Stamp :=
  let n := h.keySlot
  let k := s.slot n
  if !slotServes k 0 then ((s.bump 0x8020 3).report { source := 0x72, syndrome := n }, none)
  else
    let count := if s.nsCount > k.lastCount then s.nsCount else k.lastCount + 1
    if count > 1000000000 + s.nsCount then (s.bump 0x8020 4, none)
    else
      let h := { h with originSt32 := count % 2 ^ 32 }
      let tag := Config.gmac k.key (ringIv h count) (frameAad { hdr := h, payload := payload })
      let s := s.setSlot n { k with lastCount := count }
      ((s.useKey n).bump 0x8020 1, some { st32 := count % 2 ^ 32, slot := n, tag := tag })

/-- Key of a frame in the table of stamps. -/
def stampKey (h : Hdr) : Nat := h.cls * 65536 + h.seq

/-- The first header bit of an own frame leaves (R86): the copy that leaves first takes ORIGIN_ST32 and its tag, which the other one carries too;
`none` when it is discarded. -/
def State.stampOut (s : State) (f : Frame) : State × Option Frame :=
  let h := f.hdr
  let put : Stamp → Frame := fun t =>
    { f with hdr := hdrSeal { h with originSt32 := t.st32 }, tag := t.tag }
  let note : State → Stamp → State := fun s t =>
    if h.dup then { s with ring := { s.ring with stamps := tset none s.ring.stamps (stampKey h) (some t) } } else s
  match if h.dup then tget none s.ring.stamps (stampKey h) else none with
  | some t => (s, if t.gone then none else some (put t))
  | none =>
    if h.auth then
      match s.tagFrame h f.payload with
      | (s, some t) => ((note s t).partLeft h, some (put t))
      | (s, none) => (note s { st32 := 0, gone := true }, none)
    else
      let t : Stamp := { st32 := s.st32 }
      ((note s t).partLeft h, some (put t))

/-! ### Directions and copies (R96) -/

/-- The class is sent in both directions (R95). -/
def State.dupClass (s : State) (cls : Nat) : Bool := cls ≥ 6 || (cls ≠ 5 && bitOf (s.o 0x2004 0) cls)

/-- The direction with fewer links to a node, A-ward when equal or broadcast (R96). -/
def State.shortWay (s : State) (dest : Nat) : Port :=
  let m := tget {} s.ring.map dest
  if dest ≠ 0xFF && m.bward < m.award then .b else .a

/-- The ports a frame leaves by now: none while it must wait. -/
def State.waysOut (s : State) (o : Orig) : List Port :=
  match o.port with
  | some p => if s.linkLive p then [p] else []
  | none =>
    if s.dupClass o.hdr.cls then [Port.a, Port.b].filter (fun p => s.ready p)
    else
      let p := s.shortWay o.hdr.dest
      if s.ready p then [p] else if s.ready p.other then [p.other] else []

/-- Put one copy of a frame at the switch's ingress, for egress port `p`. -/
def State.toSwitch (s : State) (f : Frame) (src : Nat) (p : Port) : State :=
  let h := { f.hdr with dir := decide (p = .b) }
  let i : InFrame := { pkt := .ring { f with hdr := h }, cls := h.cls, colour := h.colour, src := src, dst := p.toNat }
  { s with sw := { s.sw with ingress := s.sw.ingress ++ [i] } }

/-! ### Origination -/

/-- A standby originates only link and supervision frames, responses, mirror frames and barks (R481). -/
def standbyMay (h : Hdr) : Bool := h.typ = 3 || h.typ = 4 || h.typ = 5 || h.typ = 6 || h.typ = 8 || h.typ = 9

/-- A hub with a duplicate node number originates only HELLO and ANNOUNCE (R113). -/
def dupMay (h : Hdr) : Bool := h.typ = 6 && (specField h 20 1 = 0 || specField h 20 1 = 1)

/-- The frame can be sent now (R98, R99, R113): the class limit, and a port to leave by. -/
def State.canSend (s : State) (o : Orig) : Bool :=
  !s.classFull o.hdr.cls && (!s.ring.dupNode || dupMay o.hdr) && !(s.waysOut o).isEmpty
    && (o.hdr.cls ≠ 7 || s.ring.c7wait.isEmpty)

/-- Send a complete frame: sequence number, colour, key slot, copies (R86, R96, R139, R184, R411); ORIGIN_ST32 and the tag follow when it leaves. A
frame of a tagged class without a usable key is discarded, counted and reported. The class-7 bucket admits it, or it waits and is counted
(R98). -/
def State.send (s : State) (o : Orig) : State :=
  let (seq, s) := s.takeSeq o.hdr.cls
  let tagged := bitOf (s.o 0x8010 1) o.hdr.cls
  let slot := s.o 0x8010 2
  let h := { o.hdr with
    version := 1, seq := seq, hops := s.o 0x2003 0, length := o.payload.length,
    dup := o.port.isNone && s.dupClass o.hdr.cls,
    auth := tagged, tagMode := if tagged then 1 else 0, keySlot := if tagged then slot else 0 }
  let s := { s with ring := { s.ring with
    stamps := tset none s.ring.stamps (stampKey h) none, relays := tset none s.ring.relays (stampKey h) o.rxAt } }
  if tagged && !slotServes (s.slot slot) 0 then
    ((s.bump 0x8020 3).report { source := 0x72, syndrome := slot }).partSent o.remote 65536
  else
    let s := s.partSent o.remote seq
    let (s, colour) := s.colour o.src h.cls (frameBytes h)
    let f : Frame := { hdr := { h with colour := colour }, payload := o.payload }
    if h.cls = 7 && !s.bucketAdmits (frameBytes h + 12) then
      { s with ring := { s.ring with c7wait := s.ring.c7wait ++ [{ o with hdr := f.hdr }] } }.bump 0x2024 7
    else
      let s := if h.cls = 7 then s.bucketTake (frameBytes h + 12) else s
      (s.waysOut o).foldl (fun s p => s.toSwitch f o.src p) s

/-- The packet a ring-consumed channel sends next (R184): up to its EOP, at most 512 items; a cut, or an item outside a
packet, is counted. -/
def State.ringPacket (s : State) (c : Nat) : Option (List Item × Bool) :=
  let x := s.chan c
  let l := x.items.takeWhile (fun i => i.unc.isNone)
  if s.o 0x5002 0 c / 0x1000 ≠ 2 || x.quarantined then none
  else match l with
    | [] => none
    | h :: _ =>
      if !x.inPacket && !h.sop then some ([h], true)
      else
        let p := (l.take 512).takeWhile (fun i => !i.eop)
        match (l.take 512).drop p.length with
        | e :: _ => some (p ++ [e], false)
        | [] => if l.length ≥ 512 then some (l.take 512, true) else none

/-- Take a packet of channel `c` out of it. -/
def State.takePacket (s : State) (c : Nat) (l : List Item) (odd : Bool) : State :=
  let x := s.chan c
  let s := s.setChan c { x with
    items := x.items.drop l.length, itemsOut := (x.itemsOut + l.length) % 2 ^ 32,
    inPacket := (match l.getLast?, l.head? with
      | some e, some h => !e.eop && (x.inPacket || h.sop)
      | _, _ => false) }
  if odd then s.bump 0x5012 3 c else s

/-- The frame of a channel packet (R184). -/
def State.packetFrame (s : State) (c : Nat) (l : List Item) : Orig :=
  { hdr := { typ := 0, cls := s.o 0x5004 3 c, source := s.node, dest := s.o 0x5004 1 c, destCh := s.o 0x5004 2 c,
             length := 4 * l.length, spec := specOf [l.length / 256, l.length, 0, 0, 0, 0, 0, 0] }
    payload := (l.map (fun i => beBytes 4 (itemWord i))).flatten, src := 5 }

/-- The source of port 5 is held by the switch (R134). -/
def State.chanHeld (s : State) : Bool := s.sw.held.any (fun f => f.src = 5)

/-- The first channel with a packet that can be sent now. -/
def State.nextPacket (s : State) : Option (Nat × List Item × Bool) :=
  (s.chanKeys.filterMap (fun c => (s.ringPacket c).map (fun p => (c, p.1, p.2)))).find?
    (fun p => s.modes.mode = .standby || (!s.chanHeld && s.canSend (s.packetFrame p.1 p.2.1)))

/-- The first waiting frame that can be sent now, with no earlier one of its class. -/
def State.nextOrig (s : State) : List Orig → List Orig → Option (Orig × List Orig)
  | _, [] => none
  | seen, o :: l =>
    if s.canSend o && !seen.any (fun p => p.hdr.cls = o.hdr.cls && p.port = o.port) then some (o, seen ++ l)
    else s.nextOrig (seen ++ [o]) l

/-- The hub originates one frame that is complete for the switch (R549): a unit's frame first, else a channel packet. A
standby discards what it may not originate and counts its channel packets (R481). -/
def execFrameOriginate (s : State) : Host.Outcome State Fault Refusal :=
  if !s.ring.origOn || !s.ringOn then .next s
  else
    let s := if s.modes.mode = .standby then
        let gone := s.ring.orig.filter (fun o => !standbyMay o.hdr)
        let s := { s with ring := { s.ring with orig := s.ring.orig.filter (fun o => standbyMay o.hdr) } }
        gone.foldl (fun s o => s.partSent o.remote 65536) s
      else s
    match s.nextOrig [] s.ring.orig with
    | some (o, l) => .next ({ s with ring := { s.ring with orig := l } }.send o)
    | none =>
      match s.nextPacket with
      | some (c, l, odd) =>
        let t := s.takePacket c l odd
        if s.modes.mode = .standby then .next (t.bump 0xA805 8) else .next (t.send (s.packetFrame c l))
      | none => .next s

/-- The class-7 bucket admits the frame that waits longest (R98). -/
def execC7BucketAdmit (s : State) : Host.Outcome State Fault Refusal :=
  match s.ring.c7wait with
  | [] => .next s
  | o :: l =>
    let w := frameBytes o.hdr + 12
    if !s.bucketAdmits w || (s.waysOut o).isEmpty then .next s
    else
      let s := { s with ring := { s.ring with c7wait := l } }.bucketTake w
      .next ((s.waysOut o).foldl (fun s p => s.toSwitch { hdr := o.hdr, payload := o.payload } o.src p) s)

/-- 70 ms after the end of the last reset the hub may originate; its sequence numbers start at 0 (R99). -/
def execOriginationEnable (s : State) : Host.Outcome State Fault Refusal :=
  if s.ring.origOn || s.modes.mode = .reset || s.clock < ticksMs 70 + s.modes.resetEndAt then .next s
  else .next { s with ring := { s.ring with origOn := true, seqs := [] } }

end Sys2Proof.Machine
end

