-- ==== Sys2Proof/Machine/Switch.lean ====
section
/-!
DEFINITION. The switch (R126–R141): its ingress and egress, read-back from the kennel, the leaked-buffer audit; the DRAM arbiter and
controller events (R142–R146).
-/

namespace Sys2Proof.Machine

/-- The frame at the switch's ingress is enqueued (R132). A frame behind a held one of its source waits with it. -/
def execEnqueue (s : State) : Host.Outcome State Fault Refusal :=
  match s.sw.ingress with
  | [] => .next s
  | f :: l =>
    let s := { s with sw := { s.sw with ingress := l } }
    if s.sw.held.any (fun g => g.src = f.src) then .next { s with sw := { s.sw with held := s.sw.held ++ [f] } }
    else
      match s.enqueue f with
      | (s, .held) => .next { s with sw := { s.sw with held := s.sw.held ++ [f] } }
      | (s, _) => .next s

/-- A held source's frame fits now, and is enqueued (R134). -/
def execHeldSourceResume (src : Fin 7) (s : State) : Host.Outcome State Fault Refusal :=
  match s.sw.held.find? (fun f => f.src = src.val) with
  | none => .next s
  | some f =>
    let q := 8 * f.dst + f.cls
    match State.takeIn { s with sw := { s.sw with held := s.sw.held.eraseP (fun g => g.src = src.val) } } q f with
    | (_, .held) => .next s
    | (t, r) => .next (t.redCount q f (r = .dropped))

/-! ### Egress -/

/-- The frame a queue would send next (R132). -/
def qHead (x : Queue) : Option QFrame :=
  match x.onchip with
  | f :: _ => some f
  | [] => x.returned.head?

/-- The bytes deficit round robin counts for a frame. -/
def qBytes (f : QFrame) : Nat :=
  match f.pkt with
  | .ring g => frameBytes g.hdr
  | .eth b _ => b.length
  | .firm _ _ len _ => len

/-- The frame of a class that port `p` may send now: port 5 holds a class behind a delivery that a full channel keeps waiting (R187). -/
def State.headNow (s : State) (p c : Nat) : Option QFrame :=
  if p = 5 && s.heldDel.any (fun d => d.cls = c) then none else qHead (s.queue (8 * p + c))

/-- Pick a class of port `p` among 4 to 0 by deficit round robin (R127): `turn` is twice the class at hand, plus one once its
quantum has been added in this round. -/
def State.drr (s : State) (p : Nat) : Nat → State × Option Nat
  | 0 => (s, none)
  | k + 1 =>
    let t := tget 9 s.sw.turn p
    let c := t / 2
    let q := 8 * p + c
    let x := s.queue q
    let turnTo : State → Nat → State := fun s v => { s with sw := { s.sw with turn := tset 9 s.sw.turn p v } }
    let next := if c = 0 then 8 else 2 * (c - 1)
    match s.headNow p c with
    | none => (turnTo (s.setQueue q { x with deficit := 0 }) next).drr p k
    | some f =>
      let d := if t % 2 = 0 then x.deficit + s.o 0x2106 (c + 1) else x.deficit
      if qBytes f ≤ d then (turnTo (s.setQueue q { x with deficit := d - qBytes f }) (2 * c + 1), some c)
      else (turnTo (s.setQueue q { x with deficit := d }) next).drr p k

/-- The class the egress serves now: 7, 6, 5 in strict priority, then round robin (R127). -/
def State.pick (s : State) (p : Nat) (only7 : Bool) : State × Option Nat :=
  if (s.headNow p 7).isSome then (s, some 7)
  else if only7 then (s, none)
  else if (s.headNow p 6).isSome then (s, some 6)
  else if (s.headNow p 5).isSome then (s, some 5)
  else s.drr p 128

/-- Remove the head of queue `q`; its cells are freed, and the queue stops being spilled when nothing of its kennel part
remains (R132). -/
def State.popQueue (s : State) (q : Nat) : State :=
  let x := s.queue q
  let cells := match qHead x with | some f => f.cells | none => []
  let x := match x.onchip with
    | _ :: l => { x with onchip := l }
    | [] => { x with returned := x.returned.drop 1 }
  (s.setQueue q (qSettle s.clock x)).freeCellList cells

/-- A stored frame as it leaves a ring port: of a transit frame RESIDENCE grows by its whole time in the hub, which ends at most 314 ns after it is
sent (R94, R105); an own one is stamped. -/
def State.frameOut (s : State) (f : Frame) (rx : Option (Nat × Port)) : State × Option Frame :=
  match rx with
  | none => s.stampOut f
  | some (th, p) =>
    let hop := (s.now10 - th) * 256 / 10 + Config.free 17 s.free % 80385
    (s.drew, some { f with hdr := hdrSeal { f.hdr with residence := residenceAdd f.hdr.residence hop (s.linkDelay p) } })

/-- An own time frame leaves port `p`: the wide time of its first header bit goes into it (R252, R256, R257). The root's SYNC takes it as its origin; a
relayed one adds the time since its reception and the link delay to RESIDENCE; it is t1 of a PDELAY_REQ and t3 of a PDELAY_RESP. -/
def State.timeOut (s : State) (p : Port) (f : Frame) : State × Frame :=
  let w := s.time.wt
  match specField f.hdr 20 1 with
  | 0 =>
    match tget none s.ring.relays (stampKey f.hdr) with
    | some t =>
      ({ s with ring := { s.ring with relays := tset none s.ring.relays (stampKey f.hdr) none } },
        { f with hdr := { f.hdr with residence := residenceAdd f.hdr.residence (toQ8 ((w : Int) - t)).toNat (s.linkDelay p.other) } })
    | none => (s, { f with payload := wtBytes w })
  | 1 => (s.setPort p { s.port p with pdelay := some (f.hdr.seq, w, s.clock) }, f)
  | 2 => (s, { f with payload := f.payload.take 14 ++ wtBytes w })
  | _ => (s, f)

/-- A frame leaves a ring port whole, with its trailer (R87). -/
def State.ringOut (s : State) (p : Port) (f : Frame) (rx : Option (Nat × Port)) : State :=
  let (s, f) := if f.hdr.typ = 5 && rx.isNone then s.timeOut p f else (s, f)
  match s.frameOut f rx with
  | (s, none) => s
  | (s, some g) => ((s.setPort p { s.port p with tx := some g.hdr }).emit (.ringFrame p g (crc32 (g.payload ++ g.tag)))).portCount p 2

/-- Station PTP port. -/
def State.ptp (s : State) (p : Fin 2) : PtpPort := if p = 0 then s.time.ptp1 else s.time.ptp2

/-- Replace a station PTP port. -/
def State.setPtp (s : State) (p : Fin 2) (x : PtpPort) : State :=
  let s := if p = 0 then { s with time := { s.time with ptp1 := x } } else { s with time := { s.time with ptp2 := x } }
  s.setO 0x3041 (p + 1) 0 x.state

/-- A PTP message leaves a station port, one-step (R252, R258): its stamp goes into a Sync as the origin and its fraction, into a Pdelay_Resp as
the turnaround since the request, in 2^-16 ns; of a Pdelay_Req it is kept. -/
def State.ptpOut (s : State) (p : Fin 2) (kind : Nat) (body : List Nat) : State :=
  let w := s.time.wt
  let frac := w % nsU / 65536
  match kind, body with
  | 0, d :: v :: q :: _ => s.emit (.note 0x88F7 [p.val + 1, 0, d, v, q, w / nsU / 1000000000, w / nsU % 1000000000, frac])
  | 2, d :: v :: q :: _ =>
    (s.setPtp p { s.ptp p with pdelay := some (q, w), resp := none }).emit (.note 0x88F7 [p.val + 1, 2, d, v, q])
  | 3, d :: v :: q :: t2 :: _ => s.emit (.note 0x88F7 [p.val + 1, 3, d, v, q, (w - t2) / 65536])
  | k, b => s.emit (.note 0x88F7 ((p.val + 1) :: k :: b))

/-- A frame that firmware built leaves station port `p`, where the port is on and the mode lets it pass (R61). -/
def State.firmOut (s : State) (p : Fin 2) (what n : Nat) (body : List Nat) : State :=
  if s.o 0x7840 (p.val + 1) = 0 || !s.stationMay (if what = 0x88F7 then .ptp else .other) then s
  else if what = 0x88F7 then s.ptpOut p n body
  else s.emit (.note what (n :: p.val :: body))

/-- A frame leaves an egress port: a station port that is on computes its FCS (R399, R400) where the mode lets the frame pass (R61), the bridge
hands it to its tunnel, the core port gives a session datagram to the session server and any other frame to service firmware, and a ring frame for
a local port is delivered (R126). -/
def State.egress (s : State) (p : Nat) (f : QFrame) : State :=
  match f.pkt, p with
  | .ring g, 0 => s.ringOut .a g f.rx
  | .ring g, 1 => s.ringOut .b g f.rx
  | .eth b _, 2 => if s.o 0x7840 1 = 0 || !s.stationMay (stationUse b) then s else s.emit (.station 1 (b ++ leBytes 4 (crc32 b).toNat))
  | .eth b _, 3 => if s.o 0x7840 2 = 0 || !s.stationMay (stationUse b) then s else s.emit (.station 2 (b ++ leBytes 4 (crc32 b).toNat))
  | .firm what n _ body, 2 => s.firmOut 0 what n body
  | .firm what n _ body, 3 => s.firmOut 1 what n body
  | .firm .., _ => s
  | .eth b (some (t, st)), 4 => { s with bridge := { s.bridge with tunIn := s.bridge.tunIn ++ [(t, st, b)] } }
  | .eth b _, 6 => if s.isSessionUdp b then s.datagramIn b else s.emit (.note 0x7840 (6 :: b.map (fun x => x.toNat)))
  | .eth b _, p => s.emit (.note 0x7840 (p :: b.map (fun x => x.toNat)))
  | .ring g, _ => s.deliverNow g ((f.rx.map (·.1)).getD s.now10)

/-- An uncorrectable error in an on-chip cell of what queue `q` sends (R133): on a ring egress the frame, stored or passing cut-through, ends
with its trailer inverted, over bytes that the error cuts short; a frame to a local port is discarded and its items are revoked. -/
def State.cellLost (s : State) (q : Nat) : State :=
  let p : Port := if q < 8 then .a else .b
  let stomp : State → Hdr → State := fun s h => ((s.drew).endCut p h (BitVec.ofNat 32 (s.freeNat 32))).portCount p 6
  match qHead (s.queue q) with
  | some f =>
    let t := s.popQueue q
    match f.pkt with
    | .ring g => if q < 16 then stomp (t.emit (.ringHeader p g.hdr)) g.hdr else t
    | _ => t
  | none =>
    let hit : RxFrame → Bool := fun r => r.f.hdr.cls = q % 8 &&
      (if q < 16 then r.cut && r.egress = some p else r.lcl ≠ .none && r.lcl ≠ .link && localPort r.f.hdr.typ = q / 8)
    let off : RxFrame → RxFrame := fun r =>
      if !hit r then r else if q < 16 then { r with egress := none, cut := false } else { r with lcl := .none }
    let lose : Port → State → State := fun x s =>
      match (s.port x).rx.find? hit with
      | none => s
      | some r =>
        let s := s.setPort x { s.port x with rx := (s.port x).rx.map off }
        if q < 16 then stomp s r.f.hdr
        else match r.lcl with
          | .spec g => (s.revokeTag g).resolveCopies r.f.hdr
          | _ => s.resolveCopies r.f.hdr
    lose .b (lose .a s)

/-- The header rewrite check fails on the frame that cuts through to port `p` (R460): it ends there with a stomped trailer. -/
def State.rewriteBad (s : State) (p : Port) : State :=
  let hit : RxFrame → Bool := fun r => r.cut && r.egress = some p
  [Port.a, Port.b].foldl (fun s x =>
    match (s.port x).rx.find? hit with
    | none => s
    | some r =>
      let off : RxFrame → RxFrame := fun r => if hit r then { r with egress := none, cut := false } else r
      let s := s.setPort x { s.port x with rx := (s.port x).rx.map off }
      ((s.drew).endCut p r.f.hdr (BitVec.ofNat 32 (s.freeNat 32))).portCount p 6) s

/-- The frame in progress on a ring port is one that passes cut-through, so the egress cannot end it. -/
def State.cutBusy (s : State) (p : Port) : Bool :=
  match (s.port p).tx with
  | some h => (s.ring.a.rx ++ s.ring.b.rx).any (fun r => r.cut && r.egress = some p && r.f.hdr.seq = h.seq
      && r.f.hdr.source = h.source && r.f.hdr.cls = h.cls)
  | none => false

/-- The ring port may send the frame at the head of a class now: ready, or link-scope over a live link (R96, R121). -/
def State.ringMay (s : State) (p : Port) (c : Nat) : Bool :=
  match qHead (s.queue (8 * p.toNat + c)) with
  | some f => if qLink f then s.linkLive p else s.ready p || (qFlood f && s.linkLive p)
  | none => false
where
  /-- A flooded supervision frame. -/
  qFlood (f : QFrame) : Bool := match f.pkt with | .ring g => flooded g.hdr | _ => false

/-- A frame suspended on a ring egress waits for its upstream to resume (R102). -/
def State.upSuspended (s : State) (p : Port) (h : Hdr) : Bool :=
  (s.ring.a.rx ++ s.ring.b.rx).any (fun r => r.cut && r.upSusp && r.egress = some p && r.f.hdr.seq = h.seq
    && r.f.hdr.source = h.source && r.f.hdr.cls = h.cls)

/-- A suspended frame continues (R101): RESUME, then the rest of it, to its trailer where that has come meanwhile. -/
def State.resume (s : State) (p : Port) (h : Hdr) : State :=
  let x := s.port p
  let s := (s.setPort p { x with tx := if x.suspEnd.isSome then none else some h, suspended := none, suspEnd := none }).emit (.ordered p 3)
  match x.suspEnd with
  | some t => s.emit (.ringTrailer p h.source h.cls h.seq t)
  | none => s

/-- A ring egress becomes free for the next frame: while a frame is suspended only class 7 is sent, and then RESUME and the
continuation (R101). -/
def State.dequeueRing (s : State) (p : Port) : State :=
  if s.cutBusy p then s
  else
    let x := s.port p
    let susp := x.suspended
    match s.pick p.toNat susp.isSome with
    | (t, some c) =>
      if !s.ringMay p c then s
      else match qHead (t.queue (8 * p.toNat + c)) with
        | some f => (t.popQueue (8 * p.toNat + c)).egress p.toNat f
        | none => s
    | (t, none) =>
      match susp with
      | some (h, _) => if s.upSuspended p h then t.setPort p { t.port p with tx := none, quietAt := some s.clock } else t.resume p h
      | none => t.setPort p { t.port p with tx := none, quietAt := if x.tx.isSome then some s.clock else x.quietAt }

/-- An egress port serves its queues (R127, R132, R133). -/
def execDequeue (p : Fin 7) (s : State) : Host.Outcome State Fault Refusal :=
  match p.val with
  | 0 => .next (s.dequeueRing .a)
  | 1 => .next (s.dequeueRing .b)
  | p =>
    match s.pick p false with
    | (t, some c) =>
      match qHead (t.queue (8 * p + c)) with
      | some f => .next ((t.popQueue (8 * p + c)).egress p f)
      | none => .next s
    | (_, none) => .next s

/-- An uncorrectable DRAM word at a fabric address (R146, R148, R149): counted, ECC_ERR set, and the first address kept in 32-byte units of the
offset from 0x10_0000_0000; the word is bad until it is written. -/
def State.dramBad (s : State) (a : Nat) : State :=
  let off := a % 2 ^ 40 - 2 ^ 36
  State.noteSet { s.bump 0x2230 2 with sw := { s.sw with
    eccErr := true, eccAddr := if s.sw.eccErr then s.sw.eccAddr else off / 32,
    badWords := (off / 4 :: s.sw.badWords.filter (· ≠ off / 4)) } } W1c.ecc

/-- A read-back of the head of a queue's kennel part ends (R133): the whole frame is in the return pool, at most 16 cells a
queue, or an uncorrectable DRAM error at `bad` discards it. -/
def execKennelReadbackDone (q : Fin 56) (bad : Option Nat) (s : State) : Host.Outcome State Fault Refusal :=
  let x := s.queue q
  match x.kennel with
  | [] => .next s
  | f :: l =>
    match bad with
    | some a =>
      let y := qSettle s.clock { x with kennel := l }
      .next ((((s.setQueue q y).freeCellList f.cells).bump 0x2180 7).dramBad a |>.report { source := 0x11, syndrome := q, address := a })
    | none =>
      let pool := s.poolCells f.n
      if cellsOf x.returned + f.n > 16 || pool.length < f.n then .next s
      else .next ((s.setQueue q { x with kennel := l, returned := x.returned ++ [{ f with cells := pool }] }).freeCellList f.cells)

/-! ### Frames of station firmware -/

/-- The class of a VLAN setting: its PCP, or 0 untagged (R127). -/
def vlanClass (v : Nat) : Nat := if v = 0xFFFF then 0 else v / 2 ^ 13 % 8

/-- Put a frame of firmware, known by its fields, at the switch's ingress for station port `p` (R126), coloured by the core port's policer
(R139). -/
def State.firmIn (s : State) (p what n vlan : Nat) (body : List Nat) : State :=
  let len := Config.stationLen what n body % 2049
  let (s, colour) := s.colour 6 (vlanClass vlan) len
  let i : InFrame := { pkt := .firm what n len body, cls := vlanClass vlan, colour := colour, src := 6, dst := 2 + p }
  { s with sw := { s.sw with ingress := s.sw.ingress ++ [i] } }

/-- A frame of station firmware goes to the ports of a mask; under PRP to both, with one sequence number (R299, R401). -/
def State.stationOut (s : State) (what mask n vlan : Nat) (body : List Nat) : State :=
  let prp := decide (s.o 0x7841 1 = 1)
  let s := [0, 1].foldl (fun s p => if mask ≠ 0 && (prp || bitOf mask p) then s.firmIn p what n vlan body else s) s
  if prp && mask ≠ 0 then s.prpSent else s

/-! ### Audit (R140, R141) -/

/-- A cell falls out of the lists (R140): no free list and no queued frame names it any more. -/
def State.loseCell (s : State) (c : Nat) : State :=
  let f : QFrame → QFrame := fun x => { x with cells := x.cells.filter (· ≠ c) }
  let l := s.sw.queues.map (fun e => (e.1, { e.2 with onchip := e.2.onchip.map f, kennel := e.2.kennel.map f }))
  { s with sw := { s.sw with queues := l, freed := s.sw.freed.filter (· ≠ c), spillFreed := s.sw.spillFreed.filter (· ≠ c) } }

/-- The cells of the audit's operands: on-chip cells by their number, and spill cells by theirs, which follow the on-chip ones here. -/
def lostCells (onChip spill : List Nat) : List Nat := onChip.filter (· < 32768) ++ spill.map (32768 + ·)

/-- The walk meets the cell (R140): in a free list, in a queue's list, in the return pool, in flight, or in the journal. Cells never yet taken are
in the free list. -/
def State.cellSeen (s : State) (c : Nat) : Bool :=
  (if c < 32768 then inPool c || s.sw.fresh ≤ c || s.sw.freed.contains c else 32768 + s.sw.spillFresh ≤ c || s.sw.spillFreed.contains c)
    || s.sw.queues.any (fun e => (qFrames e.2).any (fun f => f.cells.contains c))
    || s.flightCells.contains c || s.sw.journal.contains c

/-- Judge one cell (R140). -/
def State.auditCell (s : State) (c : Nat) : State :=
  let x := s.cell c
  if s.cellSeen c then s.setCell c { x with suspect := false }
  else if x.suspect && x.gen = x.suspectGen then
    let s := s.setCell c { x with suspect := false }
    let s := { s with sw := { s.sw with rcReclaimed := min (s.sw.rcReclaimed + 1) 0xFFFF } }
    ((s.freeCellList [c]).bump 0x2210 1).report { source := 0x14, syndrome := c + x.owner * 2 ^ 24, address := x.gen.toNat }
  else s.setCell c { x with suspect := true, suspectGen := x.gen }

/-- The spill cells of the slice under audit; none while DRAM is in self-refresh (R141). -/
def State.auditCovers (s : State) (c : Nat) : Bool :=
  if c < 32768 then true
  else c < 32768 + s.spillSize && !s.sw.selfRefresh && (c - 32768) * 16 / s.spillSize = s.sw.slice

/-- A completed walk judges every cell it covers, and the slice advances unless DRAM is in self-refresh (R140, R141). Cells never taken are
seen. -/
def State.auditEnd (s : State) : State :=
  let cells := (List.range s.sw.fresh ++ (List.range s.sw.spillFresh).map (32768 + ·)).filter s.auditCovers
  let s := ((cells.foldl State.auditCell s)).bump 0x2210 3
  { s with sw := { s.sw with walking := false, journal := [], slice := if s.sw.selfRefresh then s.sw.slice else (s.sw.slice + 1) % 16 } }

/-- The audit (R140, R141), from JOIN on (R24): 100 ms after the last walk began the command begins one, with the cells that have fallen out of
their lists, on-chip ones and spill ones each by its number; a walk in progress ends. -/
def execAuditWalk (onChip spill : List Nat) (s : State) : Host.Outcome State Fault Refusal :=
  if s.modes.mode.code < 3 then .next s
  else if s.sw.walking then .next s.auditEnd
  else if s.sw.walkAt.any (fun t => s.clock < ticksMs 100 + t) then .next s
  else
    let s := (lostCells onChip spill).foldl State.loseCell s
    .next { s with sw := { s.sw with walking := true, walkAt := some s.clock, journal := [] } }

/-! ### DRAM arbiter (R142–R145) -/

/-- A request of class 6 or 7 (R143); a background request never has its rank. -/
def arbHigh (a : ArbReq) : Bool := a.r.cls ≥ 6 && !a.r.background

/-- Age of a request at a tick (R143). -/
def arbAge (now : Nat) (a : ArbReq) : Nat := (4096 + now - a.stamp) % 4096

/-- `a` outranks `b` by the first rule of R143 that separates them. -/
def outranks (now : Nat) (a b : ArbReq) : Bool :=
  if arbHigh a != arbHigh b then arbHigh a
  else match a.ancient, b.ancient with
    | some x, some y => if x ≠ y then x < y else a.r.index < b.r.index
    | some _, none => true
    | none, some _ => false
    | none, none => if arbAge now a ≠ arbAge now b then arbAge now a > arbAge now b else a.r.index < b.r.index

/-- The request that outranks all others. -/
def arbBest (now : Nat) : List ArbReq → Option ArbReq
  | [] => none
  | a :: l => match arbBest now l with
    | some b => if outranks now b a then some b else some a
    | none => some a

/-- Grant the port at a beat boundary (R144): to the highest-ranked request; a transfer in progress that it outranks is
preempted, keeps its stamp and mark, and later restarts. -/
def State.arbitrate (s : State) (now : Nat) : State :=
  match s.sw.grant, arbBest now s.sw.reqs with
  | _, none => s
  | none, some b => { s with sw := { s.sw with grant := some b, reqs := s.sw.reqs.erase b } }
  | some g, some b =>
    if outranks now b g then
      { s with sw := { s.sw with grant := some b, reqs := s.sw.reqs.erase b ++ [g] } }.bump 0x2220 2
    else s

/-- A request with the class and background flag that its requester has (R142). -/
def dramReqOf (r : DramReq) : DramReq :=
  if r.index = 18 then { r with cls := 0, background := false }
  else if r.index = 19 || r.index = 21 then { r with cls := 0, background := true }
  else if 2 ≤ r.index && r.index ≤ 17 then r
  else { r with background := false }

/-- A DRAM request arrives and is stamped with the tick (R143). -/
def execDramRequest (r : DramReq) (tick : Fin 4096) (s : State) : Host.Outcome State Fault Refusal :=
  let a : ArbReq := { r := dramReqOf r, stamp := tick }
  .next ({ s with sw := { s.sw with reqs := s.sw.reqs ++ [a] } }.arbitrate tick)

/-- Mark a request whose age has reached 2 048 (R143). The mark orders by the tick at which that was: requests of one age have one mark. -/
def State.markReq (s : State) (now : Nat) (a : ArbReq) : State × ArbReq :=
  if a.ancient.isNone && arbAge now a ≥ 2048 then
    (s.bump 0x2220 1, { a with ancient := some (4096 * s.sw.marks + (4095 - arbAge now a)) })
  else (s, a)

/-- Requests whose age has reached 2 048 ticks become ancient (R143). -/
def execAncientMark (tick : Fin 4096) (s : State) : Host.Outcome State Fault Refusal :=
  let (s, l) := s.sw.reqs.foldl (fun (p : State × List ArbReq) a =>
    let (s, b) := p.1.markReq tick a
    (s, p.2 ++ [b])) (s, [])
  let (s, g) := match s.sw.grant with
    | some a => let (s, b) := s.markReq tick a; (s, some b)
    | none => (s, none)
  .next ({ s with sw := { s.sw with reqs := l, grant := g, marks := s.sw.marks + 1 } }.arbitrate tick)

/-- The transfer granted ends; the port is granted again (R144). -/
def execDramTransferDone (tick : Fin 4096) (s : State) : Host.Outcome State Fault Refusal :=
  .next ({ s with sw := { s.sw with grant := none } }.arbitrate tick)

/-- A refresh is issued at a beat boundary (R144): requests keep their stamps, and the port is ranked again after it. -/
def execDdrRefresh (tick : Fin 4096) (s : State) : Host.Outcome State Fault Refusal := .next (s.arbitrate tick)

/-- The devices' temperature is read (R146): above 85 °C the refresh rate doubles. -/
def execDdrTempRead (hot : Bool) (s : State) : Host.Outcome State Fault Refusal :=
  let was := s.sw.refresh2x
  let s := { s with sw := { s.sw with refresh2x := hot } }
  .next (if hot && !was then s.bump 0x2220 3 else s)

/-! ### Counters and registers -/

/-- The switch, audit and arbiter counters are cleared (R147, R148). -/
def State.switchClear (s : State) : State :=
  (((s.clearSubs 0x2180 1 7 0).clearSubs 0x2182 1 0x38 0).clearSubs 0x2210 1 3 0).clearSubs 0x2220 1 3 0

/-- Writing 1 to 0x2180:00. -/
def execSwitchClearCounters (s : State) : Host.Outcome State Fault Refusal := .next s.switchClear

/-- SW_AUDIT as it reads (R149). -/
def State.swAudit (s : State) : Nat := 65536 * s.sw.rcReclaimed + s.sw.slice * 16 + b2n s.sw.walking

/-- A read of SW_AUDIT returns and clears the reclaimed-cell count (R7, R149). -/
def State.readSwAudit (s : State) : State × Nat := ({ s with sw := { s.sw with rcReclaimed := 0 } }, s.swAudit)

/-- SW_AUDIT is read by a context. -/
def execSwAuditRead (c : Ctx) (s : State) : Host.Outcome State Fault Refusal :=
  if !s.reaches c then .next s else
  let (t, v) := s.readSwAudit
  .next (t.reply c 4 v)

/-- DDR_STATUS.ECC_ERR is written 1 (R149), unless an error set it at this edge (R6). -/
def State.eccClear (s : State) : State := if s.setNow W1c.ecc then s else { s with sw := { s.sw with eccErr := false } }

/-- Writing 1 to DDR_STATUS.ECC_ERR. -/
def execDdrEccErrClear (s : State) : Host.Outcome State Fault Refusal := .next s.eccClear

/-- The ring counters are cleared (R125). -/
def State.ringClear (s : State) : State :=
  ((s.clearSubs 0x2020 1 0x10 0).clearSubs 0x2021 1 0x10 0).clearSubs 0x2024 1 7 0

/-- Writing 1 to 0x2022:00. -/
def execRingClearCounters (s : State) : Host.Outcome State Fault Refusal := .next s.ringClear

end Sys2Proof.Machine
end

