-- ==== Sys2Proof/Machine/Banks.lean ====
section
/-!
DEFINITION. Pin banks (R240–R244): the supply monitor, the return of a bank, and the glitch filter.
-/

namespace Sys2Proof.Machine

/-- The class of a bank supply in mV (R240): 0 absent, 1 1.8 V, 2 3.3 V, 3 out of window. -/
def supplyClass (mv : Nat) : Nat :=
  if mv < 500 then 0 else if 1620 ≤ mv && mv ≤ 1980 then 1 else if 2970 ≤ mv && mv ≤ 3630 then 2 else 3

/-- The declared class of bank `b` (R240). -/
def State.bankWants (s : State) (b : Nat) : Nat := s.o 0x6800 (b + 1) + 1

/-- A sample of the bank monitor, every 10 µs (R240, R241): two mismatches in a row make the bank unpowered. -/
def execBankSupplySample (b : Fin 16) (mv : Nat) (s : State) : Host.Outcome State Fault Refusal :=
  let x := s.bank b
  let c := supplyClass mv
  if c = s.bankWants b then
    .next (s.setBank b { x with seen := c, mismatches := 0, matchSince := some (x.matchSince.getD s.clock) })
  else
    let n := min (x.mismatches + 1) 2
    let s := s.setBank b { x with seen := c, mismatches := n, matchSince := none, unpowered := x.unpowered || n = 2 }
    if n = 2 && !x.unpowered then
      .next (((s.bump 0x6821 (b + 1)).levelSet 0x34 b true).report { source := 0x34, syndrome := b + c * 2 ^ 24 })
    else .next s

/-- A bank whose supply has matched for 10 ms returns to service (R241). -/
def execBankSupplyRestore (b : Fin 16) (s : State) : Host.Outcome State Fault Refusal :=
  let x := s.bank b
  match x.matchSince with
  | some t =>
    if x.unpowered && s.clock ≥ ticksMs 10 + t then
      .next (((s.setBank b { x with
        unpowered := false, pad := 0, sync1 := 0, sync2 := 0, filt := 0, since := s.clock, runs := [] }).levelSet 0x34 b false).report { source := 0x35, syndrome := b })
    else .next s
  | none => .next s

/-- One 250 MHz edge at the pads of bank `b` (R209, R244): what stands outside is free; the pads pass through two synchroniser stages; where
the synchronised sample changes, the pin's filter run begins. -/
def State.bankEdge (s : State) (b : Nat) : State :=
  let x := s.bank b
  if x.unpowered then s
  else
    let s := s.setBank b { x with
      known := Config.outsideOn s.clock s.free b, ext := Config.outsideLevel s.clock s.free b,
      wins := Config.outsideWins s.clock s.free b }
    let pad := (List.range 24).foldl (fun (v : BitVec 24) p => if s.padNow b p then v ||| (1#24 <<< p) else v) 0
    let new := x.sync1 ^^^ x.sync2
    let runs := (List.range 24).foldl (fun t p => if new.getLsbD p then tset 0 t p s.clock else t) x.runs
    s.setBank b { s.bank b with pad := pad, sync1 := x.pad, sync2 := x.sync1, runs := runs }

/-- One 250 MHz edge at every bank. -/
def State.bankEdges (s : State) : State := (List.range 16).foldl State.bankEdge s

/-- The synchronised pad of a pin has shown a level for a whole filter run (R244): the filtered level takes it. -/
def execFilterRunComplete (b : Fin 16) (pin : Fin 24) (level : Bool) (s : State) : Host.Outcome State Fault Refusal :=
  let x := s.bank b
  let m : BitVec 24 := 1#24 <<< pin.val
  let n := s.filtDelay b pin / 4
  if !x.unpowered && 0 < n && x.sync2.getLsbD pin = level && n + max x.since (tget 0 x.runs pin) ≤ s.clock then
    .next (s.setBank b { x with filt := if level then x.filt ||| m else x.filt &&& ~~~m })
  else .next s

end Sys2Proof.Machine
end

