-- ==== Sys2Proof/Machine/Markers.lean ====
section
/-!
DEFINITION. Markers (R265): every 2^31 ns, at each step and at a queue's start, a marker enters the fault-record queue, the
sequence-of-events log, the trace stream and the event record.
-/

namespace Sys2Proof.Machine

/-- SV publication `n`. -/
def State.svPub (s : State) (n : Nat) : SvPub := tget {} s.station.svp n

/-- Replace SV publication `n`. -/
def State.setSvPub (s : State) (n : Nat) (v : SvPub) : State :=
  { s with station := { s.station with svp := tset {} s.station.svp n v } }

/-- A time step leaves a block incomplete (R304): it is discarded and counted. -/
def State.svStep (s : State) (n : Nat) : State :=
  let x := s.svPub n
  if x.block.isSome then (s.setSvPub n { x with block := none, got := [] }).bump 0x3813 3 n else s

/-- Every queue receives a marker (R265). At a step incomplete SV blocks are discarded (R304), the poles under way note it (R323), and the time masters of the CAN buses set
Disc_Bit (R372). -/
def State.markQueues (s : State) (step : Bool) (count : Nat) : State :=
  let s := s.faultPush (faultMarker (b2n step) count)
  let s := if !s.soeRuns then s else if step then s.logStep count else s.logMarker false count
  let s := s.traceMarker step false count
  let s := s.event .timeStep [b2n step, count / 2 ^ 32 % 2 ^ 32, count % 2 ^ 32]
  if !step then s
  else
    let s := (List.range 32).foldl (fun s n => s.svStep n) s
    { s with
      station := { s.station with csw := s.station.csw.map (fun e =>
        (e.1, { e.2 with poles := e.2.poles.map (fun q => if q.fired.isSome then { q with stepped := true } else q) })) }
      can := s.can.map (fun e => (e.1, if e.2.master then { e.2 with disc := true } else e.2)) }

end Sys2Proof.Machine
end

