-- ==== Sys2Proof/Machine/Time.lean ====
section
/-!
DEFINITION. The time unit (R249–R275): datasets and the root, SYNC and link delay on the ring, the station PTP clock, the
servo, step and slew, status and holdover, PPS, IRIG-B, PPS_OUT and the sample strobes.
-/

namespace Sys2Proof.Machine

/-! ### Wide-time values -/

/-- The ST32 of a grid edge on the present scale. -/
def State.stOfEdge (s : State) (e : Nat) : Nat :=
  ((s.time.wt : Int) + ((e : Int) - s.time.ltb) * s.time.incr).toNat / nsU % 2 ^ 32

/-- After a step the firing ST32 of every live calendar entry is that of its unmoved edge on the stepped scale (R16). -/
def State.calRestamp (s : State) : State :=
  { s with phase := { s.phase with cal := s.phase.cal.map (fun e =>
    (e.1, if calLive e.2 then { e.2 with fireSt := s.stOfEdge e.2.fire } else e.2)) } }

/-- Edges in a time given in 2^-32 ns of nominal rate. -/
def edgesOf (t : Nat) : Nat := t / (4 * nsU)

/-! ### Status, class and inaccuracy (R262, R263) -/

/-- Code of TIME_STATUS. -/
def TimeStatus.code : TimeStatus → Nat
  | .free => 0
  | .acquiring => 1
  | .locked => 2
  | .holdover => 3

/-- INACCURACY in ns (R263): in holdover it grows by HOLDOVER_DRIFT. -/
def State.inaccuracy (s : State) : Nat :=
  if s.time.status = .holdover then
    min 0xFFFFFFFF (s.time.inacc + s.o 0x3022 1 * (s.clock - s.time.heldAt) / 250000000)
  else s.time.inacc

/-- The class the hub advertises on the ring (R253, R263): 248 without a source of its own. -/
def State.ownClass (s : State) : Nat :=
  if s.o 0x3020 1 = 0 then 248
  else match s.time.status with
    | .holdover => if s.inaccuracy ≤ s.o 0x3022 2 then 7 else 187
    | .locked => 6
    | _ => 248

/-- The inaccuracy base as the status changes (R263): unknown in FREE; of a hub that leaves LOCKED or HOLDOVER for ACQUIRING the spec
states none. -/
def State.nextInacc (s : State) (t : TimeStatus) : Nat :=
  match t with
  | .free => 0xFFFFFFFF
  | .acquiring => if s.time.status = .free then s.time.inacc else s.freeNat 32
  | _ => s.time.inacc

/-- Change the status, with an event (R262). -/
def State.setStatus (s : State) (t : TimeStatus) : State :=
  if s.time.status = t then s
  else ({ s with time := { s.time with
    status := t, lockRun := 0, unlockRun := 0, inacc := s.nextInacc t } }.drew.event .timeStatus [t.code]).hostInt 3

/-! ### Root and datasets (R253, R254, R264) -/

/-- The own dataset (R253, R254): a hub without a source advertises class 248; a station grandmaster's dataset stands in for
source 4 (R258). -/
def State.ownData (s : State) : DataSet :=
  let base : DataSet := {
    p1 := s.o 0x3020 2, cls := s.ownClass, acc := Config.clockAccuracy % 256, var := Config.clockVariance % 65536,
    p2 := s.o 0x3020 3, root := s.node, kind := s.o 0x3020 1, flags := s.time.leap + 4, utc := s.oi 0x3012 0,
    inacc := s.inaccuracy }
  match s.o 0x3020 1, s.time.gm with
  | 4, some g => { g with root := s.node, steps := 0, kind := 4, cls := s.ownClass }
  | _, _ => base

/-- The fields of R254 in their order. -/
def dataKey (d : DataSet) : List Nat := [d.p1, d.cls, d.acc, d.var, d.p2, d.root]

/-- Lexicographic comparison: the first difference decides, lower wins. -/
def lexLt : List Nat → List Nat → Bool
  | a :: l, b :: m => if a < b then true else if b < a then false else lexLt l m
  | _, _ => false

/-- The better of two datasets (R254); of equal ones, the one with fewer steps removed. -/
def better (a b : DataSet) : DataSet :=
  if lexLt (dataKey b) (dataKey a) then b
  else if dataKey b = dataKey a && b.steps < a.steps then b
  else a

/-- The best dataset known: own, or one received and not forgotten (R254). -/
def State.bestData (s : State) : DataSet :=
  (s.ring.a.rxData ++ s.ring.b.rxData).foldl (fun d r => better d r.1) s.ownData

/-- The sync port as a master change names it: 0, 1, or none. -/
def syncCode (p : Option Port) : Nat := match p with | some q => q.toNat | none => 0xFF

/-- A change of root, sync port, station master or source (R264), recorded with the old and new root and port: WT, `i` and `y` are kept, and the
next sample is the first from a new reference. Only a new source (`fresh`) begins the servo anew (R259). DEDUCED: R264 lets it continue at
the others. -/
def State.masterChange (s : State) (root port newPort : Nat) (fresh : Bool := false) : State :=
  { s with time := { s.time with
    seen := if fresh then 0 else s.time.seen,
    newRef := true, overs := 0, lockRun := 0, unlockRun := 0 } }.event .timeStatus [0x100, root, s.time.root, port, newPort]

/-- Judge the root again (R254, R262): a root that advertises class 7 or 187 takes a locked hub to holdover. -/
def State.updateRoot (s : State) : State :=
  let d := s.bestData
  let old := s.time.root
  let s := { s with time := { s.time with root := d.root, steps := d.steps, rootCls := d.cls } }
  if old = d.root then s
  else
    let clr : RingPort → RingPort := fun x => { x with lastSync := none }
    let port := syncCode s.time.syncPort
    let s := { s with ring := { s.ring with a := clr s.ring.a, b := clr s.ring.b }, time := { s.time with syncPort := none } }
    s.masterChange old port 0xFF

/-- The hub takes its samples from its own source (R253, R263). -/
def State.useOwn (s : State) : Bool :=
  s.o 0x3020 1 ≠ 0 && (s.time.root = s.node || s.time.status = .free || s.time.status = .acquiring)

/-! ### Steps (R260) -/

/-- The stretches of wide time that the last 2^31 ns touch (R268, R277). -/
def segPrune (now : Nat) : List (Nat × Nat × Nat) → List (Nat × Nat × Nat)
  | a :: b :: l => if a.1 + 536870912 < now then [a] else a :: segPrune now (b :: l)
  | l => l

/-- From this edge wide time runs from its present value at the present INCR. -/
def State.newSeg (s : State) : State :=
  { s with time := { s.time with segs := segPrune s.time.ltb ((s.time.ltb, s.time.wt, s.time.incr) :: s.time.segs) } }

/-- The local-time instant, in ns, at which wide time showed `w` (R277): on the newest stretch that had begun by then; nanoseconds of a stretch are
rounded up, so that the stamp of an edge gives the edge. -/
def ltbOf (w : Int) : List (Nat × Nat × Nat) → Int
  | [] => 0
  | (l, v, inc) :: rest =>
    if w + (nsU : Int) > v || rest.isEmpty then 4 * (l : Int) - (4 * ((v : Int) - w)) / (inc : Int) else ltbOf w rest

/-- The number of the last PPS_OUT instant at or before a nanosecond count (R271). -/
def State.ppsCount (s : State) (ns : Nat) : Int := ((ns : Int) - s.oi 0x3051 1) / 1000000000

/-- Step wide time to `w` (R260): recorded, counted and marked; an unfrozen commit or PPS_OUT target that it passes acts, the schedules of PPS_OUT
and the strobes go on from it and are irregular once (R251, R271, R272). -/
def State.stepTo (s : State) (w : Nat) : State :=
  let d : Int := w - s.time.wt
  let lines := (List.range 8).foldl (fun (m : BitVec 8) k => if s.o 0x3060 (k + 1) ≠ 0 then m ||| (1#8 <<< k) else m) 0
  let size : Int := d / (nsU : Int) + (if d % (nsU : Int) = 0 then 0 else s.freeNat 1)
  let pass := s.time.ppsFrozen.isNone && decide (s.ppsCount (w / nsU) > max s.time.ppsIdx (s.ppsCount s.nsCount))
  let s := { s with time := { s.time with
    wt := w, seen := 0, ppsOdd := true, strobeOdd := lines, ppsIdx := s.ppsCount (w / nsU), ppsDue := s.time.ppsDue || pass,
    strobeFrom := (List.range 8).foldl (fun t k => tset 0 t k w) s.time.strobeFrom, markAt := w / nsU / 2 ^ 31 } }.drew.newSeg.calRestamp
  let s := s.setO 0x3080 1 0 (ofSigned 64 size)
  let s := (s.setO 0x3080 2 0 s.st32).bump 0x3070 4
  let s := match s.dict.pendingCommit with
    | some c => match c.at_, c.frozen with
      | .wt t, none =>
        if t ≤ w then { s with dict := { s.dict with pendingCommit := some { c with frozen := some s.time.ltb } } } else s
      | _, _ => s
    | none => s
  (s.event .timeStep [ofSigned 64 size]).markQueues true (w / nsU)

/-! ### Servo (R259–R262) -/

/-- Clamp a rate to ±500 ppm. -/
def clampPpm (r : Rat) : Rat :=
  let m : Rat := 500 / 1000000
  if r > m then m else if r < -m then -m else r

/-- INCR from the frequency and slew terms (R249, R259); its last bit is free where the sum is no whole number. -/
def State.setIncr (s : State) : State :=
  let v : Rat := (4 * nsU : Nat) * (1 + s.time.y + (s.time.slew : Rat) * (500 / 1000000))
  let f := v.floor
  let up := if v = (f : Rat) then 0 else s.freeNat 1
  let s := { s with time := { s.time with incr := (f + up).toNat } }.drew
  if s.time.segs.any (fun e => e.2.2 ≠ s.time.incr) then s.newSeg else s

/-- Run the servo law on a sample (R259). -/
def State.servo (s : State) (t : Rat) : State :=
  let th : Rat := (s.time.theta : Rat) / (nsU : Nat)
  let kp : Rat := (s.o 0x3021 1 : Nat) / 256
  let ki : Rat := (s.o 0x3021 2 : Nat) / 65536
  let i := clampPpm (s.time.i + ki * th / t)
  let y := clampPpm (i + kp * th / t)
  { s with time := { s.time with i := i, y := y, ys := y :: s.time.ys.take 63, slew := 0 } }.setIncr

/-- Status after a sample of a reference of class `cls` (R262, R264). `first`: the first from its reference. -/
def State.sampleStatus (s : State) (cls : Nat) (own first : Bool) : State :=
  let lock : Int := nsU * s.o 0x3021 6
  let a := (s.time.theta.natAbs : Int)
  let s := { s with time := { s.time with
    lockRun := if a ≤ lock then s.time.lockRun + 1 else 0,
    unlockRun := if a > 2 * lock then s.time.unlockRun + 1 else 0 } }
  match s.time.status with
  | .free => if own || cls ≤ 127 then s.setStatus .acquiring else s
  | .acquiring =>
    if s.time.lockRun ≥ 16 then
      let s := s.setStatus .locked
      { s with time := { s.time with inacc := if own then s.freeNat 32 else s.bestData.inacc } }.drew
    else s
  | .locked =>
    if first && a > lock then s.setStatus .acquiring
    else if s.time.unlockRun ≥ 4 then s.setStatus .acquiring
    else s
  | .holdover => if cls ≤ 6 then s.setStatus .acquiring else s

/-- An accepted offset sample θ, in 2^-32 ns, from a reference of class `cls` (R259–R262, R264). -/
def State.sample (s : State) (theta : Int) (cls : Nat) (own : Bool) : State :=
  if s.time.status = .holdover && cls > 6 then s
  else
    let big := theta.natAbs > nsU * s.o 0x3021 3
    let slewOnly := s.o 0x3021 5 = 1
    let n := s.time.seen
    let first := s.time.newRef
    let prev := s.time.theta
    let t : Rat := ((s.clock - s.time.lastSample.getD s.clock) * 4 : Nat)
    let overs := if big then s.time.overs + 1 else 0
    let step := big && (if first then !slewOnly || s.time.virgin else !slewOnly && overs ≥ s.o 0x3021 4)
    let s := { s with time := { s.time with
      theta := theta, overs := overs, lastSample := some s.clock, virgin := false, newRef := false,
      seen := min 2 (s.time.seen + 1) } }
    let s := s.setO 0x3003 0 0 (ofSigned 32 (clampI (-(2 ^ 31 : Int)) (2 ^ 31 - 1) (toQ8 theta)))
    if step then
      let s := s.stepTo (s.time.wt + theta).toNat
      let s := { s with time := { s.time with overs := 0, slew := 0 } }.setIncr
      s.setStatus .acquiring
    else
      let s :=
        if slewOnly && big then
          let sg : Int := if theta < 0 then -1 else 1
          let s := if s.time.slew = 0 then s.bump 0x3070 5 else s
          { s with time := { s.time with slew := sg } }.setIncr
        else if n = 0 || t = 0 then { s with time := { s.time with slew := 0 } }.setIncr
        else if n = 1 then
          let seed : Rat := ((theta - prev : Int) : Rat) / (nsU : Nat) / t
          { s with time := { s.time with i := clampPpm seed } }.servo t
        else s.servo t
      s.sampleStatus cls own first

/-! ### Ring time frames (R255–R257) -/

/-- A time frame for port `p` (R255); of a relayed SYNC, RESIDENCE as received and the wide time of its reception. -/
def State.timeFrame (s : State) (p : Port) (fields : List Nat) (payload : List Byte) (relay : Option (Nat × Nat) := none) : State :=
  s.originate {
    hdr := { typ := 5, cls := 5, source := s.node, dest := 0xFF, length := payload.length, spec := specOf fields,
             residence := match relay with | some (r, _) => r | none => 0 }
    payload := payload, src := 6, port := some p, rxAt := relay.map (·.2) }

/-- A time frame's subtype. -/
def isTime (k : Nat) (h : Hdr) : Bool := h.typ = 5 && specField h 20 1 = k

/-- Discard and count a time message with an impossible WT value (R250). -/
def State.badWt (s : State) : State := s.bump 0x3070 8

/-- The median of the last valid measurements (R256): of an even number, the mean of the middle two. -/
def median (l : List Int) : Int :=
  let a := l.mergeSort (fun x y => decide (x ≤ y))
  let n := a.length
  if n = 0 then 0
  else if n % 2 = 1 then a.getD (n / 2) 0
  else divNear (a.getD (n / 2 - 1) 0 + a.getD (n / 2) 0) 2

/-- An invalid measurement (R256). -/
def State.pdelayBad (s : State) (p : Port) : State := (s.setPort p { s.port p with pdelay := none }).bump 0x3070 3

/-- The interval of PDELAY_REQ in edges (R256): 1 ms in JOIN, else LINK_DELAY_INTERVAL. -/
def State.pdelayEvery (s : State) : Nat := if s.modes.mode = .join then ticksMs 1 else ticksMs (s.o 0x3031 0)

/-- PDELAY_REQ is due on port `p` (R256): one still unanswered has gone 1 ms without a response. Its t1 is taken when it leaves. -/
def execPdelayTimer (p : Port) (s : State) : Host.Outcome State Fault Refusal :=
  if !s.ringOn || !s.linkLive p || (s.port p).pdelayAt.any (fun t => s.clock < s.pdelayEvery + t) then .next s
  else
    let s := if (s.port p).pdelay.any (fun r => s.clock ≥ ticksMs 1 + r.2.2) then s.pdelayBad p else s
    let s := s.setPort p { s.port p with pdelayAt := some s.clock }
    .next (s.timeFrame p [1, portCode p, 0, 0, 0, 0, 0, 0] [])

/-- An interval of `ns` nanoseconds and `frac` parts of 2^32 of one, in 2^-32 ns (R249). -/
def agoOf (ns : Nat) (frac : W32) : Nat := ns * nsU + frac.toNat

/-- PDELAY_REQ arrives: the answer carries t2, its reception `ago` ns and `frac` of a ns before now; its t3 goes in when it leaves (R256). -/
def execPdelayReqReceived (p : Port) (ago : Nat) (frac : W32) (s : State) : Host.Outcome State Fault Refusal :=
  match s.takeLink p (isTime 1) with
  | none => .next s
  | some (f, s) =>
    .next (s.timeFrame p [2, portCode p, f.hdr.seq / 256, f.hdr.seq, 0, 0, 0, 0]
      (wtBytes (s.time.wt - agoOf ago frac) ++ List.replicate 14 0))

/-- PDELAY_RESP arrives, `ago` before now (R256): of the request in progress, within 1 ms, it gives the measurement, and LINK_DELAY is the median of
the last 8. -/
def execPdelayRespReceived (p : Port) (ago : Nat) (s : State) : Host.Outcome State Fault Refusal :=
  match s.takeLink p (isTime 2) with
  | none => .next s
  | some (f, s) =>
    match wtRead (f.payload.take 14), wtRead ((f.payload.drop 14).take 14), (s.port p).pdelay with
    | some t2, some t3, some (q, t1, at_) =>
      if specField f.hdr 22 2 ≠ q then .next s
      else
        let t4 := s.time.wt - ago
        let d : Int := divNear ((t4 : Int) - t1 - ((t3 : Int) - t2)) 2
        if d < 0 || d > 100000 * (nsU : Int) || s.clock > ticksMs 1 + at_ + edgesOf ago then .next (s.pdelayBad p)
        else
          let x := s.port p
          let l := (toQ8 d :: x.delays).take 8
          let s := s.setPort p { x with delays := l, delayMeas := x.delayMeas + 1, pdelay := none }
          .next (s.setO 0x3032 (p.toNat + 1) 0 (ofSigned 32 (median l)))
    | some _, some _, none => .next s
    | _, _, _ => .next s.badWt

/-- No response within 1 ms (R256). -/
def execPdelayResponseTimeout (p : Port) (s : State) : Host.Outcome State Fault Refusal :=
  match (s.port p).pdelay with
  | some (_, _, t) => if s.clock ≥ ticksMs 1 + t then .next (s.pdelayBad p) else .next s
  | none => .next s

/-- The payload of a TIME_ANNOUNCE (R255). -/
def dataBytes (d : DataSet) : List Byte :=
  beBytes 1 d.p1 ++ beBytes 1 d.cls ++ beBytes 1 d.acc ++ beBytes 2 d.var ++ beBytes 1 d.p2 ++ beBytes 1 d.kind
    ++ beBytes 1 d.flags ++ beBytes 2 (ofSigned 16 d.utc) ++ beBytes 4 d.inacc

/-- The dataset of a received TIME_ANNOUNCE (R255). -/
def dataOf (f : Frame) : DataSet :=
  let n := fun i k => ofBe ((f.payload.drop i).take k)
  { p1 := n 0 1, cls := n 1 1, acc := n 2 1, var := n 3 2, p2 := n 5 1, kind := n 6 1, flags := n 7 1 % 8,
    utc := toSigned 16 (n 8 2), inacc := n 10 4, root := specField f.hdr 23 1, steps := specField f.hdr 22 1 }

/-- Every 250 ms TIME_ANNOUNCE on both ports carries the best dataset known, steps removed raised by one; one whose steps
exceed HOP_LIMIT is not relayed (R254, R255). -/
def execTimeAnnounceTimer (s : State) : Host.Outcome State Fault Refusal :=
  if !s.ringOn || !s.due s.ring.timeAnnAt (ticksMs 250) then .next s
  else
    let s := { s with ring := { s.ring with timeAnnAt := some s.clock } }.updateRoot
    let d := s.bestData
    let st := if d.root = s.node then 0 else d.steps
    if st > s.o 0x2003 0 then .next s
    else .next ([Port.a, Port.b].foldl (fun s p =>
      if s.linkLive p then s.timeFrame p [3, portCode p, st + 1, d.root, 0, 0, 0, 0] (dataBytes d) else s) s)

/-- The servo stops on the mean of the last 64 updates, with no slew term (R263). -/
def State.enterHoldover (s : State) : State :=
  let n := s.time.ys.length
  let m : Rat := if n = 0 then s.time.y else s.time.ys.sum / (n : Nat)
  let s := { s with time := { s.time with y := m, i := m, slew := 0, heldAt := s.clock } }.setIncr
  s.setStatus .holdover

/-- A locked hub whose root advertises class 7 or 187 goes to holdover (R262). -/
def State.rootHoldover (s : State) : State :=
  if s.time.status = .locked && s.time.root ≠ s.node && !s.useOwn && (s.time.rootCls = 7 || s.time.rootCls = 187) then
    s.enterHoldover
  else s

/-- TIME_ANNOUNCE arrives on port `p` (R254): it takes the place of the dataset of the same root heard there. An own dataset that comes back is
not taken. -/
def execTimeAnnounceReceived (p : Port) (s : State) : Host.Outcome State Fault Refusal :=
  match s.takeLink p (isTime 3) with
  | none => .next s
  | some (f, s) =>
    let d := dataOf f
    if d.root = s.node then .next s
    else
      let x := s.port p
      .next (s.setPort p { x with rxData := x.rxData.filter (fun e => e.1.root ≠ d.root) ++ [(d, s.clock)] }).updateRoot.rootHoldover

/-- A dataset has been refreshed within three intervals, on either port (R254). -/
def State.dataFresh (s : State) (d : DataSet) : Bool :=
  (s.ring.a.rxData ++ s.ring.b.rxData).any (fun e => dataKey e.1 = dataKey d && s.clock < ticksMs 750 + e.2)

/-- Datasets not refreshed on either port for three intervals are forgotten (R254). -/
def execDatasetAgeOut (p : Port) (s : State) : Host.Outcome State Fault Refusal :=
  let x := s.port p
  .next (s.setPort p { x with rxData := x.rxData.filter (fun e => s.dataFresh e.1) }).updateRoot.rootHoldover

/-- One SYNC interval in edges (R257). -/
def State.syncEvery (s : State) : Nat :=
  let e := s.oi 0x3030 0
  if e < 0 then 250000000 / 2 ^ e.natAbs else 250000000 * 2 ^ e.natAbs

/-- The root sends SYNC on both ports (R257), with the wide time at which each leaves. -/
def execSyncTimer (s : State) : Host.Outcome State Fault Refusal :=
  if !s.ringOn || s.time.root ≠ s.node || s.time.syncAt.any (fun t => s.clock < s.syncEvery + t) then .next s
  else
    let s := { s with time := { s.time with syncAt := some s.clock } }
    .next ([Port.a, Port.b].foldl (fun s p =>
      if s.linkLive p then s.timeFrame p [0, portCode p, 0, s.node, 0, 0, 0, 0] (wtBytes s.time.wt) else s) s)

/-- Three SYNC intervals in edges (R257). -/
def State.syncPatience (s : State) : Nat := 3 * s.syncEvery

/-- The sync port (R257): the port whose SYNCs carry fewer steps removed, port A on a tie. -/
def State.pickSync (s : State) : Option Port :=
  match s.ring.a.lastSync, s.ring.b.lastSync with
  | some (x, _), some (y, _) => if y < x then some .b else some .a
  | some _, none => some .a
  | none, some _ => some .b
  | none, none => none

/-- Take the sync port that R257 names; a change is a master change (R264). -/
def State.updateSync (s : State) : State :=
  let p := s.pickSync
  if p = s.time.syncPort then s
  else
    let old := syncCode s.time.syncPort
    let s := { s with time := { s.time with syncPort := p } }
    s.masterChange s.time.root old (syncCode p)

/-- A SYNC arrives on port `p`, its first header bit `ago` ns and `frac` of a ns before now (R257): it goes on through the other port with RESIDENCE as it leaves, and on
the sync port it gives an offset sample. One with a bad wide time is counted as such, and one of another root as that (R250). -/
def execSyncReceived (p : Port) (ago : Nat) (frac : W32) (s : State) : Host.Outcome State Fault Refusal :=
  match s.takeLink p (isTime 0) with
  | none => .next s
  | some (f, s) =>
    let root := specField f.hdr 23 1
    let st := specField f.hdr 22 1
    let own := decide (root = s.node && s.time.root = s.node)
    let s := if !own && root ≠ s.time.root then s.bump 0x3070 2 else s
    match wtRead (f.payload.take 14) with
    | none => .next s.badWt
    | some origin =>
      if own || root ≠ s.time.root then .next s
      else
        let s := s.setPort p { s.port p with lastSync := some (st, s.clock) }
        let s := s.updateSync
        let q := p.other
        let delay := toSigned 32 (s.linkDelay p)
        let t4 := s.time.wt - agoOf ago frac
        let s := if s.ready q && st < s.o 0x2003 0 then
            s.timeFrame q [0, portCode q, st + 1, root, 0, 0, 0, 0] (f.payload.take 14) (some (f.hdr.residence, t4)) else s
        if s.time.syncPort ≠ some p || f.hdr.residence = 0x80000000 || s.useOwn then .next s
        else
          let t : Int := origin + (toSigned 32 f.hdr.residence + delay) * 2 ^ 24
          .next ((s.bump 0x3070 1).sample (t - t4) s.time.rootCls false)

/-- The sync port has had no SYNC for three intervals: the other port takes over (R257, R264). -/
def execSyncPortTimeout (s : State) : Host.Outcome State Fault Refusal :=
  match s.time.syncPort with
  | none => .next s
  | some p =>
    match (s.port p).lastSync with
    | some (_, t) =>
      if s.clock ≥ t + s.syncPatience then .next (s.setPort p { s.port p with lastSync := none }).updateSync else .next s
    | none => .next s.updateSync

/-! ### Loss of reference (R262, R263) -/

/-- Three sample intervals of the reference in use, in edges (R262): of an own source 1 s each, else of SYNC. DEDUCED. -/
def State.samplePatience (s : State) : Nat := if s.useOwn then 750000000 else s.syncPatience

/-- No accepted sample for three intervals from any reference (R262). -/
def execTimeReferenceTimeout (s : State) : Host.Outcome State Fault Refusal :=
  if s.time.lastSample.any (fun t => s.clock < s.samplePatience + t) then .next s
  else match s.time.status with
    | .locked => .next s.enterHoldover
    | .acquiring => .next (s.setStatus .free)
    | _ => .next s

/-- INACCURACY exceeds HOLDOVER_LIMIT (R262). -/
def execHoldoverExpiry (s : State) : Host.Outcome State Fault Refusal :=
  if s.time.status = .holdover && s.inaccuracy > s.o 0x3022 3 then .next (s.setStatus .free) else .next s

end Sys2Proof.Machine
end

