-- ==== Sys2Proof/Machine/TimeRef.lean ====
section
/-!
DEFINITION. Time sources and time outputs (R251, R258, R260, R265, R269–R272, R275): TOD_SET, PPS_IN, IRIG-B, the station PTP
clock, leap seconds, PPS_OUT, the sample strobes, frozen instants and wrap markers.
-/

namespace Sys2Proof.Machine

/-! ### Time of day and PPS (R260, R269) -/

/-- TOD_SET (R250, R260): a step while status is FREE and the hub has no local source. -/
def State.todSet (s : State) (sec ns frac : Nat) : Act :=
  if ns ≥ 1000000000 then .error Abort.valueOutOfRange
  else if s.time.status ≠ .free || s.o 0x3020 1 ≠ 0 then .error Abort.busyRetry
  else .ok (s.stepTo (wtOf sec ns frac))

/-- A session writes TOD_SET. -/
def execTodSet (n : Fin 32) (sec : BitVec 48) (ns frac : W32) (s : State) : Host.Outcome State Fault Refusal :=
  .next (s.asWrite n 4 0x3010 0 (fun s => s.act n (s.todSet sec.toNat ns.toNat frac.toNat)))

/-- PPS_TOD is taken with source 2 only (R269). -/
def State.ppsTod (s : State) (sec : Nat) : Act :=
  if s.o 0x3020 1 ≠ 2 then .error Abort.notInThisMode
  else .ok { s with time := { s.time with tod := some (sec, s.clock) } }

/-- A session writes PPS_TOD. -/
def execPpsTod (n : Fin 32) (sec : BitVec 48) (s : State) : Host.Outcome State Fault Refusal :=
  .next (s.asWrite n 6 0x3011 0 (fun s => s.act n (s.ppsTod sec.toNat)))

/-- The label of an accepted edge with source 2 (R269): a PPS_TOD at least 100 ms old, or one more than the last label, which is
counted. -/
def State.ppsLabel (s : State) : State × Option Nat :=
  match s.time.tod with
  | some (sec, t) =>
    if s.clock ≥ ticksMs 100 + t then ({ s with time := { s.time with tod := none } }, some sec)
    else (s, s.time.ppsLabel.map (· + 1))
  | none => (s, s.time.ppsLabel.map (· + 1))

/-- An edge at PPS_IN, `ago` 2^-32 ns before now, captured to the nanosecond below (R252, R269; the rounding is a DESIGN CHOICE): accepted within 1 s ± 100 µs of the last one, or when status is
FREE; labelled, it gives a sample. With source 1 the label comes with the IRIG-B frame. -/
def execPpsInEdge (rising : Bool) (ago : Nat) (s : State) : Host.Outcome State Fault Refusal :=
  let src := s.o 0x3020 1
  if rising = (s.o 0x3050 1 = 1) || (src ≠ 1 && src ≠ 2) then .next s
  else
    let cap : Int := nsU * (((s.time.wt - ago) / nsU : Nat) - s.oi 0x3050 2)
    let ok := s.time.status = .free || (match s.time.pps with
      | some w => (cap - w - (1000000000 * nsU : Nat)).natAbs ≤ 100000 * nsU
      | none => true)
    if !ok then .next (s.bump 0x3070 6)
    else
      let cap := cap.toNat
      let s := { s with time := { s.time with pps := some cap, ppsCap := cap / nsU % 2 ^ 32 } }
      if src = 1 then .next s
      else
        match s.ppsLabel with
        | (s, some l) =>
          let s := { s with time := { s.time with ppsLabel := some l, ppsOkAt := some s.clock } }
          .next (if s.useOwn then s.sample (((nsU * (1000000000 * l) : Nat) : Int) - cap) 6 true else s)
        | (s, none) => .next s

/-- Three seconds without an accepted, labelled edge, or three without an accepted IRIG-B frame: the source is lost (R269,
R270), which is a loss of the reference (R262). -/
def State.sourceLost (s : State) : State :=
  match s.time.status with
  | .locked => if s.useOwn then s.enterHoldover else s
  | .acquiring => if s.useOwn then s.setStatus .free else s
  | _ => s

/-- Loss of PPS (R269): three seconds since the last labelled edge, or since the end of the reset before any. -/
def execPpsSourceLoss (s : State) : Host.Outcome State Fault Refusal :=
  if s.clock < 750000000 + s.time.ppsOkAt.getD s.modes.resetEndAt then .next s else
  let s := { s with time := { s.time with pps := none, ppsLabel := none } }
  .next (if s.o 0x3020 1 = 1 || s.o 0x3020 1 = 2 then s.sourceLost else s)

/-! ### IRIG-B (R270) -/

/-- Element codes of one frame as bits; a marker or an error reads as false. -/
def irigBit (l : List Nat) (i : Nat) : Bool := l.getD i 3 = 1

/-- A binary number from element `i`, `n` elements, least significant first. -/
def irigNum (l : List Nat) (i n : Nat) : Nat :=
  (List.range n).foldl (fun a k => a + b2n (irigBit l (i + k)) * 2 ^ k) 0

/-- Days from 1970-01-01 to the first of January of a year from 2000 on. -/
def daysTo (year : Nat) : Nat := 10957 + 365 * (year - 2000) + (year - 2000 + 3) / 4

/-- The frame's markers stand at element 0 and at every tenth from 9, and nothing else is a marker or an error. -/
def irigShape (l : List Nat) : Bool :=
  l.length = 100 && (List.range 100).all (fun i => if i = 0 || i % 10 = 9 then l.getD i 3 = 2 else l.getD i 3 ≤ 1)

/-- The parity of a frame over its data bits and the parity bit at element 75 (R270). -/
def irigParity (l : List Nat) : Bool :=
  let n := ((List.range 76).filter (irigBit l)).length
  decide (n % 2 = b2n Config.irigParityOdd)

/-- Local seconds since 1970 that a frame carries: BCD seconds, minutes, hours, day of year and year. -/
def irigLocal (l : List Nat) : Nat :=
  let sec := irigNum l 1 4 + 10 * irigNum l 6 3
  let mn := irigNum l 10 4 + 10 * irigNum l 15 3
  let hr := irigNum l 20 4 + 10 * irigNum l 25 2
  let day := irigNum l 30 4 + 10 * irigNum l 35 4 + 100 * irigNum l 40 2
  let yr := 2000 + irigNum l 50 4 + 10 * irigNum l 55 4
  86400 * (daysTo yr + day - 1) + 3600 * hr + mn * 60 + sec

/-- The local offset in seconds of a frame's control functions. -/
def irigOffset (l : List Nat) : Int :=
  let h : Int := 3600 * irigNum l 65 4 + 1800 * b2n (irigBit l 70)
  if irigBit l 64 then -h else h

/-- PTP seconds of a frame (R270): UTC from the local offset, then UTC_OFFSET. -/
def State.irigPtp (s : State) (l : List Nat) : Nat := ((irigLocal l : Int) + irigOffset l + s.oi 0x3012 0).toNat

/-- Gather the elements that IRIG_CHANNEL holds: the two half-stamps, then a code item (R177, R270). -/
def State.irigGather (s : State) : Nat → State
  | 0 => s
  | n + 1 =>
    let c := s.o 0x3052 1
    match s.chanPeek c false with
    | some a =>
      let s := s.chanHold c a
      let l := s.time.irig
      let d := a.data.toNat
      let put : List (Nat × Nat) → State := fun l => { s with time := { s.time with irig := l } }
      if a.kind = 1 then (put (l ++ [(d % 65536, 4)])).irigGather n
      else
        match l.getLast? with
        | some (st, 4) =>
          (put (l.dropLast ++ [if a.kind = 2 then (st + 65536 * (d % 65536), 4) else (st, d % 4)])).irigGather n
        | _ => s.irigGather n
    | none => s

/-- The first whole frame among the elements: it begins at the second of two markers in a row (R270). -/
def irigFrame : List (Nat × Nat) → Option (List (Nat × Nat) × List (Nat × Nat))
  | a :: b :: l =>
    if a.2 = 2 && b.2 = 2 && l.length ≥ 99 then some (b :: l.take 99, l.drop 98) else irigFrame (b :: l)
  | _ => none

/-- A leap second is announced (R270): the direction, for the end of the present UTC day. -/
def State.leapNote (s : State) (pending del : Bool) (ptp : Nat) : State :=
  let f := if pending then (if del then 2 else 1) else 0
  let s := s.setO 0x3013 0 0 f
  let utc : Int := (ptp : Int) - s.oi 0x3012 0
  let day := 86400 + 86400 * (utc / 86400)
  { s with time := { s.time with leap := f, leapAt := if pending then some (day + s.oi 0x3012 0).toNat else none } }

/-- A frame is judged (R270): accepted when its parity is good and the frame before it, also good, was one second earlier. -/
def State.irigJudge (s : State) (f : List (Nat × Nat)) : State :=
  let l := f.map (·.2)
  let good := irigShape l && irigParity l
  let ptp := s.irigPtp l
  let tq := irigNum l 71 4
  let prev := s.time.irigPrev
  let s := { s with time := { s.time with irigPrev := if good then some ptp else none } }
  let ok := good && prev = some (ptp - 1) && ptp ≠ 0
  let s := s.setO 0x3052 4 0 (b2n ok + 2 * b2n (!good) + 16 * tq)
  if !ok then s.bump 0x3070 7
  else
    let s := { s with time := { s.time with irigAt := some s.clock } }
    let s := s.leapNote (irigBit l 60) (irigBit l 61) ptp
    if tq > s.o 0x3052 3 then s.sourceLost
    else
      let st := match f.head? with | some (x, _) => x | none => 0
      let d := serialDist 32 (s.nsCount % 2 ^ 32) st
      let cap : Int := nsU * (((s.nsCount - d : Nat) : Int) - s.oi 0x3052 2)
      let label : Int := nsU * (1000000000 * ptp)
      match s.o 0x3020 1 with
      | 3 => if s.useOwn then s.sample (label - cap) 6 true else s
      | 1 =>
        match s.time.pps with
        | some p =>
          if (cap - p).natAbs ≤ 1000000 * nsU && s.useOwn then
            { s with time := { s.time with ppsLabel := some ptp, ppsOkAt := some s.clock } }.sample (label - p) 6 true
          else s
        | none => s
      | _ => s

/-- The IRIG-B service reads its channel and decodes a frame when one is complete (R270). -/
def execIrigFrameDecode (s : State) : Host.Outcome State Fault Refusal :=
  if s.o 0x3052 1 = 0xFFFF then .next s
  else
    let s := s.irigGather 1024
    match irigFrame s.time.irig with
    | some (f, l) => .next ({ s with time := { s.time with irig := l } }.irigJudge f)
    | none => .next s

/-- No frame has been accepted for 3 s (R270). -/
def execIrigSourceLoss (s : State) : Host.Outcome State Fault Refusal :=
  if s.clock < 750000000 + s.time.irigAt.getD s.modes.resetEndAt then .next s else
  let s := { s with time := { s.time with irigPrev := none } }
  .next (if s.o 0x3020 1 = 1 || s.o 0x3020 1 = 3 then s.sourceLost else s)

/-- An announced leap second takes effect: UTC_OFFSET changes and wide time is not stepped (R270). -/
def execLeapSecond (s : State) : Host.Outcome State Fault Refusal :=
  match s.time.leapAt with
  | some t =>
    if s.time.wt / nsU / 1000000000 < t then .next s
    else
      let d : Int := if s.time.leap % 2 = 1 then 1 else -1
      let s := (s.setO 0x3012 0 0 (ofSigned 16 (s.oi 0x3012 0 + d))).setO 0x3013 0 0 0
      .next ({ s with time := { s.time with leap := 0, leapAt := none } }.event .leapSecond [ofSigned 16 (s.oi 0x3012 0)])
  | none => .next s

/-! ### Station PTP (R258) -/

/-- The hub may be master on its station ports (R258): role 2, ring root, source 1, 2 or 3. -/
def State.ptpMaster (s : State) : Bool :=
  s.o 0x3040 1 = 2 && s.time.root = s.node && 1 ≤ s.o 0x3020 1 && s.o 0x3020 1 ≤ 3

/-- The own dataset on the station ports, in the order of comparison: class 255 as a slave-only clock (R263). -/
def State.ptpOwn (s : State) : List Nat :=
  let d := s.ownData
  [d.p1, if s.o 0x3040 1 = 1 then 255 else d.cls, d.acc, d.var, d.p2, s.serial, 0]

/-- Decide the port states (R258): the best master heard makes its port SLAVE (9) and the other PASSIVE (7); where the own
dataset is best the ports are MASTER (6) if the hub may be master, else LISTENING (4). A change of master names the switch ports of the old and
new SLAVE (R264). -/
def State.ptpDecide (s : State) : State :=
  let on : Fin 2 → Bool := fun p => bitOf (s.o 0x3040 5) p && s.o 0x3040 1 ≠ 0
  let f1 := if on 0 then (s.ptp 0).foreign else none
  let f2 := if on 1 then (s.ptp 1).foreign else none
  let own := s.ptpOwn
  let beats : Option (List Nat × Nat × Nat) → Bool := fun f => match f with
    | some (l, _, _) => !s.ptpMaster || lexLt l own
    | none => false
  let best : Option (Fin 2) := match f1, f2 with
    | some (a, _, _), some (b, _, _) => if lexLt b a then some 1 else some 0
    | some _, none => some 0
    | none, some _ => some 1
    | none, none => none
  let best := best.filter (fun p => beats (if p = 0 then f1 else f2))
  let st : Fin 2 → Nat := fun p =>
    if !on p then 3
    else match best with
      | some q => if p = q then 9 else 7
      | none => if s.ptpMaster then 6 else 4
  let slave : State → Nat := fun s => if (s.ptp 0).state = 9 then 2 else if (s.ptp 1).state = 9 then 3 else 0xFF
  let old := slave s
  let s := (s.setPtp 0 { s.ptp 0 with state := st 0 }).setPtp 1 { s.ptp 1 with state := st 1 }
  let gm := best.bind (fun p => (s.ptp p).data)
  let id := match best with
    | some p => (match (s.ptp p).foreign with | some (l, _, _) => l.getD 5 0 | none => 0)
    | none => 0
  let changed := old ≠ slave s || s.o 0x3042 0 ≠ id
  let s := (s.setO 0x3042 0 0 id)
  let s := { s with time := { s.time with gm := gm } }
  if changed then (s.masterChange s.time.root old (slave s)).updateRoot else s

/-- A PTP message goes to a station port, untagged by PRP (R258): kind, PTP_DOMAIN, PTP_VLAN, SEQ and fields. -/
def State.ptpSend (s : State) (p : Fin 2) (kind seq : Nat) (args : List Nat) : State :=
  s.firmIn p 0x88F7 kind (s.o 0x3040 4) ([s.o 0x3040 3, s.o 0x3040 4, seq] ++ args)

/-- The TLVs of an Announce under C37.238 (R258): the time inaccuracy, and the alternate time offset, whose values the spec does not give. -/
def State.ptpTlvs (s : State) : State × List Nat :=
  if s.o 0x3040 2 = 1 then (s.drew, [s.inaccuracy, s.freeNat 128]) else (s, [])

/-- A sample of the station grandmaster (R258). -/
def State.ptpSample (s : State) (theta : Int) : State :=
  let cls := match s.time.gm with | some g => g.cls | none => 248
  if s.o 0x3020 1 = 4 && s.useOwn then s.sample theta cls true else s

/-- A PTP message arrives on a station port, stamped `ago` before now (R250, R252, R258): peer-to-peer only, so a Delay_Req is
discarded and counted. -/
def execStationPtpMessage (port : Fin 2) (m : PtpMsg) (ago : Nat) (s : State) : Host.Outcome State Fault Refusal :=
  let x := s.ptp port
  let t := s.time.wt - ago
  if s.o 0x3040 1 = 0 || !bitOf (s.o 0x3040 5) port || m.domain ≠ s.o 0x3040 3 then .next s
  else if m.kind = .delayReq || m.ns ≥ 1000000000 then .next s.badWt
  else
    let fromGm := match x.foreign with | some (_, id, _) => id = m.sender | none => false
    let origin : Int := (wtOf m.sec m.ns 0 : Nat)
    let corr : Int := m.correction * 2 ^ 16
    match m.kind with
    | .sync =>
      if x.state ≠ 9 || !fromGm then .next s
      else if m.twoStep then .next (s.setPtp port { x with sync := some (m.seq, t, corr) })
      else .next (s.ptpSample (origin + corr + x.delay - t))
    | .followUp =>
      match x.sync with
      | some (q, t1, corr1) =>
        if x.state = 9 && fromGm && q = m.seq then
          .next ((s.setPtp port { x with sync := none }).ptpSample (origin + corr1 + corr + x.delay - t1))
        else .next s
      | none => .next s
    | .pdelayReq => .next (s.ptpSend port 3 m.seq [t])
    | .pdelayResp =>
      match x.pdelay with
      | some (q, t1) =>
        if q ≠ m.seq then .next s
        else if m.twoStep then .next (s.setPtp port { x with resp := some (t, origin.toNat, corr) })
        else .next (s.setPtp port { x with pdelay := none, delay := divNear ((t : Int) - t1 - corr) 2 })
      | none => .next s
    | .pdelayRespFollowUp =>
      match x.pdelay, x.resp with
      | some (q, t1), some (t4, t2, corr1) =>
        if q = m.seq then
          .next (s.setPtp port { x with
            pdelay := none, resp := none, delay := divNear ((t4 : Int) - t1 - (origin - t2) - corr1 - corr) 2 })
        else .next s
      | _, _ => .next s
    | .announce =>
      let g := fun i => m.ann.getD i 0
      let d : DataSet := {
        p1 := g 0, cls := g 1, acc := g 2, var := g 3, p2 := g 4, root := s.node, steps := g 6, kind := 4,
        flags := m.flags % 8, utc := m.utc, inacc := if s.o 0x3040 2 = 1 then m.inacc else 0xFFFFFFFF }
      let s := s.setPtp port { x with
        foreign := some (m.ann, m.sender, s.clock), data := some d, atoi := if s.o 0x3040 2 = 1 then m.atoi else [] }
      let s := if m.flags % 4 ≠ 0 then s.leapNote true (bitOf m.flags 1) (s.time.wt / nsU / 1000000000) else s
      .next s.ptpDecide
    | .delayReq => .next s.badWt

/-- A message interval of the profile ends on a station port (R258): Pdelay_Req, Announce and, as master, Sync are sent; a
master unheard for three intervals is forgotten. -/
def execPtpMessageInterval (port : Fin 2) (s : State) : Host.Outcome State Fault Refusal :=
  if s.o 0x3040 1 = 0 || !bitOf (s.o 0x3040 5) port then .next s
  else
    let x := s.ptp port
    let seq := (x.seq + 1) % 65536
    let old := match x.foreign with | some (_, _, t) => decide (s.clock ≥ ticksMs 3000 + t) | none => false
    let s := s.setPtp port { x with
      seq := seq,
      foreign := if old then none else x.foreign, data := if old then none else x.data }
    let s := s.ptpSend port 2 seq []
    let s := s.ptpDecide
    if (s.ptp port).state = 6 then
      let (s, l) := s.ptpTlvs
      .next ((s.ptpSend port 0xB seq (s.ptpOwn ++ l)).ptpSend port 0 seq [])
    else .next s

/-! ### PPS_OUT, strobes and frozen instants (R251, R271, R272) -/

/-- R61 lets PPS_OUT be aligned in this mode; in JOIN only once time is LOCKED. -/
def State.ppsMode (s : State) : Bool :=
  match s.modes.mode with
  | .reset | .boot | .configure => false
  | .join => s.time.status = .locked
  | .shutdown => s.modes.shut ≠ .halted
  | _ => true

/-- PPS_OUT may rise (R271). -/
def State.ppsMay (s : State) : Bool :=
  s.ppsMode && (s.o 0x3051 3 = 0 || s.time.status = .locked
    || (s.time.status = .holdover && s.inaccuracy ≤ s.o 0x3022 2))

/-- What stands at PPS_OUT (R271): the pulse under way, low wherever it may not be high. -/
def State.ppsPin (s : State) : Bool := s.time.ppsOut && s.ppsMay

/-- A rise of PPS_OUT is due now (R251, R271): at its frozen grid edge; unfrozen, when a step has passed it or within 20 ns after its instant. -/
def State.ppsDueNow (s : State) : Bool :=
  match s.time.ppsFrozen with
  | some e => e ≤ s.time.ltb
  | none =>
    let k := s.ppsCount s.nsCount
    s.time.ppsDue || (decide (k > s.time.ppsIdx) && decide ((s.nsCount : Int) - (1000000000 * k + s.oi 0x3051 1) ≤ 20))

/-- An edge of PPS_OUT (R271): a rise at a second plus offset while it is allowed; a fall after PPS_OUT_WIDTH. The first interval after a step is
irregular and counted. -/
def execPpsOutEdge (rise : Bool) (s : State) : Host.Outcome State Fault Refusal :=
  if !rise then
    if s.clock < ticksUs (s.o 0x3051 2) + s.time.ppsRise then .next s
    else .next { s with time := { s.time with ppsOut := false } }
  else if !s.ppsDueNow then .next s
  else
    let odd := s.time.ppsOdd && s.ppsMay
    let s := { s with time := { s.time with
      ppsOut := s.ppsMay, ppsOdd := s.time.ppsOdd && !s.ppsMay, ppsFrozen := none, ppsDue := false, ppsRise := s.clock,
      ppsIdx := s.ppsCount (s.nsCount + 100000) } }
    .next (if odd then s.bump 0x3070 9 else s)

/-- Set a strobe latch in every running engine; one already set is counted and lost (R215). -/
def State.strobeEngines (s : State) (k : Nat) : State :=
  s.engKeys.foldl (fun s e =>
    let x := s.eng e
    if x.st ≠ .running then s
    else if x.strobes.getLsbD k then s.bump 0x6021 1 e
    else s.setEng e { x with strobes := x.strobes ||| (1#8 <<< k) }) s

/-- The first grid edge at or after a WT instant, on the local time base (R251). -/
def State.gridAt (s : State) (w : Nat) : Nat :=
  if w ≤ s.time.wt then s.time.ltb else s.time.ltb + (w - s.time.wt + s.time.incr - 1) / s.time.incr

/-- The grid edge nearest to a WT instant, the later of two equally near (R251, R272). -/
def State.gridNear (s : State) (w : Nat) : Nat :=
  if w ≤ s.time.wt then s.time.ltb else s.time.ltb + (2 * (w - s.time.wt) + s.time.incr) / (2 * s.time.incr)

/-- The first instant of strobe line `k` from which its schedule goes on (R272), in 2^-32 ns. -/
def State.strobeNext (s : State) (k : Nat) : Nat :=
  let n := s.o 0x3060 (k + 1)
  let off := s.oi 0x3061 (k + 1)
  let from_ : Int := ((tget 0 s.time.strobeFrom k + nsU - 1) / nsU : Nat)
  let base := (from_ - off) / 1000000000
  let j := (((from_ - off) % 1000000000).toNat * n + 999999999) / 1000000000
  if n = 0 then 0
  else if j ≥ n then (nsU * (1000000000 * (base + 1) + off)).toNat
  else (nsU * (1000000000 * base + off + (1000000000 * j / n : Nat))).toNat

/-- Strobe line `k` fires (R215). -/
def State.strobeFire (s : State) (k : Fin 8) : State :=
  let odd := s.time.strobeOdd.getLsbD k
  let s := { s with time := { s.time with strobeOdd := s.time.strobeOdd &&& ~~~(1#8 <<< k.val) } }
  (if odd then s.bump 0x3070 9 else s).strobeEngines k

/-- Strobe line `k` (R215, R251, R272): it fires at its oldest frozen grid edge, or, with none frozen, at the grid edge nearest to its next instant.
An instant more than 50 ns ago is passed over. -/
def execSampleStrobe (k : Fin 8) (s : State) : Host.Outcome State Fault Refusal :=
  let next := s.strobeNext k
  let t := s.time
  if s.o 0x3060 (k + 1) = 0 then .next s
  else match tget [] t.strobeFrozen k with
    | e :: l => if e ≤ t.ltb then .next (State.strobeFire { s with time := { t with strobeFrozen := tset [] t.strobeFrozen k l } } k) else .next s
    | [] =>
      if t.wt > 50 * nsU + next then .next { s with time := { t with strobeFrom := tset 0 t.strobeFrom k t.wt } }
      else if s.gridNear next ≤ t.ltb then
        .next (State.strobeFire { s with time := { t with strobeFrom := tset 0 t.strobeFrom k (next + 1) } } k)
      else .next s

/-- Within 200 µs of it, an instant is frozen on the local time base (R251). -/
def State.nearFreeze (s : State) (edge : Nat) : Bool := edge ≤ ticksUs 200 + s.time.ltb

/-- A wide-time target is frozen 200 µs before its converted instant (R251). -/
def execWtTargetFreeze (w : WtTarget) (s : State) : Host.Outcome State Fault Refusal :=
  match w with
  | .commit =>
    match s.dict.pendingCommit with
    | some c =>
      match c.at_, c.frozen with
      | .wt t, none =>
        let e := s.gridAt t
        if s.nearFreeze e then .next { s with dict := { s.dict with pendingCommit := some { c with frozen := some e } } } else .next s
      | _, _ => .next s
    | none => .next s
  | .ppsOut =>
    let k := max s.time.ppsIdx (s.ppsCount s.nsCount) + 1
    let e := s.gridAt (nsU * (1000000000 * k + s.oi 0x3051 1)).toNat
    if s.time.ppsFrozen.isNone && s.nearFreeze e then .next { s with time := { s.time with ppsFrozen := some e } } else .next s
  | .strobe k =>
    let next := s.strobeNext k
    let e := s.gridNear next
    if s.o 0x3060 (k + 1) ≠ 0 && s.time.wt ≤ next && s.nearFreeze e then
      .next { s with time := { s.time with
        strobeFrozen := tset [] s.time.strobeFrozen k (tget [] s.time.strobeFrozen k ++ [e]),
        strobeFrom := tset 0 s.time.strobeFrom k (next + 1) } }
    else .next s

/-- The nanosecond count has crossed a multiple of 2^31: every queue gets a marker (R265). -/
def execWrapMarker (s : State) : Host.Outcome State Fault Refusal :=
  let k := s.nsCount / 2 ^ 31
  if k = s.time.markAt then .next s
  else .next (State.markQueues { s with time := { s.time with markAt := k } } false (2 ^ 31 * k))

/-! ### Registers and counters (R274, R275) -/

/-- Seconds, nanoseconds and fraction of wide time. -/
def State.wtFields (s : State) : Nat × Nat × Nat :=
  (s.time.wt / nsU / 1000000000 % 2 ^ 48, s.time.wt / nsU % 1000000000, s.time.wt % nsU)

/-- A read of TM_WT_SEC_LO latches the other fields in the reader's context (R275). -/
def State.readWtSecLo (s : State) (c : Ctx) : State × Nat :=
  let (sec, ns, fr) := s.wtFields
  (s.setCtx c { s.ctx c with wtSecHi := sec / 2 ^ 32, wtNs := ns, wtFrac := fr }, sec % 2 ^ 32)

/-- TM_WT_SEC_LO is read. -/
def execTmWtSecLoRead (c : Ctx) (s : State) : Host.Outcome State Fault Refusal :=
  if !s.reaches c then .next s else
  let (t, v) := s.readWtSecLo c
  .next (t.reply c 4 v)

/-- The time counters are cleared (R274). -/
def State.timeClear (s : State) : State := s.clearSubs 0x3070 1 0xA 0

/-- Writing 1 to 0x3071:00. -/
def execTimeClearCounters (s : State) : Host.Outcome State Fault Refusal := .next s.timeClear

end Sys2Proof.Machine
end

