-- ==== Sys2Proof/Machine/Phase.lean ====
section
/-!
DEFINITION. Phase trackers and the calendar (R276–R297): the model, lock and loss, conversion of phase and time, arming,
retargeting, freezing, firing and failing entries.
-/

namespace Sys2Proof.Machine

/-! ### The model (R278) -/

/-- One turn in the unit of phase. -/
def turn : Int := 2 ^ 32

/-- Frequency in Hz, and rate of change in Hz/s held to ±20 (R278). -/
def trkF (x : Tracker) : Rat := (x.f : Nat) / (131072 : Nat)

/-- Rate of change in Hz/s. -/
def trkR (x : Tracker) : Rat := if x.st = 2 then (clampI (-81920) 81920 x.r : Int) / (4096 : Nat) else 0

/-- Phase added in `d` seconds at frequency `f` and rate `r`, in 2^-32 turn; the frequency is held within 10–70 Hz (R278). -/
def phiAdd (f r d : Rat) : Rat :=
  let lim : Rat := if r < 0 then 10 else 70
  let dl : Rat := if r = 0 then 2 else (lim - f) / r
  let t : Rat := (turn : Int)
  let one : Rat → Rat := fun d =>
    if 0 ≤ dl && dl < d then t * (f * dl + r * dl * dl / 2 + lim * (d - dl)) else t * (f * d + r * d * d / 2)
  if d ≤ 1 then one d
  else
    let g := f + r
    let g := if g < 10 then 10 else if g > 70 then 70 else g
    one 1 + t * g * (d - 1)

/-- The model phase at an LTB instant in ns. -/
def trkPhase (x : Tracker) (t : Int) : Rat := (x.phi : Rat) + phiAdd (trkF x) (trkR x) (((t - x.tn : Int) : Rat) / (1000000000 : Nat))

/-- The present LTB instant in ns. -/
def State.ltbNs (s : State) : Int := (s.time.ltb * 4 : Nat)

/-- The model phase now, in 2^-32 turn. -/
def State.phaseNow (s : State) (k : Nat) : Int := (trkPhase (s.trk k) s.ltbNs).floor

/-- ANGLE_OFFSET in 2^-32 turn. -/
def State.angleOff (s : State) (k : Nat) : Int := s.o (0x3400 + k) 4 * 256

/-- The tracker has a model: LOCKED or UNLOCKED (R279). -/
def State.trkModel (s : State) (k : Nat) : Bool := (s.trk k).st ≥ 2

/-- PA24 (R278). -/
def State.pa24 (s : State) (k : Nat) : Nat :=
  if s.trkModel k then ((s.phaseNow k + s.angleOff k) % turn / 256).toNat else 0

/-- CY24 (R278). -/
def State.cy24 (s : State) (k : Nat) : Nat :=
  if s.trkModel k then ((s.phaseNow k + s.angleOff k) / turn % 2 ^ 24).toNat else 0

/-- TRK_STATE (R279): a tracker with INPUT_MODE 0 is OFF, another one without a model searches. -/
def State.trkState (s : State) (k : Nat) : Nat :=
  if s.o (0x3400 + k) 1 = 0 then 0 else if (s.trk k).st < 2 then 1 else (s.trk k).st

/-! ### Converting phase and time (R283) -/

/-- Distance in cycles from now to a target cycle. -/
def State.cycleDist (s : State) (k cy : Nat) : Nat := serialDist 24 cy (s.cy24 k)

/-- The absolute target phase (R283). -/
def State.phiTarget (s : State) (k cy pa : Nat) : Int :=
  s.phaseNow k / turn * turn + s.cycleDist k cy * turn + pa * 256 - s.angleOff k

/-- Search the grid edges from `lo` over `n` halvings for the edge nearest to the instant `LEAD` before phase `p` (R283, R285): the
first edge whose later half-way point lies beyond it. -/
def edgeSearch (x : Tracker) (lead : Int) (p : Int) : Nat → Nat → Nat
  | 0, lo => lo
  | n + 1, lo =>
    let mid := 2 ^ n + lo
    if trkPhase x (4 * ((mid - 1 : Nat) : Int) + 2 + lead) ≤ p then edgeSearch x lead p n mid else edgeSearch x lead p n lo

/-- The grid edge nearest to t* − LEAD, ties to the later edge; not before now (R283, R285). -/
def State.fireEdge (s : State) (k : Nat) (lead phiT : Int) : Nat := edgeSearch (s.trk k) lead phiT 49 s.time.ltb

/-- Wide time of a grid edge on the present INCR (R283). -/
def State.wtOfEdge (s : State) (e : Nat) : Nat := ((s.time.wt : Int) + ((e : Int) - s.time.ltb) * s.time.incr).toNat

/-- The target of the session's conversion objects (R284): its grid edge, or the abort code. -/
def State.convTarget (s : State) (n : Nat) : Except Nat Nat :=
  let own := (s.session n).own
  let k := tget 0 own (objKey 0x3410 1 0)
  let cy := tget 0 own (objKey 0x3410 2 0)
  let pa := tget 0 own (objKey 0x3410 3 0)
  if s.trkState k ≠ 2 then .error Abort.trackerNotLocked
  else if s.cycleDist k cy > 2 ^ 23 then .error Abort.commitTargetTooFar
  else .ok (s.fireEdge k 0 (s.phiTarget k cy pa))

/-- CONV_WT or CONV_ST32 as a session reads it (R284). -/
def State.convRead (s : State) (n : Nat) (st32 : Bool) : Resp :=
  match s.convTarget n with
  | .ok e => .ok (if st32 then beBytes 4 (s.stOfEdge e) else wtBytes (s.wtOfEdge e))
  | .error c => .abort c

/-- A read of CONV_WT or CONV_ST32. -/
def execConvTargetRead (n : Fin 32) (st32 : Bool) (s : State) : Host.Outcome State Fault Refusal :=
  .next (s.answerRead n (s.convRead n st32))

/-! ### Horizon and retargeting (R288, R289) -/

/-- CAL_HORIZON in edges. -/
def State.horizon (s : State) : Nat := ticksUs (s.o 0x3500 1)

/-- Recompute an armed entry of a locked tracker (R288). -/
def State.calRetarget (s : State) (i : Nat) : State :=
  let x := s.cal i
  let e := s.fireEdge x.trk x.lead x.phiT
  let s := s.setCal i { x with fire := e, fireSt := s.stOfEdge e }
  if e < s.time.ltb + 1000 then s.calEnd 4 3 i
  else if e ≤ s.time.ltb + s.horizon then s.setCal i { s.cal i with st := 2 }
  else s

/-- Recompute the pending commit of a locked tracker (R289). -/
def State.commitRetarget (s : State) (k : Nat) : State :=
  match s.dict.pendingCommit with
  | some c =>
    match c.at_, c.frozen with
    | .cycle j _, none =>
      if j ≠ k then s
      else
        let e := s.fireEdge k 0 c.phiT
        if e < s.time.ltb + 1000 then s.commitDrop Abort.commitTooSoon
        else
          let c := { c with fire := e, frozen := if e ≤ s.time.ltb + s.horizon then some e else none }
          { s with dict := { s.dict with pendingCommit := some c } }
    | _, _ => s
  | none => s

/-- Recompute every armed entry of tracker `k`, and the pending commit (R288, R289). -/
def State.retarget (s : State) (k : Nat) : State :=
  let l := (s.phase.cal.filter (fun e => e.2.st = 1 && e.2.trk = k)).map (·.1)
  (l.foldl (fun s i => s.calRetarget i) s).commitRetarget k

/-- The horizon of an armed entry is reached (R288): it freezes, or fails when its tracker is not locked. -/
def execCalFreeze (i : Fin 1024) (s : State) : Host.Outcome State Fault Refusal :=
  let x := s.cal i
  if x.st ≠ 1 || x.fire > s.time.ltb + s.horizon then .next s
  else if s.trkState x.trk = 2 then .next (s.setCal i { x with st := 2 })
  else .next (s.calEnd 4 1 i)

/-- The horizon of a cycle-boundary commit is reached (R54, R289). -/
def execCommitFreeze (s : State) : Host.Outcome State Fault Refusal :=
  match s.dict.pendingCommit with
  | some c =>
    match c.at_, c.frozen with
    | .cycle k _, none =>
      if c.fire > s.time.ltb + s.horizon then .next s
      else if s.trkState k = 2 then .next { s with dict := { s.dict with pendingCommit := some { c with frozen := some c.fire } } }
      else .next (s.commitDrop Abort.trackerNotLocked)
    | _, _ => .next s
  | none => .next s

/-! ### Trackers (R276–R281) -/

/-- Wrap a phase difference into (−0.5, +0.5] turn. -/
def wrapTurn (d : Int) : Int :=
  let m := d % turn
  if m > turn / 2 then m - turn else m

/-- An input the tracker ignores is counted (R277). -/
def State.trkIgnore (s : State) (k : Nat) : State := s.bump (0x3420 + k) 9

/-- A cycle at a frequency, in ns. -/
def cycleNs (f : Nat) : Int := if f = 0 then 100000000 else 131072000000000 / f

/-- The input meets the lock conditions of R279. -/
def State.trkGood (s : State) (k : Nat) (x : TrkInput) : Bool :=
  10 * 131072 ≤ x.freq.toNat && x.freq.toNat ≤ 70 * 131072 && x.rocof.natAbs ≤ 20 * 4096 && x.resid ≤ 500
    && (s.o (0x3400 + k) 1 ≠ 1 || x.amp.toNat ≥ s.o (0x3400 + k) 5)

/-- Set, keep or clear the start of a condition. -/
def since (on : Bool) (old : Option Int) (t : Int) : Option Int := if on then some (old.getD t) else none

/-- The condition has lasted a whole cycle. -/
def lasted (x : Option Int) (t c : Int) : Bool := match x with | some a => t - a ≥ c | none => false

/-- In mode 1 the inputs have come at 24 or more per cycle of `c` ns since the lock conditions hold (R277). -/
def State.trkDense (s : State) (k : Nat) (x : Tracker) (t c : Int) : Bool :=
  s.o (0x3400 + k) 1 ≠ 1 || (match x.goodSince with | some a => ((x.goodN : Int) - 1) * c ≥ 24 * (t - a) | none => false)

/-- A tracker enters LOCKED for the first time (R279) or again (R281). -/
def State.trkLock (s : State) (k : Nat) (x : Tracker) (t : Int) (i : TrkInput) : State :=
  let put : Int → State := fun phi =>
    let y : Tracker := { x with
      st := 2, tn := t, phi := phi, f := i.freq.toNat, r := clampI (-81920) 81920 i.rocof, amp := i.amp.toNat }
    s.setTrk k { y with crossed := ((trkPhase y s.ltbNs).floor + s.angleOff k) / turn }
  if x.st < 2 then ((put (i.phase.toNat : Int)).event .calendar [0x10000 + k, 2, 0]).retarget k
  else
    let fw := (trkPhase x t).floor
    let c := wrapTurn ((i.phase.toNat : Int) - fw)
    let s := put (fw + c)
    if t - x.unlockedAt ≤ 1000000000 && 4 * c.natAbs ≤ turn then
      (s.event .calendar [0x10000 + k, 2, ofSigned 32 c]).retarget k
    else
      let s := (s.bump (0x3420 + k) 7).event .calendar [0x20000 + k, ofSigned 32 c, (t - x.unlockedAt).toNat]
      let s := s.calEndAll 4 2 (fun y => y.trk = k && y.st = 1)
      match s.dict.pendingCommit with
      | some p => (match p.at_ with
        | .cycle j _ => if j = k && p.frozen.isNone then s.commitDrop Abort.trackerNotLocked else s
        | _ => s)
      | none => s

/-- A stamp pair among the items of a tap, with what follows it (R276). -/
def pairNext : List Item → Option (Nat × List Item)
  | a :: b :: l =>
    if a.kind = 1 && b.kind = 2 then some (a.data.toNat % 65536 + 65536 * (b.data.toNat % 65536), l) else pairNext (b :: l)
  | _ => none

/-- The next input among the items of a tap (R276): its stamp where it has one, its KIND 0 items, and the items left. In mode 1 a packet that
is there whole; in mode 2 a stamp pair. -/
def tapNext (mode : Nat) (l : List Item) : Option (Option Nat × Nat × List Item) :=
  if mode = 2 then (pairNext l).map (fun x => (some x.1, 0, x.2))
  else
    let l := l.dropWhile (fun i => !i.sop)
    let p := packetItems l
    let whole := p.any (·.eop) || p.length < l.length
    if whole then some ((stampPair p).map (·.1), (p.filter (fun i => i.kind = 0)).length, l.drop p.length) else none

/-- The input instant of a stamp (R277): extended under R268, less INPUT_DELAY, on the local time base in ns. -/
def State.inputAt (s : State) (k st : Nat) : Int :=
  let count : Int := (s.nsCount : Int) + wrapSt (st - s.nsCount)
  ltbOf (nsU * (count - s.oi (0x3400 + k) 3)) s.time.segs
where
  /-- A difference of stamps, within half their range (R267). -/
  wrapSt (d : Int) : Int := let m := d % 2 ^ 32; if m ≥ 2 ^ 31 then m - 2 ^ 32 else m

/-- ST32 of the input instant of a stamp. -/
def State.inputSt (s : State) (k st : Nat) : Nat := (((st : Int) - s.oi (0x3400 + k) 3) % 2 ^ 32).toNat

/-- The next confirmed tapped input (R276–R281), with what its estimation gives: it is ignored, or it updates the model; the tracker may lock,
relock or be lost, and at a locked update its armed entries are recomputed (R288). Nothing happens while the tap holds no input. -/
def execTrackerInput (k : Fin 4) (i : TrkInput) (s : State) : Host.Outcome State Fault Refusal :=
  let mode := s.o (0x3400 + k) 1
  if mode = 0 then .next s
  else match tapNext mode (s.trk k).seen with
  | none => .next s
  | some (stamp, kind0, rest) =>
    let s := s.setTrk k { s.trk k with seen := rest }
    let x := s.trk k
    match stamp with
    | none => .next (s.trkIgnore k)
    | some st =>
      let t := s.inputAt k st
      let close := match x.lastIn with | some l => decide (t - l < 7000000) | none => false
      if (mode = 1 && kind0 ≤ s.o (0x3400 + k) 2) || (mode = 2 && close) then .next (s.trkIgnore k)
      else
        let f := i.freq.toNat
        let cyc := cycleNs f
        let out := f < 10 * 131072 || f > 70 * 131072
        let y : Tracker := { x with
          lastIn := some t, lastSt := s.inputSt k st, lastAt := s.ltbNs, gap := t - x.lastIn.getD t,
          goodSince := since (s.trkGood k i) x.goodSince t, goodN := if s.trkGood k i then x.goodN + 1 else 0,
          lowSince := since (mode = 1 && i.amp.toNat < s.o (0x3400 + k) 5) x.lowSince t,
          rateSince := since (i.rocof.natAbs > 25 * 4096) x.rateSince t,
          residSince := since (i.resid > 5000) x.residSince t }
        let s := s.setTrk k y
        if y.st = 2 then
          if out then .next (s.trkLose k 3)
          else if lasted y.lowSince t cyc then .next (s.trkLose k 2)
          else if lasted y.rateSince t cyc then .next (s.trkLose k 4)
          else if lasted y.residSince t cyc then .next (s.trkLose k 5)
          else
            let m := (trkPhase y t).floor
            let phi := m + wrapTurn ((i.phase.toNat : Int) - m)
            .next ((s.setTrk k { y with
              tn := t, phi := phi, f := f, r := clampI (-81920) 81920 i.rocof, amp := i.amp.toNat }).retarget k)
        else if lasted y.goodSince t (3 * cyc) && s.trkDense k y t cyc then .next (s.trkLock k y t i)
        else .next (s.setTrk k { y with amp := i.amp.toNat })

/-- The time without a usable input after which a tracker is lost, in ns (R280): in mode 1 four sample intervals, of which the last one is
expected again (DEDUCED), or 2 ms; in mode 2, 1.5 estimated periods. -/
def State.trkPatience (s : State) (k : Nat) : Int :=
  let x := s.trk k
  if s.o (0x3400 + k) 1 = 1 then max (4 * x.gap) 2000000 else cycleNs x.f * 3 / 2

/-- No usable input for the time of R280: a locked tracker is lost with cause 1. -/
def execTrackerInputTimeout (k : Fin 4) (s : State) : Host.Outcome State Fault Refusal :=
  let x := s.trk k
  if s.ltbNs - x.lastAt < s.trkPatience k then .next s
  else .next ((s.setTrk k { x with goodSince := none, goodN := 0 }).trkLose k 1)

/-- The channel bound to telemetry source `n` (R180). -/
def State.telemetryChan (s : State) (n : Nat) : Option Nat := s.findItem 0x5001 0 (0x6000 + n)

/-- A KIND 0 item. -/
def dataItem (v : Nat) : Item := { data := BitVec.ofNat 24 v }

/-- The two half-stamps of an instant, the first with SOP (R177). -/
def stampItems (st : Nat) : List Item :=
  [{ kind := 1, sop := true, data := BitVec.ofNat 24 (st % 65536) }, { kind := 2, data := BitVec.ofNat 24 (st / 65536 % 65536) }]

/-- Mark the last item EOP. -/
def withEop (l : List Item) : List Item :=
  match l.getLast? with
  | some i => l.dropLast ++ [{ i with eop := true }]
  | none => []

/-- A positive-going crossing of a locked model (R295): a packet of five items, once for each. -/
def execTrackerCrossingTelemetry (k : Fin 4) (s : State) : Host.Outcome State Fault Refusal :=
  let x := s.trk k
  let m := (s.phaseNow k + s.angleOff k) / turn
  if s.trkState k ≠ 2 || m ≤ x.crossed then .next s
  else
    let s := s.setTrk k { x with crossed := m }
    match s.telemetryChan (0x20 + k) with
    | some c =>
      let st := s.stOfEdge (edgeSearch x 0 (m * turn - s.angleOff k) 49 (x.tn.toNat / 4))
      let f := (x.f : Int) + x.r * (s.ltbNs - x.tn) * 32 / 1000000000
      .next (s.telemetryPut c (withEop (stampItems st ++
        [dataItem (m % 2 ^ 24).toNat, dataItem f.toNat, dataItem (ofSigned 24 x.r)])))
    | none => .next s

/-- A read of PH_TRK_PA returns PA24 and latches CY24 in the reader's context (R297). -/
def State.readTrkPa (s : State) (c : Ctx) (k : Nat) : State × Nat :=
  (s.setCtx c { s.ctx c with trkCy := tset 0 (s.ctx c).trkCy k (s.cy24 k) }, s.pa24 k)

/-- PH_TRK_PA is read. -/
def execPhTrkPaRead (c : Ctx) (k : Fin 4) (s : State) : Host.Outcome State Fault Refusal :=
  if !s.reaches c then .next s else
  let (t, v) := s.readTrkPa c k
  .next (t.reply c 4 v)

/-! ### Entries: fields, arming, cancelling (R285–R287) -/

/-- The entry a context or session has selected (R285, R297). -/
def State.calSelected (s : State) (c : Ctx) : Nat :=
  match c with
  | .session n => tget 0 (s.session n).own (objKey 0x3600 0 0)
  | c => (s.ctx c).calSel

/-- The entry belongs to service firmware. -/
def State.calService (s : State) (i : Nat) : Bool := i + s.o 0x3502 0 ≥ 1024

/-- The result of a calendar action reaches its asker: a session's answer, or PH_CAL_RESULT (R296, R297). -/
def State.calReply (s : State) (c : Ctx) (r : Act) : State :=
  match c with
  | .session n => s.act n r
  | c =>
    match r with
    | .ok t => t.setCtx c { t.ctx c with calResult := 0 }
    | .error e => s.setCtx c { s.ctx c with calResult := e }

/-- Replace one field of an entry, by its subindex of 0x3601 less one. -/
def calPut (x : CalEntry) (field v : Nat) : CalEntry :=
  match field with
  | 0 => { x with trk := v % 4 }
  | 1 => { x with cycle := v % 2 ^ 24 }
  | 2 => { x with angle := v % 2 ^ 24 }
  | 3 => { x with lead := toSigned 32 v }
  | 4 => { x with action := v % 16 }
  | 5 => { x with operand := v % 65536 }
  | 6 => { x with repeat_ := v % 65536 }
  | _ => { x with tag := v % 65536 }

/-- A field's value is a reserved encoding or out of range (R285). -/
def calBadValue (field v : Nat) : Bool :=
  match field with
  | 0 => v > 3
  | 1 | 2 => v ≥ 2 ^ 24
  | 3 => (toSigned 32 v).natAbs > 500000000
  | 4 => v > 3
  | 5 | 6 | 7 => v ≥ 65536
  | _ => true

/-- Write a field of entry `i` (R286). -/
def State.calWriteAt (s : State) (i field v : Nat) : Act :=
  if s.calService i then .error Abort.writeToReadOnly
  else if calLive (s.cal i) then .error Abort.busyRetry
  else if calBadValue field v then .error Abort.valueOutOfRange
  else .ok (s.setCal i (calPut (s.cal i) field v))

/-- Write a field of the selected entry. -/
def State.calWrite (s : State) (c : Ctx) (field v : Nat) : Act := s.calWriteAt (s.calSelected c) field v

/-- The width in bits of a calendar field in its register, and the register (R297). -/
def calFieldPlace (field : Nat) : Nat × Nat :=
  match field with
  | 0 => (2, 0x0D1100)
  | 1 => (24, 0x0D1100)
  | 2 => (24, 0x0D1104)
  | 3 => (32, 0x0D1108)
  | 4 => (4, 0x0D110C)
  | 5 => (16, 0x0D110C)
  | _ => (16, 0x0D1110)

/-- A field write of the selected-entry block (R297): bits beyond the field are reserved ones, and a reserved LEAD or ACTION is not
applied; either is counted once (R5, R10, R11). -/
def State.calFieldReg (s : State) (c : Ctx) (field v : Nat) : State :=
  let w := 2 ^ (calFieldPlace field).1
  let bad := (field = 3 || field = 4) && calBadValue field (v % w)
  let t := if bad || v ≥ w then s.bump 0xA0F0 0 else s
  if bad then t.refuseAccess c Abort.valueOutOfRange (calFieldPlace field).2 else t.calReply c (t.calWrite c field (v % w))

/-- A calendar field is written through 0x3601 or the selected-entry block. -/
def execCalFieldWrite (c : Ctx) (field : Fin 8) (v : W32) (s : State) : Host.Outcome State Fault Refusal :=
  if !s.reaches c then .next s else
  match c with
  | .session n => .next (s.asWrite n 6 0x3601 (field + 1) (fun s => s.act n (s.calWrite c field v.toNat)))
  | c => .next (s.calFieldReg c field v.toNat)

/-- No reserved value stands in the entry (R285, R287). -/
def State.calLegal (s : State) (x : CalEntry) : Bool :=
  x.trk ≤ 3 && x.lead.natAbs ≤ 500000000 &&
    (match x.action with
     | 0 => x.operand ≤ 31
     | 1 => x.repeat_ = 0 && (if x.operand ≥ 2 ^ 15 then x.operand < 2 ^ 15 + 128 && !(s.calEngines x).isEmpty else x.operand ≤ 255)
     | 2 => x.repeat_ = 0 && x.operand ≤ 63
     | 3 => true
     | _ => false)

/-- The latest possible confirmation instant of an engine, in 0.1 ns (R168). -/
def State.latestFor (s : State) (e : Nat) : Nat :=
  match (s.eng e).ckpt with
  | some k => (match k.tag with
    | some g => (match s.specTag g with | some t => t.deadline | none => s.now10)
    | none => s.now10)
  | none => 20000 + s.now10

/-- A grid edge of the local time base on the clock, in 0.1 ns. -/
def State.edge10 (s : State) (e : Nat) : Nat := s.now10 + (e - s.time.ltb) * 40

/-- Another live entry releases one of these engines (R287). -/
def State.calClash (s : State) (i : Nat) (es : List Nat) : Bool :=
  s.phase.cal.any (fun y => y.1 ≠ i && calLive y.2 && (s.calEngines y.2).any es.contains)

/-- The modes in which entries may be armed (R287). -/
def State.calMode (s : State) : Bool :=
  match s.modes.mode with
  | .join | .active | .degraded | .standby | .handover | .maintenance => true
  | _ => false

/-- Place the engines of an entry of action 1 in calendar-held state (R167). -/
def State.calHold (s : State) (x : CalEntry) : State :=
  (s.calEngines x).foldl (fun s e => s.setEng e { s.eng e with sh := .calendarHeld }) s

/-- The engines an entry names, or a group it names: of these none may be retired (R287). -/
def State.calNamed (s : State) (x : CalEntry) : List Nat := if x.action = 2 then s.lockMembers x.operand else s.calEngines x

/-- The checks of R287 in their order; `rearm` leaves out those on state and on the arm instant (R290). -/
def State.calRefused (s : State) (i : Nat) (x : CalEntry) (phiT : Int) (rearm : Bool) : Option Nat :=
  let es := s.calEngines x
  let fire := s.fireEdge x.trk x.lead phiT
  if !s.calMode then some Abort.notInThisMode
  else if !s.calLegal x then some Abort.valueOutOfRange
  else if !rearm && calLive x then some Abort.busyRetry
  else if (s.calNamed x).any (fun e => (s.eng e).st = .retired) then some Abort.resourceRetired
  else if s.calClash i es then some Abort.busyRetry
  else if s.trkState x.trk ≠ 2 then some Abort.trackerNotLocked
  else if !rearm && s.cycleDist x.trk x.cycle > 2 ^ 23 then some Abort.commitTargetTooFar
  else if !rearm && fire < s.time.ltb + 1000 then some Abort.commitTooSoon
  else if x.action = 1 && es.any (fun e => s.edge10 fire ≤ s.latestFor e) then some Abort.commitTooSoon
  else none

/-- Put an entry in state armed, or frozen where its instant lies within the horizon already (R287). -/
def State.calSetArmed (s : State) (i : Nat) (x : CalEntry) (phiT : Int) : State :=
  let fire := s.fireEdge x.trk x.lead phiT
  let st := if fire ≤ s.time.ltb + s.horizon then 2 else 1
  ((s.setCal i { x with st := st, reason := 0, phiT := phiT, fire := fire, fireSt := s.stOfEdge fire }).calHold x).bump 0x3501 1

/-- Arm entry `i` (R287): refused arms are counted. -/
def State.calArmAt (s : State) (i : Nat) : State × Option Nat :=
  let x := s.cal i
  let phiT := s.phiTarget x.trk x.cycle x.angle
  match s.calRefused i x phiT false with
  | some e => (s.bump 0x3501 5, some e)
  | none => (s.calSetArmed i x phiT, none)

/-- The active mirrors an arm or cancel of a customer entry with its fields (R476). -/
def State.calMirror (s : State) (i : Nat) (arm : Bool) : State :=
  let x := s.cal i
  s.mirror (.calendar (Fin.ofNat 1024 i) [x.trk, x.cycle, x.angle, ofSigned 32 x.lead, x.action, x.operand, x.repeat_, x.tag] arm)

/-- Arm the selected entry (R285, R287). -/
def State.calArm (s : State) (c : Ctx) : State :=
  let i := s.calSelected c
  if s.calService i then s.calReply c (.error Abort.writeToReadOnly)
  else match s.calArmAt i with
    | (t, some e) => t.calReply c (.error e)
    | (t, none) => t.calReply c (.ok (t.calMirror i true))

/-- CAL_CMD 1 or PH_CAL_CMD.ARM. -/
def execCalArm (c : Ctx) (s : State) : Host.Outcome State Fault Refusal :=
  if !s.reaches c then .next s else
  match c with
  | .session n => .next (s.asWrite n 6 0x3602 0 (fun s => s.calArm c))
  | c => .next (s.calArm c)

/-- Cancel the selected entry (R291): at or after its firing edge it has fired. -/
def State.calCancel (s : State) (c : Ctx) : State :=
  let i := s.calSelected c
  let x := s.cal i
  if s.calService i then s.calReply c (.error Abort.writeToReadOnly)
  else if !calLive x || s.time.ltb ≥ x.fire then s.calReply c (.error Abort.busyRetry)
  else s.calReply c (.ok ((s.calEnd 5 5 i).calMirror i false))

/-- CAL_CMD 2 or PH_CAL_CMD.CANCEL. -/
def execCalCancel (c : Ctx) (s : State) : Host.Outcome State Fault Refusal :=
  if !s.reaches c then .next s else
  match c with
  | .session n => .next (s.asWrite n 6 0x3602 0 (fun s => s.calCancel c))
  | c => .next (s.calCancel c)

/-! ### Firing (R169, R290, R291) -/

/-- Set a calendar line's latch in every running engine; one already set is counted and lost (R215). -/
def State.calLine (s : State) (k : Nat) : State :=
  s.engKeys.foldl (fun s e =>
    let x := s.eng e
    if x.st ≠ .running then s
    else if x.cals.getLsbD k then s.bump 0x6021 1 e
    else s.setEng e { x with cals := x.cals ||| (1#32 <<< k) }) s

/-- Entries staged since the engine's checkpoint are still unconfirmed (R169): the tag of their frame. -/
def engOpen (x : Engine) : Option Nat :=
  match x.ckpt with
  | some k => if k.staged < x.staging.length then k.tag else none
  | none => none

/-- Entry `i` finds output that is still unconfirmed under tag `g` at its release instant (R169): it fails, and its engines are muted. -/
def State.calLate (s : State) (i g : Nat) (x : CalEntry) : State :=
  ((s.event .lateConfirm [i, x.operand, x.fireSt, g]).bump 0x26A0 8).calEnd 4 4 i

/-- The release instant of an entry of action 1 (R167, R169, R172, R291). -/
def State.calRelease (s : State) (i : Nat) (x : CalEntry) : State :=
  let es := s.calEngines x
  let late := es.filterMap (fun e => engOpen (s.eng e))
  match s.shutter.groups.find? (fun r => x.operand = 2 ^ 15 + r.g) with
  | some r =>
    (match late with
      | g :: _ => s.calLate i g x
      | [] => s).groupFail r .calendar
  | none =>
    match late with
    | g :: _ => s.calLate i g x
    | [] =>
      let s := es.foldl (fun s e => s.setEng e (engDrain (s.eng e))) s
      ((s.setCal i { s.cal i with st := 3 }).cswFired i x.fireSt).bump 0x3501 2

/-- What an entry of action 0, 2 or 3 does at its instant (R290). -/
def State.calAct (s : State) (i : Nat) (x : CalEntry) : State :=
  match x.action with
  | 0 => s.calLine (x.operand % 32)
  | 2 => s.lockStart (x.operand % 64)
  | _ => s.emit (.event .calendar x.fireSt [i, x.tag, x.operand])

/-- The edge at which a frozen entry acts (R290): the starting event of a lock group comes 16 ns before the firing instant. -/
def calActEdge (x : CalEntry) : Nat := if x.action = 2 then x.fire - 4 else x.fire

/-- A frozen entry fires (R290): it acts, and re-arms REPEAT cycles later if it repeats. -/
def execCalFire (i : Fin 1024) (s : State) : Host.Outcome State Fault Refusal :=
  let x := s.cal i
  if x.st ≠ 2 || s.time.ltb < calActEdge x then .next s
  else if x.action = 1 then .next (s.calRelease i x)
  else
    let s := ((s.calAct i x).setCal i { x with st := 3 }).bump 0x3501 2
    if x.repeat_ = 0 then .next s
    else
      let p := x.phiT + x.repeat_ * turn
      match s.calRefused i x p true with
      | some _ => .next (s.calEnd 4 10 i)
      | none => .next (s.calSetArmed i x p)

/-- The phase counters are cleared (R296). -/
def State.phaseClear (s : State) : State :=
  (List.range 4).foldl (fun s k => (s.setO (0x3420 + k) 7 0 0).setO (0x3420 + k) 9 0 0) (s.clearSubs 0x3501 1 5 0)

/-- Writing 1 to 0x3501:00. -/
def execPhaseClearCounters (s : State) : Host.Outcome State Fault Refusal := .next s.phaseClear

end Sys2Proof.Machine
end

