-- ==== Sys2Proof/Machine/Csw.lean ====
section
/-!
DEFINITION. Controlled switching (R318–R324): predicted operating times, bands and margins, the command that arms one entry
per pole, its cancellation, and contact.
-/

namespace Sys2Proof.Machine

/-! ### Sensors and prediction (R319, R320) -/

/-- Signal `n`. -/
def State.sigOf (s : State) (n : Nat) : Signal := tget {} s.station.sig n

/-- What a sensor signal says (R319): nothing where none is named, its value, its last good value of at most 10 min, or that
it is lost. -/
inductive Sense where
  | unnamed | value (v : Int) | lost
deriving DecidableEq, Repr

/-- Read the sensor named by entry 0x3A04:`sub` of breaker `b`. -/
def State.sense (s : State) (b sub : Nat) : Sense :=
  let n := s.o 0x3A04 sub b
  if n > 4095 then .unnamed
  else
    let x := s.sigOf n
    if x.quality = 0 then .value (toSigned 24 x.value)
    else match x.badSince with
      | some t => if s.clock ≤ ticksMs 600000 + t then .value (toSigned 24 x.good) else .lost
      | none => .lost

/-- The fraction bits of a base-2 logarithm: `m` is a number from 1 to 2 in 64 fraction bits. -/
def log2Bits : Nat → Nat → Nat
  | 0, _ => 0
  | n + 1, m =>
    let q := m * m / 2 ^ 64
    if q ≥ 2 ^ 65 then 2 ^ n + log2Bits n (q / 2) else log2Bits n q

/-- min(8, log2(max(1, a / b))), to 2^-48 (R319). -/
def log2Cap (a b : Nat) : Rat :=
  if a ≤ b then 0
  else if a ≥ 256 * b then 8
  else
    let k := Nat.log2 (a / b)
    (k : Rat) + (log2Bits 48 (a * 2 ^ 64 / (b * 2 ^ k)) : Nat) / (2 ^ 48 : Nat)

/-- Edges in a day. -/
def dayEdges : Nat := 86400 * 250000000

/-- The predicted time of a pole from its BASE, and how many sensor terms were omitted (R319). The idle time of a breaker that
has not operated since reset, and the volt term for VOLT_NOM 0, are free. -/
def State.cswTime (s : State) (b base : Nat) : Int × Nat :=
  let temp : Rat × Nat := match s.sense b 1 with
    | .value v => ((s.oi 0x3A04 7 b * (v - s.oi 0x3A04 5 b) : Int) / (10 : Nat), 0)
    | .lost => (0, 1)
    | .unnamed => (0, 0)
  let nom := s.o 0x3A04 6 b
  let volt : Rat × Nat := match s.sense b 2 with
    | .value v => (if nom = 0 then ((toSigned 32 (s.freeNat 32) : Int) : Rat) else (s.oi 0x3A04 8 b * 100 * (v - nom) : Int) / (nom : Nat), 0)
    | .lost => (0, 1)
    | .unnamed => (0, 0)
  let idle := match (s.brk b).lastOp with
    | some t => s.clock - t
    | none => s.freeNat 64
  let t := (base : Rat) + temp.1 + volt.1 + (s.oi 0x3A04 9 b : Rat) * log2Cap idle dayEdges
  (ratNear t, temp.2 + volt.2)

/-- The load band at the command (R320): 0 light, 1 medium, 2 heavy; free where the load is not known. -/
def State.cswBand (s : State) (b : Nat) : Nat × Nat :=
  let of : Int → Nat := fun v => if v < s.o 0x3A04 10 b then 0 else if v ≥ s.o 0x3A04 11 b then 2 else 1
  match s.sense b 3 with
  | .value v => (of v, 0)
  | .lost => (s.freeNat 8 % 3, 1)
  | .unnamed => (s.freeNat 8 % 3, 0)

/-- The band a pole's BASE comes from: its own with 8 samples, else the nearest with 8, the heavier of two (R320). -/
def State.cswSource (s : State) (b kind band p : Nat) : Option Nat :=
  let ok : Nat → Bool := fun k => s.o 0x3A08 (cswSub kind k p) b ≥ 8
  if ok band then some band
  else ((List.range 2).flatMap (fun d => [band + (d + 1)] ++ (if band ≥ d + 1 then [band - (d + 1)] else []))).find?
    (fun k => k ≤ 2 && ok k)

/-- A pole's plan (R319, R320): predicted time, margin in µs, and the record's flags in [7:2] places. -/
def State.cswPlan (s : State) (b kind band lostLoad p : Nat) : Int × Nat × Nat :=
  let src := s.cswSource b kind band p
  let base := match src with
    | some k => s.cswBase b kind k p
    | none => s.o 0x3A03 (3 * (kind - 1) + p + 1) b
  let (t, lost) := s.cswTime b base
  let lost := lost + lostLoad
  let steps := match src with
    | some k => if k ≥ band then k - band else band - k
    | none => 0
  let margin := s.o 0x3A05 2 b + steps * s.o 0x3A05 3 b + (if src.isNone then s.o 0x3A05 4 b else 0) + lost * s.o 0x3A05 5 b
  let flags := band + (match src with | some k => if k = band then 0 else k * 4 + 16 | none => 32) + (if lost = 0 then 0 else 64)
  (t, margin, flags)

/-! ### The command (R321) -/

/-- Every pole's firing edge in cycle `cy` lies at least MIN_PREP ahead. -/
def State.cswFits (s : State) (b kind : Nat) (ts : List Int) (cy : Nat) : Bool :=
  let k := s.o 0x3A01 2 b
  [0, 1, 2].all (fun p =>
    s.fireEdge k (ts.getD p 0) (s.phiTarget k cy (s.o 0x3A02 (3 * (kind - 1) + p + 1) b)) ≥ ticksUs (s.o 0x3A05 1 b) + s.time.ltb)

/-- The earliest cycle that fits, from the present one (R321). -/
def State.cswCycle (s : State) (b kind : Nat) (ts : List Int) : Option Nat :=
  ((List.range 256).map (fun d => (s.cy24 (s.o 0x3A01 2 b) + d) % 2 ^ 24)).find? (s.cswFits b kind ts)

/-- The engine a pole's command channel feeds (R298, R318). -/
def State.cswEngine (s : State) (b p : Nat) : Option Nat := (s.epOut (0xD0 + 3 * b + p)).bind s.chanEng

/-- The lowest service entry of the calendar that is not live (R285). -/
def State.calFree (s : State) : Option Nat :=
  ((List.range (s.o 0x3502 0)).map (fun i => 1024 - s.o 0x3502 0 + i)).find? (fun i => !calLive (s.cal i))

/-- Arm one pole's entry (R321): nothing when it is refused. -/
def State.cswArmPole (s : State) (b p cy : Nat) : Option State :=
  let x := s.brk b
  match s.calFree, s.cswEngine b p with
  | some i, some e =>
    let q := cswPole x p
    let s := s.setCal i { s.cal i with
      trk := s.o 0x3A01 2 b, cycle := cy, angle := s.o 0x3A02 (3 * (x.kind - 1) + p + 1) b, lead := q.t,
      action := 1, operand := e, repeat_ := 0, tag := 0 }
    match s.calArmAt i with
    | (t, none) => some (t.setBrk b (cswSetPole x p { q with entry := some i }))
    | (_, some _) => none
  | _, _ => none

/-- Arm the poles in order; `false` with the state reached where one is refused. -/
def State.cswArm (s : State) (b cy : Nat) : List Nat → State × Bool
  | [] => (s, true)
  | p :: l =>
    match s.cswArmPole b p cy with
    | some t => t.cswArm b cy l
    | none => (s.bump 0x3501 5, false)

/-- Every pin the breaker's pole engines drive has test permission (R64, R299). -/
def State.cswPermitted (s : State) (b : Nat) : Bool :=
  [0, 1, 2].all (fun p => match s.cswEngine b p with
    | some e => (List.range 48).all (fun i => !(s.driveMask e).getLsbD i || s.permitted (pinBank e i) (pinIn i))
    | none => false)

/-- The modes in which breaker `b` may be commanded (R299); a breaker that is not enabled has no instance. -/
def State.cswMay (s : State) (b : Nat) : Bool :=
  s.svcUp (0x480 + b) && (match s.modes.mode with
    | .active | .degraded | .handover => true
    | .maintenance => s.cswPermitted b
    | _ => false)

/-- Begin an operation (R320, R321). -/
def State.cswBegin (s : State) (b kind : Nat) : State :=
  let (band, lostLoad) := s.cswBand b
  let plans := [0, 1, 2].map (s.cswPlan b kind band lostLoad)
  let worst := plans.foldl (fun (a : Nat × Nat) q => if q.2.1 > a.1 then (q.2.1, q.2.2) else a) (0, band)
  let ts := plans.map (·.1)
  let s := s.drew.setBrk b { s.brk b with
    kind := kind, uncontrolled := false, band := band, flags := worst.2, margin := worst.1, cmdSt := s.st32, result := 0,
    poles := ts.map (fun t => { t := t }) }
  if worst.1 > s.o 0x3A05 6 b then s.cswFallback b
  else match (if s.trkState (s.o 0x3A01 2 b) = 2 then s.cswCycle b kind ts else none) with
    | none => s.cswPoleFailed b
    | some cy =>
      match s.cswArm b cy [0, 1, 2] with
      | (t, true) => [0, 1, 2].foldl (fun t p => t.cswItem b p kind) t
      | (t, false) => t.cswPoleFailed b

/-- A close (1) or open (2) of breaker `b` (R321). -/
def State.cswCommand (s : State) (b kind : Nat) : Act :=
  if !s.cswMay b then .error Abort.notInThisMode
  else if (s.brk b).kind ≠ 0 then .error Abort.busyRetry
  else .ok (s.cswBegin b kind)

/-- CSW_CMD 3 (R321): every pole entry that has not fired is cancelled; the poles fired complete. -/
def State.cswAbort (s : State) (b : Nat) : State :=
  let x := s.brk b
  if x.kind = 0 || x.poles.all (·.fired.isSome) then s
  else
    let s := s.cswCancel b
    let x := s.brk b
    (s.setBrk b { x with
      result := 5, poles := x.poles.map (fun q : Pole => { q with cancelled := q.cancelled || q.fired.isNone }) }).cswSettle b

/-- The breaker a session has selected. -/
def State.cswSel (s : State) (n : Nat) : Nat := tget 0 (s.session n).own (objKey 0x3A00 0 0)

/-- CSW_CMD 1. -/
def execCswClose (n : Fin 32) (s : State) : Host.Outcome State Fault Refusal := .next (s.asWrite n 6 0x3A06 1 (fun s => s.act n (s.cswCommand (s.cswSel n) 1)))

/-- CSW_CMD 2. -/
def execCswOpen (n : Fin 32) (s : State) : Host.Outcome State Fault Refusal := .next (s.asWrite n 6 0x3A06 1 (fun s => s.act n (s.cswCommand (s.cswSel n) 2)))

/-- CSW_CMD 3. -/
def execCswAbort (n : Fin 32) (s : State) : Host.Outcome State Fault Refusal := .next (s.asWrite n 6 0x3A06 1 (fun s => s.act n (.ok (s.cswAbort (s.cswSel n)))))

/-- CSW_STATE (R325): idle, armed while no pole has fired, operating. -/
def State.cswState (s : State) (b : Nat) : Nat :=
  let x := s.brk b
  if x.kind = 0 then 0 else if x.poles.any (·.fired.isSome) then 2 else 1

/-! ### Contact (R322, R323) -/

/-- Record the contact of pole `p` at stamp `st` (R318, R323): the residual, and outliers counted and reported. -/
def State.cswContact (s : State) (b p st : Nat) : State :=
  let x := s.brk b
  let q := cswPole x p
  match q.fired, q.contact with
  | some (_, f), none =>
    let m := toSigned 32 (ofSigned 32 ((st : Int) - f)) - s.oi 0x3A05 (11 + p) b
    let r := m - q.t
    let out := r.natAbs > 1000 * s.o 0x3A05 7 b
    let run := if out then x.outliers.getD p 0 + 1 else 0
    let at_ := ofSigned 32 ((st : Int) - s.oi 0x3A05 (11 + p) b)
    let s := s.setBrk b { cswSetPole x p { q with contact := some at_, resid := r } with
      outliers := x.outliers.set p (if run ≥ 3 then 0 else run) }
    let s := if out then s.bump 0x3A0A 3 b else s
    let s := if run ≥ 3 then s.report { source := 0x90, syndrome := 0x480 + b + p * 2 ^ 24 } else s
    s.cswSettle b
  | _, _ => s

/-- A measurement packet of pole `p` is read: a contact code of the operation in progress is taken, any other discarded. -/
def execCswContact (b : Fin 8) (p : Fin 3) (s : State) : Host.Outcome State Fault Refusal :=
  if !s.svcUp (0x480 + b) then .next s
  else match s.epIn (0xE8 + 3 * b + p) with
    | none => .next s
    | some c =>
      match s.epPacket c with
      | none => .next s
      | some (l, t) =>
        match stampPair l with
        | some (st, [i]) =>
          if i.kind = 3 && i.data.toNat = 0xC0 + (s.brk b).kind && (s.brk b).kind ≠ 0 then .next (t.cswContact b p st) else .next t
        | _ => .next t

/-- No contact code within 2 × T of a firing (R322): outcome 6, and no pole is learned. -/
def execCswNoContact (b : Fin 8) (s : State) : Host.Outcome State Fault Refusal :=
  let x := s.brk b
  if x.kind ≠ 0 && x.poles.any (fun q => match q.fired, q.contact with
      | some (f, _), none => (((s.clock - f) * 4 : Nat) : Int) > 2 * q.t
      | _, _ => false) then
    let s := s.cswCancel b
    .next ((s.setBrk b { s.brk b with result := 6 }).cswFinish b)
  else .next s

end Sys2Proof.Machine
end

