-- ==== Sys2Proof/Machine/Goose.lean ====
section
/-!
DEFINITION. Signals and GOOSE (R308–R312): update packets, publications with their repeats, subscriptions and their expiry.
-/

namespace Sys2Proof.Machine

/-! ### Shared by the streams (R303, R311, R312) -/

/-- smpSynch of a published sample (R303). -/
def State.smpSynch (s : State) : Nat :=
  let cls := if s.time.root = s.node then s.ownClass else s.time.rootCls
  match s.time.status with
  | .locked => if cls = 6 || cls = 7 then 2 else 1
  | .holdover => if s.inaccuracy ≤ s.o 0x3022 2 then 2 else 0
  | _ => 0

/-- The syndrome that names a stream in sources 0x73 and 0x74: its service number (R329, R450), by the index of its object group. -/
def streamName (index n : Nat) : Nat :=
  n + (match index with | 0x3811 => 0x100 | 0x3821 => 0x140 | 0x3841 => 0x200 | _ => 0x300)

/-- The key of a publication serves, or the stream is not authenticated (R311, R312); `sub` is the entry of AUTH. -/
def State.streamKey (s : State) (index sub n : Nat) : Bool :=
  s.o index sub n = 0 || slotServes (s.slot (s.o index (sub + 1) n)) 1

/-- A received tag checks good under KEY_SLOT or KEY_NEXT (R311). -/
def State.streamTag (s : State) (index sub n : Nat) : Option (List Byte × List Byte × List Byte) → Bool
  | none => false
  | some (tag, nonce, aad) =>
    [s.o index (sub + 1) n, s.o index (sub + 2) n].any (fun k =>
      k < 64 && slotServes (s.slot k) 1 && tag = Config.gmac (s.slot k).key nonce aad)

/-- A failed tag on stream `n` (R312): counted, reported, and after eight in a row reported as persisting. -/
def State.streamFail (s : State) (index n counter run : Nat) : State :=
  let s := (s.bump counter 6 n).report { source := 0x73, syndrome := streamName index n }
  if run = 8 then s.report { source := 0x74, syndrome := streamName index n } else s

/-- The tag a publication sends: its nonce and authenticated fields follow IEC 62351-6, so its bits are free (R414). -/
def State.streamSign (s : State) (index sub n : Nat) : State × List Nat :=
  if s.o index sub n = 0 then (s, [])
  else ((s.drew).useKey (s.o index (sub + 1) n), [s.freeNat 128])

/-! ### GOOSE publication (R309) -/

/-- A 24-bit value scaled by a power of two as an IEEE 754 single (R309, type 3). -/
def float32 (v e : Int) : Nat :=
  if v = 0 then 0
  else
    let k := Nat.log2 v.natAbs
    (if v < 0 then 2 ^ 31 else 0) + (127 + e + k).toNat * 2 ^ 23 + (v.natAbs * 2 ^ (23 - k) - 2 ^ 23)

/-- Quality as it is published: test while in MAINTENANCE (R299). -/
def State.pubQuality (s : State) (q : Nat) : Nat := if s.modes.mode = .maintenance then 3 else q

/-- A member's encoding as numbers (R309): Timestamp gives the UTC nanosecond count and whether the clock is not
synchronised. -/
def State.gooseMember (s : State) (m : Nat) : List Nat :=
  let n := m % 4096
  let x := s.sigOf n
  match m / 2 ^ 28 with
  | 0 => [x.value % 2]
  | 1 => [x.value % 4]
  | 2 => [ofSigned 32 (toSigned 24 x.value)]
  | 3 => [float32 (toSigned 24 x.value) (s.oi 0x3861 5 n)]
  | 4 => [s.pubQuality x.quality]
  | _ => [(rebuildCount x.changed s.nsCount - 1000000000 * s.oi 0x3012 0).toNat, b2n (s.smpSynch = 0)]

/-- Members of publication or subscription `n` that are configured. -/
def State.gooseMembers (s : State) (index n : Nat) : List Nat :=
  (List.range (s.o index 12 n)).map (fun m => s.o (index + 1) (m + 1) n)

/-- GOOSE publication `n`. -/
def State.goosePub (s : State) (n : Nat) : GoosePub := tget {} s.station.gp n

/-- Replace GOOSE publication `n`. -/
def State.setGoosePub (s : State) (n : Nat) (v : GoosePub) : State :=
  { s with station := { s.station with gp := tset {} s.station.gp n v } }

/-- The successor of a GOOSE number: from 2^32 − 1 to 1 (R309). -/
def gooseNext (n : Nat) : Nat := if n + 1 ≥ 2 ^ 32 then 1 else n + 1

/-- Send the present state of publication `n` (R309): one frame on each of its ports, with timeAllowedToLive twice the interval
to the next. A publication whose key does not serve sends nothing and reports it once (R312). -/
def State.gooseSend (s : State) (n : Nat) : State :=
  let x := s.goosePub n
  if !s.stationSends then s
  else if !s.streamKey 0x3841 13 n then
    if x.keyFault then s
    else (s.setGoosePub n { x with keyFault := true }).report { source := 0x74, syndrome := streamName 0x3841 n }
  else
    let s := s.setGoosePub n { x with keyFault := false }
    let (s, tag) := s.streamSign 0x3841 13 n
    let body := [x.stNum, x.sqNum, 2 * x.interval, x.t.toNat, b2n (s.modes.mode = .maintenance)]
      ++ (s.gooseMembers 0x3841 n).flatMap s.gooseMember ++ tag
    let s := s.stationOut 0x88B8 (s.o 0x3841 2 n) n (s.o 0x3841 5 n) body
    let s := s.bump 0x3843 2 n
    if x.sqNum = 0 then s.bump 0x3843 1 n else s

/-- A new state of publication `n` with change time `t` (R309). -/
def State.gooseNew (s : State) (n : Nat) (t : Int) : State :=
  let lo := s.o 0x3841 10 n
  (s.setGoosePub n { s.goosePub n with
    stNum := gooseNext (s.goosePub n).stNum, sqNum := 0, t := t, interval := lo, nextAt := ticksMs lo + s.clock }).gooseSend n

/-- A GOOSE repeat is due (R309): sqNum advances and the interval doubles up to MAX_INTERVAL. The first frame of all is the first
state. -/
def execGooseRepeat (n : Fin 128) (s : State) : Host.Outcome State Fault Refusal :=
  let x := s.goosePub n
  if !s.svcUp (0x200 + n) || !s.stationRuns then .next s
  else if x.stNum = 0 then .next (s.gooseNew n s.nsCount)
  else if s.clock < x.nextAt then .next s
  else
    let iv := min (2 * x.interval) (s.o 0x3841 11 n)
    .next ((s.setGoosePub n { x with sqNum := gooseNext x.sqNum, interval := iv, nextAt := ticksMs iv + s.clock }).gooseSend n)

/-! ### Signals (R308) -/

/-- One update of a signal: its number, value and quality. -/
structure SigUpdate where
  n : Nat
  value : Nat
  quality : Nat
deriving DecidableEq, Repr

/-- Set one signal (R308, R319): the last good value is kept when it stops being good. -/
def sigPut (x : Signal) (u : SigUpdate) (st now : Nat) : Signal :=
  { value := u.value, quality := u.quality, changed := st,
    good := if u.quality = 0 then u.value else x.good,
    badSince := if u.quality = 0 then none else some (x.badSince.getD now) }

/-- Write changed signals of output `o` as one packet in the form of R308. -/
def State.sigOutput (s : State) (st : Nat) (l : List SigUpdate) (o : Nat) : State :=
  let l := l.filter (fun u => s.o 0x3861 4 u.n = o)
  if l.isEmpty then s
  else s.epWrite (0x80 + o) (withEop (stampItems st ++ l.flatMap (fun u =>
    [{ kind := 5, data := BitVec.ofNat 24 (u.quality * 2 ^ 22 + u.n) }, dataItem u.value])))

/-- A command signal changed to 1 or 2 (R321); a command that is not accepted has no effect. -/
def State.sigCommand (s : State) (b : Nat) (l : List SigUpdate) : State :=
  match l.find? (fun u => u.n = s.o 0x3A04 4 b) with
  | some u => if u.value = 1 || u.value = 2 then s.actQuiet (s.cswCommand b u.value) else s
  | none => s

/-- Apply updates at one instant with change time `st` (R308, R309, R321): changed signals take it, outputs and publications
follow, and command signals act. -/
def State.sigApply (s : State) (st : Nat) (l : List SigUpdate) : State :=
  let (s, ch, cmd) := l.foldl (fun (a : State × List SigUpdate × List SigUpdate) u =>
    let x := a.1.sigOf u.n
    if x.value = u.value && x.quality = u.quality then a
    else
      let t := { a.1 with station := { a.1.station with sig := tset {} a.1.station.sig u.n (sigPut x u st a.1.clock) } }
      (t, a.2.1 ++ [u], if x.value = u.value then a.2.2 else a.2.2 ++ [u])) (s, [], [])
  let s := (List.range 32).foldl (fun s o => s.sigOutput st ch o) s
  let s := (List.range 128).foldl (fun s n =>
    if s.svcUp (0x200 + n) && (s.goosePub n).stNum ≠ 0
        && (s.gooseMembers 0x3841 n).any (fun m => ch.any (fun u => u.n = m % 4096)) then
      s.gooseNew n (rebuildCount st s.nsCount)
    else s) s
  (List.range 8).foldl (fun s b => s.sigCommand b cmd) s

/-- The signal is written by a subscription (R308): a member that is not ignored names it. -/
def State.sigSubscribed (s : State) (n : Nat) : Bool :=
  s.od.any (fun p =>
    p.1 / 65536 / 256 = 0x3852 && p.1 / 65536 % 256 ≤ s.o 0x3851 12 (p.1 % 65536) && s.o 0x3851 1 (p.1 % 65536) = 1 &&
      (match p.2 with | .num m => m % 4096 = n && !bitOf m 12 | .bytes _ => false))

/-- The well-formed updates of a packet and the number of malformed ones (R308). -/
def sigParse : List Item → List SigUpdate × Nat
  | a :: b :: l =>
    if a.kind = 5 && b.kind = 0 then
      let (u, m) := sigParse l
      if a.data.toNat / 2 ^ 12 % 2 ^ 10 = 0 then
        ({ n := a.data.toNat % 4096, value := b.data.toNat, quality := a.data.toNat / 2 ^ 22 } :: u, m)
      else (u, m + 1)
    else
      let (u, m) := sigParse (b :: l)
      (u, m + 1)
  | [_] => ([], 1)
  | [] => ([], 0)

/-- A signal-update packet is read and applied (R308). -/
def execSignalUpdatePacket (n : Fin 32) (s : State) : Host.Outcome State Fault Refusal :=
  if !s.svcUp 0 || !s.stationRuns then .next s
  else match s.epIn (0x60 + n) with
    | none => .next s
    | some c =>
      match s.epPacket c with
      | none => .next s
      | some (l, s) =>
        let (st, l) := match stampPair l with
          | some (st, l) => (st, l)
          | none => (s.st32, l)
        let (us, bad) := sigParse l
        let no := us.filter (fun u => s.sigSubscribed u.n)
        let s := (s.bumpBy 0x3862 1 0 bad).bumpBy 0x3862 2 0 no.length
        .next (s.sigApply st (us.filter (fun u => !s.sigSubscribed u.n)))

/-! ### GOOSE subscription (R310) -/

/-- GOOSE subscription `n`. -/
def State.gooseSub (s : State) (n : Nat) : GooseSub := tget {} s.station.gs n

/-- Replace GOOSE subscription `n`. -/
def State.setGooseSub (s : State) (n : Nat) (v : GooseSub) : State :=
  { s with station := { s.station with gs := tset {} s.station.gs n v } }

/-- The value of an IEEE 754 single that is a number. -/
def floatRat (w : Nat) : Option Rat :=
  let e := w / 2 ^ 23 % 256
  let m : Nat := w % 2 ^ 23
  let v : Rat := if e = 0 then (m : Rat) / (2 ^ 149 : Nat)
    else if e ≥ 150 then ((2 ^ 23 + m) * 2 ^ (e - 150) : Nat) else ((2 ^ 23 + m : Nat) : Rat) / (2 ^ (150 - e) : Nat)
  if e = 255 then none else some (if w ≥ 2 ^ 31 then -v else v)

/-- A received member as a signal's 24-bit value (R309, R310): what the types do not carry exactly is the free value `fr`. -/
def State.memberValue (s : State) (m raw fr : Nat) : Nat :=
  match m / 2 ^ 28 with
  | 0 => raw % 2
  | 1 => raw % 4
  | 2 =>
    let v := toSigned 32 raw
    if -8388608 ≤ v && v < 8388608 then ofSigned 24 v else fr
  | 3 =>
    let e := s.oi 0x3861 5 (m % 4096)
    match floatRat raw with
    | some v =>
      let q : Rat := if e ≥ 0 then v / (2 ^ e.toNat : Nat) else v * (2 ^ (-e).toNat : Nat)
      if q.den = 1 && -8388608 ≤ q.num && q.num < 8388608 then ofSigned 24 q.num else fr
    | none => fr
  | _ => fr

/-- The updates a new state writes (R310). -/
def State.gooseUpdates (s : State) (n : Nat) (ms : List (Nat × Nat)) : List SigUpdate :=
  (((s.gooseMembers 0x3851 n).zip ms).filter (fun p => !bitOf p.1 12)).map (fun p =>
    { n := p.1 % 4096, value := s.memberValue p.1 p.2.1 (s.freeNat 24), quality := p.2.2 % 4 })

/-- Subscription `n` judges a frame of its stream (R299, R310, R312). -/
def State.gooseJudge (s : State) (f : GooseFrame) (n : Nat) : State :=
  let x := s.gooseSub n
  if f.datSet ≠ s.ob 0x3851 7 n || f.confRev ≠ s.o 0x3851 9 n || f.members.length ≠ s.o 0x3851 12 n || f.ndsCom then
    s.bump 0x3853 5 n
  else if f.sim && s.modes.mode ≠ .maintenance then s.bump 0x3853 3 n
  else if s.o 0x3851 13 n = 1 && !s.streamTag 0x3851 13 n f.tag then
    (s.setGooseSub n { x with authRun := x.authRun + 1 }).streamFail 0x3851 n 0x3853 (x.authRun + 1)
  else
    let s := s.setGooseSub n { x with authRun := 0 }
    let fresh := x.state ≠ 1 || (f.stNum = 1 && f.sqNum = 0) || serialAfter 32 f.stNum x.stNum
    let y : GooseSub := { state := 1, stNum := f.stNum, sqNum := f.sqNum, tal := f.tal, since := s.clock, authRun := 0 }
    if fresh then
      let us := s.gooseUpdates n f.members
      (((s.drew.setGooseSub n y).bump 0x3853 1 n).sigApply (f.t % 2 ^ 32) us)
    else if f.stNum = x.stNum && serialAfter 32 f.sqNum x.sqNum then (s.setGooseSub n y).bump 0x3853 2 n
    else s.bump 0x3853 3 n

/-- A GOOSE frame arrives on a station port (R310): every running subscription whose destination, APPID and gocbRef it has
judges it. -/
def execGooseFrameReceived (port : Fin 2) (f : GooseFrame) (s : State) : Host.Outcome State Fault Refusal :=
  if !s.stationRuns || s.o 0x7840 (port + 1) = 0 then .next s
  else .next ((List.range 256).foldl (fun s n =>
    if s.svcUp (0x300 + n) && bitOf (s.o 0x3851 2 n) port && f.dest = s.o 0x3851 3 n && f.appid = s.o 0x3851 4 n
        && f.gocbRef = s.ob 0x3851 6 n then s.gooseJudge f n
    else s) s)

/-- timeAllowedToLive has run out (R310): every signal of the subscription is invalid and keeps its VALUE. -/
def execGooseTalExpiry (n : Fin 256) (s : State) : Host.Outcome State Fault Refusal :=
  let x := s.gooseSub n
  if x.state ≠ 1 || !s.svcUp (0x300 + n) || s.clock < ticksMs x.tal + x.since then .next s
  else
    let s := ((s.setGooseSub n { x with state := 2 }).bump 0x3853 4 n).event .goose [n, 2]
    let ms := (s.gooseMembers 0x3851 n).filter (fun m => !bitOf m 12)
    .next (s.sigApply s.st32 (ms.map (fun m => { n := m % 4096, value := (s.sigOf (m % 4096)).value, quality := 1 })))

end Sys2Proof.Machine
end

