-- ==== Sys2Proof/Machine/Sv.lean ====
section
/-!
DEFINITION. Sampled values (R301–R307): publications read sample packets and send one frame per block; subscriptions write one
packet per accepted sample.
-/

namespace Sys2Proof.Machine

/-! ### Publication (R302–R304) -/

/-- The instant, in ns, of strobe `g` of publication `n`, counted over all seconds (R272, R302). -/
def State.svInstant (s : State) (n g : Nat) : Int :=
  let r := s.o 0x3811 7 n
  if r = 0 then 0 else ((1000000000 * (g / r) + 1000000000 * (g % r) / r : Nat) : Int) + s.oi 0x3061 (s.o 0x3811 11 n + 1)

/-- The strobe whose instant lies within a quarter sample period of a count (R302). -/
def State.svMatch (s : State) (n : Nat) (c : Int) : Option Nat :=
  let r := s.o 0x3811 7 n
  let w := (c - s.oi 0x3061 (s.o 0x3811 11 n + 1)).toNat
  let g := w / 1000000000 * r + w % 1000000000 * r / 1000000000
  [g, g + 1].find? (fun g => 4 * r * (c - s.svInstant n g).natAbs ≤ 1000000000)

/-- smpCnt of strobe `g` (R302). -/
def State.svCount (s : State) (n g : Nat) : Nat :=
  let r := s.o 0x3811 7 n
  if r = 96000 then g % r % 48000 else g % r

/-- ASDUS of publication `n`. -/
def State.svAsdus (s : State) (n : Nat) : Nat := s.o 0x3811 8 n

/-- Enter sample `g` into the block it belongs to; the block under way is kept, and a first block begins only at its first
sample (R303, R304). -/
def State.svEnter (s : State) (n g : Nat) (v : SvSample) : State :=
  let x := s.svPub n
  let a := s.svAsdus n
  match x.block with
  | none => if g % a = 0 then s.setSvPub n { x with block := some (g / a), got := [(g, v)] } else s
  | some b => if g < b * a then s else s.setSvPub n { x with got := tput g v x.got }

/-- A publication reads a sample packet (R302): one off its schedule, or short, is discarded and counted. -/
def execSvSamplePacket (n : Fin 32) (s : State) : Host.Outcome State Fault Refusal :=
  if !s.svcUp (0x100 + n) || !s.stationRuns then .next s
  else match s.epIn n with
    | none => .next s
    | some c =>
      match s.epPacket c with
      | none => .next s
      | some (l, s) =>
        let vals := match stampPair l with
          | some (_, r) => ((r.filter (fun i => i.kind = 0)).take (s.o 0x3811 9 n)).map (fun i => i.data.toInt)
          | none => []
        match (stampPair l).bind (fun p => s.svMatch n (rebuildCount p.1 s.nsCount)) with
        | some g => if vals.length < s.o 0x3811 9 n then .next (s.bump 0x3813 2 n) else .next (s.svEnter n g (some vals))
        | none => .next (s.bump 0x3813 2 n)

/-- The first sample of the block under way that has not come. -/
def State.svGap (s : State) (n : Nat) : Option Nat :=
  let x := s.svPub n
  match x.block with
  | some b => ((List.range (s.svAsdus n)).map (fun k => b * s.svAsdus n + k)).find? (fun g => !(x.got.any (fun p => p.1 = g)))
  | none =>
    let r := s.o 0x3811 7 n
    let w := ((s.nsCount : Int) - 50000 - s.oi 0x3061 (s.o 0x3811 11 n + 1)).toNat
    some (w / 1000000000 * r + w % 1000000000 * r / 1000000000)

/-- No packet for an instant 50 µs after it (R304): its ASDU is to be sent invalid. -/
def execSvSampleMissing (n : Fin 32) (s : State) : Host.Outcome State Fault Refusal :=
  if !s.svcUp (0x100 + n) || !s.stationRuns then .next s
  else match s.svGap n with
    | some g => if 50000 + s.svInstant n g ≤ s.nsCount then .next (s.svEnter n g none) else .next s
    | none => .next s

/-- A value as published (R303): DATA × GAIN with its binary point after bit 11, rounded and saturated; the flag tells that it
saturated. -/
def State.svValue (s : State) (n i : Nat) (d : Int) : Int × Bool :=
  let v := divNear (d * s.oi 0x3812 (i + 1) n) 4096
  let w := clampI (-2147483648) 2147483647 v
  (w, w ≠ v)

/-- A published Quality (R299, R303, R304): validity in [1:0] (0 good, 1 invalid, 3 questionable), overflow [2], test [11]. -/
def State.svQuality (s : State) (invalid sat : Bool) : Nat :=
  (if invalid then 1 else if sat then 7 else 0) + (if s.modes.mode = .maintenance then 2 ^ 11 else 0)

/-- One ASDU as numbers: smpCnt, smpSynch, then each value and Quality. -/
def State.svAsdu (s : State) (n g : Nat) (v : SvSample) : List Nat :=
  s.svCount n g :: s.smpSynch :: (List.range (s.o 0x3811 9 n)).flatMap (fun i =>
    match v with
    | some l => let (w, sat) := s.svValue n i (l.getD i 0); [ofSigned 32 w, s.svQuality false sat]
    | none => [0, s.svQuality true false])

/-- A whole block is sent as one frame on each port (R303, R304, R312). -/
def execSvFrameSend (n : Fin 32) (s : State) : Host.Outcome State Fault Refusal :=
  let x := s.svPub n
  if !s.svcUp (0x100 + n) || !s.stationRuns || (s.svGap n).isSome then .next s
  else match x.block with
    | none => .next s
    | some b =>
      let a := s.svAsdus n
      let gs := (List.range a).map (fun k => b * a + k)
      let get : Nat → SvSample := fun g => tget none x.got g
      let y : SvPub := { x with block := some (b + 1), got := x.got.filter (fun p => p.1 ≥ (b + 1) * a) }
      if !s.stationSends then .next (s.setSvPub n y)
      else if !s.streamKey 0x3811 12 n then
        let s := s.setSvPub n { y with keyFault := true }
        .next (if x.keyFault then s else s.report { source := 0x74, syndrome := streamName 0x3811 n })
      else
        let (s, tag) := (s.setSvPub n { y with keyFault := false }).streamSign 0x3811 12 n
        let body := gs.flatMap (fun g => s.svAsdu n g (get g)) ++ tag
        let s := s.stationOut 0x88BA (s.o 0x3811 2 n) n (s.o 0x3811 5 n) body
        .next ((s.bump 0x3813 1 n).bumpBy 0x3813 4 n ((gs.filter (fun g => (get g).isNone)).length))

/-! ### Subscription (R305–R307) -/

/-- SV subscription `n`. -/
def State.svSub (s : State) (n : Nat) : SvSub := tget {} s.station.svs n

/-- Replace SV subscription `n`. -/
def State.setSvSub (s : State) (n : Nat) (v : SvSub) : State :=
  { s with station := { s.station with svs := tset {} s.station.svs n v } }

/-- The range of smpCnt (R305). -/
def State.svRange (s : State) (n : Nat) : Nat :=
  let r := s.o 0x3821 7 n
  if r = 96000 then 48000 else r

/-- The instant of a sample (R306): from smpCnt where both clocks hold the time, else from the arrival, `back` sample periods
before the frame's last sample. -/
def State.svWhen (s : State) (n synch cnt : Nat) (back : Int) : Int × Bool :=
  let r : Int := s.o 0x3821 7 n
  let a := (s.nsCount : Int) - s.oi 0x3822 2 n
  let own := s.time.status = .locked || s.time.status = .holdover
  if (synch = 1 || synch = 2) && own then
    let f := 1000000000 * (cnt : Int) / r
    let p : Int := if r = 96000 then 500000000 else 1000000000
    (divNear (a - f) p * p + f, false)
  else (a - divNear (1000000000 * back) r, true)

/-- Write the packets for `gap` missing samples before smpCnt `first` (R307). -/
def State.svMissing (s : State) (n synch first gap : Nat) (asdus : Nat) : State :=
  let rng := s.svRange n
  let one : Nat → Nat → State → State := fun j code s =>
    let (w, _) := s.svWhen n synch ((first + rng - j) % rng) ((asdus : Int) - 1 + j)
    s.epWrite (0x20 + n) (withEop (stampItems (w % 2 ^ 32).toNat ++ [{ kind := 3, data := BitVec.ofNat 24 code }]))
  let s := s.bumpBy 0x3823 4 n gap
  if gap = 0 then s
  else if gap ≤ 16 then (List.range gap).foldl (fun s j => one (gap - j) 0x0E1 s) s
  else one gap (0x0E2 + 4096 * min gap 4095) s

/-- Write one accepted sample (R306). -/
def State.svWrite (s : State) (n : Nat) (d : Asdu) (back : Int) : State :=
  let (w, arr) := s.svWhen n d.synch d.smpCnt back
  let sh := s.o 0x3822 1 n
  let val : BitVec 32 → Item := fun v => dataItem (ofSigned 24 (clampI (-8388608) 8388607 (v.toInt / (2 ^ sh : Nat))))
  let maint := s.modes.mode = .maintenance
  let bad : BitVec 32 → Bool := fun q => q.toNat % 4 ≠ 0 || (bitOf q.toNat 11 && !maint)
  let bits := (List.range d.vals.length).foldl (fun a i => a + b2n (bad ((d.vals.getD i (0, 0)).2)) * 2 ^ i) 0
  let q : Item := { kind := 6, data := BitVec.ofNat 24 (bits % 65536 + b2n (d.synch = 0) * 2 ^ 22 + b2n arr * 2 ^ 23) }
  s.epWrite (0x20 + n) (withEop (stampItems (w % 2 ^ 32).toNat ++ d.vals.map (fun v => val v.1) ++ [q]))

/-- Write the ASDUs of a frame in order. -/
def State.svWriteAll (s : State) (n : Nat) : List Asdu → State
  | [] => s
  | d :: l => (s.svWrite n d l.length).svWriteAll n l

/-- The frame matches the rest of subscription `n` (R305). -/
def State.svFits (s : State) (n : Nat) (f : SvFrame) : Bool :=
  f.confRev = s.o 0x3821 10 n && f.asdus.length = s.o 0x3821 8 n && f.asdus.all (fun d => d.vals.length = s.o 0x3821 9 n)
    && (!f.sim || s.modes.mode = .maintenance)

/-- Subscription `n` judges a frame of its stream (R305–R307, R312). -/
def State.svJudge (s : State) (f : SvFrame) (n : Nat) : State :=
  let x := s.svSub n
  if !s.svFits n f then s.bump 0x3823 2 n
  else if s.o 0x3821 12 n = 1 && !s.streamTag 0x3821 12 n f.tag then
    (s.setSvSub n { x with authRun := x.authRun + 1 }).streamFail 0x3821 n 0x3823 (x.authRun + 1)
  else
    let s := s.setSvSub n { x with authRun := 0 }
    match f.asdus with
    | [] => s
    | d :: _ =>
      let rng := s.svRange n
      let first := d.smpCnt % rng
      let behind := match x.expected with | some e => (e + rng - first) % rng | none => 0
      if behind ≠ 0 && 2 * behind < rng then s.bump 0x3823 3 n
      else
        let gap := if behind = 0 then 0 else rng - behind
        let s := s.svMissing n d.synch first gap f.asdus.length
        let s := s.setSvSub n { state := 1, expected := some ((first + f.asdus.length) % rng), authRun := 0, last := s.clock }
        (s.svWriteAll n f.asdus).bump 0x3823 1 n

/-- An SV frame arrives on a station port (R305): every running subscription whose destination, APPID and svID it has judges
it. -/
def execSvFrameReceived (port : Fin 2) (f : SvFrame) (s : State) : Host.Outcome State Fault Refusal :=
  if !s.stationRuns || s.o 0x7840 (port + 1) = 0 then .next s
  else .next ((List.range 64).foldl (fun s n =>
    if s.svcUp (0x140 + n) && bitOf (s.o 0x3821 2 n) port && f.dest = s.o 0x3821 3 n && f.appid = s.o 0x3821 4 n
        && f.svid = s.ob 0x3821 6 n then s.svJudge f n
    else s) s)

/-- No frame for 3 frame intervals (R307): the subscription expires. -/
def execSvSubscriptionExpiry (n : Fin 64) (s : State) : Host.Outcome State Fault Refusal :=
  let x := s.svSub n
  if x.state ≠ 1 || !s.svcUp (0x140 + n) || (s.clock - x.last) * s.o 0x3821 7 n < 250000000 * (3 * s.o 0x3821 8 n) then .next s
  else .next (((s.setSvSub n { x with state := 2, expected := none }).bump 0x3823 5 n).event .sv [n, 2])

end Sys2Proof.Machine
end

