-- ==== Sys2Proof/Machine/Soe.lean ====
section
/-!
DEFINITION. The sequence-of-events service (R313–R317): packets, provisional records, chatter, and reading the log.
-/

namespace Sys2Proof.Machine

/-- SOE input `n`. -/
def State.soeIn (s : State) (n : Nat) : SoeIn := tget {} s.station.soe n

/-- Replace SOE input `n`. -/
def State.setSoeIn (s : State) (n : Nat) (v : SoeIn) : State :=
  { s with station := { s.station with soe := tset {} s.station.soe n v } }

/-- The chatter state of a point. -/
def State.chatter (s : State) (p : Nat) : Chatter := tget {} s.station.chatter p

/-- Replace the chatter state of a point. -/
def State.setChatter (s : State) (p : Nat) (v : Chatter) : State :=
  { s with station := { s.station with chatter := tset {} s.station.chatter p v } }

/-- The SOE service enters records: it runs, and not in DOZE (R299, R315). -/
def State.soeEnters (s : State) : Bool := s.svcUp 0x400 && s.soeRuns && s.modes.mode ≠ .doze

/-- `k` items of an input have been read: how many of those from before a step are left (R266). -/
def State.soeRead (s : State) (n k : Nat) : State :=
  let l := s.station.log
  { s with station := { s.station with log := { l with pre := tset 0 l.pre n (tget 0 l.pre n - k) } } }

/-- The next item of an input is from before the step under way, or the open stamp is (R266). -/
def State.soeOld (s : State) (n : Nat) : Bool :=
  match (s.soeIn n).stamp with
  | some _ => s.station.log.olds.contains n
  | none => 0 < tget 0 s.station.log.pre n

/-- An input's stamp is no longer one from before the step, or it is one. -/
def State.setSoeOld (s : State) (n : Nat) (b : Bool) : State :=
  let l := s.station.log
  { s with station := { s.station with log := { l with olds := if b then l.olds.filter (· ≠ n) ++ [n] else l.olds.filter (· ≠ n) } } }

/-- A code of the form of R313. -/
def soeForm (d : Nat) : Bool :=
  d / 2 ^ 16 = 0 && d / 32 % 8 = 0 && d / 4 % 4 = 0 && (d % 4 = 1 || d % 4 = 2)

/-- An accepted edge of a point and its chatter (R315): whether its record is written, and whether chatter starts. -/
def chatterEdge (x : Chatter) (limit window now : Nat) (fall : Bool) : Chatter × Bool × Bool :=
  if x.on then ({ x with winCount := x.winCount + 1, fall := fall }, false, false)
  else
    let ts := now :: x.times.filter (fun t => now < t + window)
    if ts.length > limit then ({ times := [], on := true, winStart := now, winCount := 0, fall := fall }, true, true)
    else ({ x with times := ts, fall := fall }, true, false)

/-- A judged packet's record (R314, R315): an edge, or the late judgement of a provisional record; unmapped codes too. -/
def State.soeJudge (s : State) (n c st d : Nat) (prov : Option Nat) (old : Bool) : State :=
  let point := s.o 0x3900 (n + 1) + d / 256 % 256
  if !soeForm d || point > 4095 then
    (s.logPut old { typ := 7, edge := st, judge := s.st32, chan := c, raw := d }).bump 0x3905 3
  else
    let fall := bitOf d 4
    let base : LogRec := {
      typ := 0, flags := b2n (d % 4 = 1) + 2 * b2n (d % 4 = 2) + 4 * b2n fall, point := point, edge := st, judge := s.st32,
      chan := c, raw := d }
    let late : LogRec := match prov with | some q => { base with typ := 3, extra := q } | none => base
    if d % 4 = 2 then s.logPut old late
    else
      let (x, write, start) := chatterEdge (s.chatter point) (s.o 0x3901 1) (ticksMs (s.o 0x3901 2)) s.clock fall
      let s := s.setChatter point x
      let s := if write || prov.isSome then s.logPut old late else s
      if start then s.logPut old { base with typ := 4 } else s

/-- Read a stamp pair from the head of an SOE input. -/
def State.soeStamp (s : State) (n c : Nat) : State :=
  match (s.soeIn n).stamp with
  | some _ => s
  | none =>
    match s.epItems c with
    | a :: b :: _ =>
      if a.sop && a.kind = 1 && b.kind = 2 && !a.eop && !b.eop then
        let old := s.soeOld n
        (((s.epTake c [a, b]).setSoeIn n { stamp := some (a.data.toNat % 65536 + 65536 * (b.data.toNat % 65536)), provisional := none }).soeRead n 2).setSoeOld n
          old
      else s
    | _ => s

/-- An SOE packet is read (R313, R315): its stamp pair, then its code. What does not begin with a stamp pair is read and gives an
unmapped record of each of its items. -/
def execSoePacket (n : Fin 48) (s : State) : Host.Outcome State Fault Refusal :=
  if !s.soeEnters then .next s
  else match s.epIn (0xA0 + n) with
    | none => .next s
    | some c =>
      let s := s.soeStamp n c
      let x := s.soeIn n
      match s.epItems c, x.stamp with
      | a :: _, some st =>
        let old := s.soeOld n
        let s := (((s.epTake c [a]).setSoeIn n {}).soeRead n 1).setSoeOld n false
        if a.kind = 3 && a.eop then .next (s.soeJudge n c st a.data.toNat x.provisional old).logHoldEnd
        else .next ((s.logPut old { typ := 7, edge := st, judge := s.st32, chan := c, raw := a.data.toNat }).bump 0x3905 3).logHoldEnd
      | a :: b :: _, none =>
        if a.sop && !a.eop && a.kind = 1 && b.kind ≠ 2 || !a.sop || a.eop || a.kind ≠ 1 then
          .next ((((s.epTake c [a]).soeRead n 1).drew.logPut (s.soeOld n) {
            typ := 7, edge := s.freeNat 32, judge := s.st32, chan := c, raw := a.data.toNat }).bump 0x3905 3).logHoldEnd
        else .next s
      | _, _ => .next s

/-- 900 ms after a stamp without its code (R315): a provisional record; one of a stamp after a step comes after the step's marker (R266). Its point and
judgement are not known, so they are free. -/
def execSoeProvisional (n : Fin 48) (s : State) : Host.Outcome State Fault Refusal :=
  if !s.soeEnters then .next s
  else match s.epIn (0xA0 + n) with
    | none => .next s
    | some c =>
      let s := s.soeStamp n c
      let x := s.soeIn n
      match x.stamp, x.provisional with
      | some st, none =>
        let old := s.soeOld n
        if serialDist 32 s.st32 st < 900000000 || s.station.log.hold.isSome && !old then .next s
        else
          let fr := s.freeNat 68
          let q := match s.station.log.replay with | q :: _ => q | [] => s.station.log.next
          let s := s.drew.logPut old {
            typ := 2, point := fr % 4096, edge := st, judge := fr / 4096 % 2 ^ 32, chan := c, raw := fr / 2 ^ 44 }
          .next (((s.setSoeIn n { x with provisional := some q }).bump 0x3905 2).setSoeOld n false).logHoldEnd
      | _, _ => .next s

/-- A window passes on a chattering point (R315): with fewer than half the limit of edges, chatter ends with a record of its last
direction; else another window begins. -/
def execSoeChatterEnd (point : Fin 4096) (s : State) : Host.Outcome State Fault Refusal :=
  let x := s.chatter point
  if !s.soeEnters || !x.on || s.clock < ticksMs (s.o 0x3901 2) + x.winStart then .next s
  else if 2 * x.winCount < s.o 0x3901 1 then
    let fr := s.freeNat 104
    .next (((s.drew).logEnter {
      typ := 5, flags := 4 * b2n x.fall, point := point, edge := fr, judge := fr / 2 ^ 32, chan := fr / 2 ^ 64,
      raw := fr / 2 ^ 80 }).setChatter point { fall := x.fall })
  else .next (s.setChatter point { x with winStart := s.clock, winCount := 0 })

/-! ### Reading the log (R317) -/

/-- The last marker entered before a SEQ, among the records held. -/
def State.logMarkerBefore (s : State) (seq : Nat) : Nat → List Byte
  | 0 => []
  | k + 1 =>
    let q := (2 ^ 32 + seq - 1) % 2 ^ 32
    let r := s.logRead q
    if r.getD 0 0 = 1 then r else s.logMarkerBefore q k

/-- A read of LOG_READ in session `n` (R317): up to 64 records behind a copy of the last marker; LOG_FROM advances. -/
def State.logReadOut (s : State) (n : Nat) : List Byte × State :=
  let x := s.session n
  let k := objKey 0x3902 0 0
  let from_ := tget 0 x.own k
  let old := s.logOldest
  let held := s.logHeld
  let off := (2 ^ 32 + from_ - old) % 2 ^ 32
  let (first, left) := if off ≤ held then (from_, held - off) else (old, held)
  let cnt := min left 64
  let body := (List.range cnt).flatMap (fun i => s.logRead ((first + i) % 2 ^ 32))
  let head := if cnt = 0 then [] else s.logMarkerBefore first (held - left)
  (head ++ body, s.setSession n { x with own := tset 0 x.own k ((first + cnt) % 2 ^ 32) })

/-- LOG_READ is read. -/
def execLogRead (n : Fin 32) (s : State) : Host.Outcome State Fault Refusal :=
  if !(s.session n).isOpen then .next s
  else
    let (l, t) := s.logReadOut n
    .next (t.answerRead n (.ok l))

/-! ### Counters (R325) -/

/-- The station-service counters are cleared (R325). -/
def State.stationClear (s : State) : State :=
  let s := (List.range 32).foldl (fun s n => s.clearSubs 0x3813 1 4 n) s
  let s := (List.range 64).foldl (fun s n => s.clearSubs 0x3823 1 6 n) s
  let s := (List.range 128).foldl (fun s n => s.clearSubs 0x3843 1 2 n) s
  let s := (List.range 256).foldl (fun s n => s.clearSubs 0x3853 1 6 n) s
  let s := (List.range 8).foldl (fun s n => s.clearSubs 0x3A0A 1 4 n) s
  (s.clearSubs 0x3862 1 2 0).clearSubs 0x3905 1 4 0

/-- Writing 1 to 0x3800:02. -/
def execStationClearCounters (s : State) : Host.Outcome State Fault Refusal := .next s.stationClear

end Sys2Proof.Machine
end

