-- ==== Sys2Proof/Machine/Faults.lean ====
section
/-!
DEFINITION. The fault collector's commands (R451–R467): reports, the end of reactions and of the quiet period, the first-error record,
reading the queue, self-test, and the scrubbers.
-/

namespace Sys2Proof.Machine

/-! ### Reports -/

/-- An instruction word of engine `e` is uncorrectable (R237): every engine of its cluster that fetches the word is parked. -/
def State.fetchPark (s : State) (e : Nat) : State :=
  let pc := (s.eng e).r.pc
  ((List.range 16).map (fun k => e / 16 * 16 + k)).foldl (fun t k =>
    if k = e || ((s.eng k).st = .running && (s.eng k).r.pc = pc) then t.enginePark k 5 else t) s

/-- A word of a cluster's instruction memory is known to be uncorrectable (R237). -/
def State.wordBroken (s : State) (c a : Nat) : State :=
  let x := s.cluster c
  if x.badWords.contains a then s else s.setCluster c { x with badWords := x.badWords ++ [a] }

/-- Effects that chapters attach to sources a unit reports of itself, whatever REACTION holds (R453): an uncorrectable cell ends or loses the
frame that its queue sends (R133), an uncorrectable channel-RAM word quarantines its channel (R198), an uncorrectable instruction word parks the
engines that fetch it (R237), a failed header rewrite check stomps the frame (R460), a corrected DRAM word is counted and an uncorrectable one sets ECC_ERR (R146, R149), a lost key slot is empty
(R404). -/
def State.builtIn (s : State) (r : Report) : State :=
  let i := r.syndrome % 2 ^ 24
  match r.source with
  | 0x15 => s.bump 0x2230 1
  | 0x16 => s.dramBad r.address
  | 0x20 => s.quarantine i
  | 0x11 => s.cellLost i
  | 0x32 => (s.wordBroken (i / 16) (s.eng i).r.pc).fetchPark i
  | 0x06 => s.rewriteBad (if i = 0 then .a else .b)
  | 0x80 => s.anchorUpdate
  | 0x81 => if r.syndrome < 2 then { s with flash := { s.flash with anchors := s.flash.anchors &&& (3 - 2 ^ r.syndrome) } } else s
  | 0x70 => s.setSlot i { lastCount := (s.slot i).lastCount }
  | _ => s

/-- A report reaches the collector (R451). With `level`, it tells that a level condition begins, or that it has ended, which is no
report. -/
def execFaultReport (r : Report) (level : Option Bool) (s : State) : Host.Outcome State Fault Refusal :=
  match level with
  | some false => .next (s.levelSet r.source (r.syndrome % 2 ^ 24) false)
  | some true => .next (((s.levelSet r.source (r.syndrome % 2 ^ 24) true).builtIn r).report r)
  | none => .next ((s.builtIn r).report r)

/-- A reaction in progress has not ended: a service that restarts has not resumed; a reset never ends before the reset (R454). -/
def State.stillReacting (s : State) : Bool :=
  s.fc.reacting.any (fun x => x.1 = 6 || (x.1 = 3 && (s.svc x.2).state = 3))

/-- The first-error record is emptied (R452). -/
def State.firstEmpty (s : State) : State := { s with fc := { s.fc with first := {}, reacting := [], clearAfter := false } }

/-- The reactions in progress complete (R454); a clear that waited takes effect (R452). -/
def execReactionComplete (s : State) : Host.Outcome State Fault Refusal :=
  if s.fc.reacting.isEmpty || s.stillReacting then .next s
  else if s.fc.clearAfter then .next s.firstEmpty
  else .next { s with fc := { s.fc with reacting := [] } }

/-- A clear of the first-error record (R452): at once, or when the recorded error's reaction completes. A record latched at this edge
stays (R6). -/
def State.firstClear (s : State) : State :=
  if !s.fc.first.valid || s.setNow W1c.first then s
  else if s.fc.reacting.isEmpty then s.firstEmpty
  else { s with fc := { s.fc with clearAfter := true } }

/-- FC_FIRST.VALID or FIRST_CLEAR. -/
def execFcFirstClear (s : State) : Host.Outcome State Fault Refusal := .next s.firstClear

/-- QUIET_PERIOD has passed without a report and without a level condition (R455, R457): a recovery, or HELD when it would be one too
many. A hub that a reaction brought into FAILSAFE leaves it. -/
def execQuietPeriodExpiry (s : State) : Host.Outcome State Fault Refusal :=
  if s.fc.state ≠ .faulted || s.levelHeld || s.clock < ticksMs (s.o 0xA003 1) + s.fc.quietSince then .next s
  else if s.recoveryFull then .next (State.withReports s.hold)
  else
    let s := (s.recoveryNote).bump 0xA004 1
    let leave := s.modes.mode = .failsafe && s.fc.byReaction
    let s := { s with fc := { s.fc with state := .normal, fatal := false, byReaction := false } }
    .next (if leave then s.returnService else s)

/-- FC_COUNT is read: contained, corrected and fatal reports since the last read (R467). -/
def State.readFcCount (s : State) : State × Nat :=
  ({ s with fc := { s.fc with rcCorr := 0, rcCont := 0, rcFatal := 0 } }, s.fc.rcCont * 2 ^ 16 + s.fc.rcCorr * 2 ^ 8 + s.fc.rcFatal)

/-- FC_COUNT is read by a context. -/
def execFcCountRead (c : Ctx) (s : State) : Host.Outcome State Fault Refusal :=
  if !s.reaches c then .next s else
  let (t, v) := s.readFcCount
  .next (t.reply c 4 v)

/-- The collector injects a test report into its next source input (R460): one that does not arrive raises source 0xA5. -/
def execCollectorSelfTest (arrived : Bool) (s : State) : Host.Outcome State Fault Refusal :=
  let n := s.fc.testNext
  let s := { s with fc := { s.fc with testNext := (n + 1) % 256 } }
  .next (if arrived then s else s.report { source := 0xA5, syndrome := n })

/-! ### The queue (R458) -/

/-- A record's 16 bytes. -/
def faultBytes (r : FaultRec) : List Byte :=
  leBytes 1 r.typ ++ leBytes 1 r.b1 ++ leBytes 1 r.b2 ++ [0] ++ leBytes 4 r.w4 ++ leBytes 4 r.w8 ++ leBytes 4 r.w12

/-- A read of FAULT_READ in session `n`: up to 64 records from FAULT_FROM, behind a copy of the last marker before them. -/
def State.faultReadOut (s : State) (n : Nat) : List Byte × State :=
  let x := s.session n
  let k := objKey 0xA010 0 0
  let from_ := tget 0 x.own k
  let l := (s.fc.queue.filter (fun r => serialDist 32 r.1 from_ ≤ 2 ^ 31)).take 64
  match l with
  | [] => ([], s)
  | (p, _) :: _ =>
    let mark := (s.fc.queue.filter (fun r => r.1 < p && r.2.typ = 1)).getLast?
    let head := match mark with | some m => faultBytes m.2 | none => []
    let last := (l.getLast?.map (·.1)).getD p
    (head ++ l.flatMap (fun r => faultBytes r.2), s.setSession n { x with own := tset 0 x.own k ((last + 1) % 2 ^ 32) })

/-- FAULT_READ is read. -/
def execFaultRead (n : Fin 32) (s : State) : Host.Outcome State Fault Refusal :=
  if !(s.session n).isOpen then .next s
  else
    let (l, t) := s.faultReadOut n
    .next (t.answerRead n (.ok l))

/-! ### Scrubbing (R461–R463) -/

/-- The slice that tests a macro (R490). -/
def sliceOf (m : Nat) : Nat :=
  let i := m % 256
  match m / 256 with
  | 0 => i / 4
  | 1 => 8 + i / 4
  | 2 => 12 + i / 8
  | 3 | 4 | 5 => 14 + i
  | 6 => 30
  | 7 => 31 + i / 4
  | 8 => 35
  | 9 => 36
  | 10 => 37
  | _ => 38

/-- A candidate enters the list of 32 (R496): when the list is full it replaces the oldest of its slice, else it is dropped and counted. -/
def State.candidate (s : State) (f : Finding) : State :=
  let l := s.bist.candidates
  if l.length < 32 then { s with bist := { s.bist with candidates := l ++ [f] } }
  else if l.any (fun g => sliceOf g.macro_ = sliceOf f.macro_) then
    { s with bist := { s.bist with candidates := l.eraseP (fun g => sliceOf g.macro_ = sliceOf f.macro_) ++ [f] } }
  else s.bump 0xB000 4

/-- The candidate of a hard error at an address: DRAM is tested with macro 0x0A00. -/
def scrubFinding (dram : Bool) (a : Nat) : Finding :=
  if dram then { macro_ := 0x0A00, row := Config.eccPlace a 1, col := Config.eccPlace a 2, bit := Config.eccPlace a 3 }
  else { macro_ := Config.eccPlace a 0, row := Config.eccPlace a 1, col := Config.eccPlace a 2, bit := Config.eccPlace a 3 }

/-- One corrected address of a pass (R461): reported; when either of the last two passes corrected it too, it is a hard error. -/
def State.scrubOne (s : State) (dram : Bool) (before : List (List Nat)) (a : Nat) : State :=
  let hard := before.any (·.contains a)
  let s := if dram then s.bump 0x2230 1 else s
  let s := if hard then (s.bump 0xA031 3).candidate (scrubFinding dram a) else s
  s.report { source := if dram then 0x15 else 0x10, syndrome := b2n hard * 2 ^ 31, address := a }

/-- A scrub pass ends (R461–R463), of the DRAM outside RESET, BOOT and DOZE, of on-chip memory outside RESET and BOOT (R24): corrected words are written back and judged against the two passes before; a checker that fails its
test word raises source 0xA4 with its macro. -/
def execScrubPass (dram : Bool) (corrected checkerFailed : List Nat) (s : State) : Host.Outcome State Fault Refusal :=
  let m := s.modes.mode
  if s.o 0xA030 1 = 0 || m = .reset || m = .boot || (dram && m = .doze) then .next s
  else
    let before := if dram then s.fc.lastCorrectedDram else s.fc.lastCorrected
    let s := corrected.foldl (fun s a => s.scrubOne dram before a) s
    let hist := (corrected :: before).take 2
    let s := { s with fc := if dram then { s.fc with lastCorrectedDram := hist } else { s.fc with lastCorrected := hist, scrubOnTime := !s.fc.passLate, passLate := false } }
    let s := checkerFailed.foldl (fun s m => (s.bump 0xA031 4).report { source := 0xA4, syndrome := m }) s
    .next ((s.bump 0xA031 (if dram then 2 else 1)).sfgUpdate)

/-- A periodic activity ends late (R27, R462): one corrected report names it and its overrun; an on-chip scrub pass (activity 0) more than
2 s late clears SCRUB_ON_TIME until a pass has ended on time. -/
def execBackgroundPassLate (activity overrunMs : Nat) (s : State) : Host.Outcome State Fault Refusal :=
  let s := s.report { source := 0xA0, syndrome := activity % 256 * 2 ^ 24 + min overrunMs (2 ^ 24 - 1) }
  if activity = 0 && overrunMs > 2000 then .next ({ s with fc := { s.fc with scrubOnTime := false, passLate := true } }.sfgUpdate)
  else .next s

/-! ### Shutter records (R175, R176) -/

/-- The Shutter counters are cleared (R175). -/
def State.shutterClear (s : State) : State := s.clearSubs 0x26A0 1 8 0

/-- Writing 1 to 0x26A0:00. -/
def execShutterClearCounters (s : State) : Host.Outcome State Fault Refusal := .next s.shutterClear

/-- SHT_GFAIL.VALID is written 1 (R176): the held failure goes, unless it was recorded at this edge (R6). -/
def State.gfailClear (s : State) : State :=
  if s.setNow W1c.gfail then s
  else { s with shutter := { s.shutter with gfailValid := false, gfailGroup := 0, gfailCodes := 0, gfailSt32 := 0 } }

/-- Writing 1 to SHT_GFAIL.VALID. -/
def execShtGfailClear (s : State) : Host.Outcome State Fault Refusal := .next s.gfailClear

end Sys2Proof.Machine
end

