-- ==== Sys2Proof/Machine/Can.lean ====
section
/-!
DEFINITION. The CAN message buses (R352–R377): transmit packets and frames, reception and filters, error states, aborts, wake
detectors and the time-triggered schedule.
-/

namespace Sys2Proof.Machine

/-! ### Frames and packets (R357–R359) -/

/-- The byte count of a DLC (R357). -/
def dlcBytes (d : Nat) : Nat := if d ≤ 8 then d else [12, 16, 20, 24, 32, 48, 64].getD (d - 9) 64

/-- Data items of a frame. -/
def canItems (bytes : Nat) : Nat := (bytes + 2) / 3

/-- The bytes of data items, first byte in [23:16]. -/
def itemBytes (l : List Item) : List Byte := l.flatMap (fun i => beBytes 3 i.data.toNat)

/-- Data items of bytes. -/
def bytesItems : List Byte → List Nat
  | [] => []
  | [a] => [65536 * a.toNat]
  | [a, b] => [65536 * a.toNat + b.toNat * 256]
  | a :: b :: c :: l => (65536 * a.toNat + b.toNat * 256 + c.toNat) :: bytesItems l

/-- A transmit packet's frame and ROUTE, or none when R358 discards it. -/
def canFrameOf (fd ttOn : Bool) (l : List Item) : Option (CanFrame × Nat) :=
  match l with
  | h0 :: h1 :: d =>
    let a := h0.data.toNat
    let b := h1.data.toNat
    let ide := bitOf a 23
    let fdf := bitOf a 22
    let brs := bitOf a 21
    let rtr := bitOf a 20
    let dlc := a / 65536 % 16
    let route := b / 2 ^ 18 % 32
    let n := if rtr then 0 else dlcBytes dlc
    let reserved := a / 2048 % 32 ≠ 0 || bitOf b 23 || (!ide && b % 2 ^ 18 ≠ 0)
    let badForm := (!fdf && (dlc > 8 || brs)) || (fdf && rtr) || (fdf && !fd)
    let badRoute := route > 16 || (route ≠ 0 && !ttOn)
    let shape := h0.sop && (l.getLast?.any (·.eop)) && l.all (fun i => i.kind = 0) && d.length = canItems n
    if reserved || badForm || badRoute || !shape then none
    else some ({ ide := ide, fdf := fdf, brs := brs, rtr := rtr, dlc := ⟨dlc, Nat.mod_lt _ (by decide)⟩,
                 id := BitVec.ofNat 29 (a % 2048 * 2 ^ 18 + b % 2 ^ 18), data := (itemBytes d).take n }, route)
  | _ => none

/-- A received frame as a channel packet (R357, R359): the stamp pair, the two header items and the data. -/
def canPacket (f : CanFrame) (filter st : Nat) : List Item :=
  let id := f.id.toNat
  let h0 := b2n f.ide * 2 ^ 23 + b2n f.fdf * 2 ^ 22 + b2n f.brs * 2 ^ 21 + 2 ^ 20 * b2n f.rtr + f.dlc.val * 2 ^ 16 + id / 2 ^ 18
  let h1 := b2n f.esi * 2 ^ 23 + filter * 2 ^ 18 + (if f.ide then id % 2 ^ 18 else 0)
  let d := if f.rtr then [] else bytesItems (f.data.take (dlcBytes f.dlc.val))
  let l := (h0 :: h1 :: d).map (fun v => ({ data := BitVec.ofNat 24 v } : Item))
  let l := l.dropLast ++ (l.getLast?.map (fun i => { i with eop := true })).toList
  { sop := true, kind := 1, data := BitVec.ofNat 24 (st % 65536) } :: { kind := 2, data := BitVec.ofNat 24 (st / 65536 % 65536) } :: l

/-! ### Transmission (R358, R362–R366) -/

/-- The channel a controller sends from. -/
def State.canTxChan (s : State) (k : Nat) : Option Nat := s.findItem 0x5002 0 (0x3000 + k)

/-- An entry joins the transmit queue with the next sequence number (R362). -/
def State.canEnqueue (s : State) (k : Nat) (f : CanFrame) : State :=
  let x := s.ctl k
  s.setCtl k { x with queue := x.queue ++ [{ seq := x.nextSeq, frame := f, since := s.clock }], nextSeq := (x.nextSeq + 1) % 256 }

/-- A packet taken from the channel is sent on its route, or discarded and counted (R353, R357, R358). -/
def State.canPlace (s : State) (k : Nat) (l : List Item) : State :=
  if !canSendMode s.modes.mode then if s.modes.mode = .standby then s.canCount k 10 else s
  else match canFrameOf (s.o 0x7001 10 k = 1) (s.ttMode k ≠ 0) l with
    | none => s.canCount k 5
    | some (f, 0) => s.canEnqueue k f
    | some (f, b + 1) => let x := s.ctl k
                         s.setCtl k { x with bufs := tput b f x.bufs }

/-- A controller takes one packet from its channel (R353, R358): not while its queue is full (R362), nor in a mode off the bus. -/
def execCanTxPacket (k : Fin 8) (s : State) : Host.Outcome State Fault Refusal :=
  if !s.canEnabled k || !canBusMode s.modes.mode || (s.ctl k).queue.length ≥ s.o 0x7002 1 k then .next s
  else match s.canTxChan k with
    | none => .next s
    | some c =>
      let l := s.epItems c
      let p := packetItems l
      if p.isEmpty || (!p.getLast?.any (·.eop) && l.length = p.length) then .next s
      else .next ((p.foldl (fun s i => s.chanPop c i) s).canPlace k p)

/-- The error state of TEC and REC (R366): error-active 2, error-passive 3. -/
def canErrState (tec rec_ : Nat) : Nat := if tec > 127 || rec_ > 127 then 3 else 2

/-- After a frame's end a waiting session frame takes a free place (R362), and a controller in a mode off the bus leaves it (R354). -/
def State.canDone (s : State) (k : Nat) : State :=
  let s := ((s.setCtl k { s.ctl k with onBus := false, aborting := false, abortOne := false }).canEnded k).canFill k
  if canBusMode s.modes.mode then s else s.canLeave k false

/-- The frame that is on the bus, while the controller sends: the reference message of a potential master, the exclusive frame of a
trigger, else the head of the queue. -/
def State.canSending (s : State) (k : Nat) : Option CanFrame :=
  let x := s.ctl k
  match x.ref, x.exclusive with
  | some _, _ => none
  | none, some f => some f
  | none, none => if s.headOffered k then x.queue.head?.map (·.frame) else none

/-- The reference mark of a cycle (R371–R373): triggers count from it. -/
def newMark (x : CanCtl) (cycle mark : Nat) : CanCtl := { x with cycle := cycle, markAt := mark, acted := [] }

/-- The master priority of REF_ID (R372): the low 3 bits of the identifier, a standard one standing in 29-bit form. -/
def refPrio (id : Nat) : Nat := if id % 2 ^ 18 = 0 then id / 2 ^ 18 % 8 else id % 8

/-- The head, or an exclusive frame, does not complete: an exclusive frame is not retried (R375), nor one whose abort is decided (R364);
a reference message that loses is withdrawn (R372); any other is retried (R365). -/
def State.canNotSent (s : State) (k code : Nat) : State :=
  let x := s.ctl k
  match x.ref, x.exclusive with
  | some _, _ => if code = 2 then s.setCtl k { x with ref := none, master := false } else s
  | none, some _ => ((s.setCtl k { x with exclusive := none }).canEnded k).canCount k 13
  | none, none =>
    match x.queue with
    | e :: q => if x.aborting then ((s.setCtl k (canOutcome { x with queue := q } x.abortOne code e.seq)).noteAbort k x.abortOne).canDone k
        else s.canDone k
    | [] => s

/-- An error on the bus (R366): TEC rises by 8 as transmitter, REC by 1 or, after a dominant bit, by 8 as receiver. Error-passive and
bus-off are reported; at bus-off the controller leaves the schedule (R374). -/
def State.canErr (s : State) (k : Nat) (tx dominant : Bool) : State :=
  let x := s.ctl k
  let tec := if tx then x.tec + 8 else x.tec
  let rec_ := if tx then x.rec_ else min (x.rec_ + (if dominant then 8 else 1)) 255
  let off := tec > 255
  let st := if off then 4 else canErrState tec rec_
  let s := (s.setCtl k { x with tec := if off then x.tec else tec, rec_ := rec_, state := st }).canCount k 8
  let s := if tx then s.canNotSent k 3 else s.canEnded k
  if off then
    let y := s.ctl k
    ((s.setCtl k { y with state := 4, tt := if y.tt = 4 then 4 else min y.tt 1, lastRef := none, master := false, window := none,
                          begun := false, ref := none }).canCount k 9).report { source := 0x61, syndrome := k }
  else if st = 3 && x.state = 2 then s.report { source := 0x60, syndrome := k }
  else s

/-- TDCV of an FD frame with BRS set under TDC_MODE 1 (R356); the delay is free where the command gives none. -/
def State.tdcMeasured (s : State) (k : Nat) (f : CanFrame) (tdcv : Option (Fin 128)) : Option Nat :=
  if f.fdf && f.brs && s.o 0x7001 11 k = 1 then some (match tdcv with | some v => v.val | none => s.freeNat 7) else none

/-- A frame completes on the bus (R362, R364, R372, R375): the reference message, which makes the hub the master, the exclusive frame of a
trigger, else the head, which leaves the queue. -/
def State.canSent (s : State) (k : Nat) : State :=
  let x0 := s.ctl k
  let tec := x0.tec - 1
  let x : CanCtl := { x0 with tec := tec, state := canErrState tec x0.rec_ }
  match x.ref, x.exclusive with
  | some (c, m, b), _ =>
    let y := newMark { x with ref := none, master := true, prio := refPrio (s.o 0x7030 2 k), disc := false, tt := 3 } c m
    (((s.setCtl k y).emit (.can k b)).canEnded k).canCount k 1
  | none, some f =>
    (((s.setCtl k { x with exclusive := none }).emit (.can k (beBytes 4 f.id.toNat ++ f.data))).canEnded k).canCount k 1
  | none, none =>
    match x.queue with
    | [] => s
    | e :: q =>
      let y := { x with queue := q }
      let y := if x.aborting then canOutcome y x.abortOne 1 e.seq else y
      let s := (((s.setCtl k y).noteAbort k (x.aborting && x.abortOne)).emit (.can k (beBytes 4 e.frame.id.toNat ++ e.frame.data))).canCount k 1
      (if x.aborting then s.canCount k 7 else s).canDone k

/-- The frame on the bus ends without error (R356, R362): with TDC, its TDCV is held, and a frame whose TDCV + TDCO exceeds 127 cycles meets
a bit error instead. -/
def execCanTxComplete (k : Fin 8) (tdcv : Option (Fin 128)) (s : State) : Host.Outcome State Fault Refusal :=
  if !s.canOn k then .next s
  else match s.canSending k with
    | none => .next (if (s.ctl k).ref.isSome then s.canSent k else s)
    | some f =>
      match s.tdcMeasured k f tdcv with
      | none => .next (s.canSent k)
      | some v =>
        let t := (if tdcv.isNone then s.drew else s).setCtl k { s.ctl k with tdcv := v }
        .next (if v + s.o 0x7001 12 k > 127 then t.canErr k true false else t.canSent k)

/-- A frame loses arbitration (R365). -/
def execCanTxLost (k : Fin 8) (s : State) : Host.Outcome State Fault Refusal :=
  .next (if s.canOn k then s.canNotSent k 2 else s)

/-- A bus error (R366), of a frame that the controller sends or receives. -/
def execCanBusError (k : Fin 8) (tx dominant : Bool) (s : State) : Host.Outcome State Fault Refusal :=
  .next (if s.canOn k then s.canErr k tx dominant else s)

/-- 128 occurrences of 11 recessive bits end bus-off, by itself with BUSOFF_AUTO 1, else after a restart command (R366). -/
def execCanBusoffRecovery (k : Fin 8) (s : State) : Host.Outcome State Fault Refusal :=
  let x := s.ctl k
  if x.state = 4 && canBusMode s.modes.mode && (s.o 0x7002 2 k = 1 || x.restart) then
    .next (s.setCtl k { x with state := 2, tec := 0, rec_ := 0, restart := false })
  else .next s

/-- CAN_CMD 1 or ABORT_ALL (R364). `onBus` tells that the head is past its start-of-frame sample point. -/
def execCanAbortAll (k : Fin 8) (onBus : Bool) (s : State) : Host.Outcome State Fault Refusal :=
  .next (s.canAbort k false onBus (fun _ => true))

/-- ABORT_SEQ (R364): a number not in the queue has no effect. -/
def execCanAbortSeq (k : Fin 8) (seq : Byte) (onBus : Bool) (s : State) : Host.Outcome State Fault Refusal :=
  .next (s.canAbort k true onBus (fun e => e.seq = seq.toNat))

/-- CAN_CMD 2 or RESTART (R366): no effect on a controller that is not bus-off. -/
def State.canRestart (s : State) (k : Nat) : State :=
  if (s.ctl k).state = 4 then s.setCtl k { s.ctl k with restart := true } else s

/-- CAN_CMD 2. -/
def execCanBusoffRestart (k : Fin 8) (s : State) : Host.Outcome State Fault Refusal := .next (s.canRestart k)

/-- The counters of a controller are cleared (R376). -/
def State.canClear (s : State) (k : Nat) : State := s.clearSubs 0x7010 1 13 k

/-- CAN_CMD 3. -/
def execCanClearCounters (k : Fin 8) (s : State) : Host.Outcome State Fault Refusal := .next (s.canClear k)

/-- CAN_CMD 4 (R375): the halted state is left, out of schedule. -/
def State.canUnhalt (s : State) (k : Nat) : State :=
  if (s.ctl k).tt = 4 then s.setCtl k { s.ctl k with tt := 1, level := 0, lastRef := none } else s

/-- CAN_CMD 4. -/
def execCanLeaveHalted (k : Fin 8) (s : State) : Host.Outcome State Fault Refusal := .next (s.canUnhalt k)

/-- CAN_ABORT.VALID is written 1 (R377): the held outcome goes, unless it was kept at this edge (R6). -/
def State.abortClear (s : State) (k : Nat) : State :=
  if s.setNow (W1c.abort k) then s else s.setCtl k { s.ctl k with abortValid := false, abort := (0, 0) }

/-- Writing 1 to CAN_ABORT.VALID. -/
def execCanAbortClear (k : Fin 8) (s : State) : Host.Outcome State Fault Refusal := .next (s.abortClear k)

/-- A read of CAN_FHIT (R377): the filter's hits of the controller the context selects, which restart from 0. -/
def State.readFhit (s : State) (c : Ctx) (f : Nat) : State × Nat :=
  let k := (s.ctx c).canSel
  let x := s.ctl k
  (s.setCtl k { x with hits := tset 0 x.hits f 0 }, tget 0 x.hits f)

/-- CAN_FHIT is read. -/
def execCanFhitRead (c : Ctx) (f : Fin 32) (s : State) : Host.Outcome State Fault Refusal :=
  if !s.reaches c then .next s else
  let (t, v) := s.readFhit c f
  .next (t.reply c 4 v)

/-! ### Reception (R359–R361, R367) -/

/-- The identifier bases at which controller `k` takes session requests: the one set, and those of sessions opened under another (R60). -/
def State.canBases (s : State) (k : Nat) : List Nat :=
  s.o 0x7002 3 k :: ((s.dict.sessions.filter (fun e =>
    (e.2.isOpen || e.2.challenge.isSome) && decide (e.2.path = .can) && e.2.ident / 256 = k)).map (fun e => e.2.base))

/-- The base and node a session identifier names on controller `k`, if the session server takes the frame (R353, R367): in STANDBY the own
node; under a former base the own node too (R60). -/
def State.canNode (s : State) (k : Nat) (f : CanFrame) : Option (Nat × Nat) :=
  let id := f.id.toNat / 2 ^ 18
  let now := s.o 0x7002 3 k
  if s.o 0x7001 10 k ≠ 1 || f.ide then none
  else (s.canBases k).findSome? (fun base =>
    if base ≤ id && id < base + 128 && (id - base = s.node || (base = now && s.canGateway k (id - base) && s.modes.mode ≠ .standby)) then
      some (base, id - base)
    else none)

/-- A session frame (R44, R367): DLC 15 without a remote bit; the hub's own goes to the session server, a gateway node's over the ring. -/
def State.canSessionIn (s : State) (k base n : Nat) (f : CanFrame) : State :=
  if !f.fdf || f.rtr || f.dlc.val ≠ 15 then s.bump 0x1209 1
  else if n = s.node then s.arrived { path := .can, ident := 256 * k + n, via := base, bytes := f.data }
  else s.originate {
    hdr := { typ := 4, cls := 3, source := s.node, dest := n, length := f.data.length }, payload := f.data, src := 6 }

/-- Filter `i` of controller `k` matches (R360). -/
def State.canMatches (s : State) (k : Nat) (f : CanFrame) (i : Nat) : Bool :=
  let v := s.o 0x7020 (i + 1) k
  let act := v / 2 ^ 62
  let fmt := v / 2 ^ 59 % 4
  (act = 1 || act = 2) && bitOf v 61 = f.ide && (fmt = 2 || (fmt = 1) = f.fdf)
    && (f.id.toNat ^^^ (v / 2 ^ 29 % 2 ^ 29)) &&& (v % 2 ^ 29) = 0

/-- The channel fed by filter `i` of controller `k`. -/
def State.canRxChan (s : State) (k i : Nat) : Option Nat := s.findItem 0x5001 0 (0x3000 + 32 * k + i)

/-- A packet fits a channel whole; a quarantined channel takes it to discard it. -/
def State.canFits (s : State) (c : Nat) (l : List Item) : Bool :=
  (s.chan c).quarantined || (s.chan c).items.length + l.length ≤ s.chanSize c

/-- A frame for filter `i` enters its channel, or waits in the receive buffer; with all 16 places taken it is dropped, and the first
drop in a second is reported (R361). -/
def State.canDeliver (s : State) (k i : Nat) (l : List Item) : State :=
  match s.canRxChan k i with
  | none => s.canCount k 3
  | some c =>
    let x := s.ctl k
    if !(x.rx.any (fun r => r.1 = i)) && s.canFits c l then (s.chanWriteAll c l).1
    else if x.rx.length < 16 then s.setCtl k { x with rx := x.rx ++ [(i, l)] }
    else
      let s := s.canCount k 4
      match x.dropAt with
      | some t => if s.clock < ticksMs 1000 + t then s
                  else (s.setCtl k { x with dropAt := some s.clock }).report { source := 0x62, syndrome := k }
      | none => (s.setCtl k { x with dropAt := some s.clock }).report { source := 0x62, syndrome := k }

/-- The stamp of an edge at CANn_RX: 4 ns resolution, less the input delay of 2 ns (R359). `ago` is in 2^-32 ns. -/
def State.canStamp (s : State) (ago : Nat) : Nat := (2 ^ 32 + ((s.time.wt - ago) / 2 ^ 34 * 4 : Nat) - 2) % 2 ^ 32

/-- A frame without error up to its end (R359, R360): a session's, a filter's, or discarded and counted. REC falls by 1, or to a free value
from 119 to 127 when it was above that. -/
def execCanFrameReceived (k : Fin 8) (f : CanFrame) (ago : Nat) (s : State) : Host.Outcome State Fault Refusal :=
  if !s.canOn k || !canBusMode s.modes.mode then .next s
  else
    let x := s.ctl k
    let r := if x.rec_ > 127 then 119 + s.freeNat 4 % 9 else x.rec_ - 1
    let s := ((s.drew.setCtl k { x with rec_ := r, state := canErrState x.tec r }).canEnded k).canCount k 2
    match s.canNode k f with
    | some (base, n) => .next (s.canSessionIn k base n f)
    | none =>
      match (List.range 32).find? (s.canMatches k f) with
      | none => .next (s.canCount k 3)
      | some i =>
        if s.o 0x7020 (i + 1) k / 2 ^ 62 = 2 then .next (s.canCount k 3)
        else
          let x := s.ctl k
          let seen := (List.range 64).foldl (fun t j => tset false t (j * 32 + i) true) x.seen
          let s := s.setCtl k { x with hits := tset 0 x.hits i (tget 0 x.hits i + 1), seen := seen }
          .next (s.canDeliver k i (canPacket f i (s.canStamp ago)))

/-- The first waiting frame that may enter its channel: no earlier one of its filter waits (R361). -/
def State.canDrainable (s : State) (k : Nat) : List Nat → List (Nat × List Item) → Option (Nat × List Item)
  | _, [] => none
  | blocked, (i, l) :: r =>
    match s.canRxChan k i with
    | some c => if !blocked.contains i && s.canFits c l then some (i, l) else s.canDrainable k (i :: blocked) r
    | none => s.canDrainable k blocked r

/-- A frame waiting in the receive buffer enters its channel (R361). -/
def execCanRxBufferDrain (k : Fin 8) (s : State) : Host.Outcome State Fault Refusal :=
  let x := s.ctl k
  match s.canDrainable k [] x.rx with
  | none => .next s
  | some (i, l) =>
    let s := s.setCtl k { x with rx := x.rx.eraseP (fun r => r.1 = i) }
    match s.canRxChan k i with
    | some c => .next (s.chanWriteAll c l).1
    | none => .next s

/-! ### Wake (R368–R370) -/

/-- A data bit is set where WUF_DATA_MASK has a 1: the mask's most significant byte stands over the first data byte. -/
def wufData (mask : Nat) (d : List Byte) : Bool :=
  (List.range 8).any (fun i => ((d.getD i 0).toNat &&& (mask / 256 ^ (7 - i) % 256)) ≠ 0)

/-- The controller recognises a wake (R370): cause and identifier are kept, the wake is counted, and the hub wakes (R79). -/
def State.canWoken (s : State) (k cause id : Nat) : State :=
  ((s.setCtl k { s.ctl k with wakeCause := cause, wakeId := id }).canCount k 11).wake

/-- What the wake detector of a controller sees in DOZE (R368, R369). -/
def execCanWake (k : Fin 8) (w : CanWake) (s : State) : Host.Outcome State Fault Refusal :=
  if s.modes.mode ≠ .doze || !bitOf (s.o 0x1131 0) k || !s.canEnabled k then .next s
  else
    let flt := s.o 0x7003 2 k
    match s.o 0x7003 1 k, w with
    | 0, .low ns => .next (if ns ≥ flt then s.canWoken k 1 0 else s)
    | 1, .pattern d1 r d2 total =>
      .next (if d1 ≥ flt && r ≥ flt && d2 ≥ flt && total ≤ 1000 * s.o 0x7003 3 k then s.canWoken k 2 0 else s)
    | 2, .frame f good =>
      let x := s.ctl k
      if f.fdf then .next s
      else if !good then
        let n := x.wufErrors + 1
        let s := s.setCtl k { x with wufErrors := n }
        .next (if n ≥ 32 && s.o 0x7003 9 k = 1 then s.canWoken k 4 0 else s)
      else
        let s := s.setCtl k { x with wufErrors := x.wufErrors - 1 }
        let dlc := s.o 0x7003 7 k
        let hit := (f.id.toNat ^^^ s.o 0x7003 4 k) &&& s.o 0x7003 5 k = 0 && f.ide = (s.o 0x7003 6 k = 1) && !f.rtr
          && f.dlc.val = dlc && (dlc = 0 || wufData (s.o 0x7003 8 k) f.data)
        .next (if hit then s.canWoken k 3 f.id.toNat else s)
    | _, _ => .next s

/-- 11 recessive bits have been seen: the controller joins the bus (R370), in the error state its counters give. -/
def execCanIntegrationDone (k : Fin 8) (s : State) : Host.Outcome State Fault Refusal :=
  let x := s.ctl k
  if x.state = 1 && canBusMode s.modes.mode then .next (s.setCtl k { x with state := canErrState x.tec x.rec_, wufErrors := 0 })
  else .next s

/-! ### Time-triggered operation (R371–R375) -/

/-- The schedule can act: it is configured, not halted, and the controller is on the bus. -/
def State.ttOn (s : State) (k : Nat) : Bool := s.ttMode k ≠ 0 && (s.ctl k).tt ≠ 4 && s.canOn k

/-- Cycle length in ns. -/
def State.ttCycleNs (s : State) (k : Nat) : Nat := s.o 0x7030 4 k * s.o 0x7030 3 k

/-- The cycle instant of R372 that the present edge stands at, if any: its number and its Cycle_Count. The instants repeat with the cycle
length, which divides the second (R371). -/
def State.ttInstant (s : State) (k : Nat) : Option (Nat × Nat) :=
  let c := s.ttCycleNs k
  let off := s.o 0x7030 6 k
  if c = 0 || s.nsCount < off || (s.nsCount - off) % c > 4 then none
  else some ((s.nsCount - off) / c, (s.nsCount - off) % 1000000000 / c % max 1 (s.o 0x7030 5 k))

/-- A reference message (R372): REF_ID, then the level-2 layout, in which Master_Ref_Mark `mark` is the low 16 bits of global time, and the
ST32 at the reference mark in data bytes 4–7. -/
def refBytes (id cycle : Nat) (disc : Bool) (mark st : Nat) : List Byte :=
  beBytes 4 id ++ [BitVec.ofNat 8 cycle, BitVec.ofNat 8 (b2n disc)] ++ leBytes 2 mark ++ beBytes 4 st

/-- A potential master offers its reference message at a cycle instant (R372): Disc_Bit tells a WT step. The global time of its mark is
free. -/
def execTtReferenceSend (k : Fin 8) (s : State) : Host.Outcome State Fault Refusal :=
  let x := s.ctl k
  if s.ttMode k ≠ 2 || !canSendMode s.modes.mode || !s.ttOn k then .next s
  else match s.ttInstant k with
    | none => .next s
    | some (n, c) =>
      if x.refIdx = n + 1 then .next s
      else
        let f := refBytes (s.o 0x7030 2 k) c x.disc (s.freeNat 16) s.st32
        .next (s.drew.setCtl k { x with ref := some (c, s.clock, f), refIdx := n + 1 })

/-- A reference message is received (R372–R374): a message of the hub's own that was offered is withdrawn. Disc_Bit takes the slave out of
schedule; two consecutive ones set the ratio and bring it in. -/
def execTtReferenceReceived (k : Fin 8) (r : TtRef) (ago : Nat) (s : State) : Host.Outcome State Fault Refusal :=
  let x := s.ctl k
  if !s.ttOn k then .next s
  else
    let mark := s.clock - ago / 2 ^ 34
    let x := newMark { x with
      master := false, ref := none, prio := r.prio, refSt := (match r.st with | some w => w.toNat | none => x.refSt) } r.cycle mark
    if r.disc then .next (s.setCtl k { x with tt := 1, lastRef := none })
    else
      let next : CanCtl := match x.lastRef with
        | some (c, m, g) =>
          if r.cycle.val = (c + 1) % (max 1 (s.o 0x7030 5 k)) && mark > m then
            let dg := (65536 + r.mark - g % 65536) % 65536
            { x with tt := 3, tur := dg * s.o 0x7030 3 k * 2 ^ 24 / ((mark - m) * 4) % 2 ^ 32 }
          else { x with tt := if x.tt = 3 then 3 else 2 }
        | none => { x with tt := if x.tt = 3 then 3 else 2 }
      .next (s.setCtl k { next with lastRef := some (r.cycle, mark, r.mark) })

/-- Cycle time (R373): the cycles passed since the last reference mark, and the NTU in the present one. A slave takes its rate from the
time-unit ratio. Without a new reference the cycles go on from the last mark (DEDUCED, log entry 123). -/
def State.ttTime (s : State) (k : Nat) : Nat × Nat :=
  let x := s.ctl k
  let local_ := (s.clock - x.markAt) * 4
  let ns := if x.master then local_ else local_ * x.tur / 2 ^ 24
  let len := max 1 (s.ttCycleNs k)
  (ns / len, ns % len / max 1 (s.o 0x7030 3 k))

/-- DRIFT_PPM × time since the last reference mark, against `n` NTU: UNCERT − 1 exceeds `n` (R373). -/
def State.ttDrifts (s : State) (k n : Nat) : Bool :=
  s.o 0x7030 8 k * ((s.clock - (s.ctl k).markAt) * 4) > 1000000 * n * s.o 0x7030 3 k

/-- UNCERT in NTU, rounded down (R373). -/
def State.ttUncert (s : State) (k : Nat) : Nat :=
  1 + s.o 0x7030 8 k * ((s.clock - (s.ctl k).markAt) * 4) / (1000000 * max 1 (s.o 0x7030 3 k))

/-- UNCERT exceeds GUARD: the slave leaves the schedule (R374). -/
def execTtGuardExceeded (k : Fin 8) (s : State) : Host.Outcome State Fault Refusal :=
  let x := s.ctl k
  if s.ttMode k = 0 || x.master || x.tt < 2 || x.tt = 4 || !s.ttDrifts k (s.o 0x7030 7 k - 1) then .next s
  else .next (s.setCtl k { x with tt := 1, lastRef := none })

/-- A schedule error (R375): counted, and the error level rises; at S3 the controller halts and is reported. -/
def State.ttError (s : State) (k : Nat) : State :=
  let x := s.ctl k
  let lv := min (x.level + 1) 3
  let s := (s.setCtl k { x with level := lv, tt := if lv = 3 then 4 else x.tt, window := if lv = 3 then none else x.window }).canCount k 12
  if lv = 3 then s.report { source := 0x63, syndrome := k } else s

/-- What trigger `t` does at its mark (R371, R374, R375), `n` cycles after the last reference: the window of an earlier one closes; out of
schedule only an arbitrating window may open, after one reference; an exclusive frame is sent in the modes that send channel frames. -/
def State.ttAct (s : State) (k : Nat) (t : Fin 64) (n : Nat) : State :=
  let v := s.o 0x7031 (t + 1) k
  let idx := v / 2 ^ 25 % 16
  let x0 := s.ctl k
  let x := { x0 with window := none, begun := x0.begun || s.canWindow k, acted := (n, t.val) :: x0.acted }
  let s := s.setCtl k x
  match v / 2 ^ 29 with
  | 1 =>
    if x.tt ≠ 3 || !canSendMode s.modes.mode then s
    else match x.bufs.find? (fun b => b.1 = idx) with
      | none => s.canCount k 13
      | some (_, f) => s.setCtl k { x with exclusive := some f }
  | 2 => if x.tt ≥ 2 then s.setCtl k { x with window := some s.clock } else s
  | 3 =>
    if x.tt ≠ 3 then s
    else
      let s1 := s.setCtl k { x with seen := tset false x.seen (t.val * 32 + idx) false }
      if tget false x.seen (t.val * 32 + idx) then s1 else s1.ttError k
  | _ => if x.tt = 3 && n > 0 then s.ttError k else s

/-- Trigger `t` is active in cycle `c` (R371). -/
def ttActive (v c : Nat) : Bool := v / 2 ^ 29 ≠ 0 && c % 2 ^ (v / 2 ^ 22 % 8) = v / 2 ^ 16 % 64

/-- A trigger acts once at its time mark in each cycle in which it is active (R371). -/
def execTtTrigger (k : Fin 8) (t : Fin 64) (s : State) : Host.Outcome State Fault Refusal :=
  let v := s.o 0x7031 (t + 1) k
  let x := s.ctl k
  let (n, now) := s.ttTime k
  if !s.ttOn k || !ttActive v ((x.cycle + n) % max 1 (s.o 0x7030 5 k)) || now ≠ v % 65536 || x.acted.contains (n, t.val) then .next s
  else .next (s.ttAct k t n)

end Sys2Proof.Machine
end

