-- ==== Sys2Proof/Machine/Coproc.lean ====
section
/-!
DEFINITION. The signal coprocessors of the service cores (R327, R328, R333–R335): what an operation writes, the rename buffer that holds it until its
instruction retires, and its end when its path is squashed.
-/

namespace Sys2Proof.Machine

/-- A product added to a 48-bit accumulator (R327), saturating at ±(2^47 − 1), and whether it did. -/
def macAdd (acc : Int) (a b : W24) : Int × Bool :=
  let v := acc + a.toInt * b.toInt
  let w := clampI (-(2 ^ 47 - 1)) (2 ^ 47 - 1) v
  (w, w ≠ v)

/-- What an operation writes into the coprocessor's registers (R327). It depends on them and on the operation alone: not on the core, its load or
the path it was issued on (R328). -/
def coApply (x : CoreSt) : CoOp → CoreSt
  | .mac lane a b =>
    let r := macAdd (x.acc.getD lane 0) a b
    { x with acc := x.acc.set lane r.1, ovf := if r.2 then x.ovf ||| (1#4 <<< lane.val) else x.ovf }
  | .cordic vectoring a b z => { x with cordic := Config.cordic vectoring a b z }
  | .dft bin v =>
    let b := tget (0, 0) x.bins bin
    { x with bins := tset (0, 0) x.bins bin (Config.dftStep bin b.1 b.2 v) }

/-- The operations that no unresolved branch stands before retire, in order (R334, R335). -/
def coRetire (x : CoreSt) : List (Option CoOp) → CoreSt
  | some o :: l => coRetire (coApply x o) l
  | l => { x with rename := l }

/-- The branch at place `k` of those unresolved is resolved (R333, R334): as predicted, what follows it stays; else all that follows is squashed. -/
def coResolve (right : Bool) : List (Option CoOp) → Nat → List (Option CoOp)
  | [], _ => []
  | some o :: l, k => some o :: coResolve right l k
  | none :: l, 0 => if right then l else []
  | none :: l, k + 1 => none :: coResolve right l k

/-- One act of firmware on a core's coprocessor (R334). -/
def coAct (x : CoreSt) : CoAct → CoreSt
  | .issue o => coRetire x (x.rename ++ [some o])
  | .branch => { x with rename := x.rename ++ [none] }
  | .resolve k right => coRetire x (coResolve right x.rename k)

/-- The coprocessors of the cores in service at one edge; in RESET, and on gated and retired cores, nothing is issued. -/
def State.coEdge (s : State) : State :=
  if s.modes.mode = .reset then s else
  (List.range 16).foldl (fun s k =>
    let x := s.coreSt k
    let l := Config.coActs s.clock k
    if x.state ≠ 0 || l.isEmpty then s else s.setCoreSt k (l.foldl coAct x)) s

/-- A trap squashes every younger instruction (R339): operations not retired are aborted. -/
def State.coSquash (s : State) (k : Nat) : State := s.setCoreSt k { s.coreSt k with rename := [] }

end Sys2Proof.Machine
end

