-- ==== Sys2Proof/Machine/Cores.lean ====
section
/-!
DEFINITION. The commands of the service cores (R331–R349): load windows, hinge points and their copies, traps and restarts, and the
trace.
-/

namespace Sys2Proof.Machine

/-! ### Load (R331) -/

/-- A 10 ms window of core `k` in service ends, 10 ms after the last, with its 1 s load and the loads of its services: a load above LOAD_ALARM is reported under source
0x51 with a quarter of the load as its detail, and traced. -/
def execCoreLoadWindow (k : Fin 16) (load10 load1s : Nat) (svcLoads : List (Nat × Nat)) (s : State) : Host.Outcome State Fault Refusal :=
  let x := s.coreSt k
  let l := min load10 1000
  if x.state ≠ 0 || x.winAt.any (fun t => s.clock < ticksMs 10 + t) then .next s else
  let s := s.setCoreSt k { x with load10 := l, load1s := min load1s 1000, peak := max x.peak l, winAt := some s.clock }
  let s := svcLoads.foldl (fun s n => if (s.svc n.1).core = k.val then s.setO 0x4011 4 n.1 (min n.2 1000) else s) s
  if l ≤ s.o 0x4004 0 then .next s
  else
    let s := if Config.traceLevel 7 > s.o 0x4020 4 then s
      else s.traceIn 0 k s.st32 [Config.traceLevel 7 % 4 * 2 ^ 14 + 7, l]
    .next (s.report { source := 0x51, syndrome := l / 4 * 2 ^ 24 + k })

/-! ### Hinge points (R336–R338, R439, R479, R486) -/

/-- A standby instance adopts the newest record mirrored for its service (R479): the state, and for the log its SEQ; not its read
positions. -/
def State.adopt (s : State) (n : Nat) : State :=
  match tget none s.pair.adopt n with
  | none => s
  | some h =>
    let s := (s.hingeLoad n h.body)
    let s := { s with pair := { s.pair with adopt := tset none s.pair.adopt n none } }
    match h.body with
    | .soe q _ _ =>
      let l := s.station.log
      if q = l.next then s else { s with station := { s.station with log := { l with next := q, cached := 0 } } }
    | _ => s

/-- Instances that a handover has still to move (R439). -/
def State.unmoved (s : State) : List (Nat × Nat) :=
  (s.cores.svcs.filter (fun x => x.2.core ≠ 0xFF && !x.2.moved && x.2.state ≠ 0 && x.2.state ≠ 5)).map (fun x => (x.1, x.2.core))

/-- The occupied core that a handover takes next. -/
def State.moveCore (s : State) : Option Nat := (s.unmoved.map (·.2)).min?

/-- An instance of the core whose turn it is moves to the loaded core (R439 step 4); the core it empties becomes the next target. -/
def State.handoverMove (s : State) (n t : Nat) : State :=
  let s := s.hinge n
  let x := s.svc n
  let seq := match x.tcm with | some h => h.seq | none => 0
  let fmt := match x.tcm with | some h => h.format | none => 0
  let s := s.traceSvc n (Config.traceLevel 8) 8 [seq]
  let s := s.setSvc n { s.svc n with core := t, moved := true, hinges := 0, trapped := false }
  let s := s.traceSvc n (Config.traceLevel 9) 9 [seq, fmt]
  if (s.unmoved.filter (fun y => y.2 = x.core)).isEmpty then
    let rest := (s.svcsOn x.core).filter (fun m => !(s.svc m).moved)
    let s := rest.foldl (fun s m => s.setSvc m { s.svc m with core := t, moved := true }) s
    { s with flash := { s.flash with target := some x.core } }
  else s

/-- The active hub mirrors the newest record of an instance as it is copied to DRAM (R337, R476). -/
def State.hingeOut (s : State) (n : Nat) : State :=
  match (s.svc n).tcm with
  | some h => (s.hingeCopy n).mirror (.hinge n h)
  | none => s

/-- Step 2 of a switchover on the hub that gives up control (R486): the instance quiesces and its final record goes to the standby. After
the last one the release is planned and the claim goes. -/
def State.swapQuiesce (s : State) (n : Nat) (w : Swap) : State :=
  let s := (s.hinge n).hingeOut n
  let s := s.setSvc n { s.svc n with state := 4 }
  if s.cores.svcs.any (fun x => x.2.state = 2 || x.2.state = 3) then s
  else
    let s := { s with pair := { s.pair with planned := true, swap := some { w with released := some s.clock } } }
    s.claimRelease

/-- A hinge point of an instance: while images are changed it moves when its core's turn has come (R439, R441). -/
def State.hingeMove (s : State) (n : Nat) : State :=
  match s.flash.target with
  | some t => if s.moveCore = some (s.svc n).core && !(s.svc n).moved then s.handoverMove n t else s.hinge n
  | none => s.hinge n

/-- An instance reaches a hinge point. -/
def execHingePoint (svc : Fin 1282) (s : State) : Host.Outcome State Fault Refusal :=
  let n : Nat := svc
  if !s.svcUp n then .next s
  else match s.modes.mode with
    | .standby => .next ((s.adopt n).hinge n)
    | .handover =>
      match s.pair.swap with
      | some w =>
        if w.mine && w.released.isNone then .next (s.swapQuiesce n w)
        else if w.mine then .next (s.hinge n) else .next ((s.adopt n).hinge n)
      | none => .next (s.hingeMove n)
    | _ => .next (s.hingeMove n)

/-- The newest record of an instance has been copied to DRAM. -/
def execHingeCopyDone (svc : Fin 1282) (s : State) : Host.Outcome State Fault Refusal := .next (s.hingeOut svc)

/-! ### Traps (R339–R343) -/

/-- The instances that a trap restarts (R339). -/
def State.trapped (s : State) (k cause n : Nat) : List Nat :=
  if cause = 3 || cause = 4 then s.svcsOn k else if (s.svc n).core = k then [n] else []

/-- A lockstep mismatch (R340): counted; the second within an hour retires the core, which the next shutdown tests. -/
def State.lockstep (s : State) (k : Nat) : State × Bool :=
  let x := s.coreSt k
  let again := match x.lastMismatch with | some t => s.clock < ticksMs 3600000 + t | none => false
  (((s.setCoreSt k { x with lastMismatch := some s.clock }).bump 0x4001 8 k), again)

/-- A trap on core `k`: the affected instances restart, and source 0x50 names cause, service, core and program counter. -/
def State.coreTrap (s : State) (k cause n pc : Nat) : State :=
  if cause = 0 || (s.coreSt k).state ≠ 0 then s
  else
    let s := (State.setCoreSt (s.coSquash k) k { (s.coSquash k).coreSt k with cause := cause }).bump 0x4001 7 k
    let (s, retire) := if cause = 3 then s.lockstep k else (s, false)
    let (s, rs) := s.svcRestarts (s.trapped k cause n) cause (cause = 4 || retire)
    let (s, qs) := if retire then (s.candidate { macro_ := 0x500 + k }).coreRetire k 2 else (s, [])
    (s.report { source := 0x50, syndrome := cause * 2 ^ 24 + n, address := k * 2 ^ 32 + pc }).reports (rs ++ qs)

/-- A core traps. -/
def execCoreTrap (k : Fin 16) (cause : Fin 9) (svc : Fin 1282) (pc : W24) (s : State) : Host.Outcome State Fault Refusal :=
  .next (s.coreTrap k cause svc pc.toNat)

/-- An instance has passed no hinge point for 4 × HINGE_MAX: trap 7 (R339). -/
def execHingeOverdue (svc : Fin 1282) (s : State) : Host.Outcome State Fault Refusal :=
  let n : Nat := svc
  let x := s.svc n
  if s.svcUp n && s.clock ≥ ticksUs (4 * hingeMaxOf n) + x.hingeAt then .next (s.coreTrap x.core 7 n (s.freeNat 24)).drew
  else .next s

/-- A restart ends: the instance resumes at its hinge point. -/
def execInstanceRestartDone (svc : Fin 1282) (s : State) : Host.Outcome State Fault Refusal :=
  if (s.svc svc).state = 3 then .next (s.svcResume svc) else .next s

/-- The service a session has selected. -/
def State.svcSel (s : State) (n : Nat) : Nat := tget 0 (s.session n).own (objKey 0x4010 0 0)

/-- SVC_CMD 1 (R343, R350): the selected service restarts, also out of failed. A service that is not placed stays as it is. -/
def State.svcCmdRestart (s : State) (m : Nat) : State :=
  let x := s.svc m
  if x.core = 0xFF || x.state = 0 || x.state = 3 then s else s.svcBegin m 0 false

/-- SVC_CMD 1. -/
def execSvcRestartCmd (n : Fin 32) (s : State) : Host.Outcome State Fault Refusal :=
  .next (s.asWrite n 6 0x4011 9 (fun s => s.act n (.ok (s.svcCmdRestart (s.svcSel n)))))

/-- The counters of a service: RESTARTS (R350). -/
def State.svcClear (s : State) (m : Nat) : State := s.setO 0x4011 7 m 0

/-- SVC_CMD 2. -/
def execSvcClearCounters (n : Fin 32) (s : State) : Host.Outcome State Fault Refusal := .next (s.asWrite n 6 0x4011 9 (fun s => s.act n (.ok (s.svcClear (s.svcSel n)))))

/-! ### Trace (R344–R348, R351) -/

/-- The trace-message types that a core produces: service messages, sleep and wake markers, and the two program-flow types (R344). -/
def coreTrace (typ : Nat) : Bool := typ = 0 || (2 ≤ typ && typ ≤ 5)

/-- A core generates a trace message (R344, R345): a service message above TRACE_LEVEL or of a code that is never emitted is not generated, program
flow only with TRACE_FLOW, and none whose event is more than 1.0 s old. -/
def execTraceMessage (typ k : Fin 16) (stamp : W32) (payload : List W32) (s : State) : Host.Outcome State Fault Refusal :=
  let p := (payload.take 255).map (fun w : W32 => w.toNat)
  let level := match p with | w :: _ => w / 2 ^ 14 % 4 | [] => 0
  let code := match p with | w :: _ => w % 2 ^ 14 | [] => 0
  let old := s.cores.hold.isNone && (2 ^ 32 + s.st32 - stamp.toNat) % 2 ^ 32 > 1000000000
  if !coreTrace typ || (s.coreSt k).state ≠ 0 || old then .next s
  else if typ.val = 0 && (level > s.o 0x4020 4 || code = 0 || (9 < code && code ≤ 0xFF)) then .next s
  else if (typ.val = 4 || typ.val = 5) && s.o 0x4020 2 = 0 then .next s
  else .next (s.traceIn typ k stamp.toNat p)

/-- Write one word at TRACE_HEAD of the trace region (R347): a ring of 32 MiB whose passes are counted. -/
def State.traceWord (s : State) (w : Nat) : State :=
  let size := 2 ^ 25
  let s := s.dramStore (2 ^ 20 * s.o 0x1006 0 - 48 * 2 ^ 20 + s.cores.head) (leBytes 4 w)
  let h := s.cores.head + 4
  if h < size then { s with cores := { s.cores with head := h } }
  else { s with cores := { s.cores with head := 0, lap := (s.cores.lap + 1) % 2 ^ 32 } }

/-- One word leaves by the trace port (R348): behind the alignment pair on enable and after every 4 096 words. -/
def State.portWord (s : State) (w : Nat) : State :=
  let c := s.cores
  let s := if !c.aligned || c.portWords ≥ 4096 then
      { s with cores := { c with aligned := true, portWords := 0 } }.emit (.note 0x4020 [0xFFFFFFFF, 0xAAAA5555])
    else s
  { s with cores := { s.cores with portWords := s.cores.portWords + 1 } }.emit (.note 0x4020 [w])

/-- The oldest message of the trace buffer goes to the destinations that are on (R345, R348). -/
def State.traceDrainOne (s : State) : State :=
  let dest := s.o 0x4020 1
  match s.cores.buf with
  | [] => s
  | m :: l =>
    if dest = 0 then s
    else
      let s := { s with cores := { s.cores with buf := l } }
      let s := if bitOf dest 0 then (traceWords m).foldl State.traceWord s else s
      if bitOf dest 1 then (traceWords m).foldl State.portWord s else s

/-- The trace buffer is drained whole (R77 step 3). -/
def State.traceDrainAll (s : State) : State := s.cores.buf.foldl (fun s _ => s.traceDrainOne) s

/-- The oldest message drains to the enabled destinations (R346–R348). DRAM takes none in DOZE. -/
def execTraceDrain (s : State) : Host.Outcome State Fault Refusal :=
  .next (if s.modes.mode = .doze then s else s.traceDrainOne)

/-- SC_TRACE_DROP is read (R351): both counts since the last read. -/
def State.readTraceDrop (s : State) : State × Nat :=
  ({ s with cores := { s.cores with rcMsg := 0, rcFlow := 0 } }, s.cores.rcMsg * 2 ^ 16 + s.cores.rcFlow)

/-- SC_TRACE_DROP is read by a context. -/
def execScTraceDropRead (c : Ctx) (s : State) : Host.Outcome State Fault Refusal :=
  if !s.reaches c then .next s else
  let (t, v) := s.readTraceDrop
  .next (t.reply c 4 v)

end Sys2Proof.Machine
end

