-- ==== Sys2Proof/Machine/Power.lean ====
section
/-!
DEFINITION. The power unit's commands (R503–R526): the feed selector, field channels, trips, shorted elements, energy and
telemetry, and the supply, temperature and clock monitors.
-/

namespace Sys2Proof.Machine

/-! ### Feeds (R505–R507) -/

/-- Replace feed `f`. -/
def State.setFeed (s : State) (f : Nat) (v : Feed) : State :=
  if f = 0 then { s with power := { s.power with a := v } } else { s with power := { s.power with b := v } }

/-- The feed that FEED_PRIORITY ranks first. -/
def State.feedFirst (s : State) : Nat := if s.o 0xB800 1 = 0 then 0 else 1

/-- Close a feed with no feed in use (R506 rule 1): it ramps. -/
def State.feedClose (s : State) (f : Nat) : State := { s with power := { s.power with inUse := f + 1, ramp := true } }

/-- The old feed begins to turn off for a changeover to feed `f` (R507). -/
def State.feedChange (s : State) (f : Nat) : State :=
  { s with power := { s.power with inUse := 0, ramp := false, change := some (f, s.clock) } }

/-- The selector (R506): rules 1, 2 and 4. `off` says that the feed in use must not stay on. While a feed counts as shorted none is
closed (R507). -/
def State.feedSelect (s : State) (off : Bool) : State :=
  let p := s.power
  if p.change.isSome then s
  else if p.inUse = 0 then
    let a := s.feedFirst
    if p.a.shorted || p.b.shorted then s
    else if s.feedOk a then s.feedClose a else if s.feedOk (1 - a) then s.feedClose (1 - a) else s
  else
    let f := p.inUse - 1
    if s.feedOk f then s
    else if s.feedOk (1 - f) then s.feedChange (1 - f)
    else if off then { s with power := { p with inUse := 0, ramp := false } }
    else s

/-- A feed changes; the edges since when it has been usable or unusable follow it, and the selector acts. -/
def State.feedSet (s : State) (f : Nat) (v : Feed) (off : Bool) : State :=
  let was := s.feedOk f
  let s := s.setFeed f v
  let is := s.feedOk f
  let s := if was = is then s
    else s.setFeed f { v with goodSince := if is then some s.clock else none, badSince := if is then none else some s.clock }
  s.feedSelect off

/-- A new reading of the feeds' inputs: measured, so free. -/
def State.feedMeasure (s : State) : State :=
  { s.drew with power := { s.power with vina := s.freeNat 16, vinb := s.drew.freeNat 16 } }.drew

/-- A fitted feed has stayed in its window for 1 ms. -/
def execFeedUsable (f : Fin 2) (s : State) : Host.Outcome State Fault Refusal :=
  if !s.fitted f then .next s
  else .next ((s.feedMeasure).feedSet f { s.feed f with usable := true } false)

/-- A feed leaves its window, or conducts in reverse: overvoltage and reverse current turn it off and are kept as TRIP_CAUSE. -/
def execFeedUnusable (f : Fin 2) (why : FeedBad) (s : State) : Host.Outcome State Fault Refusal :=
  let s := s.feedMeasure
  let s := match why with
    | .under => s
    | .overcurrent => s.setO (0xB830 + f) 6 0 7
    | .reverse => s.setO (0xB830 + f) 6 0 8
  .next (s.feedSet f { s.feed f with usable := false } (why ≠ .under))

/-- The preferred feed has been usable for FEED_RETURN (R506 rule 3). -/
def execFeedReturnTimer (s : State) : Host.Outcome State Fault Refusal :=
  let a := s.feedFirst
  let long := match (s.feed a).goodSince with | some t => s.clock ≥ ticksMs (s.o 0xB800 4) + t | none => false
  if s.power.inUse = 2 - a && s.power.change.isNone && s.feedOk a && long then .next (s.feedChange a) else .next s

/-- The old element is confirmed off: the new feed's gate is driven, and the changeover is counted. -/
def execFeedOffConfirmed (s : State) : Host.Outcome State Fault Refusal :=
  match s.power.change with
  | none => .next s
  | some (f, _) =>
    let s := { s with power := { s.power with change := none } }
    if s.feedOk f then .next ({ s with power := { s.power with inUse := f + 1, ramp := false } }.bump 0xB802 1)
    else .next (s.feedSelect false)

/-- A channel is judged shorted (R518): code 4, cause 6, and the level condition of source 0xC1. -/
def State.efShort (s : State) (ch : Nat) : State :=
  ((s.setO (0xB830 + ch) 6 0 6).levelSet 0xC1 ch true).report { source := 0xC1, syndrome := 6 * 2 ^ 24 + ch }

/-- The old element is not confirmed off within TOFF_MAX + 5 µs: it counts as shorted and the new feed is not closed. -/
def execFeedOffTimeout (s : State) : Host.Outcome State Fault Refusal :=
  match s.power.change with
  | none => .next s
  | some (f, t) =>
    let old := 1 - f
    if s.clock * 4 < 5000 + (t * 4 + s.o (0xB820 + old) 0x15) then .next s
    else
      let s := { s with power := { s.power with change := none } }
      .next ((s.feedSet old { s.feed old with shorted := true } false).efShort old)

/-- A fitted feed has been unusable for 1 s: loss of a feed (R65, R507). -/
def execFeedLossDegrade (f : Fin 2) (s : State) : Host.Outcome State Fault Refusal :=
  let x := s.feed f
  let long := match x.badSince with | some t => s.clock ≥ ticksMs 1000 + t | none => false
  if s.fitted f && !s.feedOk f && long then .next ((s.setFeed f { x with lost := true }).degrade 2 true) else .next s

/-- A feed that counted as lost has been usable for 1 s. -/
def execFeedLossEnd (f : Fin 2) (s : State) : Host.Outcome State Fault Refusal :=
  let x := s.feed f
  let long := match x.goodSince with | some t => s.clock ≥ ticksMs 1000 + t | none => false
  if x.lost && s.feedOk f && long then .next ((s.setFeed f { x with lost := false }).degrade 2 (s.feed (1 - f)).lost)
  else .next s

/-- A closed feed ends its ramp. -/
def execFeedRampComplete (s : State) : Host.Outcome State Fault Refusal :=
  .next { s with power := { s.power with ramp := false } }

/-! ### Commands (R510) -/

/-- EF_CMD 1: a tripped or shorted channel keeps its latch. -/
def State.efOn (s : State) (ch : Nat) : Act :=
  if ch < 2 then
    let x := s.feed ch
    if x.tripped || x.shorted then .error Abort.busyRetry
    else .ok (s.feedSet ch { x with excluded := false } false)
  else if !s.efMode ch then .error Abort.notInThisMode
  else if (s.field ch).state ≥ 3 then .error Abort.busyRetry
  else .ok (s.fieldOn ch)

/-- EF_CMD 0: a tripped latch is cleared; a feed is excluded unless it is the only usable one. -/
def State.efOff (s : State) (ch : Nat) : Act :=
  if ch < 2 then
    let x := s.feed ch
    if s.feedOk ch && !s.feedOk (1 - ch) then .error Abort.busyRetry
    else .ok (s.feedSet ch { x with excluded := true, tripped := false } true)
  else if !s.efMode ch then .error Abort.notInThisMode
  else
    let x := s.field ch
    if x.state = 3 then .ok (s.setField ch { x with cmd := false, state := 0, startAt := s.clock })
    else .ok (s.fieldOff ch)

/-- A command by a session's write of EF_CMD, which the session's role, path and mode may refuse and which is answered, or by PW_EF_CTRL,
where a refused bit is ignored (R526). -/
def State.efAsk (s : State) (n : Option (Fin 32)) (ch : Nat) (run : State → Act) : State :=
  match n with
  | some k => s.asWrite k 6 0xB840 (ch + 1) (fun s => s.act k (run s))
  | none => s.actQuiet (run s)

/-- EF_CMD 1. -/
def execEfCmdOn (n : Option (Fin 32)) (ch : Fin 8) (s : State) : Host.Outcome State Fault Refusal := .next (s.efAsk n ch (fun s => s.efOn ch))

/-- EF_CMD 0. -/
def execEfCmdOff (n : Option (Fin 32)) (ch : Fin 8) (s : State) : Host.Outcome State Fault Refusal := .next (s.efAsk n ch (fun s => s.efOff ch))

/-! ### Starts, trips and shorted elements (R512–R518) -/

/-- VOUT of a starting channel reaches 95 % of the island bus. -/
def execEfStartComplete (ch : Fin 8) (s : State) : Host.Outcome State Fault Refusal :=
  let x := s.field ch
  if ch.val ≥ 2 && x.state = 1 then .next (s.setField ch { x with state := 2 }) else .next s

/-- The element of channel `ch` conducts (R517). -/
def State.conducts (s : State) (ch : Nat) : Bool :=
  if ch < 2 then s.power.inUse = ch + 1 else (s.field ch).state = 1 || (s.field ch).state = 2

/-- A channel trips with a cause (R517): it latches off, with its let-through; source 0xC0 names channel and cause, and source 0xC2 an
insertion abort. A feed that trips becomes unusable. -/
def State.efTrip (s : State) (ch cause lt : Nat) : State :=
  if !s.conducts ch then s
  else
    let s := ((s.setO (0xB830 + ch) 6 0 cause).setO (0xB830 + ch) 7 0 lt).bump (0xB830 + ch) 8
    let s := if ch < 2 then s.feedSet ch { s.feed ch with tripped := true } true
      else s.setField ch { s.field ch with state := 3 }
    s.report { source := if cause = 4 then 0xC2 else 0xC0, syndrome := cause * 2 ^ 24 + ch }

/-- INSERT_BUDGET is exceeded by a starting field channel. -/
def execEfInsertionAbort (ch : Fin 8) (lt : W32) (s : State) : Host.Outcome State Fault Refusal :=
  if ch.val ≥ 2 && (s.field ch).state = 1 then .next (s.efTrip ch 4 lt.toNat) else .next s

/-- START_MAX passes before a start completes. -/
def execEfStartTimeout (ch : Fin 8) (lt : W32) (s : State) : Host.Outcome State Fault Refusal :=
  let x := s.field ch
  if ch.val ≥ 2 && x.state = 1 && s.clock ≥ ticksMs (s.o (0xB810 + ch) 4) + x.startAt then .next (s.efTrip ch 5 lt.toNat) else .next s

/-- A curve point's timer reaches its time. -/
def execEfCurveTrip (ch : Fin 8) (lt : W32) (s : State) : Host.Outcome State Fault Refusal :=
  if s.o (0xB820 + ch) 1 = 0 then .next s else .next (s.efTrip ch 1 lt.toNat)

/-- The current exceeds ILIM. -/
def execEfComparatorTrip (ch : Fin 8) (lt : W32) (s : State) : Host.Outcome State Fault Refusal := .next (s.efTrip ch 2 lt.toNat)

/-- The let-through accumulator reaches I2T_TRIP. -/
def execEfLetThroughTrip (ch : Fin 8) (lt : W32) (s : State) : Host.Outcome State Fault Refusal := .next (s.efTrip ch 3 lt.toNat)

/-- A channel commanded off still conducts after 1 ms (R518): judged only while the hub is single or has held the claim for that time. A
feed is judged while it is not in use. -/
def execEfShorted (ch : Fin 8) (s : State) : Host.Outcome State Fault Refusal :=
  if ch.val < 2 then
    let x := s.feed ch
    if s.power.inUse = ch.val + 1 || x.shorted then .next s
    else .next ((s.feedSet ch { x with shorted := true } false).efShort ch)
  else
    let x := s.field ch
    let held := !s.pairMember || (s.holds && s.clock ≥ ticksMs 1 + s.pair.since)
    if x.cmd || x.state = 4 || !held || s.clock < ticksMs 1 + x.startAt then .next s
    else .next ((s.setField ch { x with state := 4 }).efShort ch)

/-- A shorted channel's output has stayed low for 1 ms: the condition ends, and the channel is off. -/
def execEfShortEnd (ch : Fin 8) (s : State) : Host.Outcome State Fault Refusal :=
  if ch.val < 2 then
    let x := s.feed ch
    if x.shorted then .next ((s.levelSet 0xC1 ch false).feedSet ch { x with shorted := false } false) else .next s
  else
    let x := s.field ch
    if x.state = 4 then .next ((s.levelSet 0xC1 ch false).setField ch { x with state := 0 }) else .next s

/-! ### Energy and telemetry (R519–R521, R526) -/

/-- The island bus as EF0_VOUT and EF1_VOUT sense it (R503): falling below FEED_UV it raises source 0xA1 (R522). -/
def State.islandSense (s : State) (mv : Nat) : State :=
  let uv := s.o 0xB800 2
  let low := mv < uv && s.island ≥ uv
  let s := s.setO 0xB850 6 0 mv
  if low then s.report { source := 0xA1, syndrome := 5 } else s

/-- Every 100 µs outside RESET (R24, R519): current, voltage and power are reported, and power is accumulated into ENERGY. -/
def execEfEnergyTick (ch : Fin 8) (ma : Int) (mv : W32) (s : State) : Host.Outcome State Fault Refusal :=
  let x := s.field ch
  if s.modes.mode = .reset || s.clock < ticksUs 100 + x.tickAt then .next s else
  let i := 0xB830 + ch.val
  let mj7 := (x.frac : Int) + ma * mv.toNat
  let e := ofSigned 48 ((s.o i 5 : Nat) + mj7 / 10000000)
  let s := ((s.setO i 2 0 (ofSigned 32 ma)).setO i 3 0 mv.toNat).setO i 4 0 (ofSigned 32 (ma * mv.toNat / 1000))
  let s := (s.setO i 5 0 e).setField ch { x with frac := (mj7 % 10000000).toNat, tickAt := s.clock }
  .next (if ch.val < 2 then s.islandSense mv.toNat else s)

/-- ENERGY of every channel goes to the store. -/
def State.energyStore (s : State) : State :=
  (List.range 8).foldl (fun s c =>
    let k := objKey (0xB830 + c) 5 0
    { s with store := tsetF objDefaultKey s.store k (.num (s.o (0xB830 + c) 5)) }) s

/-- ENERGY is written to the store every 10 min (R520). -/
def execEnergyStore (s : State) : Host.Outcome State Fault Refusal :=
  if s.clock < ticksMs 600000 + s.power.storedAt then .next s
  else .next { s.energyStore with power := { s.power with storedAt := s.clock } }

/-- A channel's telemetry packet, every TELEM_PERIOD (R521): telemetry source 0x30 + n. -/
def execEfTelemetry (ch : Fin 8) (ma : Int) (mv : W24) (s : State) : Host.Outcome State Fault Refusal :=
  if s.clock < ticksUs (s.o (0xB810 + ch) 5) + (s.field ch).telAt then .next s else
  let s := s.setField ch { s.field ch with telAt := s.clock }
  match s.telemetryChan (0x30 + ch) with
  | none => .next s
  | some c =>
    let st := s.efState ch + s.o (0xB830 + ch) 6 * 256
    let last : Item := { kind := 3, data := BitVec.ofNat 24 st, eop := true }
    .next (s.telemetryPut c (stampItems s.st32 ++ [dataItem (ofSigned 24 ma), dataItem mv.toNat, last]))

/-- PW_EF_ELO is read (R526): the upper half is kept in the context. -/
def State.readEfElo (s : State) (c : Ctx) (ch : Nat) : State × Nat :=
  let e := s.o (0xB830 + ch) 5
  let x := s.ctx c
  (s.setCtx c { x with efHi := tset 0 x.efHi ch (e / 2 ^ 32) }, e % 2 ^ 32)

/-- PW_EF_ELO is read by a context. -/
def execPwEfEloRead (c : Ctx) (ch : Fin 8) (s : State) : Host.Outcome State Fault Refusal :=
  if !s.reaches c then .next s else
  let (t, v) := s.readEfElo c ch
  .next (t.reply c 4 v)

/-- A measurement reference is compared with the second one (R519). -/
def execMeasReferenceCheck (ch : Fin 8) (off : Bool) (s : State) : Host.Outcome State Fault Refusal :=
  .next (if off then s.report { source := 0xA1, syndrome := 2 ^ 31 + ch } else s)

/-! ### Monitors (R522–R524) -/

/-- The window of a rail outside which source 0xA1 is raised, in mV. -/
def railWindow : Nat → Nat × Nat
  | 0 => (770, 830)
  | 1 => (870, 930)
  | 2 => (1750, 1850)
  | 3 => (1750, 1850)
  | _ => (1160, 1240)

/-- A rail is outside its warning window: source 0xA1 names it, with bit 31 for VDDQ outside 1.14–1.26 V. -/
def execRailMonitorWarning (rail : Fin 5) (mv : Nat) (s : State) : Host.Outcome State Fault Refusal :=
  let s := s.setO 0xB850 (rail + 1) 0 mv
  let s := if rail.val = 0 then s.coreRail (mv < 740 || mv > 860) else s
  let w := railWindow rail
  if w.1 ≤ mv && mv ≤ w.2 then .next s
  else
    let far := rail.val = 4 && (mv < 1140 || mv > 1260)
    .next (s.report { source := 0xA1, syndrome := b2n far * 2 ^ 31 + rail })

/-- Two sensors of a pair disagree by more than `d`. -/
def pairsApart (d : Int) : List Int → Bool
  | a :: b :: l => (a - b).natAbs > d.natAbs || pairsApart d l
  | _ => false

/-- The eight die sensors are read (R523): the highest reading crossing 115 °C raises source 0xA2; one at 125 °C, or a pair 10 °C apart, is the
level condition of source 0xA3. -/
def execTempSample (t : List Int) (s : State) : Host.Outcome State Fault Refusal :=
  if t.length ≠ 8 then .next s
  else
    let top := t.foldl max (-128)
    let before := s.oi 0xB851 9
    let s := (List.range 8).foldl (fun s i => s.setO 0xB851 (i + 1) 0 (ofSigned 8 (t.getD i 0))) s
    let s := s.setO 0xB851 9 0 (ofSigned 8 top)
    let s := if top ≥ 115 && before < 115 then s.report { source := 0xA2, syndrome := ofSigned 8 top * 2 ^ 24 } else s
    let on := s.fc.levels.contains (0xA3, 0)
    if !on && (top ≥ 125 || pairsApart 10 t) then
      .next ((s.levelSet 0xA3 0 true).report { source := 0xA3, syndrome := ofSigned 8 top * 2 ^ 24 })
    else if on && top < 120 && !pairsApart 5 t then .next (s.levelSet 0xA3 0 false)
    else .next s

/-- REFCLK is more than 100 ppm off (R524). -/
def execRefclkWarning (ppm : Int) (s : State) : Host.Outcome State Fault Refusal :=
  .next (if ppm.natAbs > 100 then s.report { source := 0xA1, syndrome := 6 } else s)

end Sys2Proof.Machine
end

