-- ==== Sys2Proof/Machine/Pair.lean ====
section
/-!
DEFINITION. The commands of the pair (R468–R489): the Leash and its claim, the pair link, mirror records sent, the shadow comparison,
barks, and switchover.
-/

namespace Sys2Proof.Machine

/-- The hub is the active member of a pair: it holds the claim in a mode that follows from it. -/
def State.pairActive (s : State) : Bool :=
  s.pairMember && s.holds && (match s.modes.mode with | .active | .degraded | .handover => true | _ => false)

/-- The active counts its partner as lost or not (R484): a cause of DEGRADED, and condition 4 of the guarantee. -/
def State.partnerSet (s : State) (lost : Bool) : State :=
  ({ s with pair := { s.pair with lost := lost } }.degrade 1 lost).sfgUpdate

/-- Quiesced instances run again. -/
def State.svcsResume (s : State) : State :=
  { s with cores := { s.cores with svcs := s.cores.svcs.map (fun x => (x.1, if x.2.state = 4 then { x.2 with state := 2 } else x.2)) } }

/-! ### The claim (R470–R474) -/

/-- LAST_CAUSE of a claim (0xA806). -/
def State.claimCause (s : State) : Nat :=
  match s.pair.swap with
  | some w =>
    if s.modes.mode ≠ .handover then (if s.pair.pPlanned then 2 else 1)
    else if w.mine then 1 else match w.kind with | 2 => 4 | 5 => 5 | _ => 3
  | none => if s.pair.pPlanned then 2 else 1

/-- A switchover is over on this hub: the session that asked, if it did so here, is answered (R486). -/
def State.swapDone (s : State) : State :=
  match s.pair.swap with
  | none => s
  | some w =>
    let s := { s with pair := { s.pair with swap := none, planned := false } }
    match w.session with
    | some n => s.answer n (.ok [])
    | none => s

/-- Tracking of health begins on a hub that a commanded switchover made active on a new image (R443). -/
def State.watchNew (s : State) : State :=
  if !s.flash.fresh then s
  else { s with
    pair := { s.pair with newAt := some s.clock }
    cores := { s.cores with svcs := s.cores.svcs.map (fun x => (x.1, { x.2 with hinges := 0, trapped := false })) } }

/-- The claim is held: the hub takes the mode that follows from it (R65, R485, R486). -/
def State.claimSettle (s : State) : State :=
  let cause := s.claimCause
  let s := s.claimTake cause
  let lost := cause = 1 || !s.pair.link
  let s := { s with pair := { s.pair with barkAt := some s.clock, lost := lost } }
  match s.modes.mode with
  | .standby => (s.degrade 1 lost).goActive.swapDone.sfgUpdate
  | .handover =>
    match s.pair.swap with
    | some w =>
      let s := (s.svcsResume.degrade 1 lost).goActive.swapDone
      (if w.mine then s else s.watchNew).sfgUpdate.shutIfWaiting
    | none => (s.degrade 1 lost).sfgUpdate
  | .join | .failsafe | .maintenance => if s.modes.transit then (s.degrade 1 lost).goActive.sfgUpdate else s.sfgUpdate
  | _ => s

/-- A condition of the Leash line holds (R471, R472): source 0xB3 reports it once, as a level condition (R455). -/
def State.leashFault (s : State) (why : Nat) : State :=
  if s.fc.levels.contains (0xB3, why) then s else (s.levelSet 0xB3 why true).report { source := 0xB3, syndrome := why * 2 ^ 24 }

/-- The hub tries the conditions of R471: it seeks, or, with a partner that claims while its Leash is silent, raises source 0xB3. -/
def State.claimTry (s : State) : State :=
  if !s.pairMember || s.pair.claim ≠ .idle || !s.claimMode || !s.claimClear then s.levelSet 0xB3 0 false
  else if s.claimLink then (s.levelSet 0xB3 0 false).claimSeek
  else s.leashFault 0

/-- LEASH_IN has been silent for 20 µs. -/
def execLeashInSilence (s : State) : Host.Outcome State Fault Refusal :=
  if !s.pairMember || s.leashToggles then .next s
  else
    let was := s.pair.leashIn
    let s := { s with pair := { s.pair with leashIn := false } }.levelSet 0xB3 1 false
    if s.modes.mode = .doze then .next (if was then s.report { source := 0xB1 } else s) else .next s.claimTry

/-- The partner holds the Leash: a hub on its way to service becomes standby; a former active ends its switchover (R65, R486). -/
def State.leashSettle (s : State) : State :=
  if s.pair.claim ≠ .idle then s
  else match s.pair.swap with
    | some w =>
      if w.mine && w.released.isSome then
        ((s.svcsResume.setMode .standby).degrade 1 false).swapDone.shutIfWaiting
      else s
    | none => if s.modes.transit then s.setMode .standby else s

/-- An edge on LEASH_IN: while seeking it decides a tie by PAIR_ID. -/
def execLeashInEdge (s : State) : Host.Outcome State Fault Refusal :=
  if !s.pairMember then .next s
  else
    let run := if s.leashToggles then s.pair.runStart else s.clock
    let s := { s with pair := { s.pair with leashIn := true, lastEdge := s.clock, runStart := run } }
    if s.pair.claim ≠ .seeking then .next s.leashSettle
    else if !s.modes.pairId then .next { s with pair := { s.pair with since := s.clock } }
    else .next ({ s with pair := { s.pair with claim := .backoff, since := s.clock } }.bump 0xA805 2)

/-- 2 µs of silence while seeking: the claim is held. -/
def execClaimSeekExpiry (s : State) : Host.Outcome State Fault Refusal :=
  let p := s.pair
  if p.claim = .seeking && s.clock ≥ ticksUs 2 + p.since && !(p.leashIn && p.lastEdge > p.since) then .next s.claimSettle else .next s

/-- The backoff ends: the hub seeks again, or goes idle. -/
def execClaimBackoffExpiry (s : State) : Host.Outcome State Fault Refusal :=
  if s.pair.claim ≠ .backoff || s.clock < ticksUs 10 + s.pair.since then .next s
  else
    let s := { s with pair := { s.pair with claim := .idle, since := s.clock } }
    if s.claimMode && s.claimClear && s.claimLink then .next s.claimSeek
    else if s.leashToggles then .next s.leashSettle else .next s

/-- Edges on LEASH_IN for 2 µs while the claim is held: source 0xB3; the hub with PAIR_ID high releases. -/
def execDualClaimDetected (s : State) : Host.Outcome State Fault Refusal :=
  if !s.holds || !s.leashToggles || s.clock < ticksUs 2 + s.pair.runStart then .next s
  else .next (if s.modes.pairId then s.claimRelease.report { source := 0xB3, syndrome := 2 ^ 24 } else s.leashFault 1)

/-- The own toggle does not read back at the ball: the claim goes, with source 0xB3. -/
def execLeashOutReadbackFail (s : State) : Host.Outcome State Fault Refusal :=
  if s.pair.claim ≠ .held && s.pair.claim ≠ .seeking then .next s
  else .next ({ s with pair := { s.pair with readback := false } }.claimRelease.report { source := 0xB3, syndrome := 2 * 2 ^ 24 })

/-! ### The pair link (R475) -/

/-- A status block (R475). -/
def State.statusBlock (s : State) (block : Nat) : List Byte :=
  let flags := b2n s.holds + 2 * b2n s.pair.planned + 4 * b2n s.ownFit + 8 * b2n s.inSync
  let b := beBytes 1 0 ++ beBytes 1 block ++ beBytes 1 s.modes.mode.code ++ beBytes 1 flags ++ beBytes 4 s.configHash
    ++ beBytes 4 s.st32 ++ beBytes 4 s.pair.rxSeq ++ List.replicate 12 0
  b ++ beBytes 4 (crc32 b).toNat

/-- A status block is sent. -/
def execPairStatusSend (s : State) : Host.Outcome State Fault Refusal :=
  .next (if s.pairMember && s.modes.mode ≠ .reset then s.linkBlock 0 (fun n => s.statusBlock n) else s)

/-- This status block acknowledges the mirrored commit later than 400 µs after its check (R477). -/
def State.lateAck (s : State) (ack : Nat) : Bool :=
  match s.pair.commit with
  | none => false
  | some (_, ns) => s.holds && decide (ns < 100000 + s.nsCount) &&
      s.pair.out.any (fun m => m.seq = s.pair.commitSeq && !serialAfter 32 m.seq ack)

/-- A good status block: what the partner says of itself, the acknowledgement of mirror records, and the count of good blocks. A commit
acknowledged too late is applied alone, and the pair leaves sync. -/
def State.statusGood (s : State) (b : StatusBlock) : State :=
  let p := s.pair
  let run := min (p.goodRun + 1) 100
  { s with pair := { p with
    mode := b.mode, pClaim := b.claim, pPlanned := b.planned, pFit := b.fit, pSync := b.sync, pHash := b.hash.toNat,
    goodRun := run, lastGood := s.clock, link := p.link || run = 100, whole := p.whole && !s.lateAck b.ack.toNat,
    out := p.out.filter (fun m => serialAfter 32 m.seq b.ack.toNat) } }

/-- A standby follows its active partner into HANDOVER for a switchover (R486). -/
def State.followSwap (s : State) : State :=
  if s.modes.mode = .standby && s.pair.mode = Mode.code .handover && s.pair.pClaim then
    let w : Swap := match s.pair.swap with
      | some w => w
      | none => { kind := 1, session := none, mine := false, back := .standby }
    { s with pair := { s.pair with swap := some w } }.setMode .handover
  else s

/-- A status block arrives: partner state, the count towards link up, and another look at the conditions of R471. -/
def execPairStatusBlock (b : StatusBlock) (crcOk : Bool) (s : State) : Host.Outcome State Fault Refusal :=
  if !s.pairMember then .next s
  else if !crcOk then
    let p := s.pair
    let l := s.clock :: p.crcTimes.filter (fun t => s.clock < ticksMs 1 + t)
    .next { s with pair := { p with crcErr := min (p.crcErr + 1) 0xFFFF, crcTimes := l, goodRun := 0 } }
  else .next ((s.statusGood b).followSwap.claimTry).sfgUpdate

/-- 4 µs without a good status block, or 8 CRC failures within 1 ms: the link is down (R475), and the active has lost its partner
(R484). -/
def execPairLinkDown (s : State) : Host.Outcome State Fault Refusal :=
  let p := s.pair
  let bad := s.clock ≥ ticksUs 4 + p.lastGood || (p.crcTimes.filter (fun t => s.clock < ticksMs 1 + t)).length ≥ 8
  if !p.link || !bad then .next s
  else
    let s := { s with pair := { p with link := false, goodRun := 0 } }.report { source := 0xB2 }
    .next (if s.pairActive then s.partnerSet true else s.claimTry.sfgUpdate)

/-- A mirror record has been unacknowledged for 20 µs: it is sent again, over the ring while the link is down. -/
def execMirrorResend (seq : W32) (s : State) : Host.Outcome State Fault Refusal :=
  match s.pair.out.find? (fun m => m.seq = seq.toNat) with
  | none => .next s
  | some m =>
    if s.clock < ticksUs 20 + m.at_ then .next s
    else
      let rest := s.pair.out.filter (fun x => x.seq ≠ m.seq)
      let again := s.pair.out.map (fun x : Mirror => if x.seq = m.seq then { x with at_ := s.clock } else x)
      let s := { s with pair := { s.pair with out := if s.pair.link then again else rest } }
      .next ((s.bump 0xA805 6).mirrorOut m.seq m.r)

/-! ### Shadow comparison and barks (R482–R484, R489) -/

/-- The standby compares this line with the active's (R482). -/
def State.shadowed (s : State) (ef : Bool) (bank pin : Nat) : Bool :=
  s.modes.mode = .standby && s.inSync &&
    (if ef then s.o 0xA802 2 = 1 && 2 ≤ pin && pin ≤ 7 else bitOf (s.o 0x6803 0) bank && bitOf (s.o 0xA803 (bank + 1)) pin)

/-- A disagreement has lasted beyond SHADOW_WINDOW: source 0xB0 names bank and pin, and the first is latched. The states of the
field channels come from the active's record, which the model does not read: for them the command tells it. -/
def execShadowMismatch (ef : Bool) (bank : Fin 16) (pin : Fin 24) (s : State) : Host.Outcome State Fault Refusal :=
  let lasts := match s.pair.shSince.find? (fun x => x.1 = bank.val * 24 + pin.val) with
    | some (_, t) => s.o 0xA802 1 + 4 * t < 4 * s.clock
    | none => false
  if !s.shadowed ef bank pin || (!ef && !lasts) then .next s
  else
    let s := s.bump 0xA805 3
    let s := if s.pair.shValid then s else { s with pair := { s.pair with
      shValid := true, shEf := ef, shBank := if ef then 0 else bank, shPin := pin, shSt := s.st32 } }.noteSet W1c.shadow
    .next (s.report { source := 0xB0, syndrome := b2n ef * 2 ^ 24 + (if ef then 0 else bank.val) * 2 ^ 8 + pin })

/-- PA_SHADOW.VALID is written 1 (R489): the latched mismatch goes, unless it was latched at this edge (R6). -/
def State.shadowClear (s : State) : State :=
  if s.setNow W1c.shadow then s
  else { s with pair := { s.pair with shValid := false, shEf := false, shBank := 0, shPin := 0, shSt := 0 } }

/-- Writing 1 to PA_SHADOW.VALID. -/
def execPaShadowClear (s : State) : Host.Outcome State Fault Refusal := .next s.shadowClear

/-- PA_LINK is read: CRC failures since the last read, and the records that await acknowledgement. -/
def State.readPaLink (s : State) : State × Nat :=
  ({ s with pair := { s.pair with crcErr := 0 } }, s.pair.crcErr * 2 ^ 16 + min s.pair.out.length 0xFF)

/-- PA_LINK is read by a context. -/
def execPaLinkRead (c : Ctx) (s : State) : Host.Outcome State Fault Refusal :=
  if !s.reaches c then .next s else
  let (t, v) := s.readPaLink
  .next (t.reply c 4 v)

/-- The 16-byte payload of a bark (R483). -/
def State.barkPayload (s : State) : List Byte :=
  beBytes 4 (s.imgSlot s.flash.running).version
    ++ beBytes 1 (match s.fc.state with | .normal => 0 | .faulted => 1 | .held => 2)
    ++ beBytes 1 (match s.time.status with | .free => 0 | .acquiring => 1 | .locked => 2 | .holdover => 3)
    ++ beBytes 1 s.flash.running ++ beBytes 1 (s.o 0xB851 9)
    ++ beBytes 1 (if s.fc.first.valid then s.fc.first.source else 0xFF) ++ [0, 0, 0] ++ beBytes 4 s.pair.rounds

/-- The standby sends its bark to the active's node every 10 ms (R483). A round of the self-test ends with it. -/
def execBarkSend (s : State) : Host.Outcome State Fault Refusal :=
  let standing := s.modes.mode = .standby || (s.modes.mode = .doze && s.modes.dozeFrom = .standby)
  let early := match s.pair.barkSent with | some t => s.clock < ticksMs 10 + t | none => false
  if !s.pairMember || !standing || early then .next s
  else
    let s := { s with pair := { s.pair with rounds := (s.pair.rounds + 1) % 2 ^ 32, barkSent := some s.clock } }
    let flags := b2n s.ownFit + 2 * b2n s.inSync + 4 * b2n s.pair.link + 8 * b2n s.leashToggles + 16 * b2n s.barkTest
    let spec := ((s.modes.mode.code * 256 + flags) * 2 ^ 16 + min (s.o 0xA805 3) 0xFFFF) * 2 ^ 32 + s.configHash
    let o : Orig := {
      hdr := { typ := 9, cls := 4, source := s.node, dest := s.pair.node, length := 16, spec := spec }
      payload := s.barkPayload, src := 6 }
    .next ((s.originate o).bump 0xA805 4)

/-- A delivered bark: the partner's fitness (R484). -/
def execBarkReceived (s : State) : Host.Outcome State Fault Refusal :=
  match s.takeDelivered (fun h => h.typ = 9) with
  | none => .next s
  | some (f, s) =>
    let m := specField f.hdr 20 1
    let fit := bitOf (specField f.hdr 21 1) 0
    let s := { s with pair := { s.pair with
      bark := beBytes 8 f.hdr.spec ++ f.payload, barkAt := some s.clock, mode := m, pFit := fit, node := f.hdr.source } }.bump 0xA805 5
    .next (if s.pairActive then s.partnerSet (!fit || m ≠ Mode.code .standby || !s.pair.link) else s)

/-- No bark for 30 ms on the active: source 0xB1, and the partner is lost. -/
def execBarkTimeout (s : State) : Host.Outcome State Fault Refusal :=
  match s.pair.barkAt with
  | none => .next s
  | some t =>
    if !s.pairActive || s.clock < ticksMs 30 + t then .next s
    else .next (({ s with pair := { s.pair with barkAt := none } }.report { source := 0xB1 }).partnerSet true)

/-! ### Switchover and Heel (R486, R487) -/

/-- Begin a switchover on the active hub (R486): both hubs enter HANDOVER, and the instances quiesce. -/
def State.swapBegin (s : State) (kind : Nat) (session : Option Nat) : State :=
  { s with pair := { s.pair with swap := some { kind := kind, session := session, mine := true, back := s.modes.mode } } }.setMode .handover

/-- SWITCHOVER_CMD 1 and 3 on the active hub: refused unless it is in ACTIVE with a fit partner, and, but for code 3, in sync. The answer waits
for the end (R486). -/
def State.switchover (s : State) (kind : Nat) (n : Nat) : Act :=
  if !s.pairMember || !s.holds || s.modes.mode ≠ .active || !s.pair.pFit || (kind ≠ 3 && !s.inSync) then .error Abort.notInThisMode
  else .ok (s.swapBegin kind (some n))

/-- This hub is the home hub (R487). -/
def State.isHome (s : State) : Bool := s.modes.pairId = (s.o 0xA801 0 = 1)

/-- SWITCHOVER_CMD 2: the home hub becomes active. `none` answers at once that it is already. -/
def State.heelAct (s : State) (n : Nat) : Option Act :=
  if !s.pairMember then some (.error Abort.notInThisMode)
  else if s.holds then
    if s.isHome then none else some (s.switchover 2 n)
  else if !s.isHome && s.partnerHolds then none
  else if s.modes.mode ≠ .standby || !s.ownFit || !s.inSync then some (.error Abort.notInThisMode)
  else some (.ok { s with pair := { s.pair with swap := some { kind := 2, session := some n, mine := false, back := .standby } } })

/-- Carry out a switchover command whose answer, if it is accepted, comes at its end. -/
def State.actLater (s : State) (n : Nat) (r : Act) : State :=
  if !(s.session n).isOpen then s else match r with
    | .ok t => t
    | .error c => s.answer n (.abort c)

/-- SWITCHOVER_CMD 1. -/
def execSwitchover (n : Fin 32) (s : State) : Host.Outcome State Fault Refusal := .next (s.asWrite n 6 0xA804 0 (fun s => s.actLater n (s.switchover 1 n)))

/-- SWITCHOVER_CMD 2. -/
def execHeel (n : Fin 32) (s : State) : Host.Outcome State Fault Refusal :=
  .next (s.asWrite n 6 0xA804 0 (fun s =>
    match s.heelAct n with
    | none => s.act n (.ok s)
    | some r => s.actLater n r))

/-- SWITCHOVER_CMD 3. -/
def execSwitchoverNoSync (n : Fin 32) (s : State) : Host.Outcome State Fault Refusal := .next (s.asWrite n 6 0xA804 0 (fun s => s.actLater n (s.switchover 3 n)))

/-- The standby holds no claim 50 µs after the release (R486): the former active claims again, and the command fails; a standby that did not
claim returns to its mode. -/
def execSwitchoverFallback (s : State) : Host.Outcome State Fault Refusal :=
  match s.pair.swap with
  | none => .next s
  | some w =>
    if w.mine then
      match w.released with
      | none => .next s
      | some t =>
        if s.clock < ticksUs 50 + t || s.partnerHolds then .next s
        else
          let s := { s with pair := { s.pair with swap := some { w with session := none }, planned := false } }
          let s := match w.session with | some n => s.answer n (.abort Abort.busyRetry) | none => s
          .next s.claimTry
    else if s.modes.mode = .handover && s.pair.claim ≠ .held && s.partnerHolds then
      let s := { s with pair := { s.pair with swap := none } }
      let s := match w.session with | some n => s.answer n (.abort Abort.busyRetry) | none => s
      .next (s.setMode w.back).shutIfWaiting
    else .next s

end Sys2Proof.Machine
end

