-- ==== Sys2Proof/Machine/Security.lean ====
section
/-!
DEFINITION. The security unit's commands (R404–R421, R437): loading, deriving and destroying keys, the fuses, life-cycle transitions and
the random source.
-/

namespace Sys2Proof.Machine

/-- The attribute word is a legal combination (R406). -/
def attrOk (a : Nat) : Bool :=
  let p := a % 256
  let alone := p = 32 || p = 64
  let high := p / 4 % 32 ≠ 0
  !bitOf a 7 && a / 2 ^ 14 % 4 = 0 && a / 2 ^ 18 = 0 && (alone || p / 32 = 0) && (p % 4 = 0 || !bitOf a 17)
    && (!high || bitOf a 17) && (a / 256 % 64 = 0 || p = 32)

/-- Bytes of a key by LEN (R406). -/
def attrLen (a : Nat) : Nat := if bitOf a 17 then 32 else 16

/-- Load a key into a slot (R409): its count is stored, and falls ahead in blocks of 2^20 from the first use (R408); a volatile key has none (R407). The slot's nanosecond
count goes on (R413). -/
def State.keyPut (s : State) (n attr uses : Nat) (key : List Byte) : State :=
  let u := if bitOf attr 16 then 0 else uses
  s.setSlot n { state := 1, key := key, attr := attr, uses := u, ahead := u, lastCount := (s.slot n).lastCount }

/-- The slot that session `n` has selected. -/
def State.keySel (s : State) (n : Nat) : Nat := s.ownGet n 0x8000 0

/-- KEY_PLAIN (R409): on the mailbox and the UART alone. -/
def State.keyPlain (s : State) (n : Nat) (key : List Byte) : Act :=
  let p := (s.session n).path
  let attr := s.ownGet n 0x8002 1
  if p ≠ .mailbox && p ≠ .uart then .error Abort.roleNotPermitted
  else if s.keyBarred then .error Abort.notInThisLifeCycleState
  else if key.length ≠ attrLen attr then .error Abort.lengthMismatch
  else if !attrOk attr then .error Abort.valueOutOfRange
  else .ok (s.keyPut (s.keySel n) attr (s.ownGet n 0x8002 2) key)

/-- A KEY_PLAIN write. -/
def execKeyLoadPlain (n : Fin 32) (key : List Byte) (s : State) : Host.Outcome State Fault Refusal := 
  .next (s.asWrite n 8 0x8003 1 (fun s => s.act n (s.keyPlain n key)))

/-- Why slot `k` cannot serve purpose bit `i` (R406, R407). -/
def State.keyRefused (s : State) (k i : Nat) : Option Nat :=
  let x := s.slot k
  if x.state = 0 then some Abort.keySlotEmpty
  else if x.state = 2 then some Abort.useCountExhausted
  else if !bitOf x.attr i then some Abort.keyPurposeRefused
  else none

/-- KEY_WRAPPED (R409): the unwrapped key brings its own attributes and count. An import that unwraps is one use of the WRAP key. -/
def State.keyWrapped (s : State) (n : Nat) (w : List Byte) : Act :=
  let k := s.ownGet n 0x8002 3
  if s.keyBarred then .error Abort.notInThisLifeCycleState
  else if w.length ≠ 40 && w.length ≠ 56 then .error Abort.lengthMismatch
  else match s.keyRefused k 6 with
    | some e => .error e
    | none =>
      match Config.keyUnwrap (s.slot k).key w with
      | none => .error Abort.valueOutOfRange
      | some d =>
        let len := w.length - 24
        let attr := ofBe ((d.drop len).take 4)
        let uses := ofBe ((d.drop (len + 4)).take 6)
        if len ≠ attrLen attr then .error Abort.lengthMismatch
        else if !attrOk attr || (uses = 0 && !bitOf attr 16) then .error Abort.valueOutOfRange
        else .ok ((s.useKey k).keyPut (s.keySel n) attr uses (d.take len))

/-- A KEY_WRAPPED write. -/
def execKeyLoadWrapped (n : Fin 32) (wrapped : List Byte) (s : State) : Host.Outcome State Fault Refusal :=
  .next (s.asWrite n 8 0x8003 2 (fun s => s.act n (s.keyWrapped n wrapped)))

/-- KEY_CMD 1 (R410): the slot is zeroed and its record erased. -/
def State.keyDestroyAt (s : State) (k : Nat) : State := s.setSlot k { lastCount := (s.slot k).lastCount }

/-- KEY_CMD 1. -/
def execKeyDestroy (n : Fin 32) (s : State) : Host.Outcome State Fault Refusal := 
  .next (s.asWrite n 8 0x8003 3 (fun s => s.act n (.ok (s.keyDestroyAt (s.keySel n)))))

/-- NIST SP 800-108 in counter mode with HMAC-SHA-256 for one block (R410). -/
def deriveKey (kdk label context : List Byte) (bytes : Nat) : List Byte :=
  (Config.hmacSha256 kdk (beBytes 4 1 ++ label ++ [0] ++ context ++ beBytes 4 (8 * bytes))).take bytes

/-- KEY_CMD 2 (R410): the new key's purposes lie within the parent's CHILD mask. -/
def State.keyDerived (s : State) (n : Nat) : Act :=
  let k := s.ownGet n 0x8002 4
  let attr := s.ownGet n 0x8002 1
  if s.keyBarred then .error Abort.notInThisLifeCycleState
  else if !s.sec.rngOk then .error Abort.busyRetry
  else match s.keyRefused k 5 with
    | some e => .error e
    | none =>
      let child := (s.slot k).attr / 256 % 64
      if !attrOk attr then .error Abort.valueOutOfRange
      else if (List.range 8).any (fun i => bitOf attr i && !bitOf child i) then .error Abort.keyPurposeRefused
      else
        let x := s.session n
        let key := deriveKey (s.slot k).key x.label x.context (attrLen attr)
        .ok ((s.useKey k).keyPut (s.keySel n) attr (s.ownGet n 0x8002 2) key)

/-- KEY_CMD 2. -/
def execKeyDerive (n : Fin 32) (s : State) : Host.Outcome State Fault Refusal := .next (s.asWrite n 8 0x8003 3 (fun s => s.act n (s.keyDerived n)))

/-- A write of REVOKE_KEY0 (R416, R421): the fuse blows once; not while the active image was verified only under key 0. -/
def State.revoke (s : State) (v : Nat) : Act :=
  let blown := s.o 0x8030 1 = 1
  if v = 0 then (if blown then .error Abort.valueOutOfRange else .ok s)
  else if blown then .ok s
  else if (s.imgSlot s.flash.running).key0 then .error Abort.busyRetry
  else .ok (s.setO 0x8030 1 0 1)

/-- Writing 1 to REVOKE_KEY0. -/
def execRevokeKey0 (n : Fin 32) (s : State) : Host.Outcome State Fault Refusal := .next (s.asWrite n 8 0x8030 1 (fun s => s.act n (s.revoke 1)))

/-- RAISE_FLOOR (R437): to the lower ROLLBACK of the valid or committed images; never down. -/
def State.floorRaise (s : State) : Act :=
  if s.flash.trial.isSome then .error Abort.updateInProgress
  else
    let l := ([0, 1].map s.imgSlot).filter (fun x : Slot => x.state = 1 || x.state = 3)
    match (l.map (fun x : Slot => x.rollback)).min? with
    | none => .ok s
    | some r => .ok (if r > s.o 0x8030 2 then s.setO 0x8030 2 0 r else s)

/-- RAISE_FLOOR is written. -/
def execRaiseFloor (n : Fin 32) (s : State) : Host.Outcome State Fault Refusal := .next (s.asWrite n 8 0x9020 0 (fun s => s.act n s.floorRaise))

/-- The life-cycle transitions of R418. -/
def lcAllowed (was new left : Nat) : Bool :=
  match was, new with
  | 0, 1 => true
  | 1, 2 => left > 0
  | 2, 1 => left > 0
  | 1, 3 => true
  | 2, 3 => true
  | f, 4 => f ≠ 4
  | _, _ => false

/-- Every slot is empty (R419). -/
def State.keysGone (s : State) : State := { s with sec := { s.sec with slots := [] } }

/-- Steps 2 to 4 of a transition (R419): slots and records are zeroed and read back; then the target's fuses are blown. A failed verification
leaves the intent, with source 0x70. The answer tells whether the transition is complete. -/
def State.lcRun (s : State) (target : Nat) (verified : Bool) : State × Bool :=
  let s := s.keysGone
  if !verified then (s.report { source := 0x70, syndrome := 64 }, false)
  else
    let pair := (s.sec.lc = 1 && target = 2) || (s.sec.lc = 2 && target = 1)
    let s := if pair then s.setO 0x8041 0 0 (s.o 0x8041 0 - 1) else s
    let x := s.sec
    ({ s with sec := { x with
      lc := target, intent := none, rootKey := if target = 4 then List.replicate 32 0xFF else x.rootKey } }, true)

/-- LC_REQ (R418, R419): the request is answered, and a complete transition ends in a warm reset. -/
def State.lcRequest (s : State) (v : Nat) : Act :=
  let t := v % 256
  if v / 2 ^ 16 ≠ 0xC0DE || v / 256 % 256 ≠ 0 || t > 4 then .error Abort.valueOutOfRange
  else if s.sec.intent.isSome || !lcAllowed s.sec.lc t (s.o 0x8041 0) then .error Abort.notInThisLifeCycleState
  else .ok { s with sec := { s.sec with intent := some t } }

/-- LC_REQ is written. -/
def execLcReq (n : Fin 32) (v : W32) (verified : Bool) (s : State) : Host.Outcome State Fault Refusal :=
  .next (s.asWrite n 8 0x8040 0 (fun s =>
    match s.lcRequest v.toNat with
    | .error c => s.answer n (.abort c)
    | .ok t =>
      let (t, done) := (t.answer n (.ok [])).lcRun (v.toNat % 256) verified
      if done then t.beginReset 4 else t))

/-- A health test of the random source fails (R417). -/
def execRngHealthFail (s : State) : Host.Outcome State Fault Refusal :=
  .next ({ s with sec := { s.sec with rngOk := false } }.report { source := 0x71 })

/-- The random source passes its tests again. -/
def execRngHealthRestored (s : State) : Host.Outcome State Fault Refusal := .next { s with sec := { s.sec with rngOk := true } }

end Sys2Proof.Machine
end

