-- ==== Sys2Proof/Machine/Bist.lean ====
section
/-!
DEFINITION. Shutdown self-test and repair (R490–R501): the order of slices, results and repairs, and what a start does with the repair
map and with retired resources.
-/

namespace Sys2Proof.Machine

/-! ### Slices (R490–R494) -/

/-- Budget of a slice in ms (R490). -/
def sliceBudget (k : Nat) : Nat :=
  if k < 8 then 40 else if k < 12 then 30 else if k < 14 then 20 else if k < 30 then 50 else if k = 30 then 20
  else if k < 36 then 30 else if k = 36 then 40 else if k = 37 then 50 else 30

/-- The lowest macro identifier of a slice (R490). -/
def sliceMacro (k : Nat) : Nat :=
  if k < 8 then 4 * k else if k < 12 then 0x100 + 4 * (k - 8) else if k < 14 then 0x200 + 8 * (k - 12)
  else if k < 30 then 0x300 + (k - 14) else if k = 30 then 0x600 else if k < 35 then 0x700 + 4 * (k - 31)
  else (k - 27) * 256

/-- Logical core `k` is retired by repair (R497). -/
def State.coreRepaired (s : State) (k : Nat) : Bool := s.bist.retired.any (fun m => m % 256 = k && 3 ≤ m / 256 && m / 256 ≤ 5)

/-- Cluster `c` is retired (R497). -/
def State.clusterRetired (s : State) (c : Nat) : Bool := s.bist.retired.any (fun m => m % 256 = c && (m / 256 = 2 || m / 256 = 7))

/-- The slice is skipped: its core, or every cluster it tests, is retired by repair (R490). -/
def State.sliceSkipped (s : State) (k : Nat) : Bool :=
  if 12 ≤ k && k < 14 then (List.range 8).all (fun i => s.clusterRetired (8 * (k - 12) + i))
  else if 14 ≤ k && k < 30 then s.coreRepaired (k - 14)
  else if 31 ≤ k && k < 35 then (List.range 4).all (fun i => s.clusterRetired (4 * (k - 31) + i))
  else false

/-- Slices that hold a candidate and have not run in this shutdown. -/
def State.candSlices (s : State) : List Nat :=
  (List.range 39).filter (fun k => s.bist.candidates.any (fun f => sliceOf f.macro_ = k) && !s.bist.early.contains k && !s.sliceSkipped k)

/-- The pointer moves past slices already run or skipped (R493); after slice 38 it returns to 0 and ROUNDS advances. -/
def State.sliceAdvance (s : State) : State :=
  let b := s.bist
  let wrap := b.pointer ≥ 38
  { s with bist := { b with
    pointer := if wrap then 0 else b.pointer + 1, rounds := if wrap then (b.rounds + 1) % 2 ^ 32 else b.rounds, ran := b.ran + 1 } }

/-- Pass over slices that need no run. -/
def State.slicePass : Nat → State → State
  | 0, s => s
  | n + 1, s => if s.bist.early.contains s.bist.pointer || s.sliceSkipped s.bist.pointer then slicePass n s.sliceAdvance else s

/-- Slice `k` may start (R493): within BIST_ALLOWANCE from the start of step 6, or in the full set. -/
def State.sliceFits (s : State) (k : Nat) : Bool :=
  match s.o 0x1140 1 with
  | 1 => ticksMs (sliceBudget k) + s.clock ≤ ticksMs (s.o 0x1140 2) + s.bist.startAt
  | 2 => true
  | _ => false

/-- The next slice starts, if one may (R493): candidates first, then from the pointer. -/
def State.sliceNext (s : State) : State :=
  match s.candSlices with
  | k :: _ => { s with bist := { s.bist with running := if s.sliceFits k then some k else none, sliceAt := s.clock } }
  | [] =>
    let s := State.slicePass 39 s
    let k := s.bist.pointer
    let more := s.o 0x1140 1 ≠ 2 || s.bist.ran < 39
    { s with bist := { s.bist with running := if more && s.sliceFits k then some k else none, sliceAt := s.clock } }

/-- Step 6 of SHUTDOWN begins (R80, R493). -/
def State.bistStart (s : State) : State :=
  { s with bist := { s.bist with startAt := s.clock, early := [], ran := 0, running := none } }.sliceNext

/-! ### Repairs and results (R495–R497, R501) -/

/-- The macro is an on-chip memory with spares. -/
def isMemory (m : Nat) : Bool := m / 256 ≤ 4 || m / 256 = 6

/-- A failure that finds no spare retires its block (R497); of the others nothing is retired. -/
def retires (m : Nat) : Bool := m / 256 ≤ 5 || m / 256 = 7

/-- Spares of a kind used in a macro. -/
def State.sparesUsed (s : State) (m kind : Nat) : Nat := (s.bist.map.filter (fun r => r.macro_ = m && r.kind = kind)).length

/-- Spares of a kind left: 4 rows, 2 columns (R495). -/
def State.sparesLeft (s : State) (m kind : Nat) : Nat := (if kind = 0 then 4 else 2) - s.sparesUsed m kind

/-- A spare is assigned. -/
def State.spare (s : State) (m kind loc : Nat) : State :=
  let r : Repair := { macro_ := m, kind := kind, spare := s.sparesUsed m kind, loc := loc }
  { s with bist := { s.bist with map := s.bist.map ++ [r] } }

/-- A 16-byte result record (R501), newest first, of which 256 are kept. -/
def State.bistRecord (s : State) (k outcome : Nat) (f : Finding) : State :=
  let left := if isMemory f.macro_ then s.sparesLeft f.macro_ 0 * 16 + s.sparesLeft f.macro_ 1 else 0
  let r := leBytes 1 k ++ leBytes 1 outcome ++ leBytes 2 f.macro_ ++ leBytes 4 f.row ++ leBytes 2 f.col ++ leBytes 1 f.bit
    ++ leBytes 1 left ++ leBytes 4 s.st32
  { s with bist := { s.bist with results := (r :: s.bist.results).take 256, outcome := outcome } }

/-- A finding without a spare, or in logic (R497). -/
def State.bistRetire (s : State) (k : Nat) (f : Finding) : State :=
  if retires f.macro_ then
    let l := s.bist.toRetire
    { s with bist := { s.bist with toRetire := if l.contains f.macro_ then l else l ++ [f.macro_] } }.bistRecord k 2 f
  else { s with bist := { s.bist with unrepairable := true } }.bistRecord k 3 f

/-- Repair one failing bit (R495): `since` counts the map entries made before this test; a row or column replaced in it takes nothing more.
Three failing bits of one column take a spare column while there is one. -/
def State.repairBit (s : State) (k since : Nat) (all : List Finding) (f : Finding) : State :=
  let new := s.bist.map.drop since
  let m := f.macro_
  if !isMemory m then s.bistRetire k f
  else if new.any (fun r => r.macro_ = m && ((r.kind = 0 && r.loc = f.row) || (r.kind = 1 && r.loc = f.col))) then s.bistRecord k 1 f
  else
    let inCol := (all.filter (fun g => g.macro_ = m && g.col = f.col)).eraseDups.length
    if inCol ≥ 3 && s.sparesLeft m 1 > 0 then (s.spare m 1 f.col).bistRecord k 1 f
    else if s.sparesLeft m 0 > 0 then (s.spare m 0 f.row).bistRecord k 1 f
    else if s.sparesLeft m 1 > 0 then (s.spare m 1 f.col).bistRecord k 1 f
    else s.bistRetire k f

/-- A candidate of the slice whose bit passed (R496): a spare row if one is left, else it is dropped. -/
def State.candPass (s : State) (k : Nat) (f : Finding) : State :=
  if isMemory f.macro_ && s.sparesLeft f.macro_ 0 > 0 then (s.spare f.macro_ 0 f.row).bistRecord k 1 f
  else s.bistRecord k 5 f

/-- The slice has run: the pointer moves, unless it ran for its candidates (R493), and the next slice starts. -/
def State.sliceEnd (s : State) (k : Nat) (early : Bool) : State :=
  let s := { s with bist := { s.bist with running := none, last := k } }
  if early then { s with bist := { s.bist with early := k :: s.bist.early } }.sliceNext else s.sliceAdvance.sliceNext

/-- The running slice has reached its budget (R492). -/
def State.sliceOver (s : State) (k : Nat) : Bool := s.clock ≥ ticksMs (sliceBudget k) + s.bist.sliceAt

/-- A slice is stopped at its budget (R492): outcome incomplete; it assigns no spare and retires nothing, and the pointer advances past it. -/
def State.sliceStop (s : State) (k : Nat) : State :=
  let early := s.bist.candidates.any (fun f => sliceOf f.macro_ = k)
  (s.bistRecord k 4 { macro_ := sliceMacro k }).sliceEnd k early

/-- A slice ends with its findings within its budget: repairs, records and the pointer go to the anchor. -/
def execBistSliceDone (found : List Finding) (s : State) : Host.Outcome State Fault Refusal :=
  match s.bist.running with
  | none => .next s
  | some k =>
    if s.clock > ticksMs (sliceBudget k) + s.bist.sliceAt then .next (s.sliceStop k).anchorUpdate else
    let own := (found.filter (fun f => sliceOf f.macro_ = k)).eraseDups
    let cands := s.bist.candidates.filter (fun f => sliceOf f.macro_ = k)
    let early := !cands.isEmpty
    let since := s.bist.map.length
    let cols := own.filter (fun f => (own.filter (fun g => g.macro_ = f.macro_ && g.col = f.col)).length ≥ 3)
    let rest := own.filter (fun f => !cols.contains f)
    let s := (cols ++ rest).foldl (fun s f => s.repairBit k since own f) s
    let s := (cands.filter (fun f => !own.contains f)).foldl (fun s f => s.candPass k f) s
    let s := { s with bist := { s.bist with candidates := s.bist.candidates.filter (fun f => sliceOf f.macro_ ≠ k) } }
    let s := if own.isEmpty && cands.isEmpty then s.bistRecord k 0 { macro_ := sliceMacro k } else s
    .next (s.sliceEnd k early).anchorUpdate

/-- A slice reaches its budget (R492). -/
def execBistSliceBudgetExpiry (s : State) : Host.Outcome State Fault Refusal :=
  match s.bist.running with
  | none => .next s
  | some k => .next (if s.sliceOver k then (s.sliceStop k).anchorUpdate else s)

/-- A write of 0 to REPAIR_CLEAR (R500): only in BLANK. -/
def State.repairClearAct (s : State) : Act :=
  if s.sec.lc ≠ 0 then .error Abort.notInThisLifeCycleState else .ok { s with bist := { s.bist with clear := true } }

/-- REPAIR_CLEAR is written. -/
def execRepairClear (n : Fin 32) (s : State) : Host.Outcome State Fault Refusal := .next (s.asWrite n 16 0xB005 0 (fun s => s.act n s.repairClearAct))

/-! ### At the next start (R497–R500) -/

/-- The repair map is cleared where REPAIR_CLEAR asked for it. -/
def State.repairReset (s : State) : State :=
  if !s.bist.clear then s
  else { s with bist := { s.bist with
    clear := false, map := [], candidates := [], toRetire := [], retired := [], unrepairable := false, applied := 0 } }

/-- The state of what is retired, as every start sets it (R497): cores, clusters and their engines. -/
def State.retireState (s : State) : State :=
  let s := (List.range 16).foldl (fun s k => if s.coreRepaired k then s.setCoreSt k { s.coreSt k with state := 3 } else s) s
  let s := (List.range 16).foldl (fun s c =>
    if !s.clusterRetired c then s.setO 0x6111 (c + 1) 0 0
    else
      (List.range 16).foldl (fun s i => s.setEng (16 * c + i) { s.eng (16 * c + i) with st := .retired }) (s.setO 0x6111 (c + 1) 0 1)) s
  s.degrade 3 (!s.bist.retired.isEmpty || s.bist.unrepairable)

/-- The repair map is applied (R495, R497): each new repair raises source 0xD0, and what the last self-test named is retired, with source 0xD1
each. -/
def State.repairApply (s : State) : State :=
  let s := s.repairReset
  let new := s.bist.map.drop s.bist.applied
  let gone := s.bist.toRetire.filter (fun m => !s.bist.retired.contains m)
  let s := { s with bist := { s.bist with
    applied := s.bist.map.length, retired := s.bist.retired ++ gone, toRetire := [], newly := gone } }.retireState
  let s := new.foldl (fun s r => s.report { source := 0xD0, syndrome := r.macro_ }) s
  gone.foldl (fun s m => s.report { source := 0xD1, syndrome := m }) s

/-! ### The configuration without what is retired (R497–R500) -/

/-- Bytes of a record: index, subindex, group, format version, value and CRC-32. -/
def cfgBytes (k : Nat) (v : Val) : Nat :=
  10 + match v with
    | .bytes b => b.length
    | .num _ => match Desc.find (k / 65536 / 256) (k / 65536 % 256) with
      | some d => d.ty.bytes
      | none => 4

/-- Add a record behind the newest of the store: a full sector is followed by the next of the ring. -/
def cfgAdd (c : List (Nat × List (Nat × Nat))) (r : Nat × Nat) : List (Nat × List (Nat × Nat)) :=
  match c.getLast? with
  | none => [(0, [r])]
  | some (i, l) =>
    if (l.map (·.2)).sum + r.2 ≤ 65536 then c.dropLast ++ [(i, l ++ [r])] else c ++ [((i + 1) % 128, [r])]

/-- The commit marker's own record: no entry has key 0. -/
def cfgMarker : Nat × Nat := (0, 12)

/-- The records of a migrated configuration: one for each C-class entry that differs from its default (R431, R444). -/
def State.cfgAll (s : State) : List (Nat × Nat) := s.cVals.map (fun e => (e.1, cfgBytes e.1 e.2))

/-- The applied C-class values become the stored configuration (R431); what else the store keeps stays. -/
def State.storeConfig (s : State) : State :=
  { s with store := (s.store.filter (fun e => keyPers e.1 ≠ .c)).foldl (fun t e => tput e.1 e.2 t) s.cVals }

/-- What the hub itself changed in the configuration is written as a commit of its own, which advances the epoch (R431, R444, R500): past one
that was reserved and never committed. -/
def State.ownCommit (s : State) : State :=
  let e := (max (s.o 0x1221 0) s.flash.reserved + 1) % 2 ^ 32
  let s := (s.journalWrite [{ typ := 4, val := e }]).setO 0x1221 0 0 e
  { s with flash := { s.flash with reserved := e, cfg := (s.cfgAll ++ [cfgMarker]).foldl cfgAdd s.flash.cfg } }.storeConfig

/-- An entry of REMAP_REPORT (R445, R500): versions are 0. -/
def remapEntry (index sub group : Nat) : List Byte := beBytes 2 index ++ beBytes 1 sub ++ beBytes 1 group ++ [0, 0, 0, 0]

/-- Note an object changed. -/
def State.remapNote (s : State) (index sub group : Nat) : State :=
  { s with bist := { s.bist with remap := s.bist.remap ++ remapEntry index sub group } }

/-- Reserves that break the bound of R131 with the cells in service are reduced in proportion (R497). -/
def State.fitReserves (s : State) : State :=
  let bound := (32768 - 1024 * (s.bist.retired.filter (· < 32)).length) / 2
  let sum := ((List.range 8).map (fun c => s.o 0x2101 (c + 1))).sum
  if 512 + 7 * sum ≤ bound then s
  else (List.range 8).foldl (fun t c => (t.setO 0x2101 (c + 1) 0 (s.o 0x2101 (c + 1) * (bound - 512) / (7 * sum))).remapNote 0x2101 (c + 1) 5) s

/-- Units of channel RAM in service (R185, R497). -/
def State.unitsUp (s : State) : Nat := 8192 - 512 * (s.bist.retired.filter (fun m => m / 256 = 1)).length

/-- Σ SIZE. -/
def State.sizeSum (s : State) : Nat := ((List.range 512).map (fun c => s.o 0x5005 0 c)).sum

/-- A channel loses its region (R498): it is retired, without size or bindings. -/
def State.chanLose (s : State) (c : Nat) : State :=
  let bound := [0x5001, 0x5002].filter (fun i => s.o i 0 c ≠ 0)
  let s := ((s.setO 0x5005 0 c 0).setO 0x5001 0 c 0).setO 0x5002 0 c 0
  bound.foldl (fun s i => s.remapNote i 0 11) ((s.setChan c { retired := true }).remapNote 0x5005 0 11)

/-- Channels give up their regions until Σ SIZE fits (R498): unused ones first, then bound ones, from the highest number down. -/
def State.fitChannels (s : State) : State :=
  let down := (List.range 512).reverse
  let unused := down.filter (fun c => s.o 0x5001 0 c = 0 && s.o 0x5002 0 c = 0 && s.o 0x5005 0 c ≠ 0)
  let bound := down.filter (fun c => s.o 0x5001 0 c ≠ 0 || s.o 0x5002 0 c ≠ 0)
  (unused ++ bound).foldl (fun s c => if s.sizeSum ≤ s.unitsUp then s else s.chanLose c) s

/-- Channels that lost their region at an earlier start stay retired. -/
def State.chansRetired (s : State) : State :=
  (s.od.filter (fun e => e.1 / 65536 = 0x5005 * 256 && e.2 = .num 0)).foldl (fun s e => s.setChan (e.1 % 65536) { retired := true }) s

/-- The enabled engines of a cluster. -/
def State.clusterEnabled (s : State) (c : Nat) : List Nat :=
  ((List.range 16).map (fun i => 16 * c + i)).filter (fun e => s.o 0x6001 0 e = 1)

/-- Engines of a cluster with ENABLE 0 that no channel names (R499). -/
def State.clusterFree (s : State) (c : Nat) : List Nat :=
  ((List.range 16).map (fun i => 16 * c + i)).filter (fun e => s.o 0x6001 0 e = 0 && (s.consChan e).isNone && (s.prodChan e).isNone)

/-- The span of program words that the enabled engines of a cluster use (R499). -/
def State.clusterSpan (s : State) (es : List Nat) : Nat × Nat :=
  let lows := es.flatMap (fun e => [s.o 0x6002 0 e, s.o 0x6004 1 e])
  (lows.min?.getD 0, ((es.map (fun e => s.o 0x6004 2 e)).max?).getD 0)

/-- Copy program words of a span to another cluster, which extends with zeros (R499). -/
def State.copySpan (s : State) (c d lo hi : Nat) : State :=
  let old := s.ob (0x6100 + d) 0
  let n := max (old.length / 3) (hi + 1)
  let word : Nat → List Byte := fun a => beBytes 3 (if lo ≤ a && a ≤ hi then s.imWord c a else s.imWord d a)
  s.setVal (0x6100 + d) 0 0 (.bytes ((List.range n).flatMap word))

/-- Move every object of 0x6001–0x600C and the channel bindings of engine `e` to engine `f` (R499). -/
def State.moveEngine (s : State) (e f : Nat) : State :=
  let mine := s.od.filter (fun x => 0x6001 ≤ x.1 / 65536 / 256 && x.1 / 65536 / 256 ≤ 0x600C && x.1 % 65536 = e)
  let s := mine.foldl (fun s x =>
    let k := 65536 * (x.1 / 65536)
    { s with od := tsetF objDefaultKey (tdel s.od (k + e)) (k + f) x.2 }.remapNote (k / 65536 / 256) (k / 65536 % 256) 12) s
  let bind : State → Nat → State := fun s i =>
    match s.findItem i 0 (0x1000 + e) with
    | some ch => (s.setO i 0 ch (0x1000 + f)).remapNote i 0 11
    | none => s
  bind (bind s 0x5001) 0x5002

/-- The engines of a cluster retired at this start move to the other cluster of the bank pair where the conditions of R499 hold. -/
def State.remapCluster (s : State) (c : Nat) : State :=
  let d := if c % 2 = 0 then c + 1 else c - 1
  let es := s.clusterEnabled c
  let free := s.clusterFree d
  let (lo, hi) := s.clusterSpan es
  let clear := (List.range (hi + 1 - lo)).all (fun i => s.imWord d (lo + i) = 0)
  if s.clusterRetired d || free.length < es.length || !clear || es.isEmpty then s
  else (es.zip free).foldl (fun s p => s.moveEngine p.1 p.2) ((s.copySpan c d lo hi).remapNote (0x6100 + d) 0 12)

/-- Channels bound to an engine of a retired cluster are quarantined (R499). -/
def State.quarRetired (s : State) : State :=
  (List.range 512).foldl (fun s ch =>
    let bad : Nat → Bool := fun v => v / 0x1000 = 1 && s.clusterRetired (v % 0x1000 / 16)
    if bad (s.o 0x5001 0 ch) || bad (s.o 0x5002 0 ch) then s.quarantine ch else s) s

/-- The loaded configuration is adapted to what is retired (R497–R500): a commit of its own that advances the epoch, listed in
REMAP_REPORT. -/
def State.adaptRetired (s : State) : State :=
  let before := s.bist.remap
  let s := { s with bist := { s.bist with remap := [] } }.chansRetired
  let clusters := (s.bist.newly.filter (fun m => m / 256 = 2 || m / 256 = 7)).map (· % 256)
  let s := clusters.eraseDups.foldl (fun s c => s.remapCluster c) s.fitReserves.fitChannels
  let s := { s with bist := { s.bist with newly := [] } }.quarRetired
  if s.bist.remap.isEmpty then { s with bist := { s.bist with remap := before } }
  else s.ownCommit

end Sys2Proof.Machine
end

