-- ==== Sys2Proof/Machine/Store.lean ====
section
/-!
DEFINITION. The store (R423–R434, R444, R445): areas and sectors, the journal and the anchor, erases and wear, the configuration store, the
pages of the event log, image headers, and the migration of settings at the first start of an image.
-/

namespace Sys2Proof.Machine

/-- The spare pool: CS0 from 1 024 and CS1 from 674, by the devices' sizes. -/
def sparePool : List Nat :=
  (List.range (Config.flashMiB 0 * 16 - 1024)).map (fun i => 1024 + i)
    ++ (List.range (Config.flashMiB 1 * 16 - 674)).map (fun i => 2 ^ 31 + 674 + i)

/-- Spares left. -/
def State.sparesFree (s : State) : List Nat :=
  sparePool.filter (fun p => !s.flash.sparesUsed.contains p && !s.flash.retired.contains p)

/-- The erase count of a physical sector. -/
def State.eraseCount (s : State) (p : Nat) : Nat := tget 0 s.flash.counts p

/-- The spare with the lowest erase count; of equal ones the first. -/
def State.bestSpare (s : State) : Option Nat :=
  match s.sparesFree with
  | [] => none
  | p :: l => some (l.foldl (fun a b => if s.eraseCount b < s.eraseCount a then b else a) p)

/-! ### Wear (R429, R430) -/

/-- The store becomes write-protected (R430): source 0x81, and a cause of DEGRADED for good. -/
def State.writeProtect (s : State) : State × List Report :=
  if s.flash.wp then (s, [])
  else (({ s with flash := { s.flash with wp := true } }.anchorUpdate).degrade 4 true, [{ source := 0x81, syndrome := 0xFF }])

/-- A loss record (R314, R430): the fields that name an edge and an input are free. -/
def State.logLoss (s : State) (n : Nat) : State :=
  let r : LogRec := {
    typ := 6, edge := s.freeNat 32, judge := s.drew.freeNat 32, chan := s.drew.drew.freeNat 16, raw := s.drew.drew.drew.freeNat 24
    extra := n }
  (s.drew.drew.drew.drew.logEnter r).bumpBy 0x9002 7 0 n

/-- Records leave flash with the log sector that held them: how many there were. -/
def State.logForget (s : State) (i : Nat) : State × Nat :=
  let l := s.station.log
  let gone := (l.sectors.filter (fun e => e.1 = i)).flatMap (·.2)
  ({ s with station := { s.station with log := { l with
    sectors := l.sectors.filter (fun e => e.1 ≠ i), flash := l.flash.filter (fun e => !gone.contains e.1) } } }, gone.length)

/-- A log sector is given up: its records are lost, and the log falls by one sector. -/
def State.logGiveUp (s : State) (i : Nat) : State :=
  let (s, n) := s.logForget i
  ({ s with flash := { s.flash with logGone := s.flash.logGone ++ [i] } }.bump 0x9002 6).logLoss n

/-- The log sectors in service. -/
def State.logLive (s : State) : List Nat := (List.range 1024).filter (fun i => !s.flash.logGone.contains i)

/-- The log sector that holds the oldest records, or the first in service when none holds any. -/
def State.logEldest (s : State) : Option Nat :=
  match s.station.log.sectors with
  | e :: _ => some e.1
  | [] => s.logLive.head?

/-- A logical sector is remapped to a physical one (two journal records and the sector map). -/
def State.remapTo (s : State) (k p : Nat) : State :=
  ({ s with flash := { s.flash with remap := tsetF homePhys s.flash.remap k p } }.journalWrite
    [{ typ := 5, logical := k, phys := s.phys k }, { typ := 3, logical := k, phys := p, val := s.eraseCount p }]).anchorUpdate

/-- An anchor copy is lost (R425): the hub runs on the other; with neither the store is write-protected. -/
def State.anchorLost (s : State) (p : Nat) : State × List Report :=
  let bit := if p = 0 then 1 else 2
  let left := s.flash.anchors &&& (3 - bit)
  let s := { s with flash := { s.flash with anchors := left } }
  if left = 0 then let (t, l) := s.writeProtect; (t, l)
  else (s, [{ source := 0x81, syndrome := bit - 1 }])

/-- An image sector wears with nothing to replace it (R430): its slot becomes invalid. -/
def State.imageLost (s : State) (area : Nat) : State :=
  if area = 3 then s.setSlotSt 0 2 else if area = 6 then s.setSlotSt 1 2 else s

/-- A worn sector is retired (R429, R430): a spare replaces it; without one a log sector is given up, or the store becomes write-protected. -/
def State.sectorWear (s : State) (p : Nat) : State × List Report :=
  let s := { s with flash := { s.flash with retired := s.flash.retired ++ [p] } }
  match s.logicalOf p with
  | none =>
    if p % 2 ^ 31 ≠ 0 then (s, [])
    else
      let (t, l) := s.anchorLost p
      if s.bestSpare.isNone && s.logEldest.isNone then let (u, m) := t.writeProtect; (u, l ++ m) else (t, l)
  | some k =>
    match s.bestSpare with
    | some q => ({ s with flash := { s.flash with sparesUsed := s.flash.sparesUsed ++ [q] } }.remapTo k q, [])
    | none =>
      let area := k / 2 ^ 24
      if area = 4 then ((s.journalWrite [{ typ := 5, logical := k, phys := p }]).logGiveUp (k % 2 ^ 24), [])
      else match s.logEldest with
        | some i =>
          let q := s.phys (lsec 4 i)
          ((s.logGiveUp i).remapTo k q, [])
        | none => (s.imageLost area).writeProtect

/-- A sector has been erased, or its erase has failed (R427, R429): counted, and worn by failure or endurance. -/
def State.eraseCounted (s : State) (p : Nat) (ok : Bool) : State × List Report :=
  let c := s.eraseCount p + 1
  let s := ({ s with flash := { s.flash with counts := tset 0 s.flash.counts p c } }.bump 0x9002 1).journalWrite
    [{ typ := 2, logical := (s.logicalOf p).getD 0, phys := p, val := c }]
  let s := if ok then s else s.bump 0x9002 5
  if !ok || c ≥ s.o 0x9001 7 then s.sectorWear p else (s, [])

/-- A flash sector erase ends. -/
def execFlashEraseDone (ok : Bool) (s : State) : Host.Outcome State Fault Refusal :=
  match s.flash.erase with
  | none => .next s
  | some e =>
    if e.suspended then .next s
    else
      let s := { s with flash := { s.flash with erase := none, intents := s.flash.intents.filter (· ≠ e.sector) } }
      let (s, l) := s.eraseCounted e.sector ok
      .next (s.eraseKick.reports l)

/-- An erase in progress is suspended (R427). -/
def State.eraseSuspend (s : State) (e : Erase) : State :=
  { s with flash := { s.flash with erase := some { e with suspended := true, suspends := e.suspends + 1 } } }.bump 0x9002 2

/-- A request of the store's users suspends the erase, within its limits; one that would break them waits. -/
def execFlashEraseSuspend (_ : FlashUse) (s : State) : Host.Outcome State Fault Refusal :=
  match s.flash.erase with
  | none => .next s
  | some e => if e.suspended || e.suspends ≥ 64 || (e.suspends > 0 && s.clock < ticksMs 1 + e.resumed) then .next s else .next (s.eraseSuspend e)

/-- A suspended erase resumes; in DOZE it waits for the wake. -/
def execFlashEraseResume (s : State) : Host.Outcome State Fault Refusal := .next (if s.modes.mode = .doze then s else s.eraseResume)

/-- At start-up every sector with an intent and no completion is queued for erase again, and counted (R428). -/
def State.eraseAgain (s : State) : State :=
  (s.bumpBy 0x9002 3 0 s.flash.intents.length).eraseQueue s.flash.intents

/-! ### The configuration store (R431) -/

/-- Sectors of the store that are erased: neither in use nor waiting for their erase. -/
def State.cfgFree (s : State) : Nat :=
  let busy := (s.flash.eraseQ ++ (s.flash.erase.map (fun e : Erase => e.sector)).toList).filter (fun p => match s.logicalOf p with
    | some k => k / 2 ^ 24 = 2
    | none => false)
  128 - s.flash.cfg.length - busy.length

/-- The C-class records of a set as they stand applied. -/
def State.cfgRecords (s : State) (l : List Staged) : List (Nat × Nat) :=
  (l.filter (fun x => keyPers (objKey x.index x.sub x.item) = .c)).map (fun x =>
    (objKey x.index x.sub x.item, cfgBytes (objKey x.index x.sub x.item) (s.val x.index x.sub x.item)))

/-- The applied configuration reaches the store, with its commit marker. -/
def State.commitStored (s : State) (l : List Staged) : State :=
  let c := (s.cfgRecords l ++ [cfgMarker]).foldl cfgAdd s.flash.cfg
  { s with flash := { s.flash with cfg := c }, dict := { s.dict with toStore := none } }.storeConfig

/-- The records of a commit are written; a program failure wears the sector, and the records are written again on its replacement. -/
def execConfigStoreCommitWrite (ok : Bool) (s : State) : Host.Outcome State Fault Refusal :=
  match s.dict.toStore with
  | none => .next s
  | some l =>
    if s.flash.wp then .next s
    else if ok then .next (s.commitStored l)
    else
      let i := match s.flash.cfg.getLast? with | some e => e.1 | none => 0
      .next (State.withReports ((s.bump 0x9002 4).sectorWear (s.phys (lsec 2 i))))

/-- The oldest sector's live records are copied forward and the sector is erased, when fewer than 8 erased sectors remain. -/
def execConfigStoreCompact (s : State) : Host.Outcome State Fault Refusal :=
  match s.flash.cfg with
  | (i, l) :: rest =>
    if s.cfgFree ≥ 8 || rest.isEmpty then .next s
    else
      let later := (rest.flatMap (·.2)).map (·.1)
      let live := l.filter (fun r => r.1 ≠ 0 && !later.contains r.1)
      let s := { s with flash := { s.flash with cfg := live.foldl cfgAdd rest } }
      .next (s.eraseQueue [s.phys (lsec 2 i)])
  | [] => .next s

/-! ### Pages of the event log (R316) -/

/-- The log sector after `k` in rotation. -/
def State.logNext (s : State) (k : Option Nat) : Option Nat :=
  match k with
  | none => s.logLive.head?
  | some k => (s.logLive.find? (fun i => k < i)).or s.logLive.head?

/-- The next sector of the rotation becomes the newest: the records it held are overwritten, and the erase this takes counts. A sector that
wears out without a spare is passed over. -/
def State.logTurn : Nat → State → Option Nat → State × List Report
  | 0, s, _ => (s, [])
  | n + 1, s, k =>
    match s.logNext k with
    | none => (s, [])
    | some i =>
      let used := s.station.log.sectors.any (fun e => e.1 = i)
      let (t, _) := s.logForget i
      let (t, r) : State × List Report := if used then t.eraseCounted (s.phys (lsec 4 i)) true else (t, [])
      if t.flash.logGone.contains i then let (u, q) := State.logTurn n t (some i); (u, r ++ q)
      else ({ t with station := { t.station with log := { t.station.log with sectors := t.station.log.sectors ++ [(i, [])] } } }, r)

/-- A sector with room for a record stands last. -/
def State.logRoom (s : State) : State × List Report :=
  match s.station.log.sectors.getLast? with
  | some e => if e.2.length < 2047 then (s, []) else State.logTurn 1024 s (some e.1)
  | none => State.logTurn 1024 s none

/-- Program the oldest waiting record. -/
def State.logProgram (a : State × List Report) : State × List Report :=
  match a.1.station.log.waiting with
  | [] => a
  | (q, _) :: rest =>
    let (s, r) := a.1.logRoom
    let l := s.station.log
    match l.sectors.getLast? with
    | none => (({ s with station := { s.station with log := { l with waiting := rest } } }.bump 0x9002 7), a.2 ++ r)
    | some (i, qs) =>
      if qs.length ≥ 2047 then (s, a.2 ++ r)
      else
        ({ s with station := { s.station with log := { l with
          waiting := rest, flash := tset [] l.flash q (s.readDram (s.logSlot q) 32), sectors := l.sectors.dropLast ++ [(i, qs ++ [q])] } } },
         a.2 ++ r)

/-- Program the waiting records, at most a page of 8. -/
def State.logPage (s : State) : State × List Report :=
  (List.range (min 8 s.station.log.waiting.length)).foldl (fun a _ => State.logProgram a) (s, [])

/-- A page is due: 8 records wait, or the oldest entered 100 ms ago. -/
def State.logDue (s : State) : Bool :=
  match s.station.log.waiting with
  | [] => false
  | (_, t) :: l => l.length ≥ 7 || s.clock ≥ ticksMs 100 + t

/-- A page of the log is programmed; a program failure wears its sector, and the records go on waiting. -/
def execLogPageProgram (ok : Bool) (s : State) : Host.Outcome State Fault Refusal :=
  if !s.logDue then .next s
  else if ok then .next (State.withReports s.logPage)
  else match s.station.log.sectors.getLast? with
    | none => .next (State.withReports s.logPage)
    | some e => .next (State.withReports ((s.bump 0x9002 4).sectorWear (s.phys (lsec 4 e.1))))

/-- Program everything that waits. -/
def State.logFlush : Nat → State → State
  | 0, s => s
  | n + 1, s => if s.station.log.waiting.isEmpty then s else logFlush n (State.withReports s.logPage)

/-! ### Image headers (R433, R434) -/

/-- A little-endian field of an image. -/
def imgField (b : List Byte) (off n : Nat) : Nat := ofLe ((b.drop off).take n)

/-- LENGTH of an image. -/
def imgLength (b : List Byte) : Nat := imgField b 28 4

/-- The FORMAT table's version of a settings group. -/
def imgFormat (b : List Byte) (g : Nat) : Nat := imgField b (88 + 2 * g) 2

/-- BODY_HASH. -/
def imgHash (b : List Byte) : List Byte := (b.drop 40).take 48

/-- The fields that have required values. -/
def headerOk (b : List Byte) : Bool :=
  let part : List Nat := [70, 88, 76, 53, 49, 50, 48, 45, 88, 65, 0, 0, 0, 0, 0, 0]
  b.length ≥ 256 && (b.take 4).map (fun x : Byte => x.toNat) = [76, 82, 86, 77] && imgField b 4 2 = 1 && imgField b 6 2 = 1
    && ((b.drop 8).take 16).map (fun x : Byte => x.toNat) = part && imgField b 24 2 ≤ 0x4230 && imgField b 26 2 = 0
    && 512 ≤ imgLength b && imgLength b ≤ 16777216 && imgLength b % 256 = 0 && imgField b 38 2 = 0 && imgField b 152 8 = 0

/-- The signature verifies under a key that is not revoked (R416). -/
def State.signed (s : State) (b : List Byte) : Bool :=
  imgField b 37 1 ≤ 1 && ((s.o 0x8030 1 = 0 && Config.ecdsaOk 0 (b.take 256)) || Config.ecdsaOk 1 (b.take 256))

/-- Why a header is refused, in the order of R434. -/
def State.headerRefused (s : State) (b : List Byte) : Option Nat :=
  if !headerOk b then some Abort.imageHeaderRefused
  else if !s.signed b then some Abort.signatureInvalid
  else if imgField b 36 1 < s.o 0x8030 2 || imgField b 36 1 > 64 then some Abort.rollbackRefused
  else none

/-- The body matches BODY_HASH. -/
def bodyOk (b : List Byte) : Bool := b.length ≥ imgLength b && Config.sha384 ((b.take (imgLength b)).drop 256) = imgHash b

/-- What the slot's header says. -/
def slotOf (b : List Byte) (st : Nat) : Slot :=
  { state := st, image := b, version := imgField b 32 4, rollback := imgField b 36 1, key0 := !Config.ecdsaOk 1 (b.take 256) }

/-! ### Migration (R444, R445) -/

/-- The settings group of an index. -/
def setGroup (i : Nat) (sub : Nat) : Nat :=
  if i < 0x1100 then 0 else if i < 0x1200 then 1 else if i < 0x1300 then 2
  else if (i = 0x2000 || i = 0x2001) && sub = 0 then 3 else if i < 0x2100 then 4 else if i < 0x2300 then 5 else if i < 0x2700 then 6
  else if i < 0x3400 then 7 else if i < 0x3800 then 8 else if i < 0x4000 then 9 else if i < 0x5000 then 10 else if i < 0x6000 then 11
  else if i < 0x6800 then 12 else if i < 0x7000 then 13 else if i < 0x7800 then 14 else if i < 0x8000 then 15 else if i < 0x8100 then 16
  else if i < 0xA000 then 17 else if i < 0xA800 then 18 else if i < 0xA900 then 19 else if i < 0xB800 then 20
  else if 0xB820 ≤ i && i ≤ 0xB827 then 21 else 22

/-- The privileged groups. -/
def privGroup (g : Nat) : Bool := [0, 3, 16, 19, 20, 21].contains g

/-- The applied C-class entries of a group that differ from their defaults. -/
def State.groupVals (s : State) (g : Nat) : Tab Val :=
  s.cVals.filter (fun e => setGroup (e.1 / 65536 / 256) (e.1 / 65536 % 256) = g && e.1 / 65536 / 256 ≠ 0x1221)

/-- A migration report entry. -/
def migEntry (index sub g old new : Nat) : List Byte := beBytes 2 index ++ beBytes 1 sub ++ beBytes 1 g ++ beBytes 2 old ++ beBytes 2 new

/-- Bring one group to a new version: the state, the entries reported, and the objects reset. -/
def State.migrateGroup (s : State) (version g old new : Nat) : State × List Byte × Nat :=
  let l := s.groupVals g
  let s := { s with flash := { s.flash with formats := tset 0 s.flash.formats g new } }
  let reset : List (Nat × Val) → List Byte := fun l => (l.map (fun e : Nat × Val => e.1 / 65536)).eraseDups.flatMap (fun i => migEntry (i / 256) (i % 256) g old new)
  if privGroup g then
    let bad := l.filter (fun e => (Config.migrated version e.1 e.2).isNone)
    let s := l.foldl (fun s e =>
      { s with od := tsetF objDefaultKey s.od e.1 ((Config.migrated version e.1 e.2).getD (objDefaultKey e.1)) }) s
    (s, reset bad ++ migEntry 0xFFFF 0xFF g old new, (bad.map (fun e => e.1 / 65536)).eraseDups.length)
  else
    ({ s with od := l.foldl (fun t e => tdel t e.1) s.od }, reset l, (l.map (fun e => e.1 / 65536)).eraseDups.length)

/-- The groups whose version an image changes. -/
def State.formatDiff (s : State) (b : List Byte) : List Nat := (List.range 32).filter (fun g => imgFormat b g ≠ tget 0 s.flash.formats g)

/-- The first start of an image (R444): a body hash other than the anchor's. What changed is written as a commit of its own. -/
def State.firstStart (s : State) (slot : Nat) : State :=
  let b := (s.imgSlot slot).image
  if s.flash.lastHash = imgHash b then s
  else
    let gs := s.formatDiff b
    let (s, rep, n) := gs.foldl (fun (a : State × List Byte × Nat) g =>
      let (t, r, m) := a.1.migrateGroup (imgField b 32 4) g (tget 0 a.1.flash.formats g) (imgFormat b g)
      (t, a.2.1 ++ r, a.2.2 + m)) (s, [], 0)
    let s := s.setVal 0x9080 0 0 (.bytes rep)
    let s := (s.setO 0x9081 1 0 (gs.filter privGroup).length).setO 0x9081 2 0 (gs.filter (fun g => !privGroup g)).length
    let s := s.setO 0x9081 3 0 n
    let s := if gs.isEmpty then s else s.ownCommit
    { s with flash := { s.flash with lastHash := imgHash b } }.anchorUpdate

end Sys2Proof.Machine
end

