-- ==== Sys2Proof/Machine/Consist.lean ====
section
/-!
DEFINITION. Mutual consistency of the configuration as it would stand after a commit (R50 check 6): every condition that a chapter gives
for "configuration inconsistent". A check goes over the entries that differ from their defaults, since the defaults pass every check.
Each answers the offending entries as index × 256 + subindex.
-/

namespace Sys2Proof.Machine

/-- Index of an entry's key. -/
def keyIndex (k : Nat) : Nat := k / 65536 / 256

/-- Subindex of an entry's key. -/
def keySub (k : Nat) : Nat := k / 65536 % 256

/-- Item of an entry's key. -/
def keyItem (k : Nat) : Nat := k % 65536

/-- The applied entries of an index range that differ from their defaults. -/
def State.entries (s : State) (lo hi : Nat) : Tab Val := s.od.filter (fun e => lo ≤ keyIndex e.1 && keyIndex e.1 ≤ hi)

/-- The items that those entries belong to. -/
def State.itemsIn (s : State) (lo hi : Nat) : List Nat := ((s.entries lo hi).map (fun e => keyItem e.1)).eraseDups

/-- An entry offends where a condition holds. -/
def offends (index sub : Nat) (bad : Bool) : List Nat := if bad then [index * 256 + sub] else []

/-- The values of a list that stand in it more than once. -/
def repeated (l : List Nat) : List Nat := l.filter (fun v => (l.filter (· = v)).length > 1)

/-- Paths, ports and buffers (R60, R125, R131). -/
def State.badRing (s : State) : List Nat :=
  let cells := (32768 - 1024 * (s.bist.retired.filter (· < 32)).length) / 2
  offends 0x1205 0 (s.o 0x1205 0 % 8 = 0)
    ++ offends 0x2002 1 (s.o 0x2002 1 = 0 && s.o 0x2002 2 = 0)
    ++ offends 0x2101 1 (!(s.entries 0x2101 0x2101).isEmpty && 512 + 7 * ((List.range 8).map (fun c => s.o 0x2101 (c + 1))).sum > cells)

/-- RED profiles (R138). -/
def State.badRed (s : State) : List Nat :=
  if (s.entries 0x2103 0x2114).isEmpty then []
  else (List.range 5).flatMap (fun c => [1, 4, 7].flatMap (fun k =>
    offends (0x2110 + c) k
      (s.o (0x2110 + c) k ≥ s.o (0x2110 + c) (k + 1) || s.o (0x2110 + c) (k + 1) > s.o 0x2103 (c + 1))))

/-- Policers in use (R139): a second one of a port and class, rates, and buckets. -/
def State.badPolice (s : State) : List Nat :=
  let used := ((s.entries 0x2140 0x217F).filter (fun e => keySub e.1 = 5 && bitOf (valNat e.2) 7)).map
    (fun e => (keyIndex e.1, valNat e.2 % 128))
  let dup := repeated (used.map (·.2))
  used.flatMap (fun (p, b) =>
    offends p 1 (s.o p 1 > s.o p 3) ++ offends p 2 (s.o p 2 < 2100) ++ offends p 4 (s.o p 4 < 2100) ++ offends p 5 (dup.contains b))

/-- SPEC_EN on a channel that no engine consumes (R151). -/
def State.badSpec (s : State) : List Nat :=
  (s.entries 0x2601 0x2601).flatMap (fun e =>
    offends 0x2601 (keySub e.1)
      ((List.range 32).any (fun j => bitOf (valNat e.2) j && (s.chanEng (32 * (keySub e.1 - 1) + j)).isNone)))

/-- Commit groups (R170, R175). -/
def State.badGroups (s : State) : List Nat :=
  let l := (s.entries 0x2610 0x268F).map (fun e => (keyIndex e.1, keySub e.1, valNat e.2))
  let dup := repeated (l.map (·.2.2))
  l.flatMap (fun (g, m, c) =>
    let mates := (l.filter (fun x => x.1 = g && x.2.1 ≠ m)).filterMap (fun x => s.chanEng x.2.2)
    offends g m (dup.contains c || (s.chanEng c).isNone || (s.chanEng c).any mates.contains
      || (m > 1 && !l.any (fun x => x.1 = g && x.2.1 = m - 1))))

/-- Channels' endpoints, taps and packets (R182, R191). -/
def State.badChannels (s : State) : List Nat :=
  let prod := (s.entries 0x5001 0x5001).map (fun e => valNat e.2)
  let cons := (s.entries 0x5002 0x5002).map (fun e => valNat e.2)
  let one : Nat → Bool := fun v => [1, 3, 4, 6].contains (v / 0x1000)
  let dupP := repeated (prod.filter one)
  let dupC := repeated (cons.filter one)
  let tun : List Nat := ((s.entries 0x5001 0x5002).filter (fun e => valNat e.2 / 0x1000 = 5)).map (fun e => valNat e.2 * 512 + keyItem e.1)
  let dupT := repeated ((tun.eraseDups).map (· / 512))
  let taps := repeated ((s.entries 0x500A 0x500A).map (fun e => valNat e.2))
  (s.itemsIn 0x5001 0x500A).flatMap (fun c =>
    let p := s.o 0x5001 0 c
    let q := s.o 0x5002 0 c
    offends 0x5001 0 (dupP.contains p || dupT.contains p || (p = q && p / 0x1000 = 1))
      ++ offends 0x5002 0 (dupC.contains q || dupT.contains q || q / 0x1000 = 6)
      ++ offends 0x5004 3 (q / 0x1000 = 2 && s.o 0x5004 3 c = 5)
      ++ offends 0x5007 0 (s.o 0x5007 0 c > s.chanSize c)
      ++ offends 0x500A 0 (taps.contains (s.o 0x500A 0 c)))

/-- Σ SIZE, from the sizes that differ from the default of 16 (R185). -/
def State.sizeTotal (s : State) : Nat :=
  let l := (s.entries 0x5005 0x5005).map (fun e => valNat e.2)
  16 * (512 - l.length) + l.sum

/-- The sizes exceed channel RAM (R185). -/
def State.badSizes (s : State) : List Nat := offends 0x5005 0 (s.sizeTotal > s.unitsUp)

/-- A station service reads this core endpoint, which is therefore bound as a consumer (R298). -/
def epConsumes (e : Nat) : Bool := e < 0x20 || (0x60 ≤ e && e < 0x80) || (0xA0 ≤ e && e < 0xD0) || (0xE8 ≤ e && e ≤ 0xFF)

/-- Core endpoints bound against their direction (R298), and the packet modes their services ask for (R302, R313). -/
def State.badEndpoints (s : State) : List Nat :=
  let core : Nat → Bool := fun v => v / 0x1000 = 4
  (s.entries 0x5001 0x5001).flatMap (fun e => offends 0x5001 0 (core (valNat e.2) && epConsumes (valNat e.2 % 256)))
    ++ (s.entries 0x5002 0x5002).flatMap (fun e =>
      let ep := valNat e.2 % 256
      let c := keyItem e.1
      let soe := core (valNat e.2) && 0xA0 ≤ ep && ep < 0xD0
      let sv := core (valNat e.2) && ep < 0x20 && s.o 0x3811 1 ep = 1
      offends 0x5002 0 (core (valNat e.2) && !epConsumes ep)
        ++ offends 0x5006 0 ((soe || sv) && s.o 0x5006 0 c ≠ 1)
        ++ offends 0x5007 0 (soe && s.o 0x5007 0 c ≠ 2))

/-- Lock groups (R194): an engine of two groups, dividers that differ, or more than 32 engines. -/
def State.badLocks (s : State) : List Nat :=
  let gs := ((s.entries 0x5009 0x5009).map (fun e => valNat e.2)).eraseDups
  let ms := gs.map (fun g => s.lockMembers g)
  let dup := repeated ms.flatten
  ms.flatMap (fun l =>
    offends 0x5009 0 (l.any dup.contains || l.length > 32
      || ((l.map (fun e => s.o 0x6003 1 e * 256 + s.o 0x6003 2 e)).eraseDups).length > 1))

/-- Pin engines (R206). -/
def State.badEngines (s : State) : List Nat :=
  let l := s.itemsIn 0x6001 0x600C
  l.flatMap (fun e =>
    let m := s.driveMask e
    let on := s.o 0x6001 0 e = 1
    let side := winMask (s.o 0x6005 7 e) (s.o 0x6005 8 e)
    offends 0x6001 0 (on && s.clusterRetired (e / 16))
      ++ offends 0x6004 1 (on && s.o 0x6004 1 e > s.o 0x6004 2 e)
      ++ offends 0x6005 7 (on && s.o 0x6005 8 e ≥ 1 && side &&& m ≠ side)
      ++ offends 0x6007 0 (l.any (fun f => f ≠ e && f / 32 = e / 32 && s.driveMask f &&& m ≠ 0))
      ++ offends 0x600C 1 (on && s.o 0x600C 2 e ≠ 0 && s.o 0x600C 1 e ≠ 0xFF && !m.getLsbD (s.o 0x600C 1 e)))

/-- Open-drain pins that readback would compare (R243). -/
def State.badPins (s : State) : List Nat :=
  (s.entries 0x6810 0x681F).flatMap (fun e =>
    let b := keyIndex e.1 - 0x6810
    let pin := keySub e.1 - 1
    offends (keyIndex e.1) (keySub e.1) (bitOf (valNat e.2) 5 &&
      (s.driver b pin).any (fun g => bitOf (s.o 0x600A 1 g) (b % 2 * 24 + pin))))

/-- Time sources (R253, R274) and trackers' taps (R276). -/
def State.badTime (s : State) : List Nat :=
  let src := s.o 0x3020 1
  let role := s.o 0x3040 1
  let taps := (s.entries 0x500A 0x500A).map (fun e => valNat e.2)
  offends 0x3020 1 (src ≥ 5 || ((src = 1 || src = 3) && s.o 0x3052 1 = 0xFFFF) || (src = 4 && (role = 0 || role = 2)))
    ++ (List.range 4).flatMap (fun k => offends (0x3400 + k) 1 ((s.o (0x3400 + k) 1 ≠ 0) ≠ taps.contains k))

/-- SVC_ENTRIES changes while an entry in the affected range is armed or frozen (R296). -/
def State.badCalendar (s t : State) : List Nat :=
  let a := s.o 0x3502 0
  let b := t.o 0x3502 0
  offends 0x3502 0 (s.phase.cal.any (fun e => calLive e.2 && 1024 - max a b ≤ e.1 && e.1 < 1024 - min a b))

/-- Weight of a stream by its rate (R300). -/
def svWeight (rate : Nat) : Nat := if rate = 96000 then 7 else 1

/-- Bytes of a field with its tag and length, as BER writes them (IEC 61850-9-2). -/
def berLen (n : Nat) : Nat := n + (if n < 128 then 2 else if n < 256 then 3 else 4)

/-- Bytes on the wire of a publication's frame, with preamble and inter-frame gap (R300). -/
def State.svWire (s : State) (n : Nat) : Nat :=
  let asdu := berLen (berLen (s.ob 0x3811 6 n).length + berLen 2 + berLen 4 + berLen 1 + berLen (8 * s.o 0x3811 9 n))
  let pdu := berLen (berLen 1 + berLen (s.o 0x3811 8 n * asdu))
  8 + 12 + 14 + (if s.o 0x3811 5 n = 0xFFFF then 0 else 4) + 8 + pdu + (if s.o 0x3811 12 n = 1 then Config.authBytes else 0) + 4 + 12

/-- Line rate of a station port in bit/s (R400). -/
def State.lineRate (s : State) (p : Nat) : Nat := if s.o 0x7840 (p + 1) = 3 then 2500000000 else 1000000000

/-- The enabled streams of a table. -/
def State.streamsOn (s : State) (i : Nat) : List Nat :=
  ((s.entries i i).filter (fun e => keySub e.1 = 1 && e.2 = .num 1)).map (fun e => keyItem e.1)

/-- SV publications and subscriptions (R300, R302). -/
def State.badSv (s : State) : List Nat :=
  let pubs := s.streamsOn 0x3811
  let subs := s.streamsOn 0x3821
  let load : Nat → Nat := fun p => ((pubs.filter (fun n => bitOf (s.o 0x3811 2 n) p)).map
    (fun n => s.svWire n * 8 * s.o 0x3811 7 n / s.o 0x3811 8 n)).sum
  offends 0x3811 1 ((pubs.map (fun n => svWeight (s.o 0x3811 7 n))).sum > 32)
    ++ offends 0x3811 2 ([0, 1].any (fun p => 10 * load p > 8 * s.lineRate p))
    ++ pubs.flatMap (fun n => offends 0x3811 11 (s.o 0x3060 (s.o 0x3811 11 n + 1) ≠ s.o 0x3811 7 n))
    ++ offends 0x3821 1 ((subs.map (fun n => svWeight (s.o 0x3821 7 n))).sum > 64)

/-- Multicast addresses that a station port's filter takes (R300, R400). -/
def State.filterAddrs (s : State) (p : Nat) : List Nat :=
  ([0x3821, 0x3851].flatMap (fun i => ((s.streamsOn i).filter (fun n => bitOf (s.o i 2 n) p)).map (fun n => s.o i 3 n))).eraseDups

/-- Subscriptions beyond a port's filter (R400), and signals with two writers (R308). -/
def State.badGoose (s : State) : List Nat :=
  let used := (s.entries 0x3852 0x3852).filter (fun e => !bitOf (valNat e.2) 12)
  let dup := repeated (used.map (fun e => valNat e.2 % 4096))
  offends 0x3851 2 ([0, 1].any (fun p => (s.filterAddrs p).length > 256))
    ++ used.flatMap (fun e => offends 0x3852 (keySub e.1) (dup.contains (valNat e.2 % 4096)))

/-- Controlled switching (R325). -/
def State.badCsw (s : State) : List Nat :=
  (s.itemsIn 0x3A01 0x3A05).flatMap (fun b =>
    let bound := (List.range 3).all (fun p => (s.epOut (0xD0 + 3 * b + p)).isSome && (s.epIn (0xE8 + 3 * b + p)).isSome)
    offends 0x3A01 1 (s.o 0x3A01 1 b = 1 && !bound)
      ++ offends 0x3A04 10 (s.o 0x3A04 10 b ≥ s.o 0x3A04 11 b)
      ++ offends 0x3A05 6 (s.o 0x3A05 6 b < s.o 0x3A05 2 b))

/-- Indices whose change alters the enabled instances or their rates (R329, R330). -/
def placedBy : List Nat := [0x3811, 0x3821, 0x3841, 0x3851, 0x3A01, 0x3052, 0x3040, 0x5002]

/-- Service cores (R330, R350): an enabled set that cannot be placed, and the load alarm. -/
def State.badCores (s : State) (keys : List Nat) : List Nat :=
  offends 0x4002 0 (keys.any (fun k => placedBy.contains (keyIndex k)) && s.svcPlace.isNone)
    ++ offends 0x4004 0 (s.o 0x4004 0 < s.o 0x4002 0 + 50)

/-- CAN bit rates (R355), gateway nodes (R367) and accept filters (R360). -/
def State.badCan (s : State) : List Nat :=
  (s.itemsIn 0x7001 0x7020).flatMap (fun k =>
    let v : Nat → Nat := fun i => s.o 0x7001 i k
    let pn := v 2 * (1 + v 3 + v 4)
    let pd := v 6 * (1 + v 7 + v 8)
    offends 0x7001 2 (pn < 80)
      ++ offends 0x7001 5 (v 5 > v 4)
      ++ offends 0x7001 6 (v 10 = 1 && (pd < 10 || pd > pn))
      ++ offends 0x7001 9 (v 9 > v 8)
      ++ offends 0x7001 11 (pd < 80 && v 11 = 0)
      ++ offends 0x7002 5 (s.canGateway k s.ring.node))
    ++ (s.entries 0x7020 0x7020).flatMap (fun e =>
      offends 0x7020 (keySub e.1)
        (valNat e.2 / 2 ^ 62 = 1 && (s.findItem 0x5001 0 (0x3000 + 32 * keyItem e.1 + (keySub e.1 - 1))).isNone))

/-- A trigger's type, REPEAT, BASE and TIME_MARK (R371, R376). -/
def trigger (w : Nat) : Nat × Nat × Nat × Nat := (w / 2 ^ 29 % 8, w / 2 ^ 22 % 8, w / 2 ^ 16 % 64, w % 65536)

/-- Two active triggers act at one instant of some cycle of the matrix. -/
def coincide (cycles : Nat) (a b : Nat × Nat × Nat × Nat) : Bool :=
  let (_, r, x, m) := a
  let (_, q, y, n) := b
  m = n && (List.range cycles).any (fun c => c % 2 ^ r = x && c % 2 ^ q = y)

/-- Time-triggered schedules (R371). -/
def State.badSchedule (s : State) : List Nat :=
  (s.itemsIn 0x7030 0x7031).flatMap (fun k =>
    let len := s.o 0x7030 4 k
    let cycles := s.o 0x7030 5 k
    let l := ((s.entries 0x7031 0x7031).filter (fun e => keyItem e.1 = k)).map (fun e => (keySub e.1, trigger (valNat e.2)))
    let l := l.filter (fun x => x.2.1 ≠ 0)
    let period := cycles * len * s.o 0x7030 3 k
    offends 0x7030 5 (!([1, 2, 4, 8, 16, 32, 64].contains cycles) || 1000000000 % period ≠ 0)
      ++ l.flatMap (fun (i, t) => offends 0x7031 i (t.2.2.1 ≥ 2 ^ t.2.1 || t.2.2.2 ≥ len
        || l.any (fun y => y.1 ≠ i && coincide cycles t y.2))))

/-- A data-invariant window whose target touches registers or channel windows of a node (R392). -/
def windowBad (w : Window) : Bool :=
  let base := w.target / 2 ^ w.size * 2 ^ w.size % 2 ^ 40
  bitOf w.attr 1 && (base < 0x180000000 || base + 2 ^ w.size > 2 ^ 40)

/-- Window `w` as its objects give it (R387, R402): a SIZE_LOG2 below 12 stands for the register's own reset value. -/
def State.windowObj (s : State) (w : Nat) : Window :=
  { base := 4096 * (s.o 0x7811 1 w / 4096), size := if s.o 0x7811 2 w < 12 then 12 else s.o 0x7811 2 w,
    target := 4096 * (s.o 0x7811 3 w / 4096), attr := s.o 0x7811 4 w }

/-- Bridge, tunnels and station ports (R392, R393, R401, R402). -/
def State.badBridge (s : State) : List Nat :=
  let st := (s.streamsOn 0x7831).filter (fun t => s.o 0x7831 2 t ≠ 0)
  let cls := st.map (fun t => 65536 * (65536 * s.o 0x7831 2 t + s.o 0x7831 3 t) + s.o 0x7831 4 t)
  (s.itemsIn 0x7811 0x7811).flatMap (fun w => offends 0x7811 4 (windowBad (s.windowObj w)))
    ++ (s.entries 0x7820 0x7820).flatMap (fun e =>
      let v := valNat e.2
      offends 0x7820 (keySub e.1) (v / 2 ^ 56 ≠ 0xFF &&
        (4096 * (v % 2 ^ 28) < 0x180000000 || 4096 * (v % 2 ^ 28) + 2 ^ (v / 2 ^ 50 % 64) > 2 ^ 40)))
    ++ offends 0x7831 1 ((repeated cls).length > 0 || (s.streamsOn 0x7831).any (fun t => s.o 0x7831 2 t = 0 &&
      (s.findItem 0x5001 0 (0x5000 + t)).isNone && (s.findItem 0x5002 0 (0x5000 + t)).isNone))
    ++ offends 0x7840 1 (s.o 0x7841 1 = 1 && s.o 0x7840 1 ≠ s.o 0x7840 2)

/-- Ring authentication of class 5 (R421), and ENDURANCE below a count in use (R446). -/
def State.badSecurity (s : State) : List Nat :=
  offends 0x8010 1 (bitOf (s.o 0x8010 1) 5) ++ offends 0x8010 3 (bitOf (s.o 0x8010 3) 5)
    ++ offends 0x9001 7 (s.flash.counts.any (fun e => !s.flash.retired.contains e.1 && e.2 > s.o 0x9001 7))

/-- The points of a channel's curve: current in mA and time in µs (R514). -/
def State.curve (s : State) (c : Nat) : List (Nat × Nat) :=
  (List.range (s.o (0xB820 + c) 1)).map (fun k => (s.o (0xB820 + c) (2 + 2 * k), s.o (0xB820 + c) (3 + 2 * k)))

/-- Currents rise strictly and times fall strictly. -/
def curveOk : List (Nat × Nat) → Bool
  | [] => true
  | [_] => true
  | a :: b :: l => a.1 < b.1 && b.2 < a.2 && curveOk (b :: l)

/-- Power channels (R504, R507, R514, R516). A field channel is enabled when it is commanded on or powers on by itself. -/
def State.badPower (s : State) : List Nat :=
  if (s.entries 0xB810 0xB841).isEmpty then []
  else (List.range 8).flatMap (fun c =>
    let i := 0xB820 + c
    let lim := s.o i 18
    let mv := lim * s.o (0xB810 + c) 1
    let used := 2 ≤ c && ((s.field c).cmd || bitOf (s.o 0xB841 0) c)
    offends (0xB810 + c) 1 (mv < 10000000 || mv > 140000000)
      ++ offends i 1 (used && s.o i 1 = 0)
      ++ offends i 2 (!curveOk (s.curve c) || (s.curve c).any (fun p => p.1 ≥ lim))
      ++ offends i 19 (s.o i 19 * 10 ^ 11 ≤ 16 * lim * lim * (600 + s.o i 21))
      ++ offends i 21 (c < 2 && s.o i 21 > 20000))

/-- Every offending entry of the configuration `t` that would follow `s`, where `keys` are the entries that change. -/
def State.offenders (s t : State) (keys : List Nat) : List Nat :=
  t.badRing ++ t.badRed ++ t.badPolice ++ t.badSpec ++ t.badGroups ++ t.badTime ++ s.badCalendar t ++ t.badSv ++ t.badGoose ++ t.badCsw
    ++ t.badCores keys ++ t.badChannels ++ t.badSizes ++ t.badEndpoints ++ t.badLocks ++ t.badEngines ++ t.badPins ++ t.badCan
    ++ t.badSchedule ++ t.badBridge ++ t.badSecurity ++ t.badPower

/-- The first offending entry, in ascending index and subindex (R50). -/
def State.firstOffender (s t : State) (keys : List Nat) : Option Nat := (s.offenders t keys).min?

end Sys2Proof.Machine
end

