-- ==== Sys2Proof/Machine/Commit.lean ====
section
/-!
DEFINITION. Commits (R49–R60): the ordered checks, the apply instant and everything that a commit's changes do there, the pending
slot, and what becomes of a session that closes.
-/

namespace Sys2Proof.Machine

/-! ### Sessions that close (R41, R46, R54) -/

/-- A session's path number (R59). -/
def pathCode : Path → Nat
  | .ring => 0
  | .can => 1
  | .udp => 2
  | .mailbox => 3
  | .uart => 4

/-- Session `n` closes: its staging set, selections and register context go, its semaphores are freed and counted, a pending commit of it
belongs to no session, what it waits for is no longer answered, and an update of it in states 1–4 is abandoned. -/
def State.closeSession (s : State) (n : Nat) : State :=
  if !(s.session n).isOpen then s
  else
    let mine := s.bridge.sems.filter (fun e => match e.2 with | some (h, _) => h = 0x80 + n | none => false)
    let s := s.bumpBy 0x7803 6 0 mine.length
    let s := { s with bridge := { s.bridge with sems := s.bridge.sems.filter (fun e => !mine.any (fun x => x.1 = e.1)) } }
    let s := if s.flash.owner = some n then s.updDrop else s
    let mine : Option Nat → Option Nat := fun o => if o = some n then none else o
    let s := { s with
      pair := { s.pair with commitBy := mine s.pair.commitBy, swap := s.pair.swap.map (fun w : Swap => { w with session := mine w.session }) }
      heldDel := s.heldDel.map (fun d : HeldDel => if d.who = Waiter.session n then { d with who := .none } else d)
      dramWait := s.dramWait.map (fun d : Waiter × Nat × List Byte => if d.1 = Waiter.session n then (Waiter.none, d.2) else d)
      ring := { s.ring with remotes := s.ring.remotes.filter (fun r : Remote => decide (r.who ≠ Asker.session n)) } }
    let s := { s with ctxs := tdel s.ctxs (0x80 + n), dict := { s.dict with
      pendingCommit := s.dict.pendingCommit.map (fun c : PendingCommit => if c.owner = some n then { c with owner := none } else c) } }
    s.setSession n {}

/-- Sessions open on a path that is not enabled close (R60). -/
def State.closePaths (s : State) : State :=
  (List.range 32).foldl (fun s n =>
    if (s.session n).isOpen && !bitOf (s.o 0x1205 0) (pathCode (s.session n).path) then s.closeSession n else s) s

/-! ### Checks (R50, R53) -/

/-- The key of a staged entry. -/
def stagedKey (x : Staged) : Nat := objKey x.index x.sub x.item

/-- The configuration with a set's values in place. -/
def State.withSet (s : State) (l : List Staged) : State := l.foldl (fun s x => s.setVal x.index x.sub x.item x.v) s

/-- The entries whose values a set changes. -/
def State.changedBy (s : State) (l : List Staged) : List Nat :=
  ((l.filter (fun x => s.val x.index x.sub x.item ≠ x.v)).map stagedKey).eraseDups

/-- An entry of the set was changed by a commit later than the epoch the set recorded (R50). -/
def State.staleSet (s : State) (epoch : Nat) (l : List Staged) : Bool :=
  l.any (fun x => tget 0 s.dict.changed (stagedKey x) > epoch)

/-- What the mode or the life-cycle state bars a set (R246, R420, R439). -/
def State.setBarred (s : State) (l : List Staged) : Option Nat :=
  let gated := (s.changedBy l).any (fun k => keyIndex k = 0x6803)
  if s.modes.mode = .handover then some Abort.notInThisMode
  else if gated && s.modes.mode ≠ .configure && s.modes.mode ≠ .maintenance then some Abort.notInThisMode
  else if s.sec.lc = 2 && l.any (fun x => x.index = 0x4020 && x.sub = 2 && x.v = .num 1) then some Abort.notInThisLifeCycleState
  else none

/-- The first check of R50 that a set fails: its abort code and the offending entry. -/
def State.commitBar (s : State) (epoch : Nat) (l : List Staged) : Option (Nat × Nat) :=
  if l.isEmpty then some (Abort.nothingStaged, 0)
  else if s.dict.pendingCommit.isSome || s.pair.commit.isSome then some (Abort.commitPending, 0)
  else if s.flash.wp then some (Abort.configurationWriteProtected, 0)
  else if s.staleSet epoch l then some (Abort.staleStagingSet, 0)
  else match s.setBarred l with
    | some c => some (c, 0)
    | none =>
      match s.firstOffender (s.withSet l) (s.changedBy l) with
      | some k => some (Abort.configurationInconsistent, k)
      | none =>
        match s.dict.lastApply with
        | some t => if s.clock < ticksMs 250 + t then some (Abort.commitRateExceeded, 0) else none
        | none => none

/-- The instant that a session's schedule selects, or why it is refused (R53). -/
def State.commitWhen (s : State) (n : Nat) : Except Nat When :=
  match s.ownGet n 0x1220 2 with
  | 0 => .ok .now
  | 1 =>
    match wtRead (beBytes 14 (s.ownGet n 0x1220 3)) with
    | none => .error Abort.valueOutOfRange
    | some w =>
      if w < s.time.wt + 10000000 * nsU then .error Abort.commitTooSoon
      else if w > s.time.wt + 86400 * 1000000000 * nsU then .error Abort.commitTargetTooFar
      else .ok (.wt w)
  | _ =>
    let k := s.ownGet n 0x1220 4
    let cy := s.ownGet n 0x1220 5
    if s.cycleDist k cy < 2 then .error Abort.commitTooSoon
    else if s.cycleDist k cy > 2 ^ 23 then .error Abort.commitTargetTooFar
    else .ok (.cycle k cy)

/-! ### The apply instant (R51) -/

/-- The items of the changed entries in an index range. -/
def changedItems (keys : List Nat) (lo hi : Nat) : List Nat :=
  ((keys.filter (fun k => lo ≤ keyIndex k && keyIndex k ≤ hi)).map keyItem).eraseDups

/-- The subs of the changed entries of an index. -/
def changedSubs (keys : List Nat) (i : Nat) : List Nat := ((keys.filter (fun k => keyIndex k = i)).map keySub).eraseDups

/-- Channels whose size or binding changes are emptied, and groups they belong to fail (R172, R186). -/
def State.applyEmpty (s : State) (keys : List Nat) : State :=
  let l := (changedItems keys 0x5001 0x5002 ++ changedItems keys 0x5005 0x5005).eraseDups
  let s := s.groupFailAll (fun r => (s.members r.g).any l.contains) (.emptied l)
  l.foldl (fun s c => let t := s.chanEmpty c; t.setChan c { t.chan c with inPacket := false, waited := false }) s

/-- Engines whose objects changed stop and restart (R233); wrap values alone are held pending (R229); a program that is replaced is written
anew. -/
def State.applyEngines (s : State) (keys : List Nat) : State :=
  let again := ((keys.filter (fun k => 0x6001 ≤ keyIndex k && keyIndex k ≤ 0x600C && keyIndex k ≠ 0x6004)).map keyItem).eraseDups
  let s := (changedItems keys 0x6004 0x6004).foldl (fun s e =>
    if (s.eng e).st = .retired then s else s.wrapWrite e (s.o 0x6004 1 e) (s.o 0x6004 2 e)) s
  let s := (List.range 16).foldl (fun s c =>
    if (changedSubs keys (0x6100 + c)).isEmpty then s else s.setCluster c { s.cluster c with badWords := [] }) s
  again.foldl (fun s e =>
    let s := s.engineStop e
    if s.o 0x6001 0 e = 0 then s
    else if s.enginesRun e then s.engineStart e
    else if s.modes.mode = .doze then (s.engineStart e).enginePark e 6
    else s) s

/-- Lock groups whose membership changed return to idle (R195, R197): their running members are held before their first instruction. An engine
that waits in group idle and has left every group starts. -/
def State.applyLocks (s before : State) : State :=
  let gs := (List.range 64).filter (fun g => s.lockMembers g ≠ before.lockMembers g)
  let s := gs.foldl (fun s g =>
    let s := s.setLock g { s.lock g with running := false, starting := false, barrier := false }
    (s.lockMembers g).foldl (fun s e =>
      if (s.eng e).st = .running then let s := s.engHalt e; s.setEng e (s.engIdle e) else s) s) s
  (gs.flatMap before.lockMembers).foldl (fun s e =>
    if (s.eng e).st = .groupIdle && (s.engLock e).isNone then s.engineStart e else s) s

/-- Channels whose binding changed leave quarantine (R199). -/
def State.applyQuarantine (s : State) (keys : List Nat) : State :=
  (changedItems keys 0x5001 0x5002).foldl (fun s c => s.setChan c { s.chan c with quarantined := false }) s

/-- Trackers whose objects or tap changed search again, and every entry of them fails (R280, R292); a change of state is an event. -/
def State.applyTrackers (s before : State) (keys : List Nat) : State :=
  let tapped := (changedItems keys 0x500A 0x500A).flatMap (fun c => [before.o 0x500A 0 c, s.o 0x500A 0 c])
  ((List.range 4).filter (fun k => !(changedSubs keys (0x3400 + k)).isEmpty || tapped.contains k)).foldl
    (fun s k =>
      let s := (s.calEndAll 4 8 (fun x => x.trk = k)).setTrk k {}
      if s.trkState k = before.trkState k then s else s.event .calendar [0x10000 + k, s.trkState k, 0]) s

/-- Filter runs begin again where FILT or FILTER_DIV changed, and the filtered level stands meanwhile (R245): that of a pin without a
filter was its sample. -/
def State.applyFilters (s before : State) (keys : List Nat) : State :=
  (List.range 16).foldl (fun s b =>
    let all := (changedSubs keys 0x6802).contains (b + 1)
    let pins := (List.range 24).filter (fun p => all || before.pinCfg b p / 256 % 256 ≠ s.pinCfg b p / 256 % 256)
    if pins.isEmpty then s
    else
      let x := s.bank b
      let filt := pins.foldl (fun (v : BitVec 24) p => if before.pinSample b p then v ||| (1#24 <<< p) else v &&& ~~~(1#24 <<< p)) x.filt
      s.setBank b { x with filt := filt, runs := pins.foldl (fun t p => tset 0 t p s.clock) x.runs }) s

/-- A bank whose declared voltage changed is unpowered (R241), and filters whose settings changed begin again (R245). -/
def State.applyBanks (s before : State) (keys : List Nat) : State :=
  let s := s.applyFilters before keys
  (changedSubs keys 0x6800).foldl (fun s i =>
    let b := i - 1
    let x := s.bank b
    let s := s.setBank b { x with unpowered := true, mismatches := 0, matchSince := none }
    if x.unpowered then s
    else ((s.bump 0x6821 i).levelSet 0x34 b true).report { source := 0x34, syndrome := b + x.seen * 2 ^ 24 }) s

/-- Time settings that changed (R258, R264, R271, R272): a new source is a master change, a strobe line begins anew, and the next PPS_OUT edge is that of
the new offset. -/
def State.applyTime (s : State) (keys : List Nat) : State :=
  let lines := (changedSubs keys 0x3060 ++ changedSubs keys 0x3061).eraseDups
  let s := lines.foldl (fun s i => { s with time := { s.time with
    strobeFrozen := tset [] s.time.strobeFrozen (i - 1) [], strobeFrom := tset 0 s.time.strobeFrom (i - 1) s.time.wt } }) s
  let s := if (changedSubs keys 0x3051).contains 1 then
      { s with time := { s.time with ppsFrozen := none, ppsIdx := s.ppsCount s.nsCount } } else s
  let s := if (changedSubs keys 0x3020).contains 1 then
      State.masterChange { s with time := { s.time with ppsOkAt := some s.clock, irigAt := some s.clock } } s.time.root
        (syncCode s.time.syncPort) (syncCode s.time.syncPort) true
    else s
  if keys.any (fun k => keyIndex k = 0x3020 || keyIndex k = 0x3040) then s.updateRoot.ptpDecide else s

/-- Controllers enabled or disabled join or leave their bus (R353), a deeper queue takes waiting session frames (R362), and a change of
TT_MODE leaves the schedule (R374), though not the halted state (R375). -/
def State.applyCan (s : State) (keys : List Nat) : State :=
  let on := ((keys.filter (fun k => keyIndex k = 0x7001 && keySub k = 1)).map keyItem).eraseDups
  let tt := ((keys.filter (fun k => keyIndex k = 0x7030 && keySub k = 1)).map keyItem).eraseDups
  let s := on.foldl (fun s k =>
    if !s.canEnabled k then s.drew.canLeave k (s.freeNat 1 = 1)
    else if canBusMode s.modes.mode then s.setCtl k { s.ctl k with state := 1 }
    else s) s
  let s := ((keys.filter (fun k => keyIndex k = 0x7002 && keySub k = 1)).map keyItem).foldl (fun s k => s.canFill k) s
  tt.foldl (fun s k => s.setCtl k { s.ctl k with
    tt := if (s.ctl k).tt = 4 then 4 else 0, lastRef := none, master := false, window := none, begun := false, ref := none, exclusive := none }) s

/-- Lines and fills of the prefetch buffer go (R394): a fill in flight still answers its read. -/
def State.pfClear (s : State) : State :=
  { s with bridge := { s.bridge with
    lines := [], fills := s.bridge.fills.map (fun f : PfFill => { f with spoiled := true }) } }

/-- Windows whose objects changed load into their registers (R387), and the prefetch buffer is emptied (R394). -/
def State.loadWindows (s : State) (l : List Nat) : State :=
  if l.isEmpty then s else l.foldl (fun s w => { s with bridge := { s.bridge with windows := tset {} s.bridge.windows w (s.windowObj w) } }) s.pfClear

/-- A change of the enabled instances or their rates places them again (R330). -/
def State.applyPlaces (s : State) (keys : List Nat) : State :=
  if keys.any (fun k => placedBy.contains (keyIndex k)) then s.placeNow else s

/-- What the changed entries do at the apply instant, in the units they belong to. `before` is the state just before. -/
def State.applyChanges (s before : State) (keys : List Nat) : State :=
  let s := ((s.applyQuarantine keys).applyLocks before).applyEngines keys
  let s := ((s.applyTrackers before keys).applyBanks before keys).applyTime keys
  let s := (s.applyCan keys).loadWindows (changedItems keys 0x7811 0x7811)
  let s := if (changedSubs keys 0x2005).contains 1 then
      { s with ring := { s.ring with bucket := 2000 * s.o 0x2005 1, bucketAt := s.clock } }
    else if (changedSubs keys 0x2005).contains 2 then { s with ring := { s.ring with bucket := before.bucketNow, bucketAt := s.clock } } else s
  let s := if bitOf (s.o 0x4020 1) 1 && !bitOf (before.o 0x4020 1) 1 then
      { s with cores := { s.cores with aligned := false, portWords := 0 } } else s
  let s := if (changedSubs keys 0x7820).isEmpty then s else s.pfClear
  (s.applyPlaces keys).sfgUpdate

/-- A set is applied (R51, R55, R431): the new epoch is reserved, every object takes effect together, the outcome is recorded, and the
C-class entries are left for the store. -/
def State.applySet (s : State) (l : List Staged) : State :=
  let e := max (s.o 0x1221 0) s.flash.reserved + 1
  let before := s
  let keys := s.changedBy l
  let s := s.journalWrite [{ typ := 4, val := e }]
  let s := { s with flash := { s.flash with reserved := e } }.applyEmpty keys
  let s := (s.withSet l).setO 0x1221 0 0 e
  let s := { s with dict := { s.dict with
    changed := l.foldl (fun t x => tput (stagedKey x) e t) s.dict.changed,
    lastApply := some s.clock,
    toStore := some (s.dict.toStore.getD [] ++ l) } }
  let s := s.applyChanges before keys
  ((s.setO 0x1222 2 0 e).setO 0x1222 3 0 s.st32).commitResult 0 0 0

/-- A mirrored form of a set, each entry with the format of its group (R475, R478). -/
def State.mirrorSet (s : State) (l : List Staged) : List MirrorEntry :=
  l.map (fun x => { index := x.index, sub := x.sub, item := x.item, v := x.v, format := tget 0 s.flash.formats (setGroup x.index x.sub) })

/-- This hub's commits are mirrored: it is the pair's claim holder (R476). -/
def State.mirrors (s : State) : Bool := s.pairMember && s.holds

/-! ### The commands -/

/-- A commit fails: its outcome is recorded and its set stays staged (R50, R55). -/
def State.commitFail (s : State) (n code off : Nat) : State := (s.commitResult code (off / 256) (off % 256)).answer n (.abort code)

/-- Commit the session's set (R50–R55). At once on a hub without a partner; 500 µs later, on both hubs, from a claim holder (R477); else
into the pending slot. -/
def State.commitNow (s : State) (n : Nat) : State :=
  let x := s.session n
  match s.commitBar x.epoch x.staging with
  | some (c, off) => s.commitFail n c off
  | none =>
    match s.commitWhen n with
    | .error c => s.commitFail n c 0
    | .ok w =>
      let l := x.staging
      let t := s.setSession n { x with staging := [] }
      match w with
      | .now =>
        if s.mirrors then
          let ns := 500000 + s.nsCount
          let t := t.mirror (.commit (s.mirrorSet l) ns)
          { t with pair := { t.pair with commit := some (l, ns), commitSeq := t.pair.txSeq, commitBy := some n } }
        else ((t.applySet l).answer n (.ok [])).closePaths
      | .wt _ =>
        { t with dict := { t.dict with pendingCommit := some { owner := some n, set := l, epoch := x.epoch, at_ := w } } }.answer n (.ok [])
      | .cycle k cy =>
        let phi := s.phiTarget k cy 0
        let c : PendingCommit := {
          owner := some n, set := l, epoch := x.epoch, at_ := w, phiT := phi, fire := s.fireEdge k 0 phi }
        { t with dict := { t.dict with pendingCommit := some c } }.answer n (.ok [])

/-- COMMIT_CMD 1. -/
def execCommit (n : Fin 32) (s : State) : Host.Outcome State Fault Refusal :=
  .next (s.asWrite n 12 0x1220 1 (fun s => s.commitNow n))

/-- Discard a session's staging set (R54). -/
def State.discardSet (s : State) (n : Nat) : State := s.setSession n { s.session n with staging := [] }

/-- COMMIT_CMD 2. -/
def execDiscard (n : Fin 32) (s : State) : Host.Outcome State Fault Refusal := .next (s.asWrite n 12 0x1220 1 (fun s => s.act n (.ok (s.discardSet n))))

/-- Bytes of data in a set. -/
def stagedBytes (l : List Staged) : Nat :=
  (l.map (fun x => match x.v with
    | .bytes b => b.length
    | .num _ => match Desc.find x.index x.sub with | some d => d.ty.bytes | none => 0)).sum

/-- Cancel the session's own pending commit: its set returns to the session, behind nothing newer of the same entries (R54). DESIGN CHOICE:
a set that would then exceed the bounds of R49 is not returned, and the commit stays pending; a cancel by its own session is no outcome for
0x1222 (R55). -/
def State.cancelOwn (s : State) (n : Nat) : Act :=
  match s.dict.pendingCommit with
  | none => .error Abort.nothingStaged
  | some c =>
    if c.owner ≠ some n then .error Abort.nothingStaged
    else
      let x := s.session n
      let l := c.set.filter (fun e => !x.staging.any (fun y => stagedKey y = stagedKey e)) ++ x.staging
      if l.length > 4096 || stagedBytes l > 65536 then .error Abort.stagingSetFull
      else
        let s := { s with dict := { s.dict with pendingCommit := none } }
        .ok (s.setSession n { x with staging := l, epoch := c.epoch })

/-- COMMIT_CMD 3. -/
def execCancelOwnCommit (n : Fin 32) (s : State) : Host.Outcome State Fault Refusal := .next (s.asWrite n 12 0x1220 1 (fun s => s.act n (s.cancelOwn n)))

/-- Cancel the pending commit of any session: its set is discarded and the outcome recorded (R54). -/
def State.cancelAny (s : State) : Act :=
  match s.dict.pendingCommit with
  | none => .error Abort.nothingStaged
  | some _ => .ok (s.commitDrop Abort.commitCancelled)

/-- COMMIT_CMD 4. -/
def execCancelAnyCommit (n : Fin 32) (s : State) : Host.Outcome State Fault Refusal := .next (s.asWrite n 12 0x1220 1 (fun s => s.act n s.cancelAny))

/-- The pending commit's frozen instant is reached: its set is applied (R51, R54), and mirrored by a claim holder. -/
def execCommitApply (s : State) : Host.Outcome State Fault Refusal :=
  match s.dict.pendingCommit with
  | none => .next s
  | some c =>
    match c.frozen with
    | none => .next s
    | some e =>
      if s.time.ltb < e then .next s
      else
        let s := { s with dict := { s.dict with pendingCommit := none } }
        .next (((s.mirror (.commit (s.mirrorSet c.set) s.nsCount)).applySet c.set).closePaths)

end Sys2Proof.Machine
end

