-- ==== Sys2Proof/Machine/Modes.lean ====
section
/-!
DEFINITION. Modes, reset and start-up (R58–R82): the mode requests, reset causes, the steps of start-up, the end of JOIN, DOZE and its
wake, and SHUTDOWN.
-/

namespace Sys2Proof.Machine

/-- FAIL_N is asserted (R62): in these modes, and while the core rail is out of range. -/
def State.failN (s : State) : Bool :=
  match s.modes.mode with
  | .reset | .boot | .configure | .failsafe | .shutdown => true
  | _ => s.modes.railBad

/-- A transition is in progress (R67): one that waits for the claim, a wake sequence, or a switchover. -/
def State.inTransition (s : State) : Bool := s.modes.transit || s.modes.waking || s.pair.swap.isSome

/-! ### Mode requests (R66–R68) -/

/-- The collector as code 4 in FAILSAFE finds it: a level condition still holds, so the hub stays; a HELD collector becomes FAULTED
without a history, and the hub then leaves FAILSAFE when it leaves FAULTED (R66, R457). -/
def State.heldBack (s : State) : State :=
  if s.fc.state = .held then { s with fc := { s.fc with state := .faulted, recoveries := [], byReaction := true, quietSince := s.clock } }
  else s

/-- Code 4 leaves FAILSAFE (R66). -/
def State.leaveFailsafe (s : State) : State :=
  { s with fc := { s.fc with state := .normal, recoveries := [], byReaction := false, fatal := false } }.returnService

/-- MODE_REQ 4, judged in the order of R66. The state beside an abort is what the refused request leaves. -/
def State.modeReturn (s : State) : State × Option Nat :=
  if s.returned then (s, some Abort.notInThisLifeCycleState)
  else if s.inTransition then (s, some Abort.busyRetry)
  else match s.modes.mode with
    | .configure => if s.modes.modeSel = 1 && s.modes.cfgLoaded then (s.setMode .join, none) else (s, some Abort.notInThisMode)
    | .maintenance => (s.returnService, none)
    | .failsafe => if s.levelHeld then (s.heldBack, some Abort.busyRetry) else (s.leaveFailsafe, none)
    | _ => (s.wake, some Abort.notInThisMode)

/-- The hub serves: ACTIVE, DEGRADED or STANDBY. -/
def State.serving (s : State) : Bool :=
  match s.modes.mode with
  | .active | .degraded | .standby => true
  | _ => false

/-- MODE_REQ 8: an active hub releases the Leash first (R65). -/
def State.modeMaintenance (s : State) : State × Option Nat :=
  if s.inTransition then (s, some Abort.busyRetry)
  else if !s.serving then (s.wake, some Abort.notInThisMode)
  else (s.claimRelease.setMode .maintenance, none)

/-- MODE_REQ 9. -/
def State.modeFailsafe (s : State) : State × Option Nat :=
  if s.inTransition then (s, some Abort.busyRetry)
  else if !failsafeFrom s.modes.mode then (s, some Abort.notInThisMode)
  else (State.withReports s.failsafe, none)

/-- A calendar entry or a scheduled commit falls due within 1 ms (R77, R79). -/
def State.dueSoon (s : State) : Bool :=
  let near : Nat → Bool := fun e => e ≤ ticksMs 1 + s.time.ltb
  s.phase.cal.any (fun x => calLive x.2 && near x.2.fire) ||
    (match s.dict.pendingCommit with
      | some c =>
        (match c.frozen, c.at_ with
          | some e, _ => near e
          | none, .wt w => near (s.gridAt w)
          | none, .cycle _ _ => near c.fire
          | none, .now => true)
      | none => false)

/-- MODE_REQ 10: on a single hub or a standby, in the order of R77 (R65). -/
def State.modeDoze (s : State) : State × Option Nat :=
  if s.inTransition then (s, some Abort.busyRetry)
  else if !s.serving || (s.pairMember && s.modes.mode ≠ .standby) || s.dueSoon then (s.wake, some Abort.notInThisMode)
  else
    let s := { s with modes := { s.modes with dozeFrom := s.modes.mode } }
    (s.dozePark.dozeCores.traceDrainAll.dozeDram.setMode .doze, none)

/-- MODE_REQ 11: during HANDOVER it waits (R68). -/
def State.modeShutdown (s : State) : State × Option Nat :=
  if s.modes.mode = .handover then ({ s with modes := { s.modes with shutWaiting := true } }, none)
  else if s.inTransition then (s, some Abort.busyRetry)
  else match s.modes.mode with
    | .active | .degraded | .standby | .maintenance | .failsafe => (s.shutdownBegin false, none)
    | _ => (s.wake, some Abort.notInThisMode)

/-- A request with its response: a granted one is answered before its transition (R77), a refused one by its abort. -/
def State.modeReq (s : State) (n : Nat) (f : State → State × Option Nat) : State :=
  if !(s.session n).isOpen then s
  else match (f s).2 with
    | some c => (f s).1.answer n (.abort c)
    | none => (f (s.answer n (.ok []))).1

/-- MODE_REQ 4. -/
def execModeReqReturn (n : Fin 32) (s : State) : Host.Outcome State Fault Refusal := .next (s.asWrite n 6 0x1101 0 (fun s => s.modeReq n State.modeReturn))

/-- MODE_REQ 8. -/
def execModeReqMaintenance (n : Fin 32) (s : State) : Host.Outcome State Fault Refusal := .next (s.asWrite n 6 0x1101 0 (fun s => s.modeReq n State.modeMaintenance))

/-- MODE_REQ 9. -/
def execModeReqFailsafe (n : Fin 32) (s : State) : Host.Outcome State Fault Refusal := .next (s.asWrite n 6 0x1101 0 (fun s => s.modeReq n State.modeFailsafe))

/-- MODE_REQ 10. -/
def execModeReqDoze (n : Fin 32) (s : State) : Host.Outcome State Fault Refusal := .next (s.asWrite n 6 0x1101 0 (fun s => s.modeReq n State.modeDoze))

/-- MODE_REQ 11. -/
def execModeReqShutdown (n : Fin 32) (s : State) : Host.Outcome State Fault Refusal := .next (s.asWrite n 6 0x1101 0 (fun s => s.modeReq n State.modeShutdown))

/-! ### Reset causes (R69) -/

/-- RESET_CMD or RESET_CTRL 0x5A01. -/
def execResetCmdWarm (s : State) : Host.Outcome State Fault Refusal := .next (s.beginReset 4)

/-- RESET_CMD or RESET_CTRL 0x5A02. -/
def execResetCmdRecovery (s : State) : Host.Outcome State Fault Refusal := .next (s.beginReset 5)

/-- A pulse of `lowNs` on a reset pin (R536): below `least` it never resets the hub, from `sure` on it always does, and in between the
part decides (a free choice). -/
def State.resetPulse (s : State) (least sure lowNs cause : Nat) : State :=
  if lowNs < least then s
  else if lowNs ≥ sure then s.beginReset cause
  else if s.freeNat 1 = 1 then s.drew.beginReset cause else s.drew

/-- PORST_N was low for `lowNs` (R69, R536). -/
def execPorstNAssert (lowNs : Nat) (s : State) : Host.Outcome State Fault Refusal := .next (s.resetPulse 2000 10000 lowNs 1)

/-- A rail has been out of range for `ns` (0: it is back in range); for more than 2 µs it is a reset cause (R69). Rails 0–3 are the core,
the two SerDes and the auxiliary rail. -/
def execSupplyOutOfRange (rail : Nat) (ns : Nat) (s : State) : Host.Outcome State Fault Refusal :=
  if rail > 3 then .next s
  else
    let s := if ns ≤ 2000 then s else s.beginReset 2
    .next (if rail = 0 then s.coreRail (ns ≠ 0) else s)

/-- WRST_N was low for `lowNs` (R69, R536). -/
def execWrstNAssert (lowNs : Nat) (s : State) : Host.Outcome State Fault Refusal := .next (s.resetPulse 200 1000 lowNs 3)

/-- REFCLK out of range for 10 µs. -/
def execRefclkLoss (ns : Nat) (s : State) : Host.Outcome State Fault Refusal :=
  if ns < 10000 then .next s
  else
    let s := s.beginReset 7
    .next { s with modes := { s.modes with refclkOk := false } }

/-- A PLL out of lock for 10 µs (R524). -/
def execPllLockLoss (_ : Fin 3) (ns : Nat) (s : State) : Host.Outcome State Fault Refusal := .next (if ns ≥ 10000 then s.beginReset 9 else s)

/-! ### Start-up (R71–R76) -/

/-- Every cause has gone: straps are latched and the hub enters BOOT (R71). A new mask is drawn (R404), the fault-record queue starts with
its marker (R265), interrupted erases are taken up again (R428), and a life-cycle transition without its target goes on (R419). -/
def execResetEnd (modeSel : Fin 4) (pairId : Bool) (s : State) : Host.Outcome State Fault Refusal :=
  if s.modes.mode ≠ .reset then .next s
  else
    let s := { s with
      modes := { s.modes with modeSel := modeSel, pairId := pairId, resetEndAt := s.clock, refclkOk := true, railBad := false, causes := [] }
      sec := { s.sec with mask := s.freeNat 256 } }
    let s := (s.drew.setMode .boot).faultPush (faultMarker 2 (s.time.wt / 2 ^ 32))
    let s := if s.flash.wp then s.degrade 4 true else s
    let s := s.eraseAgain
    match s.sec.intent with
    | none => .next s
    | some t =>
      let (u, done) := s.drew.lcRun t (s.freeNat 1 = 1)
      .next (if done then u.beginReset 4 else u)

/-- The PLLs are locked and the ring ports begin training (R74). -/
def execPllLocked (s : State) : Host.Outcome State Fault Refusal :=
  if s.modes.mode ≠ .boot || s.modes.pllLocked then .next s
  else
    let s := { s with modes := { s.modes with pllLocked := true, plls := [0, 1, 2] } }
    .next ([Port.a, Port.b].foldl (fun s p =>
      if s.unused p then s else (s.setPort p { s.port p with training := !(s.port p).trained }).synthLock p) s)

/-- The repair map is applied (R74, R495). A flash device that is missing or unsuitable holds the hub in BOOT (R423). -/
def execRepairMapApply (s : State) : Host.Outcome State Fault Refusal :=
  if s.modes.mode ≠ .boot || !s.modes.pllLocked || s.modes.repairDone then .next s
  else match [0, 1].find? (fun cs => !Config.flashOk cs) with
    | some cs => .next (s.report { source := 0x84, syndrome := cs })
    | none =>
      let s := s.repairApply
      let s := { s with modes := { s.modes with repairDone := true } }
      .next ((s.setO 0x1007 1 0 (Config.flashMiB 0)).setO 0x1007 2 0 (Config.flashMiB 1))

/-- BOOT loads from flash (R71, R75, R419). -/
def State.bootsFlash (s : State) : Bool :=
  s.modes.mode = .boot && s.modes.repairDone && s.modes.modeSel ≠ 3 && !s.modes.recovery && s.sec.lc ≠ 4

/-- The slots in BOOT's order, without those already refused (R432, R75): the trial at reset, the committed one, the others. -/
def State.bootOrder (s : State) : List Nat :=
  let first := match s.flash.trial with | some t => if t.atReset then [t.slot] else [] | none => []
  let second := match s.flash.committed with | some c => [c] | none => []
  ((first ++ second ++ [0, 1]).eraseDups).filter (fun i => !s.modes.triedImages.contains i)

/-- What a slot holds in flash: what the state knows of it, else what is read. -/
def State.slotBytes (s : State) (i : Nat) (given : List Byte) : List Byte := if (s.imgSlot i).image.isEmpty then given else (s.imgSlot i).image

/-- An image is refused at boot: source 0x82 names the slot and the abort reason, and the next slot is tried (R75). -/
def State.bootRefuse (s : State) (i code : Nat) : State :=
  { s with modes := { s.modes with triedImages := i :: s.modes.triedImages, headerOk := none } }.report
    { source := 0x82, syndrome := i, address := code }

/-- The header of the slot in turn is checked (R433, R434). -/
def execImageHeaderChecked (slot : Fin 2) (header : List Byte) (s : State) : Host.Outcome State Fault Refusal :=
  if !s.bootsFlash || s.modes.headerOk.isSome || s.bootOrder.head? ≠ some slot.val then .next s
  else match s.headerRefused (s.slotBytes slot header) with
    | some c => .next (s.bootRefuse slot c)
    | none => .next { s with modes := { s.modes with headerOk := some slot.val } }

/-- An entry of the stored configuration. -/
def State.storedO (s : State) (index sub : Nat) : Nat := valNat (tgetF objDefaultKey s.store (objKey index sub 0))

/-- DDR4 training ends (R146, R148): a device that fails holds the hub in BOOT; a rate below DDR_RATE is reported. After a warm reset
this is the end of self-refresh. -/
def execDdrTrainingDone (rate : Nat) (failLane : Option Nat) (s : State) : Host.Outcome State Fault Refusal :=
  if s.modes.mode ≠ .boot || !s.modes.pllLocked || s.modes.ddrReady then .next s
  else if failLane.isNone && (! [1600, 1866, 2133, 2400, 2666].contains rate || rate > s.storedO 0x2201 0) then .next s
  else match failLane with
    | some l => .next (s.report { source := 0x17, syndrome := l })
    | none =>
      let s := { s with
        modes := { s.modes with ddrReady := true }
        sw := { s.sw with trained := true, ddrRate := rate, selfRefresh := false } }
      let s := s.setO 0x1006 0 0 Config.dramMiB
      .next (if rate < s.storedO 0x2201 0 then s.report { source := 0xA1, syndrome := 7 } else s)

/-- The image body has been loaded (R74, R75): it runs, and the hub enters CONFIGURE; before that, log records that a warm reset kept are
written to flash (R70). -/
def execImageLoadDone (slot : Fin 2) (body : List Byte) (s : State) : Host.Outcome State Fault Refusal :=
  if !s.bootsFlash || s.modes.headerOk ≠ some slot.val || !s.modes.ddrReady then .next s
  else
    let b := s.slotBytes slot body
    if !bodyOk b then .next (s.bootRefuse slot Abort.imageBodyHashMismatch)
    else
      let old := s.imgSlot slot
      let s := s.setImgSlot slot { slotOf b (if old.state = 0 then 1 else old.state) with key0 := imgField b 37 1 = 0 }
      let s := { s with flash := { s.flash with running := slot.val } }
      let s := if s.modes.warm then s.logFlush s.station.log.waiting.length else s
      let s := (List.range 16).foldl (fun s k => s.setCoreSt k { s.coreSt k with cyclesFrom := s.clock }) s
      .next (s.setMode .configure)

/-- The stored configuration becomes the applied one (R431). -/
def State.loadStored (s : State) : State :=
  { s with od := (s.store.filter (fun e => keyPers e.1 = .c)).foldl (fun t e => tsetF objDefaultKey t e.1 e.2) s.od }

/-- What the loaded configuration sets once per start (R85, R98, R148). -/
def State.cfgTaken (s : State) : State :=
  { s with
    modes := { s.modes with cfgLoaded := true }
    ring := { s.ring with node := s.o 0x2000 0, bucket := 2000 * (s.o 0x2005 1 : Nat), bucketAt := s.clock }
    sw := { s.sw with kennelMiB := s.o 0x2200 0 } }

/-- Configuration and programs are loaded (R74): migrated at an image's first start (R444), adapted to what is retired (R497–R500), with the
node number, the kennel and the bucket taken from it (R85, R98, R148) and the instances placed. The hub enters JOIN, unless MODE_SEL
0b01 holds it; a configuration that is not consistent leaves it in CONFIGURE (R65). -/
def execConfigLoadDone (s : State) : Host.Outcome State Fault Refusal :=
  if s.modes.mode ≠ .configure || s.modes.cfgLoaded then .next s
  else
    let t := (s.loadStored.firstStart s.flash.running).adaptRetired.cfgTaken.placeNow.sfgUpdate
    .next (
      if (t.firstOffender t []).isSome then { t with modes := { t.modes with cfgLoaded := false } }
      else if t.modes.modeSel = 1 then t else t.setMode .join)

/-- The writes that waited for DRAM's initialisation are carried out in their order and answered (R74). -/
def State.dramRelease (s : State) : State :=
  s.dramWait.foldl (fun s x => (s.dramStore x.2.1 x.2.2).heldEnd x.1 none) { s with dramWait := [] }

/-- Background initialisation of DRAM is complete (R74). -/
def execDramInitDone (s : State) : Host.Outcome State Fault Refusal :=
  .next (if s.modes.ddrReady && !s.modes.dramInit then { s with modes := { s.modes with dramInit := true } }.dramRelease else s)

/-- 100 ms after the end of reset the endpoint answers configuration requests (R73). -/
def execPcieEndpointReady (s : State) : Host.Outcome State Fault Refusal :=
  .next (if s.modes.mode ≠ .reset && s.clock ≥ ticksMs 100 + s.modes.resetEndAt then { s with modes := { s.modes with pcieReady := true } } else s)

/-! ### The end of JOIN (R65, R76) -/

/-- What the end of start-up leaves: windows loaded (R387), and the host interrupt of a kept first error (R452). -/
def State.startDone (s : State) : State :=
  let s := s.loadWindows (s.itemsIn 0x7811 0x7811)
  if s.fc.first.valid && s.fc.first.fromReset && bitOf (s.reaction s.fc.first.source) 3 then s.hostInt 1 else s

/-- The mode that JOIN ends in (R65): FAILSAFE while the collector is HELD, MAINTENANCE by MODE_SEL 0b10 or on a RETURNED hub, DEGRADED at
the time-out (R76), else the mode of service. A hub of a pair whose ports have joined seeks the claim first where its partner does not
hold it. -/
def State.joinEnd (s : State) (late : Bool) : State :=
  let s := s.startDone
  if s.fc.state = .held then State.withReports s.failsafe
  else
    let s := if late then s.degrade 5 true else s
    if s.returned || s.modes.modeSel = 2 then s.setMode .maintenance
    else if late then s.setMode .degraded
    else s.returnService

/-- Both ring ports have joined. -/
def execJoinComplete (s : State) : Host.Outcome State Fault Refusal :=
  .next (if s.modes.mode = .join && !s.modes.transit && s.bothJoined then s.joinEnd false else s)

/-- The join time-out is reached with a port still missing. -/
def execJoinTimeout (s : State) : Host.Outcome State Fault Refusal :=
  .next (if s.modes.mode = .join && !s.modes.transit && !s.bothJoined && s.clock ≥ ticksMs (s.o 0x1110 0) + s.modes.entryAt then s.joinEnd true
    else s)

/-! ### DOZE (R77–R79) -/

/-- The wake timer: 1 ms before the earliest entry or commit (R79). -/
def execWakeTimer (s : State) : Host.Outcome State Fault Refusal := .next (if s.dueSoon then s.wake else s)

/-- The wake sequence ends in the mode before DOZE (R79), which the causes of DEGRADED then move. -/
def State.wakeUp (s : State) : State :=
  let s := s.dozeOut
  (s.setMode s.modes.dozeFrom).degradeSettle

/-- Clocks, DRAM, links and cores are back. -/
def execWakeSequenceDone (s : State) : Host.Outcome State Fault Refusal :=
  .next (if s.modes.mode = .doze && s.modes.waking then s.wakeUp else s)

/-! ### SHUTDOWN (R80, R81) -/

/-- What the flush writes: log, configuration, energy and repair map; in a SHUTDOWN from BOOT or CONFIGURE the journal and the anchor alone. -/
def State.flushAll (s : State) : State :=
  let early := s.modes.prev = .boot || s.modes.prev = .configure
  let s := if early then s
    else
      let s := s.logFlush s.station.log.waiting.length
      (match s.dict.toStore with | some l => s.commitStored l | none => s).energyStore
  s.anchorUpdate

/-- The ring ports go to electrical idle: their links are down. -/
def State.ringIdle (s : State) : State :=
  [Port.a, Port.b].foldl (fun s p => s.setPort p { (portUnjoin (s.port p)) with up := false, trained := false, training := false }) s

/-- The flush ends: the leave announcement goes out, or, after a supply warning, the hub may halt. -/
def execShutdownFlushDone (s : State) : Host.Outcome State Fault Refusal :=
  if s.modes.mode ≠ .shutdown || s.modes.shut ≠ .flush then .next s
  else
    let s := s.flushAll
    if s.modes.shutWarned then .next { s with modes := { s.modes with shut := .bist }, bist := { s.bist with running := none } }
    else
      let s := [Port.a, Port.b].foldl (fun s p => if s.linkLive p then s.supervise p [2, 0, 0, 0, 0, 0, 0, 0] [] else s) s
      .next { s with modes := { s.modes with shut := .leave, leaveAt := s.clock } }

/-- 1 ms after the announcement: the ports go idle, and slices may start. -/
def execLeaveIdleTimer (s : State) : Host.Outcome State Fault Refusal :=
  if s.modes.mode ≠ .shutdown || s.modes.shut ≠ .leave || s.clock < ticksMs 1 + s.modes.leaveAt then .next s
  else
    let s := s.ringIdle
    .next { s with modes := { s.modes with shut := .bist } }.bistStart

/-- The hub halts once no slice runs (R80 step 7): field channels are off and HALTED_CAUSE is kept. -/
def execHalt (s : State) : Host.Outcome State Fault Refusal :=
  if s.modes.mode ≠ .shutdown || s.modes.shut ≠ .bist || s.bist.running.isSome then .next s
  else
    let s := (s.fieldsOff.setO 0x1141 0 0 (if s.modes.shutWarned then 2 else 1)).ringIdle
    .next { s with modes := { s.modes with shut := .halted }, time := { s.time with ppsOut := false } }

/-- The warning and the sensed island bus. -/
def State.warnSet (s : State) (mv : Nat) : State := { s with power := { s.power with warn := true } }.setO 0xB850 6 0 mv

/-- An ordered SHUTDOWN goes on as the shortened one (R81): no slice runs, and field channels are off. -/
def State.shutCut (s : State) : State :=
  let step := if s.modes.shut = .leave then .bist else s.modes.shut
  { s with modes := { s.modes with shutWarned := true, shut := step }, bist := { s.bist with running := none } }.fieldsOff

/-- The island bus has stayed below ISLAND_WARN for 20 µs with no usable feed (R508): the shortened SHUTDOWN, from every mode but RESET; one
that runs already is shortened (R81). -/
def execIslandSupplyWarning (mv : Nat) (us : Nat) (s : State) : Host.Outcome State Fault Refusal :=
  if s.modes.mode = .reset || s.power.warn || s.feedOk 0 || s.feedOk 1 || mv ≥ s.o 0xB800 5 || us < 20 then .next s
  else
    let t := (s.warnSet mv).energyStore
    .next (if s.modes.mode ≠ .shutdown then t.shutdownBegin true else if s.modes.shut = .halted then t else t.shutCut)

end Sys2Proof.Machine
end

