-- ==== Sys2Proof/Machine/Update.lean ====
section
/-!
DEFINITION. The update of images (R435–R443): preparing a slot, receiving and verifying an image, its activation by handover or at reset,
the trial, and the recovery loader.
-/

namespace Sys2Proof.Machine

/-- The slot that an update takes: neither committed nor running (R435). -/
def State.updateSlot (s : State) : Option Nat := [0, 1].find? (fun i => s.flash.committed ≠ some i && s.flash.running ≠ i)

/-- The physical sectors of image slot `i` (R424). -/
def State.slotSectors (s : State) (i : Nat) : List Nat := (List.range 256).map (fun j => s.phys (lsec (if i = 0 then 3 else 6) j))

/-- A failure of an update: its code is kept, the slot becomes invalid, and the update is over. -/
def State.updFail (s : State) (code : Nat) : State :=
  ({ s with flash := { s.flash with updState := 0, owner := none } }.setO 0x9012 2 0 code).setSlotSt s.flash.updSlot 2

/-! ### Prepare and receive (R435) -/

/-- UPD_CMD 1. -/
def State.updPrepare (s : State) (n : Nat) : Act :=
  if s.flash.wp then .error Abort.configurationWriteProtected
  else if s.flash.updState ≠ 0 then .error Abort.updateInProgress
  else match s.updateSlot with
    | none => .error Abort.notInThisMode
    | some i =>
      let s := { s with flash := { s.flash with updState := 1, owner := some n, updSlot := i } }
      .ok (((s.setImgSlot i {}).journalWrite [slotRecord i 0]).anchorUpdate.eraseQueue (s.slotSectors i) |>.setO 0x9012 3 0 0)

/-- UPD_CMD 1 of session `n`. -/
def execUpdPrepare (n : Fin 32) (s : State) : Host.Outcome State Fault Refusal := .next (s.asWrite n 4 0x9010 0 (fun s => s.act n (s.updPrepare n)))

/-- A sector of the update slot still waits for its erase, or is being erased. -/
def State.slotErasing (s : State) : Bool :=
  let l := s.slotSectors s.flash.updSlot
  let busy := s.flash.eraseQ ++ (s.flash.erase.map (fun e : Erase => e.sector)).toList
  busy.any (fun p => l.contains p)

/-- The slot is erased: state 2. -/
def execUpdSlotReady (s : State) : Host.Outcome State Fault Refusal :=
  .next (if s.flash.updState = 1 && !s.slotErasing then { s with flash := { s.flash with updState := 2 } } else s)

/-- Why a segment of IMAGE_DATA is refused before it is programmed (R38, R435). -/
def State.segmentBar (s : State) (n off len : Nat) : Option Nat :=
  let have_ := (s.imgSlot s.flash.updSlot).image.length
  if s.flash.updState = 1 then some Abort.busyRetry
  else if s.flash.owner ≠ some n || (s.flash.updState ≠ 2 && s.flash.updState ≠ 3) then
    some (if s.flash.owner.isSome then Abort.updateInProgress else Abort.notInThisMode)
  else if off ≠ have_ then some Abort.segmentOutOfSequence
  else if have_ + len > 16777216 then some Abort.valueTooLong
  else none

/-- Bytes are programmed into the update slot. -/
def State.segmentPut (s : State) (data : List Byte) (last : Bool) : State :=
  let x := s.imgSlot s.flash.updSlot
  let b := x.image ++ data
  ({ s with flash := { s.flash with updState := if last then 4 else 3 } }.setImgSlot s.flash.updSlot { x with image := b }).setO
    0x9012 3 0 b.length

/-- What the header check says once a segment has brought byte 255, or has ended the image short of it (R434). -/
def State.headerDue (s : State) (before : Nat) (last : Bool) : Option Nat :=
  let b := (s.imgSlot s.flash.updSlot).image
  if before < 256 && (b.length ≥ 256 || last) then s.headerRefused b else none

/-- A segment of IMAGE_DATA: programmed, then answered, the last one only after the verification. -/
def State.imageSegment (s : State) (n off : Nat) (data : List Byte) (last : Bool) : State :=
  match s.segmentBar n off data.length with
  | some c => s.answer n (.abort c)
  | none =>
    let t := s.segmentPut data last
    match t.headerDue off last with
    | some c => (t.updFail c).answer n (.abort c)
    | none => if last then t else t.answer n (.ok [])

/-- A segment of IMAGE_DATA of session `n`. -/
def execImageDataSegment (n : Fin 32) (off : Nat) (data : List Byte) (last : Bool) (s : State) : Host.Outcome State Fault Refusal :=
  .next (s.asWrite n 4 0x9011 0 (fun s => s.imageSegment n off data last))

/-! ### Verify (R435, R438) -/

/-- The image is cold only (R438). -/
def State.coldOnly (s : State) (b : List Byte) : Bool :=
  let run := (s.imgSlot s.flash.running).image
  (List.range 32).any (fun g => !privGroup g && imgFormat b g ≠ imgFormat run g) ||
    s.cores.svcs.any (fun x =>
      x.2.state = 2 && !Config.canImport b x.1 (match x.2.tcm with | some h => h.format | none => s.hingeFmt x.1))

/-- Answer the update's owner. -/
def State.answerOwner (s t : State) (r : Resp) : State :=
  match s.flash.owner with
  | some n => t.answer n r
  | none => t

/-- The read-back hash is complete. -/
def execUpdVerifyDone (s : State) : Host.Outcome State Fault Refusal :=
  if s.flash.updState ≠ 4 then .next s
  else
    let i := s.flash.updSlot
    let b := (s.imgSlot i).image
    if !bodyOk b then .next (s.answerOwner (s.updFail Abort.imageBodyHashMismatch) (.abort Abort.imageBodyHashMismatch))
    else
      let st := if s.coldOnly b then 6 else 5
      let t := ((s.setImgSlot i (slotOf b 1)).journalWrite [slotRecord i 1]).anchorUpdate
      .next (s.answerOwner { t with flash := { t.flash with updState := st } } (.ok []))

/-! ### Activation (R438, R443) -/

/-- What UPD_STATE alone bars: the activation of a slot that is not verified, or is rejected (R441). -/
def State.activateBar (s : State) (cold : Bool) : Option Nat :=
  match s.flash.updState with
  | 5 => none
  | 6 => if cold then none else some Abort.notInThisMode
  | 0 =>
    match s.updateSlot with
    | some i => if (s.imgSlot i).state = 5 then some Abort.imageHeaderRefused else some Abort.notInThisMode
    | none => some Abort.notInThisMode
  | 7 => some Abort.updateInProgress
  | 8 => some Abort.updateInProgress
  | _ => some Abort.busyRetry

/-- The mode allows an activation (R438, R443). -/
def State.mayActivate (s : State) : Bool := if s.pairMember then s.modes.mode = .standby else s.serving

/-- UPD_CMD 2: the checks of R438 in their order. -/
def State.activateHandover (s : State) : Act :=
  match s.activateBar false with
  | some c => .error c
  | none =>
    if !s.mayActivate then .error Abort.notInThisMode
    else if s.dict.pendingCommit.isSome then .error Abort.commitPending
    else if s.flash.wp then .error Abort.configurationWriteProtected
    else if !s.coresUp.any (fun k => (s.svcsOn k).isEmpty) then .error Abort.notInThisMode
    else .ok { s with flash := { s.flash with updState := 7 } }

/-- UPD_CMD 2 of session `n`. -/
def execUpdActivateHandover (n : Fin 32) (s : State) : Host.Outcome State Fault Refusal := .next (s.asWrite n 4 0x9010 0 (fun s => s.act n s.activateHandover))

/-- UPD_CMD 3: the slot is marked trial at reset. -/
def State.activateReset (s : State) : Act :=
  match s.activateBar true with
  | some c => .error c
  | none =>
    if s.pairMember && s.modes.mode ≠ .standby then .error Abort.notInThisMode
    else if s.flash.wp then .error Abort.configurationWriteProtected
    else
      let t : Trial := { slot := s.flash.updSlot, atReset := true }
      .ok ({ s with flash := { s.flash with updState := 8, trial := some t } }.setSlotSt s.flash.updSlot 4)

/-- UPD_CMD 3 of session `n`. -/
def execUpdActivateReset (n : Fin 32) (s : State) : Host.Outcome State Fault Refusal := .next (s.asWrite n 4 0x9010 0 (fun s => s.act n s.activateReset))

/-- UPD_CMD 4. -/
def State.updAbandon (s : State) : Act :=
  if s.flash.wp then .error Abort.configurationWriteProtected
  else if 1 ≤ s.flash.updState && s.flash.updState ≤ 4 then .ok s.updDrop
  else .error Abort.notInThisMode

/-- UPD_CMD 4 of session `n`. -/
def execUpdAbandon (n : Fin 32) (s : State) : Host.Outcome State Fault Refusal := .next (s.asWrite n 4 0x9010 0 (fun s => s.act n s.updAbandon))

/-! ### Handover (R439) -/

/-- Steps 2 and 3: the slot is on trial, the hub enters HANDOVER, and the lowest empty core is loaded. -/
def State.handoverBegin (s : State) : State :=
  let t : Trial := { slot := s.flash.updSlot, atReset := false }
  let s := s.setSlotSt s.flash.updSlot 4
  let s := { s with
    flash := { s.flash with trial := some t, handFrom := s.modes.mode, handBack := false, target := s.emptyCore }
    cores := { s.cores with svcs := s.cores.svcs.map (fun x : Nat × Svc => (x.1, { x.2 with moved := false })) } }
  s.setMode .handover

/-- Step 1 ends: the image is in the kennel and hashed again. -/
def execHandoverImageLoaded (s : State) : Host.Outcome State Fault Refusal :=
  if s.flash.updState ≠ 7 || s.flash.trial.isSome then .next s
  else if !bodyOk (s.imgSlot s.flash.updSlot).image then .next (s.updFail Abort.imageBodyHashMismatch)
  else if !s.serving then .next { s with flash := { s.flash with updState := 5 } }
  else .next s.handoverBegin

/-- The hub leaves HANDOVER for the mode it came from, as the Leash now stands (R439, R486). -/
def State.handoverLeave (s : State) : State :=
  if s.modes.mode ≠ .handover then s
  else (if s.pairMember && !s.holds then s.setMode .standby else s.goActive).shutIfWaiting

/-- The trial image runs everywhere (R439 step 5): ACTIVE_IMAGE, its first start, and the 10 s of R440. -/
def State.handoverEnd (s : State) : State :=
  match s.flash.trial with
  | none => s
  | some t =>
    let s := { s with flash := { s.flash with
      running := t.slot, target := none, trial := some { t with since := some s.clock }, updState := 8 } }
    (s.firstStart t.slot).handoverLeave.sfgUpdate

/-- A hand-back is complete (R441): the former image runs everywhere. -/
def State.handBackEnd (s : State) : State :=
  { s with flash := { s.flash with
    running := s.flash.committed.getD (1 - s.flash.updSlot), target := none, handBack := false } }.handoverLeave

/-- The last core has moved. -/
def execHandoverComplete (s : State) : Host.Outcome State Fault Refusal :=
  if s.flash.target.isNone || !s.unmoved.isEmpty || s.pair.swap.isSome then .next s
  else if s.flash.handBack then .next s.handBackEnd
  else if s.modes.mode = .handover then .next s.handoverEnd
  else .next s

/-! ### The trial (R440, R441, R443) -/

/-- Every placed instance runs, has passed 10 hinge points on its image, and has not trapped. -/
def State.healthy (s : State) : Bool :=
  let l := s.cores.svcs.filter (fun x => x.2.core ≠ 0xFF)
  l.all (fun x => x.2.state = 2 && x.2.hinges ≥ 10 && !x.2.trapped)

/-- The trial slot becomes committed (R440). -/
def State.trialCommit (s : State) (slot : Nat) : State :=
  let s := match s.flash.committed with
    | some c => if c = slot then s else s.setSlotSt c 1
    | none => s
  let s := { s with flash := { s.flash with
    committed := some slot, trial := none, failed := 0, updState := 0, owner := none, fresh := s.pairMember } }
  (s.setSlotSt slot 3).event .update [3, slot]

/-- The image is healthy: its self-check has passed too. A hub made active on a new image by a switchover keeps its place (R443). -/
def execTrialHealthy (s : State) : Host.Outcome State Fault Refusal :=
  if !s.healthy then .next s
  else
    let s := match s.pair.newAt with
      | some t => if s.clock ≤ ticksMs 10000 + t then
          { s with pair := { s.pair with newAt := none }, flash := { s.flash with fresh := false } } else s
      | none => s
    match s.flash.trial with
    | none => .next s
    | some t =>
      match t.since with
      | none => .next s
      | some e => .next (if s.flash.running = t.slot && s.clock ≤ ticksMs 10000 + e then s.trialCommit t.slot else s)

/-- The trial's 10 s have passed. -/
def State.trialOver (s : State) : State :=
  match s.flash.trial with
  | none => s
  | some t =>
    match t.since with
    | none => s
    | some e => if s.clock < ticksMs 10000 + e then s else State.withReports s.trialFail

/-- 10 s without health fail the activation (R441); after a switchover onto a new image the pair switches back (R443). -/
def execTrialTimeout (s : State) : Host.Outcome State Fault Refusal :=
  let s := s.trialOver
  match s.pair.newAt with
  | none => .next s
  | some t =>
    if s.clock < ticksMs 10000 + t then .next s
    else
      let s := { s with
        pair := { s.pair with newAt := none }
        flash := { s.flash with fresh := false, failed := min (s.flash.failed + 1) 3 } }
      let s := s.anchorUpdate
      .next (if s.modes.mode = .active && s.holds then s.swapBegin 5 none else s)

/-! ### The recovery loader (R436) -/

/-- The boot ROM serves the recovery loader (R75, R436): by straps, by reset code 0x05, or when both images have failed. -/
def State.recoveryServes (s : State) : Bool :=
  s.modes.mode = .boot && (s.modes.modeSel = 3 || s.modes.recovery || s.bootOrder.isEmpty)

/-- The loader's four-byte status. -/
def State.recoveryStatus (s : State) (path : Path) (code : Nat) : State :=
  match path with
  | .mailbox => s.mbPut (beBytes 4 code)
  | .uart => s.emit (.uart (uartFrame (beBytes 4 code)))
  | _ => s

/-- Slot A keeps what has been received, or is refused. -/
def State.recoveryPut (s : State) (b : List Byte) (st : Nat) : State := s.setImgSlot 0 { state := st, image := b }

/-- The image in slot A is whole: it becomes committed, and the loader makes a warm reset. -/
def State.recoveryDone (s : State) (b : List Byte) : State :=
  let s := match s.flash.committed with
    | some 1 => s.setSlotSt 1 1
    | _ => s
  let s := s.setImgSlot 0 (slotOf b 1)
  ({ s with flash := { s.flash with committed := some 0, trial := none } }.setSlotSt 0 3).beginReset 4

/-- A request of up to 4 080 bytes at ascending offsets, under the checks of R434 and R435. -/
def execRecoveryLoaderRequest (path : Path) (off : Nat) (data : List Byte) (last : Bool) (s : State) : Host.Outcome State Fault Refusal :=
  if !s.recoveryServes || (path ≠ .mailbox && path ≠ .uart) then .next s
  else
    let old := if off = 0 then [] else (s.imgSlot 0).image
    let b := old ++ data
    if data.length > 4080 then .next (s.recoveryStatus path Abort.lengthMismatch)
    else if off ≠ old.length then .next (s.recoveryStatus path Abort.segmentOutOfSequence)
    else if b.length > 16777216 then .next (s.recoveryStatus path Abort.valueTooLong)
    else
      let refused := if old.length < 256 && (b.length ≥ 256 || last) then s.headerRefused b else none
      match refused with
      | some c => .next ((s.recoveryPut [] 2).recoveryStatus path c)
      | none =>
        if !last then .next ((s.recoveryPut b 0).recoveryStatus path 0)
        else if !bodyOk b then .next ((s.recoveryPut b 2).recoveryStatus path Abort.imageBodyHashMismatch)
        else .next ((s.recoveryStatus path 0).recoveryDone b)

end Sys2Proof.Machine
end

