-- ==== Sys2Proof/Machine/Registers.lean ====
section
/-!
DEFINITION. The register map (R2, R5–R11, R21–R23, R380): what every register reads as, what a read does besides, which bits of it are
reserved, which values are reserved encodings, and what a write does.
-/

namespace Sys2Proof.Machine

/-- A number from its bits: bit `i` is `f i`. -/
def bitsOf (n : Nat) (f : Nat → Bool) : Nat := ((List.range n).map (fun i => b2n (f i) * 2 ^ i)).sum

/-! ### Values -/

/-- MODE_STATUS, RESET_INFO and CLK_STATUS (R82). -/
def State.modeReg (s : State) (a : Nat) : Nat :=
  let m := s.modes
  match a with
  | 0x0 =>
    m.prev.code * 2 ^ 16 + b2n (decide (m.shut = .halted)) * 2 ^ 11 + b2n m.override * 2 ^ 10 + b2n s.inTransition * 2 ^ 9
      + b2n s.holds * 2 ^ 8 + m.mode.code
  | 0x4 => m.modeSel * 2 ^ 10 + b2n m.pairId * 2 ^ 9 + b2n m.warm * 2 ^ 8 + m.resetCause
  | 0xC => b2n m.refclkOk * 8 + bitsOf 3 (fun i => m.plls.contains i)
  | _ => 0

/-- The switch registers (R149). -/
def State.switchReg (s : State) (a : Nat) : Nat :=
  match a with
  | 0x0 => b2n s.sw.kennelLow * 2 ^ 16 + min s.freeCells 0x7FFF
  | 0x4 => bitsOf 32 (fun q => (s.queue q).spilled)
  | 0x8 => bitsOf 24 (fun q => (s.queue (32 + q)).spilled)
  | 0xC => s.swAudit
  | _ => 0

/-- The DDR controller registers (R149). -/
def State.ddrReg (s : State) (a : Nat) : Nat :=
  match a with
  | 0x0 =>
    s.sw.ddrRate % 2 ^ 16 * 2 ^ 16 + b2n s.sw.refresh2x * 16 + b2n s.sw.selfRefresh * 8 + b2n s.modes.dramInit * 4 + b2n s.sw.trained * 2
      + b2n s.sw.eccErr
  | 0x4 => s.sw.eccAddr % 2 ^ 32
  | _ => 0

/-- The code of a Shutter state (R165). -/
def ShState.code : ShState → Nat
  | .direct => 0
  | .speculating => 1
  | .draining => 2
  | .groupHeld => 3
  | .calendarHeld => 4
  | .muted => 5

/-- SHT_ENG of engine `e` (R176). -/
def State.shtEng (s : State) (e : Nat) : Nat :=
  let x := s.eng e
  x.staging.length % 16 * 2 ^ 12 + (x.ckpt.bind (fun k => k.tag)).getD 0 % 4 * 2 ^ 8 + x.sh.code

/-- The Shutter registers (R176). -/
def State.shutterReg (s : State) (a : Nat) : Nat :=
  match a with
  | 0x0 => bitsOf 4 (fun g => (s.specTag g).isSome) * 2 ^ 8 + min (s.engines.filter (fun e => engSpec e.2)).length 0xFF
  | 0x4 => b2n s.shutter.gfailValid * 2 ^ 31 + s.shutter.gfailGroup % 128 * 2 ^ 24 + s.shutter.gfailCodes % 2 ^ 24
  | a => if 0x100 ≤ a && a < 0x500 then s.shtEng ((a - 0x100) / 4) else 0

/-- First unit of channel `n` (R185). -/
def State.chanBase (s : State) (n : Nat) : Nat := ((List.range n).map (fun c => s.o 0x5005 0 c)).sum

/-- CH_PEEK (R203): the head item, or the idle item. -/
def State.chPeek (s : State) (n : Nat) : Nat :=
  match s.chanPeek n false with
  | some i => itemWord i
  | none => s.idleWord n

/-- The selected-channel block, by offset from 0x08_0100 (R203). -/
def State.chanBlock (s : State) (n a : Nat) : Nat :=
  match a with
  | 0x00 => s.o 0x5002 0 n * 2 ^ 16 + s.o 0x5001 0 n
  | 0x04 => s.chanBase n % 2 ^ 13 * 2 ^ 16 + s.o 0x5005 0 n
  | 0x08 => s.o 0x5006 0 n * 2 ^ 31 + b2n (s.specEn n) * 2 ^ 30 + s.o 0x5009 0 n % 256 * 2 ^ 16 + s.o 0x5007 0 n
  | 0x0C => s.o 0x5008 0 n % 2 ^ 24
  | 0x10 => s.chStatus n
  | 0x18 => s.chPeek n
  | _ => 0

/-- The channel registers (R203). -/
def State.chanReg (s : State) (c : Ctx) (a : Nat) : Nat :=
  let n := (s.ctx c).chSel
  if a = 0 then b2n (s.chan n).retired * 2 ^ 16 + n
  else if 0x40 ≤ a && a < 0x80 then bitsOf 32 (fun j => (s.chan (32 * ((a - 0x40) / 4) + j)).quarantined)
  else if 0x100 ≤ a && a < 0x200 then (if (s.chan n).retired then 0 else s.chanBlock n (a - 0x100))
  else 0

/-- The code of an engine state (R232). -/
def EngState.code : EngState → Nat
  | .stopped => 0
  | .running => 1
  | .parked => 2
  | .groupIdle => 3
  | .retired => 4

/-- The registers of cluster `k` (R239). -/
def State.clusterReg (s : State) (k a : Nat) : Nat :=
  let x := s.cluster k
  match a with
  | 0x0 =>
    bitsOf 16 (fun n => (s.eng (16 * k + n)).st = .parked) * 2 ^ 16 + bitsOf 16 (fun n => (s.eng (16 * k + n)).st = .running)
  | 0x4 => x.flags.toNat * 2 ^ 8 + x.flags.toNat
  | 0x8 => x.imAddr % 1024
  | 0xC => if x.badWords.contains (x.imAddr % 1024) then 0 else s.imWord k (x.imAddr % 1024)
  | _ => 0

/-- PE_WRAP (R239): the pending pair, or the values in force. -/
def wrapReg (r : EngRegs) : Nat :=
  match r.wrapPend with
  | some (b, t) => 2 ^ 31 + t % 1024 * 2 ^ 16 + b % 1024
  | none => r.wrapTop % 1024 * 2 ^ 16 + r.wrapBot % 1024

/-- PE_CAPITEM (R239). -/
def capItem (x : Engine) : Nat :=
  let i := x.item.toNat
  i / 64 * 2 ^ 30 + i / 32 % 2 * 2 ^ 29 + i / 16 % 2 * 2 ^ 28 + i % 16 * 2 ^ 24 + x.cap.toNat

/-- The selected-engine block, by offset from 0x0B_0100 (R239). -/
def engBlock (x : Engine) (a : Nat) : Nat :=
  match a with
  | 0x00 =>
    x.r.pc % 1024 * 2 ^ 16 + x.parkCause % 16 * 2 ^ 12 + b2n x.r.wrapPend.isSome * 2 ^ 8 + b2n x.f * 2 ^ 5 + b2n x.waiting * 2 ^ 4 + x.st.code
  | 0x08 => x.r.x.toNat
  | 0x0C => x.r.y.toNat
  | 0x10 => x.r.osrCnt % 32 * 2 ^ 24 + x.r.osr.toNat
  | 0x14 => x.r.isrCnt % 32 * 2 ^ 24 + x.r.isr.toNat
  | 0x18 => x.cnt.toNat
  | 0x1C => x.cmp.toNat
  | 0x20 => x.divInt % 2 ^ 16 * 2 ^ 8 + x.divFrac % 256
  | 0x24 => wrapReg x.r
  | 0x28 => x.edge % 2 ^ 32
  | 0x2C => capItem x
  | 0x30 => b2n x.cmpLatch * 2 ^ 8 + x.strobes.toNat
  | 0x34 => x.cals.toNat
  | _ => 0

/-- PE_SEL and the selected-engine block (R239). -/
def State.engineReg (s : State) (c : Ctx) (a : Nat) : Nat :=
  let e := (s.ctx c).engSel
  let gone := decide ((s.eng e).st = .retired)
  if a = 0 then b2n gone * 2 ^ 16 + e
  else if 0x100 ≤ a then (if gone then 0 else engBlock (s.eng e) (a - 0x100))
  else 0

/-- A sample has been accepted within the last 3 intervals (R275). -/
def State.synced (s : State) : Bool :=
  match s.time.lastSample with
  | some t => s.clock < t + s.samplePatience
  | none => false

/-- The time registers (R275). -/
def State.timeReg (s : State) (c : Ctx) (a : Nat) : Nat :=
  let x := s.ctx c
  match a with
  | 0x00 =>
    s.ownClass % 256 * 2 ^ 24 + s.time.root % 256 * 2 ^ 16 + s.time.steps % 256 * 2 ^ 8 + b2n (decide (s.time.slew ≠ 0)) * 16
      + b2n (decide (s.time.syncPort = some .b)) * 8 + b2n s.synced * 4 + s.time.status.code
  | 0x04 => s.st32
  | 0x0C => x.wtSecHi % 2 ^ 16
  | 0x10 => x.wtNs
  | 0x14 => x.wtFrac
  | 0x18 => s.time.incr % 2 ^ 32
  | 0x1C => s.time.incr / 2 ^ 32 % 256
  | 0x20 => s.o 0x3003 0
  | 0x24 => s.time.ppsCap % 2 ^ 32
  | 0x28 => bitsOf 8 (fun k => s.o 0x3060 (k + 1) ≠ 0)
  | _ => 0

/-- The registers of tracker `k` (R297). -/
def State.trkReg (s : State) (c : Ctx) (k a : Nat) : Nat :=
  let x := s.trk k
  match a with
  | 0x00 => min (s.o (0x3420 + k) 7) 0xFFFF * 2 ^ 16 + s.o (0x3420 + k) 8 % 8 * 16 + s.trkState k
  | 0x08 => tget 0 (s.ctx c).trkCy k
  | 0x0C => x.f % 2 ^ 24
  | 0x10 => ofSigned 24 x.r
  | 0x14 => x.lastSt % 2 ^ 32
  | _ => 0

/-- Entries armed or frozen. -/
def State.calLiveCount (s : State) : Nat := (s.phase.cal.filter (fun e => calLive e.2)).length

/-- The selected-entry block, by offset from 0x0D_1100 (R297). -/
def calBlock (x : CalEntry) (result a : Nat) : Nat :=
  match a with
  | 0x00 => x.trk % 4 * 2 ^ 30 + x.cycle % 2 ^ 24
  | 0x04 => x.angle % 2 ^ 24
  | 0x08 => ofSigned 32 x.lead
  | 0x0C => x.operand % 2 ^ 16 * 2 ^ 16 + x.action % 16
  | 0x10 => x.tag % 2 ^ 16 * 2 ^ 16 + x.repeat_ % 2 ^ 16
  | 0x18 => x.reason % 16 * 2 ^ 8 + x.st % 8
  | 0x1C => x.fireSt % 2 ^ 32
  | 0x20 => result
  | _ => 0

/-- The phase registers (R297). -/
def State.phaseReg (s : State) (c : Ctx) (a : Nat) : Nat :=
  if a < 0x100 then s.trkReg c (a / 0x40) (a % 0x40)
  else if a = 0x1000 then s.calLiveCount * 2 ^ 16 + (s.phase.cal.filter (fun e => e.2.st = 2)).length
  else if a = 0x1004 then (s.ctx c).calSel
  else if 0x1100 ≤ a then calBlock (s.cal (s.ctx c).calSel) (s.ctx c).calResult (a - 0x1100)
  else 0

/-- SC_CORE of core `k` (R351). -/
def State.coreReg (s : State) (k : Nat) : Nat :=
  let x := s.coreSt k
  x.state % 4 * 2 ^ 30 + x.load10 % 1024 * 2 ^ 16 + min (s.svcsOn k).length 0xFF * 2 ^ 8 + x.cause % 256

/-- SC_TRACE_CFG (R351). -/
def State.traceCfg (s : State) : Nat :=
  let d := s.o 0x4020 1
  s.o 0x4020 4 % 4 * 2 ^ 6 + s.o 0x4020 3 % 4 * 2 ^ 4 + s.o 0x4020 2 % 2 * 4 + d / 2 % 2 * 2 + d % 2

/-- The core and trace registers (R351). -/
def State.coresReg (s : State) (a : Nat) : Nat :=
  match a with
  | 0x000 => bitsOf 16 (fun k => (s.coreSt k).state ≥ 2) * 2 ^ 16 + bitsOf 16 (fun k => (s.coreSt k).state = 0)
  | 0x004 => bitsOf 16 (fun k => (s.coreSt k).state = 1)
  | 0x200 => s.cores.head % 2 ^ 25
  | 0x204 => s.cores.lap % 2 ^ 32
  | 0x208 => s.traceCfg
  | 0x210 => s.traceFill % 2 ^ 15
  | a => if 0x100 ≤ a && a < 0x140 then s.coreReg ((a - 0x100) / 4) else 0

/-- CAN_QUEUE (R377): `on` tells that the head is past its start-of-frame sample point, which is free while it is offered. -/
def canQueueReg (x : CanCtl) (on : Bool) : Nat :=
  (match canHead x with | some e => e.seq % 256 | none => 0) * 2 ^ 8 + b2n x.aborting * 2 + b2n on

/-- The registers of controller `k` (R377). -/
def State.canReg (s : State) (k a : Nat) : Nat :=
  let x := s.ctl k
  match a with
  | 0x00 => s.ttState k % 8 * 2 ^ 16 + x.queue.length % 64 * 2 ^ 8 + x.state % 8
  | 0x04 => x.rec_ % 256 * 2 ^ 16 + x.tec % 512
  | 0x08 => s.o 0x7001 12 k % 128 * 2 ^ 8 + x.tdcv % 128
  | 0x0C => canQueueReg x (x.onBus || (s.headOffered k && s.freeNat 1 = 1))
  | 0x14 => b2n x.abortValid * 2 ^ 31 + x.abort.1 % 4 * 2 ^ 16 + x.abort.2 % 256
  | 0x18 => x.wakeCause % 8 * 2 ^ 29 + x.wakeId % 2 ^ 29
  | 0x1C =>
    (if s.ttMode k = 0 then 0 else min (s.ttUncert k) 0xFF) * 2 ^ 24 + x.cycle % 64 * 2 ^ 16 + b2n x.master * 16 + x.level % 4
  | _ => 0

/-- The CAN block (R352, R377). -/
def State.canBlock (s : State) (c : Ctx) (a : Nat) : Nat :=
  if a < 0x8000 then s.canReg (a / 0x1000) (a % 0x1000) else if a = 0x8000 then (s.ctx c).canSel else 0

/-- The registers of window `w` (R403). -/
def winReg (x : Window) (r : Nat) : Nat :=
  match r with
  | 0 => 4096 * (x.base / 4096 % 2 ^ 20) + x.size % 64
  | 1 => 4096 * (x.target / 4096 % 2 ^ 20)
  | 2 => x.target / 2 ^ 32 % 2 ^ 16
  | _ => x.attr % 32

/-- A semaphore's word as another context reads it (R397, R403). -/
def semWord (x : Option (Nat × Nat)) : Nat :=
  match x with
  | some (h, _) => 2 ^ 8 + h % 256
  | none => 0

/-- A word of the MSI-X table (R383): address, upper address, data and vector control. -/
def State.msixWord (s : State) (i : Nat) : Nat :=
  if i % 4 = 3 then b2n (s.bridge.msixMask.getLsbD (i / 4)) else tget 0 s.bridge.msixWords i

/-- The bridge registers (R403) with the MSI-X table and PBA (R383). -/
def State.bridgeReg (s : State) (a : Nat) : Nat :=
  let b := s.bridge
  if 0x1000 ≤ a && a < 0x1400 then winReg (tget {} b.windows ((a - 0x1000) / 16)) (a / 4 % 4)
  else if 0x10000 ≤ a && a < 0x10400 then s.msixWord ((a - 0x10000) / 4)
  else match a with
    | 0x00 => b2n b.errValid * 2 ^ 31
    | 0x04 => b.errCode
    | 0x08 => b.errAddr % 2 ^ 32
    | 0x0C => b.errAddr / 2 ^ 32 % 2 ^ 16
    | 0x14 => b.pend.toNat
    | 0x18 => b.intEn.toNat
    | 0x1C => b.hits % 2 ^ 16 * 2 ^ 16
    | 0x10800 => b.pba.toNat % 2 ^ 32
    | 0x10804 => b.pba.toNat / 2 ^ 32
    | _ => 0

/-- LIFECYCLE (R418). -/
def State.lifecycle (s : State) : Nat := s.sec.lc + 128 * b2n s.sec.intent.isSome

/-- The security registers (R422). -/
def State.secReg (s : State) (a : Nat) : Nat :=
  match a with
  | 0x00 => s.lifecycle * 2 ^ 8 + b2n s.sec.rngOk * 2 + s.o 0x8030 1 % 2
  | 0x04 => bitsOf 32 (fun n => (s.slot n).state = 1)
  | 0x08 => bitsOf 32 (fun n => (s.slot (32 + n)).state = 1)
  | 0x0C => bitsOf 32 (fun n => (s.slot n).state = 2)
  | 0x10 => bitsOf 32 (fun n => (s.slot (32 + n)).state = 2)
  | _ => 0

/-- ST_ERASE (R447): the sector being erased. -/
def State.eraseReg (s : State) : Nat :=
  match s.flash.erase with
  | some e => e.sector / 2 ^ 31 * 2 ^ 31 + e.sector % 2 ^ 13
  | none => 0

/-- The store registers (R447). -/
def State.storeReg (s : State) (a : Nat) : Nat :=
  let f := s.flash
  match a with
  | 0x0 =>
    2 ^ 20 * (f.updState % 16) + (s.imgSlot 1).state % 8 * 2 ^ 17 + (s.imgSlot 0).state % 8 * 2 ^ 14 + b2n f.erase.isSome * 8
      + b2n (f.erase.any (fun e => e.suspended)) * 4 + f.running % 2 * 2 + b2n f.wp
  | 0x4 => s.logLive.length * 2 ^ 16 + min s.sparesFree.length 0xFFFF
  | 0x8 => s.eraseReg
  | _ => 0

/-- FAULT_STATE (R455). -/
def FcState.code : FcState → Nat
  | .normal => 0
  | .faulted => 1
  | .held => 2

/-- FC_FIRST (R467). -/
def firstReg (f : FirstErr) : Nat :=
  b2n f.valid * 2 ^ 31 + b2n f.overflow * 2 ^ 30 + b2n f.fromReset * 2 ^ 29 + f.cls % 4 * 2 ^ 24 + f.source % 256 * 2 ^ 16
    + f.merged % 2 ^ 16

/-- The fault registers (R467). -/
def State.faultReg (s : State) (a : Nat) : Nat :=
  let f := s.fc.first
  match a with
  | 0x00 => s.o 0xA040 0 % 256 * 2 ^ 24 + min s.recoveriesHour 0xFF * 2 ^ 16 + s.fc.state.code
  | 0x04 => firstReg f
  | 0x08 => f.st32 % 2 ^ 32
  | 0x0C => f.syndrome % 2 ^ 32
  | 0x10 => f.address % 2 ^ 32
  | 0x14 => f.address / 2 ^ 32 % 2 ^ 16
  | _ => 0

/-- CLAIM_STATE (R472). -/
def Claim.code : Claim → Nat
  | .idle => 0
  | .seeking => 1
  | .held => 2
  | .backoff => 3

/-- The own toggle is driven and reads back. -/
def State.leashOut (s : State) : Bool := (s.pair.claim = .held || s.pair.claim = .seeking) && s.pair.readback

/-- PA_STATUS (R489). -/
def State.pairStatus (s : State) : Nat :=
  let p := s.pair
  p.mode % 256 * 2 ^ 24 + p.node % 256 * 2 ^ 16 + b2n s.isHome * 2 ^ 10 + b2n p.pFit * 2 ^ 9 + b2n s.inSync * 2 ^ 8 + b2n p.link * 2 ^ 7
    + b2n s.leashToggles * 2 ^ 6 + b2n s.leashOut * 2 ^ 5 + b2n s.modes.pairId * 2 ^ 4 + p.claim.code

/-- The pair registers (R489). -/
def State.pairReg (s : State) (a : Nat) : Nat :=
  let p := s.pair
  match a with
  | 0x0 => s.pairStatus
  | 0x8 => b2n p.shValid * 2 ^ 31 + b2n p.shEf * 2 ^ 16 + p.shBank % 16 * 2 ^ 12 + p.shPin % 32
  | 0xC => p.shSt % 2 ^ 32
  | _ => 0

/-- The SRAM macros, which have spares (R490, R495). -/
def sramMacros : List Nat :=
  (List.range 32) ++ (List.range 16).map (0x100 + ·) ++ (List.range 16).map (0x200 + ·) ++ (List.range 16).map (0x300 + ·)
    ++ (List.range 16).map (0x400 + ·) ++ [0x600, 0x601]

/-- The BIST registers (R502). -/
def State.bistReg (s : State) (a : Nat) : Nat :=
  let b := s.bist
  match a with
  | 0x0 =>
    b2n b.running.isSome * 2 ^ 24 + (b.running.getD b.last) % 256 * 2 ^ 16 + b.pointer % 256 * 2 ^ 8 + b2n (!b.candidates.isEmpty) * 8
      + b.outcome % 8
  | 0x4 =>
    (sramMacros.filter (fun m => s.sparesLeft m 0 = 0 && s.sparesLeft m 1 = 0)).length % 256 * 2 ^ 16
      + (sramMacros.map (fun m => s.sparesLeft m 0)).sum % 2 ^ 16
  | 0x8 => bitsOf 16 (fun k => s.coreRepaired k) * 2 ^ 16 + bitsOf 16 (fun c => s.clusterRetired c)
  | _ => 0

/-- The registers of field channel or feed `n` (R526). -/
def State.efReg (s : State) (c : Ctx) (n r : Nat) : Nat :=
  match r with
  | 0 => s.o (0xB830 + n) 6 % 16 * 2 ^ 8 + s.efState n % 8
  | 1 => ofSigned 16 (s.oi (0xB830 + n) 2 / 10) * 2 ^ 16 + min (s.o (0xB830 + n) 3 / 10) 0xFFFF
  | 3 => tget 0 (s.ctx c).efHi n % 2 ^ 16
  | _ => 0

/-- The power registers (R526). -/
def State.powerReg (s : State) (c : Ctx) (a : Nat) : Nat :=
  let p := s.power
  match a with
  | 0x0 =>
    s.o 0xB851 9 % 256 * 2 ^ 24 + b2n p.warn * 16 + b2n (s.feedOk 1) * 8 + b2n (s.feedOk 0) * 4 + p.inUse % 4
  | 0x4 => min (p.vinb / 10) 0xFFFF * 2 ^ 16 + min (p.vina / 10) 0xFFFF
  | a => if 0x100 ≤ a && a < 0x180 then s.efReg c ((a - 0x100) / 16) (a / 4 % 4) else 0

/-- The mailbox answers now: session service is available, or the recovery loader serves (R73, R385, R436). -/
def State.mbReady (s : State) : Bool := (s.modes.mode ≠ .reset && s.modes.mode ≠ .boot) || s.recoveryServes

/-- The mailbox block (R384, R385, R403): the two buffers, little-endian, and BR_MB_STATUS. -/
def State.mailboxReg (s : State) (a : Nat) : Nat :=
  let b := s.bridge
  let resp := b.mbResp.getD []
  if a < 0x1000 then ofLe ((List.range 4).map (fun i => tget 0 b.mbReq (a + i)))
  else if a < 0x2000 then ofLe ((List.range 4).map (fun i => resp.getD (a - 0x1000 + i) 0))
  else if a = 0x2004 then resp.length % 2 ^ 13 * 2 ^ 16 + b2n b.mbResp.isSome * 4 + b2n b.mbBusy * 2 + b2n s.mbReady
  else 0

/-- What a register reads as (R5, R21, R22): write-only fields, fields that start actions and unassigned offsets read 0. Registers whose
read does more are read through `State.regRead`. -/
def State.regVal (s : State) (c : Ctx) (a : Nat) : Nat :=
  match a / 2 ^ 16 with
  | 0x01 => s.modeReg (a % 2 ^ 16)
  | 0x04 => s.switchReg (a % 2 ^ 16)
  | 0x06 => s.shutterReg (a % 2 ^ 16)
  | 0x08 => s.chanReg c (a % 2 ^ 16)
  | 0x0A => s.clusterReg (a % 2 ^ 16 / 0x1000) (a % 0x1000)
  | 0x0B => s.engineReg c (a % 2 ^ 16)
  | 0x0C => s.timeReg c (a % 2 ^ 16)
  | 0x0D => s.phaseReg c (a % 2 ^ 16)
  | 0x0E => s.coresReg (a % 2 ^ 16)
  | 0x10 => s.canBlock c (a % 2 ^ 16)
  | 0x12 => s.bridgeReg (a % 2 ^ 16)
  | 0x13 => s.bridgeReg (2 ^ 16 + a % 2 ^ 16)
  | 0x14 => s.secReg (a % 2 ^ 16)
  | 0x15 => s.storeReg (a % 2 ^ 16)
  | 0x16 => s.faultReg (a % 2 ^ 16)
  | 0x17 => s.pairReg (a % 2 ^ 16)
  | 0x18 => s.bistReg (a % 2 ^ 16)
  | 0x19 => s.powerReg c (a % 2 ^ 16)
  | 0x1A => s.ddrReg (a % 2 ^ 16)
  | 0xF0 => s.mailboxReg (a % 2 ^ 16)
  | _ => 0

/-! ### Reads that do more (R5, R7) -/

/-- Free semaphore `n` for the reading context to take (R397): OWNED 1 to the reader that takes it, else the holder. -/
def State.readSem (s : State) (c : Ctx) (n : Nat) : State × Nat :=
  match tget none s.bridge.sems n with
  | some h => (s, semWord (some h))
  | none =>
    ({ s with bridge := { s.bridge with sems := tset none s.bridge.sems n (some (ctxKey c, s.clock)) } },
      2 ^ 31 + semWord (some (ctxKey c, s.clock)))

/-- BR_PF_CTRL is read (R403): the hits restart from 0. -/
def State.readHits (s : State) : State × Nat := ({ s with bridge := { s.bridge with hits := 0 } }, s.bridge.hits % 2 ^ 16 * 2 ^ 16)

/-- A fence read waits (R389): writes it covers are unresolved and READ_DEADLINE has not passed. The first look at an open fence fixes
what it covers. -/
def State.fenceWaits (s : State) : State × Bool :=
  let b := s.bridge
  match b.fence with
  | none => if b.posted.isEmpty then (s, false) else ({ s with bridge := { b with fence := some (s.clock, s.ring.nextId) } }, true)
  | some (t, n) => (s, b.posted.any (fun i => i < n) && s.clock < ticksUs (s.o 0x7802 1) + t)

/-- A fence read ends (R389): with the code of the first write that failed, 0 if none did, or "busy, retry" while some are unresolved,
which leaves the fence open. -/
def State.readFence (s : State) : State × Nat :=
  let b := s.bridge
  let n := match b.fence with | some (_, n) => n | none => s.ring.nextId
  if b.posted.any (fun i => i < n) then ({ s with bridge := { b with fence := none } }, Abort.busyRetry)
  else
    ({ s with bridge := { b with fence := none, fenceFails := b.fenceFails.filter (fun e => n ≤ e.1) } },
      match b.fenceFails.find? (fun e => e.1 < n) with | some e => e.2 | none => 0)

/-- PE_CL_IMDATA read (R239): an uncorrectable word reads 0, with the fault of R237. No engine fetches it here, so the report names none: its
resource is 256 plus the cluster (DESIGN CHOICE). -/
def State.readImData (s : State) (k : Nat) : State × Nat :=
  let x := s.cluster k
  let a := x.imAddr % 1024
  if x.badWords.contains a then (s.report { source := 0x32, syndrome := 256 + k, address := a }, 0) else (s, s.imWord k a)

/-- Read one register in a context: the state after it, and the value. -/
def State.regRead (s : State) (c : Ctx) (a : Nat) : State × Nat :=
  if a = 0x080120 then s.readChIn c
  else if a = 0x080124 then s.readChOut c
  else if a = 0x08011C then s.readChHwm c
  else if 0x0A0000 ≤ a && a < 0x0B0000 && a % 0x1000 = 0x010 then s.readStall (a % 2 ^ 16 / 0x1000)
  else if 0x0A0000 ≤ a && a < 0x0B0000 && a % 0x1000 = 0x00C then s.readImData (a % 2 ^ 16 / 0x1000)
  else if a = 0x0C0008 then s.readWtSecLo c
  else if 0x0D0000 ≤ a && a < 0x0D0100 && a % 0x40 = 4 then s.readTrkPa c (a % 0x100 / 0x40)
  else if a = 0x0E020C then s.readTraceDrop
  else if 0x108100 ≤ a && a < 0x108180 then s.readFhit c ((a - 0x108100) / 4)
  else if a = 0x04000C then s.readSwAudit
  else if a = 0x120010 then s.readFence
  else if a = 0x12001C then s.readHits
  else if 0x120400 ≤ a && a < 0x120500 then s.readSem c ((a - 0x120400) / 4)
  else if a = 0x160018 then s.readFcCount
  else if a = 0x170004 then s.readPaLink
  else if 0x190100 ≤ a && a < 0x190180 && a % 16 = 8 then s.readEfElo c ((a - 0x190100) / 16)
  else (s, s.regVal c a)

/-! ### Reserved bits and encodings (R5, R8–R11) -/

/-- The unreserved bits of the registers of the first half of the map; 0 for an unassigned offset (R22). -/
def maskLow (a : Nat) : Nat :=
  if a = 0x010000 then 0x00FF0FFF else if a = 0x010004 then 0xFFF else if a = 0x010008 then 0xFFFF else if a = 0x01000C then 0xF
  else if a = 0x040000 then 0x17FFF else if a = 0x040004 then 0xFFFFFFFF else if a = 0x040008 then 0xFFFFFF else if a = 0x04000C then 0xFFFF00F1
  else if a = 0x060000 then 0xFFF else if a = 0x060004 then 0xFFFFFFFF
  else if 0x060100 ≤ a && a < 0x060500 then 0xF307
  else if a = 0x080000 then 0x101FF
  else if 0x080040 ≤ a && a < 0x080080 then 0xFFFFFFFF
  else if a = 0x080100 then 0xFFFFFFFF else if a = 0x080104 then 0x1FFF07FF else if a = 0x080108 then 0xC0FF1FFF
  else if a = 0x08010C then 0xFFFFFF else if a = 0x080110 then 0xFFFFFFFF else if a = 0x080114 then 3 else if a = 0x080118 then 0xFFFFFFFF
  else if a = 0x08011C then 0x1FFFF else if a = 0x080120 || a = 0x080124 then 0xFFFFFFFF
  else if 0x0A0000 ≤ a && a < 0x0B0000 then
    (match a % 0x1000 with | 0x0 => 0xFFFFFFFF | 0x4 => 0xFFFF | 0x8 => 0x3FF | 0xC => 0xFFFFFF | 0x10 => 0xFFFFFFFF | _ => 0)
  else if a = 0x0B0000 then 0x100FF
  else if 0x0B0100 ≤ a && a < 0x0B0138 then
    (match a - 0x0B0100 with
      | 0x00 => 0x03FFF137 | 0x04 => 3 | 0x08 => 0xFFFFFF | 0x0C => 0xFFFFFF | 0x10 => 0x1FFFFFFF | 0x14 => 0x1FFFFFFF
      | 0x18 => 0xFFFFFF | 0x1C => 0xFFFFFF | 0x20 => 0xFFFFFF | 0x24 => 0x83FF03FF | 0x28 => 0xFFFFFFFF | 0x2C => 0x7FFFFFFF
      | 0x30 => 0x1FF | 0x34 => 0xFFFFFFFF | _ => 0)
  else if a = 0x0C0000 then 0xFFFFFF1F else if a = 0x0C000C then 0xFFFF else if a = 0x0C0010 then 0x3FFFFFFF
  else if a = 0x0C001C || a = 0x0C0028 then 0xFF
  else if a % 4 = 0 && 0x0C0000 ≤ a && a < 0x0C002C then 0xFFFFFFFF
  else if 0x0D0000 ≤ a && a < 0x0D0100 then
    (match a % 0x40 with
      | 0x00 => 0xFFFF0073 | 0x04 => 0xFFFFFF | 0x08 => 0xFFFFFF | 0x0C => 0xFFFFFF | 0x10 => 0xFFFFFF | 0x14 => 0xFFFFFFFF | _ => 0)
  else if a = 0x0D1000 then 0x07FF07FF else if a = 0x0D1004 then 0x3FF
  else if 0x0D1100 ≤ a && a < 0x0D1124 then
    (match a - 0x0D1100 with
      | 0x00 => 0xC0FFFFFF | 0x04 => 0xFFFFFF | 0x08 => 0xFFFFFFFF | 0x0C => 0xFFFF000F | 0x10 => 0xFFFFFFFF | 0x14 => 3
      | 0x18 => 0xF07 | 0x1C => 0xFFFFFFFF | 0x20 => 0xFFFFFFFF | _ => 0)
  else 0

/-- The unreserved bits of the registers of the second half of the map. -/
def maskHigh (a : Nat) : Nat :=
  if a = 0x0E0000 then 0xFFFFFFFF else if a = 0x0E0004 then 0xFFFF
  else if 0x0E0100 ≤ a && a < 0x0E0140 then 0xC3FFFFFF
  else if a = 0x0E0200 then 0x1FFFFFF else if a = 0x0E0204 then 0xFFFFFFFF else if a = 0x0E0208 then 0xF7 else if a = 0x0E020C then 0xFFFFFFFF
  else if a = 0x0E0210 then 0x7FFF
  else if 0x100000 ≤ a && a < 0x108000 then
    (match a % 0x1000 with
      | 0x00 => 0x73F07 | 0x04 => 0xFF01FF | 0x08 => 0x7F7F | 0x0C => 0xFF03 | 0x10 => 0xFF07 | 0x14 => 0x800300FF | 0x18 => 0xFFFFFFFF
      | 0x1C => 0xFF3F0013 | _ => 0)
  else if a = 0x108000 then 7
  else if 0x108100 ≤ a && a < 0x108180 then 0xFFFFFFFF
  else if a = 0x120000 then 0x80000000 else if a = 0x120004 || a = 0x120008 || a = 0x120010 then 0xFFFFFFFF else if a = 0x12000C then 0xFFFF
  else if a = 0x120014 || a = 0x120018 then 0x1FFFFF else if a = 0x12001C then 0xFFFF0001
  else if 0x120400 ≤ a && a < 0x120500 then 0x800003FF
  else if 0x121000 ≤ a && a < 0x121400 then (match a / 4 % 4 with | 0 => 0xFFFFF03F | 1 => 0xFFFFF000 | 2 => 0xFFFF | _ => 0x1F)
  else if 0x130000 ≤ a && a < 0x130400 then 0xFFFFFFFF else if a = 0x130800 || a = 0x130804 then 0xFFFFFFFF
  else if a = 0x140000 then 0xFF03 else if 0x140004 ≤ a && a < 0x140014 then 0xFFFFFFFF
  else if a = 0x150000 then 0xFFC00F else if a = 0x150004 then 0x07FFFFFF else if a = 0x150008 then 0x80001FFF
  else if a = 0x160000 then 0xFFFF0003 else if a = 0x160004 then 0xE3FFFFFF else if 0x160008 ≤ a && a < 0x160014 then 0xFFFFFFFF
  else if a = 0x160014 then 0xFFFF else if a = 0x160018 then 0xFFFFFFFF
  else if a = 0x170000 then 0xFFFF07F3 else if a = 0x170004 then 0xFFFF00FF else if a = 0x170008 then 0x8001F01F else if a = 0x17000C then 0xFFFFFFFF
  else if a = 0x180000 then 0x1FFFF0F else if a = 0x180004 then 0xFFFFFF else if a = 0x180008 then 0xFFFFFFFF
  else if a = 0x190000 then 0xFF00001F else if a = 0x190004 then 0xFFFFFFFF
  else if 0x190100 ≤ a && a < 0x190180 then (match a / 4 % 4 with | 0 => 0xF07 | 1 => 0xFFFFFFFF | 2 => 0xFFFFFFFF | _ => 0xFFFF)
  else if a = 0x190180 then 0xFFFF
  else if a = 0x1A0000 then 0xFFFF001F else if a = 0x1A0004 then 0xFFFFFFFF
  else if 0xF00000 ≤ a && a < 0xF02000 then 0xFFFFFFFF else if a = 0xF02000 then 0x1FFF else if a = 0xF02004 then 0x1FFF0007
  else 0

/-- The bits of a register that are not reserved; none at an offset that is assigned to no register, or not aligned (R22). -/
def regMask (a : Nat) : Nat := if a % 4 ≠ 0 then 0 else if a < 0x0E0000 then maskLow a else maskHigh a

/-- The write sets a 1 in a reserved bit. -/
def rsvSet (a v : Nat) : Bool := decide (v &&& regMask a ≠ v)

/-- A window with one of its registers replaced (R386, R403). -/
def winPut (x : Window) (r v : Nat) : Window :=
  match r with
  | 0 => { x with base := 4096 * (v / 4096), size := v % 64 }
  | 1 => { x with target := x.target / 2 ^ 32 * 2 ^ 32 + 4096 * (v / 4096) }
  | 2 => { x with target := v % 2 ^ 16 * 2 ^ 32 + x.target % 2 ^ 32 }
  | _ => { x with attr := v % 32 }

/-- A window's values are legal (R392, R403). -/
def winLegal (x : Window) : Bool := 12 ≤ x.size && x.size ≤ 32 && x.attr / 4 % 4 ≠ 3 && !windowBad x

/-- The write carries a reserved encoding (R11). -/
def State.regBad (s : State) (a v : Nat) : Bool :=
  if a = 0x010008 then v % 2 ^ 16 ≠ 0x5A01 && v % 2 ^ 16 ≠ 0x5A02
  else if a = 0x0D1108 then calBadValue 3 v
  else if a = 0x0D110C then v % 16 > 3
  else if 0x121000 ≤ a && a < 0x121400 then !winLegal (winPut (tget {} s.bridge.windows ((a - 0x121000) / 16)) (a / 4 % 4) v)
  else false

/-! ### Writes -/

/-- A window register is written (R387, R394): for the accesses that arrive after it. -/
def State.winWrite (s : State) (w r v : Nat) : State :=
  { s with bridge := { s.bridge with windows := tset {} s.bridge.windows w (winPut (tget {} s.bridge.windows w) r v) } }.pfClear

/-- The source of BR_INT_PEND bit `v` remains set (R384). -/
def State.sourceSet (s : State) (v : Nat) : Bool :=
  match v with
  | 0 => s.bridge.mbResp.isSome
  | 1 => s.fc.first.valid && bitOf (s.reaction s.fc.first.source) 3
  | 2 => false
  | 3 => false
  | 20 => s.bridge.errValid
  | v =>
    if 4 ≤ v && v ≤ 19 then
      (List.range 8).any (fun f => (s.cluster (v - 4)).flags.getLsbD f && s.o 0x6110 (v - 4 + 1) / 16 ^ f % 16 = 1)
    else false

/-- Clear the named bits of BR_INT_PEND whose sources have gone, and which were not set at this edge (R6, R384). -/
def State.pendClear (s : State) (v : BitVec 21) : State :=
  let stay := BitVec.ofNat 21 (bitsOf 21 (fun i => s.sourceSet i || s.setNow (W1c.pend i)))
  let gone := v &&& ~~~stay
  { s with bridge := { s.bridge with pend := s.bridge.pend &&& ~~~gone, pba := s.bridge.pba &&& ~~~(gone.setWidth 64) } }

/-- A vector is unmasked (R383): a held message is sent if its bit is still 1. -/
def State.unmask (s : State) (v : Nat) : State :=
  let b := s.bridge
  let held := b.pba.getLsbD v
  let bit := 1#64 <<< v
  let s := { s with bridge := { b with msixMask := b.msixMask &&& ~~~bit, pba := b.pba &&& ~~~bit } }
  if held && b.pend.getLsbD v && Config.msixEnabled then s.emit (.msix v) else s

/-- A word of the MSI-X table is written (R383). -/
def State.msixWrite (s : State) (i v : Nat) : State :=
  if i % 4 ≠ 3 then { s with bridge := { s.bridge with msixWords := tset 0 s.bridge.msixWords i v } }
  else if v % 2 = 1 then { s with bridge := { s.bridge with msixMask := s.bridge.msixMask ||| (1#64 <<< (i / 4)) } }
  else s.unmask (i / 4)

/-- The latched host failure is cleared (R381), unless it was latched at this edge (R6). -/
def State.errClear (s : State) : State :=
  if s.setNow W1c.brErr then s else { s with bridge := { s.bridge with errValid := false, errCode := 0, errAddr := 0 } }

/-- A semaphore is freed by its holder; any other context's write is counted as an address error (R397). -/
def State.semFree (s : State) (c : Ctx) (n : Nat) : State :=
  match tget none s.bridge.sems n with
  | some (h, _) =>
    if h = ctxKey c then { s with bridge := { s.bridge with sems := tset none s.bridge.sems n none } } else s.bump 0x7803 1
  | none => s.bump 0x7803 1

/-- A doorbell (R385): the request is handed to the hub, or the ring of it is ignored and counted. -/
def State.doorbell (s : State) (len : Nat) : State :=
  let b := s.bridge
  if b.mbBusy || !s.mbReady || len < 16 || len > 4096 then s.bump 0x1209 2
  else
    let req := (List.range len).map (fun i => tget 0 b.mbReq i)
    { s with bridge := { b with mbBusy := true, mbTaken := b.mbTaken ++ [req] } }

/-- The response buffer is freed (R385): the next response of the queue is placed in it. A response placed
at this edge stays (R6). -/
def State.mbAck (s : State) : State :=
  match s.bridge.mbResp with
  | none => s
  | some _ =>
    if s.setNow W1c.resp then s
    else
      let s := { s with bridge := { s.bridge with mbResp := none } }
      match s.bridge.mbOut with
      | [] => s
      | b :: l => ({ s with bridge := { s.bridge with mbOut := l, mbResp := some b } }.noteSet W1c.resp).hostInt 0

/-- Words of the request buffer (R385): ignored while the hub owns it. -/
def State.mbWrite (s : State) (off v : Nat) : State :=
  if s.bridge.mbBusy then s
  else { s with bridge := { s.bridge with
    mbReq := (List.range 4).foldl (fun t i => tset 0 t (off + i) (BitVec.ofNat 8 (v / 256 ^ i))) s.bridge.mbReq } }

/-- CH_SEL and CH_CTRL (R203). -/
def State.chanRegWrite (s : State) (c : Ctx) (a v : Nat) : State :=
  let n := (s.ctx c).chSel
  if a = 0x080000 then s.setCtx c { s.ctx c with chSel := v % 512, chOut := none }
  else if a = 0x080114 then
    let s := if bitOf v 0 then s.chanFlush n else s
    if bitOf v 1 then s.quarRelease n else s
  else s

/-- PE_SEL, PE_CTRL and PE_WRAP (R239). A restart that ENG_CMD 2 would refuse is ignored (R232). -/
def State.engRegWrite (s : State) (c : Ctx) (a v : Nat) : State :=
  let e := (s.ctx c).engSel
  if a = 0x0B0000 then s.setCtx c { s.ctx c with engSel := v % 256 }
  else if a = 0x0B0104 then
    let s := if bitOf v 0 then s.enginePark e 3 else s
    if bitOf v 1 then s.engineRestart e else s
  else if a = 0x0B0124 then s.wrapWrite e (v % 1024) (v / 65536 % 1024)
  else s

/-- The registers of cluster `k` (R239): flags written 1 to clear, then those written 1 to set, and the memory address. -/
def State.clusterWrite (s : State) (k a v : Nat) : State :=
  if a = 0x4 then
    (List.range 8).foldl (fun s f =>
      if bitOf v (8 + f) then s.flagWrite k f true else if bitOf v f then s.flagWrite k f false else s) s
  else if a = 0x8 then s.setCluster k { s.cluster k with imAddr := v % 1024 }
  else s

/-- A field write of the selected entry: its refusal, if any, goes to PH_CAL_RESULT (R297). -/
def State.calRegWrite (s : State) (c : Ctx) (a v : Nat) : State :=
  let put2 : State → Nat → Nat → Nat → Nat → State := fun s f x g y =>
    match s.calWrite c f x with
    | .error e => s.calReply c (.error e)
    | .ok t => t.calReply c (t.calWrite c g y)
  match a with
  | 0x00 => put2 s 0 (v / 2 ^ 30) 1 (v % 2 ^ 24)
  | 0x04 => s.calReply c (s.calWrite c 2 (v % 2 ^ 24))
  | 0x08 => s.calReply c (s.calWrite c 3 v)
  | 0x0C => put2 s 4 (v % 16) 5 (v / 2 ^ 16)
  | 0x10 => put2 s 6 (v % 2 ^ 16) 7 (v / 2 ^ 16)
  | 0x14 => if bitOf v 0 then s.calArm c else if bitOf v 1 then s.calCancel c else s
  | _ => s

/-- CAN_CTRL and CAN_ABORT of controller `k` (R377): whether the head frame is on the bus is a free value. -/
def State.canRegWrite (s : State) (k a v : Nat) : State :=
  if a = 0x10 then
    let onBus := s.freeNat 1 = 1
    let s := if bitOf v 1 then s.drew.canAbort k false onBus (fun _ => true)
      else if bitOf v 2 then s.drew.canAbort k true onBus (fun e => e.seq = v / 256 % 256) else s
    if bitOf v 0 then s.canRestart k else s
  else if a = 0x14 && bitOf v 31 then s.abortClear k
  else s

/-- The bridge registers (R403). -/
def State.bridgeWrite (s : State) (c : Ctx) (a v : Nat) : State :=
  if 0x1000 ≤ a && a < 0x1400 then s.winWrite ((a - 0x1000) / 16) (a / 4 % 4) v
  else if 0x400 ≤ a && a < 0x500 then (if bitOf v 9 then s.semFree c ((a - 0x400) / 4) else s)
  else if 0x10000 ≤ a && a < 0x10400 then s.msixWrite ((a - 0x10000) / 4) v
  else if a = 0x00 then (if bitOf v 31 then s.errClear else s)
  else if a = 0x14 then s.pendClear (BitVec.ofNat 21 v)
  else if a = 0x18 then { s with bridge := { s.bridge with intEn := BitVec.ofNat 21 v } }
  else if a = 0x1C then (if bitOf v 0 then s.pfClear else s)
  else s

/-- PW_EF_CTRL (R526): a bit that EF_CMD would refuse is ignored; OFF wins over ON. -/
def State.efCtrl (s : State) (v : Nat) : State :=
  (List.range 8).foldl (fun s n =>
    if bitOf v n then s.actQuiet (s.efOff n) else if bitOf v (8 + n) then s.actQuiet (s.efOn n) else s) s

/-- What a write of a register does beside counting (R5). -/
def State.regApply (s : State) (c : Ctx) (a v : Nat) : State :=
  match a / 2 ^ 16 with
  | 0x01 => if a = 0x010008 then (if v % 2 ^ 16 = 0x5A01 then s.beginReset 4 else s.beginReset 5) else s
  | 0x06 => if a = 0x060004 && bitOf v 31 then s.gfailClear else s
  | 0x08 => s.chanRegWrite c a v
  | 0x0A => s.clusterWrite (a % 2 ^ 16 / 0x1000) (a % 0x1000) v
  | 0x0B => s.engRegWrite c a v
  | 0x0D => if a = 0x0D1004 then s.setCtx c { s.ctx c with calSel := v % 1024 } else if 0x0D1100 ≤ a then s.calRegWrite c (a - 0x0D1100) v else s
  | 0x10 => if a = 0x108000 then s.setCtx c { s.ctx c with canSel := v % 8 }
      else if a < 0x108000 then s.canRegWrite (a % 2 ^ 16 / 0x1000) (a % 0x1000) v else s
  | 0x12 => s.bridgeWrite c (a % 2 ^ 16) v
  | 0x13 => s.bridgeWrite c (2 ^ 16 + a % 2 ^ 16) v
  | 0x16 => if a = 0x160004 && bitOf v 31 then s.firstClear else s
  | 0x17 => if a = 0x170008 && bitOf v 31 then s.shadowClear else s
  | 0x19 => if a = 0x190180 then s.efCtrl v else s
  | 0x1A => if a = 0x1A0000 && bitOf v 0 then s.eccClear else s
  | 0xF0 => if a < 0xF01000 then s.mbWrite (a % 0x1000) v
      else if a = 0xF02000 then s.doorbell (v % 2 ^ 13) else if a = 0xF02004 && bitOf v 2 then s.mbAck else s
  | _ => s

/-- The register belongs to a selected block (R40): CH_SEL, PE_SEL, a CAN selection register or PH_CAL_SEL, or what they select. -/
def selectedReg (a : Nat) : Bool :=
  a / 4 = 0x080000 / 4 || (0x080100 ≤ a && a < 0x080200) || a / 4 = 0x0B0000 / 4 || (0x0B0100 ≤ a && a < 0x0C0000) || a / 4 = 0x108000 / 4
    || (0x108100 ≤ a && a < 0x108180) || a / 4 = 0x0D1004 / 4 || (0x0D1100 ≤ a && a < 0x0D1124)

/-- Why a context may not reach a register (R23, R40, R82). -/
def regBar (c : Ctx) (a : Nat) (write : Bool) : Option Nat :=
  match c with
  | .pcie => none
  | .session _ =>
    if selectedReg a then some Abort.selectionRegisterRefused
    else if 0xF00000 ≤ a && a < 0xF10000 || (write && a = 0x010008) then some Abort.addressError else none
  | .node _ => if 0xF00000 ≤ a && a < 0xF10000 || (write && a = 0x010008) then some Abort.addressError else none

/-- The selected item is retired: writes to its block are ignored without being counted (R203, R239). -/
def State.blockGone (s : State) (c : Ctx) (a : Nat) : Bool :=
  (0x080100 ≤ a && a < 0x080200 && (s.chan (s.ctx c).chSel).retired) ||
    (0x0B0100 ≤ a && a < 0x0C0000 && (s.eng (s.ctx c).engSel).st = .retired)

/-- Write one register in a context (R5, R10, R11): the state after it, and the abort code of a write that is refused. -/
def State.regWrite (s : State) (c : Ctx) (a v : Nat) : State × Option Nat :=
  match regBar c a true with
  | some e => (s, some e)
  | none =>
    if s.blockGone c a then (s, none)
    else
      let bad := s.regBad a v
      let t := if bad || rsvSet a v then s.bump 0xA0F0 0 else s
      if bad then (t, some Abort.valueOutOfRange) else (t.regApply c a v, none)

/-- A register write (R5, R380): one that is not an aligned word of the map is not applied. -/
def execRegisterWrite (c : Ctx) (addr : Nat) (v : W32) (s : State) : Host.Outcome State Fault Refusal :=
  if !s.reaches c then .next s else
  if addr % 4 ≠ 0 || addr ≥ 2 ^ 24 then .next (s.refuseAccess c Abort.addressError addr)
  else
    let (t, e) := s.regWrite c addr v.toNat
    match e with
    | none => .next t
    | some code => .next (t.refuseAccess c code addr)

/-- Writing 0 to 0xA0F1 (R10). -/
def State.reservedClear (s : State) : State := s.setO 0xA0F0 0 0 0

/-- The reserved-write counter is cleared. -/
def execReservedClear (s : State) : Host.Outcome State Fault Refusal := .next s.reservedClear

end Sys2Proof.Machine
end

