-- ==== Sys2Proof/Machine/Fabric.lean ====
section
/-!
DEFINITION. The hub's own address space (R16–R23, R135): what a local fabric read or write of any context does, and the fabric requests of
other nodes (R92, R104, R173, R388).
-/

namespace Sys2Proof.Machine

/-! ### The map (R18) -/

/-- The ranges of R18: the register map, a channel window, DRAM, a core's memories; each with its own offset. -/
inductive Region where
  | regs
  | chan (n off : Nat)
  | dram (off : Nat)
  | core (k off : Nat)
deriving DecidableEq, Repr

/-- First address of the channel windows, of DRAM and of the core memories (R18). -/
def chanBase18 : Nat := 0x0100000000

/-- First address of DRAM. -/
def dramBase : Nat := 0x1000000000

/-- First address of the core memories. -/
def coreBase : Nat := 0x2000000000

/-- Installed DRAM in bytes (R19). -/
def State.dramSize (s : State) : Nat := 2 ^ 20 * s.o 0x1006 0

/-- Size of the general region (R135): below the kennel, the trace region and the event-log cache. -/
def State.generalSize (s : State) : Nat := s.dramSize - 2 ^ 20 * (48 + s.sw.kennelMiB)

/-- An access at an offset of DRAM waits (R74): the general region is not initialised yet. The hub's own regions are from the end of training
on. -/
def State.dramWaits (s : State) (off : Nat) : Bool := !s.modes.dramInit && off < s.generalSize

/-- The range an access of `len` bytes lies in; an access lies in one range or fails (R18). -/
def State.regionOf (s : State) (a len : Nat) : Option Region :=
  if a + len ≤ 2 ^ 24 then some .regs
  else if chanBase18 ≤ a && a + len ≤ chanBase18 + 512 * 2 ^ 22 then
    if (a - chanBase18) % 2 ^ 22 + len ≤ 2 ^ 22 then some (.chan ((a - chanBase18) / 2 ^ 22) ((a - chanBase18) % 2 ^ 22)) else none
  else if dramBase ≤ a && a + len ≤ dramBase + s.dramSize then some (.dram (a - dramBase))
  else if coreBase ≤ a && a + len ≤ coreBase + 16 * 2 ^ 20 then
    if (a - coreBase) % 2 ^ 20 + len ≤ 2 ^ 20 then some (.core ((a - coreBase) / 2 ^ 20) ((a - coreBase) % 2 ^ 20)) else none
  else none

/-- Both ends of a core read lie in instruction TCM or in data TCM (R20). -/
def inTcm (off len : Nat) : Bool := off + len ≤ 0x20000 || (0x40000 ≤ off && off + len ≤ 0x80000)

/-! ### Local accesses -/

/-- Register words from `a` on, in ascending order (R380). -/
def State.readRegs (s : State) (c : Ctx) (a : Nat) : Nat → State × List Byte
  | 0 => (s, [])
  | n + 1 =>
    let (s, v) := s.regRead c a
    let (s, l) := s.readRegs c (a + 4) n
    (s, leBytes 4 v ++ l)

/-- Register words are written in ascending order, each judged by itself; the first refusal is the access's. -/
def State.writeRegs (s : State) (c : Ctx) (a : Nat) (err : Option Nat) : List Nat → State × Option Nat
  | [] => (s, err)
  | v :: l =>
    let (s, e) := s.regWrite c a v
    s.writeRegs c (a + 4) (if err.isSome then err else e) l

/-- Read bytes of core memory: service firmware fills it, which the spec does not give, so each 24-bit word is free; bits 31–24 of its slot
read 0 (R20). -/
def State.readCore (s : State) (off len : Nat) : List Byte :=
  (List.range len).map (fun i =>
    let b := off + i
    if b % 4 = 3 then 0 else BitVec.ofNat 8 (Config.free 24 (s.free + (b / 4 - off / 4)) / 256 ^ (b % 4)))

/-- A read of the own hub's address space in a context (R17–R23): the state after it with the bytes, or none while it must wait, or its
abort code. -/
def State.localRead (s : State) (c : Ctx) (a len : Nat) : Except Nat (State × Option (List Byte)) :=
  match s.regionOf a len with
  | none => .error Abort.addressError
  | some .regs =>
    let n := (len + 3) / 4
    if a % 4 ≠ 0 then .error Abort.addressError
    else match (List.range n).findSome? (fun i => regBar c (a + 4 * i) false) with
      | some e => .error e
      | none =>
        let (t, w) := if a ≤ 0x120010 && 0x120010 < a + 4 * n then s.fenceWaits else (s, false)
        if w then .ok (t, none)
        else
          let (t, l) := t.readRegs c a n
          .ok (t, some (l.take len))
  | some (.chan n off) =>
    match s.readWindow n off len with
    | .error e => .error e
    | .ok none => .ok (s, none)
    | .ok (some (t, l)) => .ok (t, some l)
  | some (.dram off) =>
    if s.dramWaits off then .ok (s, none)
    else if (s.dramBadIn off len).isSome then .error Abort.uncorrectableError
    else .ok (s, some (s.readDram off len))
  | some (.core _ off) =>
    if s.sec.lc = 2 || s.sec.lc = 4 || !inTcm off len then .error Abort.addressError
    else .ok ({ s with free := s.free + (len / 4 + 2) }, some (s.readCore off len))

/-- A read of the own address space has failed: an uncorrectable DRAM word is counted and reported with its address (R146). -/
def State.readFault (s : State) (a len code : Nat) : State :=
  if code ≠ Abort.uncorrectableError then s
  else match s.dramBadIn (a - dramBase) len with
    | some w => (s.dramBad (dramBase + 4 * w)).report { source := 0x16, address := dramBase + 4 * w }
    | none => s

/-- A write of the own hub's address space in a context: the state after it, its abort code, and whether it is held, by a full channel
or until DRAM is initialised, for which `w` then waits. -/
def State.localWrite (s : State) (c : Ctx) (w : Waiter) (a : Nat) (data : List Byte) : State × Option Nat × Bool :=
  let len := data.length
  match s.regionOf a len with
  | none => (s, some Abort.addressError, false)
  | some .regs =>
    if a % 4 ≠ 0 || len % 4 ≠ 0 then (s, some Abort.addressError, false)
    else
      let (t, e) := s.writeRegs c a none (leWords data)
      (t, e, false)
  | some (.chan n off) =>
    match s.writeWindow w n off data with
    | .error e => (s, some e, false)
    | .ok (t, held) => (t, none, held)
  | some (.dram off) =>
    if off + len > s.generalSize then (s, some Abort.addressError, false)
    else if s.dramWaits off then ({ s with dramWait := s.dramWait ++ [(w, off, data)] }, none, true)
    else (s.dramStore off data, none, false)
  | some (.core _ _) => (s, some Abort.addressError, false)

/-! ### Requests of other nodes (R92) -/

/-- The register context of a source node (R203). -/
def nodeCtx (n : Nat) : Ctx := .node (Fin.ofNat 128 n)

/-- The oldest delivered read request with no earlier write part of the same source before it (R388). -/
def nextRequest : List Nat → List Frame → Option Frame
  | _, [] => none
  | w, f :: l =>
    if f.hdr.typ = 1 && !w.contains f.hdr.source then some f
    else nextRequest (if f.hdr.typ = 2 then f.hdr.source :: w else w) l

/-- A delivered frame has been served. -/
def State.frameServed (s : State) (f : Frame) : State :=
  { s with ring := { s.ring with delivered := s.ring.delivered.eraseP (fun g => decide (g = f)) } }

/-- A type-1 frame is served in the context of its source, and answered with the bytes or a status (R92). One that must wait stays. -/
def execFabricReadRequest (s : State) : Host.Outcome State Fault Refusal :=
  match nextRequest [] s.ring.delivered with
  | none => .next s
  | some f =>
    let h := f.hdr
    let len := specField h 26 2
    let r := if len = 0 || len > 2048 then .error Abort.addressError
      else s.localRead (nodeCtx h.source) (specField h 20 6 % 2 ^ 40) len
    match r with
    | .error e => .next (((s.readFault (specField h 20 6 % 2 ^ 40) len e).frameServed f).fabricAnswer h.source h.seq (fabricStatus e) 0 1 1 [])
    | .ok (t, none) => .next t
    | .ok (t, some b) => .next ((t.frameServed f).fabricAnswer h.source h.seq 0 0 1 1 b)

/-- A type-2 frame is applied once, in the order of arrival, and answered unless it was broadcast (R92, R173, R388). A channel that is full
delays the answer (R187). -/
def execFabricWritePart (s : State) : Host.Outcome State Fault Refusal :=
  match s.takeDelivered (fun h => h.typ = 2) with
  | none => .next s
  | some (f, s) =>
    let h := f.hdr
    let w := if h.dest = 0xFF then Waiter.none else .node h.source h.seq (specField h 26 1) (specField h 27 1)
    let (t, e, held) := s.localWrite (nodeCtx h.source) w (specField h 20 6 % 2 ^ 40) f.payload
    .next (if held then t else t.heldEnd w e)

end Sys2Proof.Machine
end

