-- ==== Sys2Proof/Machine/Bridge.lean ====
section
/-!
DEFINITION. The bridge's host side (R381–R398, R403): windows and their byte lanes, remote reads and writes of the host, prefetch, the
fence, atomics, semaphores, interrupts and the mailbox's doorbell.
-/

namespace Sys2Proof.Machine

/-- The endpoint's configuration header (R378), by doubleword: identifiers, revision and class, subsystem, and no interrupt pin. -/
def State.pcieHeader (s : State) (dword : Nat) : Option Nat :=
  match dword with
  | 0x00 => some (0x5120 * 2 ^ 16 + 0x1F3C)
  | 0x08 => some (0x118000 * 2 ^ 8 + 0xB0)
  | 0x2C => some (s.o 0x7800 4 * 2 ^ 16 + s.o 0x7800 3)
  | _ => none

/-- Sizes of the endpoint's address ranges in bytes (R378): BAR0 and BAR2. -/
def barSize (bar : Nat) : Nat := if bar = 0 then 2 ^ 24 else if bar = 2 then 2 ^ 32 else 0

/-! ### Windows (R386, R391) -/

/-- The window's first BAR2 offset: the low SIZE_LOG2 bits of BASE are ignored. -/
def Window.from_ (x : Window) : Nat := x.base / 2 ^ x.size * 2 ^ x.size

/-- The window's first fabric address. -/
def Window.to_ (x : Window) : Nat := x.target / 2 ^ x.size * 2 ^ x.size

/-- The window's element size in bytes. -/
def Window.elem (x : Window) : Nat := 2 ^ (x.attr / 4 % 4 + 1)

/-- The fabric address of the byte at BAR2 offset `a` (R391). -/
def Window.map (x : Window) (a : Nat) : Nat :=
  let o := a - x.from_
  x.to_ + (if bitOf x.attr 1 then o ^^^ (x.elem - 1) else o)

/-- The window holds the whole access. -/
def Window.holds (x : Window) (a len : Nat) : Bool := bitOf x.attr 0 && x.from_ ≤ a && a + len ≤ x.from_ + 2 ^ x.size

/-- The window that serves an access (R386): the lowest-numbered of those enabled that hold it. -/
def State.windowOf (s : State) (a len : Nat) : Option Window :=
  ((List.range 64).map (fun w => tget {} s.bridge.windows w)).find? (fun x => x.holds a len)

/-- The fabric addresses of an access's bytes, in the host's order. -/
def Window.bytes (x : Window) (a len : Nat) : List Nat := (List.range len).map (fun i => x.map (a + i))

/-- The host's access is in no window: an address error (R386), whose fabric address does not exist and is free. -/
def State.noWindow (s : State) : Nat × State := (s.freeNat 48, s.drew)

/-! ### Prefetch (R393, R394) -/

/-- The side-effect-free entry of a node that holds a whole range. -/
def State.sefEntry (s : State) (node lo hi : Nat) : Option Nat :=
  ((List.range 32).map (fun e => s.o 0x7820 (e + 1))).find? (fun v =>
    let b := v % 2 ^ 28 * 2 ^ 12
    v / 2 ^ 56 = node && b ≤ lo && hi ≤ b + 2 ^ (v / 2 ^ 50 % 64))

/-- A write of this hub overlaps lines and fills: lines go, fills are not installed. Node 0xFF is every node. -/
def State.pfWrite (s : State) (node a len : Nat) : State :=
  let hit : Nat → Nat → Bool := fun n b => (node = 0xFF || n = node) && a < b + 256 && b < a + len
  { s with bridge := { s.bridge with
    lines := s.bridge.lines.filter (fun l => !hit l.node l.addr)
    fills := s.bridge.fills.map (fun f : PfFill => if hit f.node f.addr then { f with spoiled := true } else f) } }

/-- A line is valid: PF_LIFE has not passed since it was filled (R394). -/
def State.pfFresh (s : State) (l : PfLine) : Bool := s.clock < ticksUs (s.o 0x7802 4) + l.filled

/-- A line is valid, or its fill is in flight and will be installed. -/
def State.pfHas (s : State) (node la : Nat) : Bool :=
  s.bridge.lines.any (fun l => l.node = node && l.addr = la && s.pfFresh l) ||
    s.bridge.fills.any (fun f => f.node = node && f.addr = la && !f.spoiled)

/-- Fetch a line. -/
def State.pfFetch (s : State) (node la : Nat) : State :=
  let id := s.ring.nextId
  let s := s.remoteStart (.host id) node la 256 none []
  { s with bridge := { s.bridge with fills := s.bridge.fills ++ [{ id := id, node := node, addr := la }] } }

/-- A prefetchable read that lies in one line: answered from it, or it waits for the line's fill; on a miss the next line follows when it
lies in the same entry (R394). -/
def State.pfRead (s : State) (node lo : Nat) (want : List Nat) (e : Nat) : State :=
  let la := lo / 256 * 256
  match s.bridge.lines.find? (fun l => l.node = node && l.addr = la && s.pfFresh l) with
  | some l =>
    let s := { s with bridge := { s.bridge with
      lines := l :: s.bridge.lines.filter (fun x => decide (x ≠ l)), hits := min (s.bridge.hits + 1) 0xFFFF } }
    s.emit (.data .pcie (want.map (fun a => l.data.getD (a % 2 ^ 40 - la) 0)))
  | none =>
    let s := { s with bridge := { s.bridge with lines := s.bridge.lines.filter s.pfFresh } }
    let s := if s.pfHas node la then s else
      let s := s.pfFetch node la
      let b := e % 2 ^ 28 * 2 ^ 12
      if la + 512 ≤ b + 2 ^ (e / 2 ^ 50 % 64) && !s.pfHas node (la + 256) then s.pfFetch node (la + 256) else s
    match s.bridge.fills.find? (fun f => f.node = node && f.addr = la && !f.spoiled) with
    | some f => { s with bridge := { s.bridge with reads := s.bridge.reads ++ [{ id := f.id, want := want, since := s.clock }] } }
    | none => s

/-- A line fill has been answered (R394): it answers the reads that wait for it, and is installed unless a write or an invalidation
overtook it. A fill that failed fails them. -/
def execPrefetchFillDone (id : Nat) (s : State) : Host.Outcome State Fault Refusal :=
  match s.bridge.fills.find? (fun f => f.id = id), s.remote id with
  | some f, some r =>
    if !r.done then .next s
    else
      let s := (s.remoteDrop id)
      let s := { s with bridge := { s.bridge with fills := s.bridge.fills.filter (fun x => x.id ≠ id) } }
      match r.code with
      | some c => .next (s.hostReadsEnd id r.fabAddr (.error c))
      | none =>
        let line : PfLine := { node := f.node, addr := f.addr, data := r.data, filled := s.clock }
        let s := if f.spoiled then s else { s with bridge := { s.bridge with lines := (line :: s.bridge.lines).take 16 } }
        .next (s.hostReadsEnd id r.fabAddr (.ok r.data))
  | _, _ => .next s

/-- The end of PF_LIFE after a line was filled (R394). -/
def execPrefetchLineExpiry (i : Fin 16) (s : State) : Host.Outcome State Fault Refusal :=
  match s.bridge.lines[i.val]? with
  | none => .next s
  | some l =>
    if s.clock < ticksUs (s.o 0x7802 4) + l.filled then .next s
    else .next { s with bridge := { s.bridge with lines := s.bridge.lines.eraseIdx i } }

/-- BR_PF_CTRL.INV (R394, R403). -/
def execPrefetchInvalidate (s : State) : Host.Outcome State Fault Refusal := .next s.pfClear

/-- BR_PF_CTRL is read. -/
def execBrPfHitsRead (c : Ctx) (s : State) : Host.Outcome State Fault Refusal :=
  if !s.reaches c then .next s else
  let (t, v) := s.readHits
  .next (t.reply c 4 v)

/-! ### Reads and writes through windows (R386–R390) -/

/-- A host read of fabric bytes `want`, which span `lo` to `hi`. -/
def State.hostRead (s : State) (x : Window) (want : List Nat) (lo hi : Nat) : State :=
  let node := lo / 2 ^ 40
  let a := lo % 2 ^ 40
  let n := want.length
  if node = s.node then
    match s.localRead .pcie a (hi - lo) with
    | .error c => (s.readFault a (hi - lo) c).hostReadFail n c lo
    | .ok (t, none) => t
    | .ok (t, some b) => t.emit (.data .pcie (want.map (fun w => b.getD (w - lo) 0)))
  else if node ≥ 0x80 then s.hostReadFail n Abort.addressError lo
  else
    let sef := if bitOf x.attr 4 && a / 256 = (a + (hi - lo) - 1) / 256 then s.sefEntry node a (a + (hi - lo)) else none
    match sef with
    | some e => s.pfRead node a want e
    | none =>
      let id := s.ring.nextId
      let s := s.remoteStart (.host id) node a (hi - lo) none []
      { s with bridge := { s.bridge with reads := s.bridge.reads ++ [{ id := id, want := want, since := s.clock }] } }

/-- A host read must wait for an earlier posted write to the same node (R388). -/
def State.readBehind (s : State) (node : Nat) : Bool :=
  (decide (node = s.node) && s.heldDel.any (fun d => d.who.isHost)) || s.bridge.postQ.any (fun w => w.1 / 2 ^ 40 = node || w.1 / 2 ^ 40 = 0xFF)

/-- A BAR2 read (R386). A read that must wait at this hub, for its data or for an earlier write to the same node (R388), changes
nothing and is given again. -/
def execWindowRead (addr : W32) (len : Nat) (s : State) : Host.Outcome State Fault Refusal :=
  if !s.reaches .pcie then .next s else
  match s.windowOf addr.toNat len with
  | none => let (a, t) := s.noWindow; .next (t.hostReadFail len Abort.addressError a)
  | some x =>
    let want := x.bytes addr.toNat len
    let lo := want.min?.getD 0
    if s.readBehind (lo / 2 ^ 40) then .next s else .next (s.hostRead x want lo (want.max?.getD 0 + 1))

/-- Maximal runs of consecutive addresses. -/
def runsOf : List (Nat × Byte) → List (Nat × List Byte)
  | [] => []
  | (a, b) :: l =>
    match runsOf l with
    | (a', d) :: r => if a' = a + 1 then (a, b :: d) :: r else (a, [b]) :: (a', d) :: r
    | [] => [(a, [b])]

/-- A host write of the own address space: a failure is latched; a reserved encoding is only counted (R10, R381). -/
def State.hostLocal (s : State) (a : Nat) (data : List Byte) : State :=
  match s.localWrite .pcie (.host a) (a % 2 ^ 40) data with
  | (t, some c, _) => if c = Abort.valueOutOfRange then t else t.hostFail c a
  | (t, none, _) => t

/-- A host write of one run of fabric bytes leaves the bridge (R17, R389, R394). -/
def State.hostWriteNow (s : State) (a : Nat) (data : List Byte) : State :=
  let node := a / 2 ^ 40
  let post : State → State := fun s =>
    let id := s.ring.nextId
    let s := (s.remoteStart (.host id) node (a % 2 ^ 40) data.length (some data) []).pfWrite node (a % 2 ^ 40) data.length
    { s with bridge := { s.bridge with posted := s.bridge.posted ++ [id] } }
  if node = s.node then s.hostLocal a data
  else if node < 0x80 then post s
  else if node = 0xFF then post (s.hostLocal a data)
  else s.hostFail Abort.addressError a

/-- A host write of one run of fabric bytes, in PCIe order: behind a write that a full channel holds it waits (R388, R398). -/
def State.hostWrite (s : State) (a : Nat) (data : List Byte) : State :=
  if s.postWaits then s.postLater a data else s.hostWriteNow a data

/-- At an edge the first posted write that waited proceeds, once no write before it is held (R398). -/
def State.postEdge (s : State) : State :=
  if s.heldDel.any (fun d => d.who.isHost) then s
  else match s.bridge.postQ with
    | [] => s
    | (a, data) :: l => { s with bridge := { s.bridge with postQ := l } }.hostWriteNow a data

/-- A BAR2 write (R386, R391). -/
def execWindowWrite (addr : W32) (data : List Byte) (s : State) : Host.Outcome State Fault Refusal :=
  if !s.reaches .pcie then .next s else
  match s.windowOf addr.toNat data.length with
  | none => let (a, t) := s.noWindow; .next (t.hostFail Abort.addressError a)
  | some x =>
    let cells : Tab Byte := ((x.bytes addr.toNat data.length).zip data).foldl (fun t p => tput p.1 p.2 t) []
    .next ((runsOf cells).foldl (fun s r => s.hostWrite r.1 r.2) s)

/-- READ_DEADLINE passes for the reads that wait on access `id` (R382): they complete as "remote node silent", and the late answer is
discarded. -/
def execReadDeadlineExpiry (id : Nat) (s : State) : Host.Outcome State Fault Refusal :=
  let late : HostRead → Bool := fun h => h.id = id && s.clock ≥ ticksUs (s.o 0x7802 1) + h.since
  let l := s.bridge.reads.filter late
  if l.isEmpty then .next s
  else
    let s := { s with bridge := { s.bridge with reads := s.bridge.reads.filter (fun h => !late h) } }
    let s := l.foldl (fun s h => s.hostReadFail h.want.length Abort.remoteNodeSilent (h.want.min?.getD 0)) s
    if s.bridge.reads.any (fun h => h.id = id) then .next s
    else .next { s.remoteDrop id with bridge := { s.bridge with fills := s.bridge.fills.filter (fun f => f.id ≠ id) } }

/-- A window register is written by the host (R387, R392): one that would make a reserved combination is refused as a whole. -/
def execWindowRegisterWrite (w : Fin 64) (r : Fin 4) (v : W32) (s : State) : Host.Outcome State Fault Refusal :=
  if !s.reaches .pcie then .next s else
  .next (s.regWrite .pcie (0x121000 + 16 * w + 4 * r) v.toNat).1

/-- A posted write to a full channel's window reaches HOLD_LIMIT (R398): what is still held is discarded, and later
writes proceed. What the services of this hub write waits without a limit. -/
def execHostWriteHoldExpiry (s : State) : Host.Outcome State Fault Refusal :=
  match s.heldDel.find? (fun d => d.cls = 8 && d.who ≠ Waiter.none) with
  | none => .next s
  | some d =>
    if s.clock < ticksUs (s.o 0x7802 2) + d.since then .next s
    else
      let s := { s with heldDel := s.heldDel.eraseP (fun d => d.cls = 8 && d.who ≠ Waiter.none) }
      match d.who with
      | .host a => .next (s.hostFail Abort.busyRetry a)
      | w => .next ((s.bump 0x7803 5).heldEnd w (some Abort.busyRetry))

/-! ### Fence, failures and interrupts -/

/-- BR_FENCE is read by the host (R389). A read that waits changes nothing but the fence, and is given again. -/
def execBrFenceRead (s : State) : Host.Outcome State Fault Refusal :=
  if !s.reaches .pcie then .next s else
  let (t, w) := s.fenceWaits
  if w then .next t
  else
    let (t, v) := t.readFence
    .next (t.reply .pcie 4 v)

/-- BR_ERR.VALID is written 1 (R381). -/
def execBrErrClear (s : State) : Host.Outcome State Fault Refusal := .next s.errClear

/-- BR_INT_PEND is written (R384). -/
def execBrIntPendClear (v : BitVec 21) (s : State) : Host.Outcome State Fault Refusal := .next (s.pendClear v)

/-- A vector's mask bit is cleared (R383). -/
def execMsixUnmask (v : Fin 64) (s : State) : Host.Outcome State Fault Refusal :=
  if !s.reaches .pcie then .next s else .next (s.unmask v)

/-- BR_MB_DOORBELL is written (R385). -/
def execMbDoorbell (len : W32) (s : State) : Host.Outcome State Fault Refusal :=
  if !s.reaches .pcie then .next s else .next (s.regWrite .pcie 0xF02000 len.toNat).1

/-- RESP_VALID is written 1 (R385). -/
def execMbRespAck (s : State) : Host.Outcome State Fault Refusal :=
  if !s.reaches .pcie then .next s else .next s.mbAck

/-! ### Atomics and semaphores (R396, R397) -/

/-- The operand's size and what an operation stores over an old value. -/
def atomicNew : AtomicOp → Nat → Nat × Nat
  | .fetchAdd n v, old => (n, (old + v.toNat) % 256 ^ n)
  | .swap n v, _ => (n, v.toNat % 256 ^ n)
  | .cas n c v, old => (n, if old = c.toNat % 256 ^ n then v.toNat % 256 ^ n else old)
  | .wide, old => (16, old)

/-- The operand's size. -/
def atomicSize (op : AtomicOp) : Nat := (atomicNew op 0).1

/-- An atomic's fabric bytes lie in the general DRAM region of the own node (R135, R396). -/
def State.atomicOk (s : State) (l : List Nat) : Bool :=
  l.all (fun a => a / 2 ^ 40 = s.node && dramBase ≤ a % 2 ^ 40 && a % 2 ^ 40 < dramBase + s.generalSize)

/-- An AtomicOp (R396): a read and a write of the general DRAM region under an address semaphore, with nothing between; every other one is
an Unsupported Request, which has no abort code (0 here). In DRAM that is not yet initialised it waits, and is given again. -/
def execAtomicOp (addr : W32) (op : AtomicOp) (s : State) : Host.Outcome State Fault Refusal :=
  if !s.reaches .pcie then .next s else
  let n := atomicSize op
  match s.windowOf addr.toNat n with
  | none => .next ((s.bump 0x7803 8).emit (.failed .pcie 0))
  | some x =>
    let l := x.bytes addr.toNat n
    if (n ≠ 4 && n ≠ 8) || addr.toNat % n ≠ 0 || !s.atomicOk l then .next ((s.bump 0x7803 8).emit (.failed .pcie 0))
    else
      let at_ := l.map (fun a => a % 2 ^ 40 - dramBase)
      let lo := l.min?.getD 0
      if at_.any s.dramWaits then .next s
      else match s.dramBadIn (at_.min?.getD 0) n with
      | some _ => .next ((s.readFault (lo % 2 ^ 40) n Abort.uncorrectableError).hostReadFail n Abort.uncorrectableError lo)
      | none =>
      let old := ofLe (at_.map (fun a => s.dramByte a))
      let new := (atomicNew op old).2
      let t := (at_.zip (leBytes n new)).foldl (fun s p => s.setDram p.1 p.2) s
      .next ((t.bump 0x7803 7).reply .pcie n old)

/-- BR_SEM is read (R397). -/
def execBrSemRead (c : Ctx) (n : Fin 64) (s : State) : Host.Outcome State Fault Refusal :=
  if !s.reaches c then .next s else
  let (t, v) := s.readSem c n
  .next (t.reply c 4 v)

/-- BR_SEM.FREE is written 1 (R397). -/
def execSemFree (c : Ctx) (n : Fin 64) (s : State) : Host.Outcome State Fault Refusal :=
  if !s.reaches c then .next s else .next (s.semFree c n)

/-- A semaphore is held longer than SEM_TIMEOUT (R397): freed, counted, reported with its holder, and vector 20 is raised. -/
def execSemTimeout (n : Fin 64) (s : State) : Host.Outcome State Fault Refusal :=
  match tget none s.bridge.sems n with
  | none => .next s
  | some (h, t) =>
    if s.clock ≤ ticksMs (s.o 0x7802 3) + t then .next s
    else
      let s := { s with bridge := { s.bridge with sems := tset none s.bridge.sems n none } }
      .next (((s.bump 0x7803 6).report { source := 0xE0, syndrome := h }).hostInt 20)

end Sys2Proof.Machine
end

