-- ==== Sys2Proof/Machine/Tunnels.lean ====
section
/-!
DEFINITION. Tunnels and station ports (R399–R401): frames taken in at a tunnel's local end and given out at its remote end, the filter and
steering of received station frames, and PRP.
-/

namespace Sys2Proof.Machine

/-! ### Station frames -/

/-- PRP is enabled (R401). -/
def State.prpOn (s : State) : Bool := s.o 0x7841 1 = 1

/-- The redundancy control trailer: sequence number, LAN (0xA, 0xB) with the size of the data and trailer, and the suffix 0x88FB. -/
def rct (seq lan size : Nat) : List Byte := beBytes 2 seq ++ beBytes 2 (4096 * lan + size % 4096) ++ beBytes 2 0x88FB

/-- A frame with its trailer, padded to the least frame first. -/
def withRct (seq lan : Nat) (b : List Byte) : List Byte :=
  let b := b ++ List.replicate (54 - b.length) 0
  b ++ rct seq lan (b.length + 6 - (if tagged b then 18 else 14))

/-- A frame goes to a station port's egress by way of the switch (R126, R127), coloured by the policer of its source (R139). -/
def State.toStation (s : State) (src port : Nat) (b : List Byte) : State :=
  let (s, colour) := s.colour src (framePcp b) b.length
  let i : InFrame := { pkt := .eth b, cls := framePcp b, colour := colour, src := src, dst := 2 + port }
  { s with sw := { s.sw with ingress := s.sw.ingress ++ [i] } }

/-- Send a station frame on port 0 or 1; under PRP on both, with one sequence number (R401). -/
def State.stationSend (s : State) (src port : Nat) (b : List Byte) : State :=
  if s.prpOn then
    let q := s.bridge.prpSeq
    ((s.toStation src 0 (withRct q 0xA b)).toStation src 1 (withRct q 0xB b)).prpSent
  else s.toStation src port b

/-! ### PRP (R401) -/

/-- The trailer of a received frame: sequence number and LAN. -/
def rctOf (b : List Byte) : Option (Nat × Nat) :=
  let n := b.length
  if 20 ≤ n && half b (n - 2) = 0x88FB then some (half b (n - 6), half b (n - 4) / 4096) else none

/-- Enter a sequence number of a source in the node table: the oldest of 512 entries gives way, and numbers older than EntryForgetTime
are forgotten. -/
def State.prpEnter (s : State) (mac seq : Nat) : State :=
  let old := match s.bridge.prp.find? (fun x => x.mac = mac) with | some x => x.seqs | none => []
  let x : PrpNode := {
    mac := mac, last := s.clock, seqs := (seq, s.clock) :: old.filter (fun e => s.clock < ticksMs 400 + e.2) }
  { s with bridge := { s.bridge with prp := (x :: s.bridge.prp.filter (fun y => y.mac ≠ mac)).take 512 } }

/-- The source has sent the number within EntryForgetTime. -/
def State.prpSeen (s : State) (mac seq : Nat) : Bool :=
  s.bridge.prp.any (fun x => x.mac = mac && x.seqs.any (fun e => e.1 = seq && s.clock < ticksMs 400 + e.2))

/-- A frame received under PRP: counted, judged as a duplicate, and stripped of its trailer; none when it is discarded. -/
def State.prpIn (s : State) (port : Nat) (b : List Byte) : State × Option (List Byte) :=
  let s := s.bump 0x7845 (3 + port)
  match rctOf b with
  | none => (s, some b)
  | some (q, lan) =>
    let s := if lan ≠ 0xA + port then s.bump 0x7845 (5 + port) else s
    if s.prpSeen (frameSrc b) q then (s.bump 0x7845 7, none)
    else (s.prpEnter (frameSrc b) q, some (b.take (b.length - 6)))

/-- The supervision frame (IEC 62439-3 clause 4): path and version, sequence number, duplicate-discard TLV with MAC_ADDR. -/
def State.prpSupFrame (s : State) : List Byte :=
  beBytes 6 (0x01154E000100 + s.o 0x7841 2) ++ beBytes 6 (s.o 0x7800 6) ++ beBytes 2 0x88FB ++ beBytes 2 1 ++ beBytes 2 s.bridge.prpSup
    ++ beBytes 2 0x1406 ++ beBytes 6 (s.o 0x7800 6) ++ beBytes 2 0

/-- A supervision frame is sent every LIFE_CHECK. -/
def execPrpSupervisionSend (s : State) : Host.Outcome State Fault Refusal :=
  if !s.prpOn || !s.stationMay .prp || !s.due s.bridge.prpAt (ticksMs (s.o 0x7841 3)) then .next s
  else
    let b := s.prpSupFrame
    .next ({ s with bridge := { s.bridge with prpSup := (s.bridge.prpSup + 1) % 65536, prpAt := some s.clock } }.stationSend 6 0 b)

/-- A node-table entry is forgotten NodeForgetTime after it was last seen. -/
def execPrpNodeForget (mac : BitVec 48) (s : State) : Host.Outcome State Fault Refusal :=
  .next { s with bridge := { s.bridge with
    prp := s.bridge.prp.filter (fun x => x.mac ≠ mac.toNat || s.clock < ticksMs 60000 + x.last) } }

/-! ### Reception (R400) -/

/-- Tunnel `t` takes a frame of a station port by its classifier (R399). -/
def State.tunnelTakes (s : State) (t port : Nat) (b : List Byte) : Bool :=
  s.o 0x7831 1 t = 1 && s.o 0x7831 2 t = port + 1 && (s.o 0x7831 3 t = 0 || s.o 0x7831 3 t = etherType b)
    && (s.o 0x7831 4 t = 0xFFFF || frameVid b = some (s.o 0x7831 4 t))

/-- The lowest-numbered tunnel that takes the frame. -/
def State.tunnelFor (s : State) (port : Nat) (b : List Byte) : Option Nat := (List.range 64).find? (fun t => s.tunnelTakes t port b)

/-- A received frame is dropped and counted: oversize, or multicast that nothing takes (R400). Broadcast is no multicast here. -/
def State.stationBad (s : State) (port : Nat) (b : List Byte) : Bool :=
  b.length > 2048 || (byteAt b 0 % 2 = 1 && frameDest b ≠ 0xFFFFFFFFFFFF && !(s.filterAddrs port).contains (frameDest b)
    && etherType b ≠ 0x88F7 && !isPrpSup b && (s.tunnelFor port b).isNone)

/-- A received frame that is bad is dropped and counted, an oversize one in the switch's counter too (R126, R147). -/
def State.stationDrop (s : State) (port : Nat) (b : List Byte) : State :=
  let s := if b.length > 2048 then s.bump 0x2180 6 else s
  s.bump 0x7846 (port + 1)

/-- ARP, ICMP echo, or UDP to this hub's session port (R400). -/
def State.forCore (s : State) (b : List Byte) : Bool :=
  etherType b = 0x88BA || etherType b = 0x88B8 || etherType b = 0x0806
    || (etherType b = 0x0800 && byteAt b (ipAt b + 9) = 1 && (byteAt b (l4At b) = 8 || byteAt b (l4At b) = 0)) || s.isSessionUdp b

/-- A frame goes from a station port into the switch, for the core port (6) or the bridge (4). -/
def State.stationIn (s : State) (port dst : Nat) (tunnel : Option (Nat × Nat)) (b : List Byte) : State :=
  let (s, colour) := s.colour (2 + port) (framePcp b) b.length
  let i : InFrame := { pkt := .eth b tunnel, cls := framePcp b, colour := colour, src := 2 + port, dst := dst }
  { s with sw := { s.sw with ingress := s.sw.ingress ++ [i] } }

/-- Steer a frame that passed the filter by the first rule that matches (R400). A session datagram with a bad checksum is dropped and
counted (R44). -/
def State.steer (s : State) (port : Nat) (b : List Byte) : State :=
  if etherType b = 0x88F7 then s.emit (.note 0x7840 [port, 0x88F7])
  else if s.forCore b then
    if s.isSessionUdp b && !udpOk b then s.bump 0x1209 1 else s.stationIn port 6 none b
  else match s.tunnelFor port b with
    | some t => s.stationIn port 4 (some (t, s.st32)) b
    | none => s.bump 0x7846 (port + 1)

/-- A frame, from its destination address to the end of its data, is received on a station port (R400, R401), which serves what the mode allows
(R61). -/
def execStationFrameReceived (port : Fin 2) (bytes : List Byte) (s : State) : Host.Outcome State Fault Refusal :=
  if s.o 0x7840 (port + 1) = 0 || !s.stationMay (stationUse bytes) then .next s
  else if s.stationBad port bytes then .next (s.stationDrop port bytes)
  else if s.prpOn && etherType bytes ≠ 0x88F7 then
    match s.prpIn port bytes with
    | (t, none) => .next t
    | (t, some b) => if isPrpSup b then .next (t.bump 0x7845 8) else .next (t.steer port b)
  else .next (s.steer port bytes)

/-! ### Tunnels (R399) -/

/-- The channel bound to tunnel `t` as consumer (sub of 0x5002) or producer (0x5001). -/
def State.tunnelChan (s : State) (index t : Nat) : Option Nat := (List.range 512).find? (fun c => s.o index 0 c = 0x5000 + t)

/-- The packet at the head of a tunnel's channel: confirmed items up to its EOP (R157). -/
def State.tunnelPacket (s : State) (c : Nat) : Option (List Item) :=
  let x := s.chan c
  let l := (x.items.drop x.held).takeWhile (fun i => i.unc.isNone)
  let p := l.takeWhile (fun i => !i.eop)
  if x.quarantined then none else match l.drop p.length with | e :: _ => some (p ++ [e]) | [] => none

/-- Send a tunnel frame (R399): to the remote node, or straight to the remote end when that is the own node. -/
def State.tunnelSend (s : State) (t kind st : Nat) (whole data : List Byte) : State :=
  let h : Hdr := {
    typ := 7, cls := 2, source := s.node, dest := s.o 0x7831 5 t, destCh := s.o 0x7831 6 t, length := data.length,
    spec := (65536 * (kind * 256 + b2n (data.length = whole.length)) + whole.length % 65536) * 2 ^ 32 + st }
  let s := s.bump 0x7832 1 t
  if h.dest = s.node then { s with ring := { s.ring with delivered := s.ring.delivered ++ [{ hdr := h, payload := data }] } }
  else s.originate { hdr := h, payload := data, src := 4 }

/-- A packet or a station frame at tunnel `t`'s local end is sent. What a type-7 frame has no room for is cut off. -/
def execTunnelIngress (t : Fin 64) (s : State) : Host.Outcome State Fault Refusal :=
  if s.o 0x7831 1 t = 0 then
    let n := (s.bridge.tunIn.filter (fun x => x.1 = t.val)).length
    .next ({ s with bridge := { s.bridge with tunIn := s.bridge.tunIn.filter (fun x => x.1 ≠ t.val) } }.bumpBy 0x7832 4 t n)
  else if s.o 0x7831 2 t = 0 then
    match s.tunnelChan 0x5002 t with
    | none => .next s
    | some c =>
      match s.tunnelPacket c with
      | none => .next s
      | some l =>
        let whole := l.flatMap (fun i => beBytes 4 (itemWord i))
        .next ((s.takePacket c l false).tunnelSend t 1 s.st32 whole (whole.take 2048))
  else match s.bridge.tunIn.find? (fun x => x.1 = t.val) with
    | none => .next s
    | some (_, st, b) =>
      let s := { s with bridge := { s.bridge with tunIn := s.bridge.tunIn.eraseP (fun x => x.1 = t.val) } }
      .next (s.tunnelSend t 0 st b (b.take 2048))

/-- A delivered tunnel frame is refused (R399): its tunnel is disabled, or the local end differs in kind. -/
def State.tunnelRefuses (s : State) (h : Hdr) : Bool :=
  let t := h.destCh
  let kind := specField h 20 1
  t ≥ 64 || s.o 0x7831 1 t = 0 || (kind = 0 && s.o 0x7831 2 t = 0) || (kind = 1 && s.o 0x7831 2 t ≠ 0) || kind > 1

/-- A frame's packet waits for a full channel (R187). -/
def State.tunnelWaits (s : State) (f : Frame) : Bool :=
  !s.tunnelRefuses f.hdr && specField f.hdr 20 1 = 1 &&
    (match s.tunnelChan 0x5001 f.hdr.destCh with | some c => !s.chanRoom c | none => false)

/-- Give a tunnel frame to the local end: a station port, or items of a channel as far as space goes, the rest staying behind. -/
def State.tunnelOut (s : State) (f : Frame) : State :=
  let t := f.hdr.destCh
  if specField f.hdr 20 1 = 0 then (s.bump 0x7832 2 t).stationSend 4 (s.o 0x7831 2 t - 1) f.payload
  else match s.tunnelChan 0x5001 t with
    | none => s.bump 0x7832 3 t
    | some c =>
      let items := (payloadItems f.payload).map (fun i : Item => { i with unc := none })
      let (s, rest) := s.chanWriteAll c items
      if rest.isEmpty then s.bump 0x7832 2 t
      else { s with ring := { s.ring with delivered := { f with payload := f.payload.drop (4 * (items.length - rest.length)) } :: s.ring.delivered } }

/-- A delivered type-7 frame passes to its remote local end, or is refused and counted (R399). A number that names no tunnel has no
counter. -/
def execTunnelFrameDelivered (s : State) : Host.Outcome State Fault Refusal :=
  match s.ring.delivered.find? (fun f => f.hdr.typ = 7 && !s.tunnelWaits f) with
  | none => .next s
  | some f =>
    let s := s.frameServed f
    if s.tunnelRefuses f.hdr then .next (if f.hdr.destCh < 64 then s.bump 0x7832 3 f.hdr.destCh else s)
    else .next (s.tunnelOut f)

end Sys2Proof.Machine
end

