-- ==== Sys2Proof/Machine/Objects.lean ====
section
/-!
DEFINITION. What an object reads as (R57–R59 and the object tables of the chapters), where its value is held elsewhere than in the
dictionary's own table.
-/

namespace Sys2Proof.Machine

/-! ### Identity, modes and sessions (R57–R59) -/

/-- SESSION_n for an open session (R37, R59). -/
def sessionWord (x : Session) : Nat :=
  let node := match x.path with | .ring => x.ident % 256 | .can => x.ident % 256 | .udp => 0xFE | .mailbox => 0xFF | .uart => 0xFF
  if x.isOpen then 2 ^ 31 + node * 2 ^ 16 + x.role * 2 ^ 8 + pathCode x.path else 0

/-- Open sessions (0x1200). -/
def State.openCount (s : State) : Nat := ((List.range 32).filter (fun n => (s.session n).isOpen)).length

/-- 0x1000–0x1223. -/
def State.view1 (s : State) (index sub : Nat) : Option Nat :=
  match index with
  | 0x1004 => some (s.imgSlot s.flash.running).version
  | 0x1005 => some s.flash.running
  | 0x1008 => some s.lifecycle
  | 0x1009 => some (b2n s.modes.pairId)
  | 0x1100 => some s.modes.mode.code
  | 0x1103 => some s.modes.resetCause
  | 0x1105 => some s.modes.modeSel
  | 0x1106 => some s.modes.entrySt32
  | 0x1200 => some s.openCount
  | 0x1201 => some (sessionWord (s.session (sub - 1)))
  | 0x1223 => some (b2n (s.dict.pendingCommit.isSome || s.pair.commit.isSome))
  | _ => none

/-! ### Ring, switch and Shutter (R125, R148, R175) -/

/-- PORT_STATE (0x2010). -/
def State.portState (s : State) (p : Port) : Nat :=
  let x := s.port p
  if s.unused p then 0
  else if x.outage.any (fun o => o.stage = .active) || x.planned.isSome then 4
  else if x.training then 1
  else if !x.up then 0
  else if !x.synth then 5
  else if x.joined then 3 else 2

/-- NEIGHBOUR (0x2013). -/
def nbrWord (x : Option Nbr) : Nat :=
  match x with
  | some n => 2 ^ 31 + n.node % 256 * 2 ^ 8 + b2n n.pairMember * 2 + b2n n.pairId
  | none => 0

/-- RING_MAP (0x2016): two bytes for each node number. -/
def State.ringMapBytes (s : State) : List Byte :=
  (List.range 128).flatMap (fun n =>
    let e := tget {} s.ring.map n
    [BitVec.ofNat 8 e.award, BitVec.ofNat 8 e.bward])

/-- Cells of a queue, on chip and in the kennel (0x2181). -/
def State.queueDepth (s : State) (q : Nat) : Nat :=
  let x := s.queue q
  cellsOf x.onchip + cellsOf x.returned + cellsOf x.kennel

/-- The port that a sub of 1 or 2 names. -/
def subPort (sub : Nat) : Port := if sub = 1 then .a else .b

/-- 0x2000–0x26FF. -/
def State.view2 (s : State) (index sub : Nat) : Option Nat :=
  let p := subPort sub
  match index with
  | 0x2010 => some (s.portState p)
  | 0x2011 => some s.ringState
  | 0x2012 => some (s.ring.map.filter (fun e => e.2.award ≠ 0xFF || e.2.bward ≠ 0xFF)).length
  | 0x2013 => some (nbrWord (s.port p).nbr)
  | 0x2014 => some ((s.port p).vert % 256 * 256 + (s.port p).horiz % 256)
  | 0x2181 => some (s.queueDepth (sub - 1))
  | 0x2183 => some s.freeCells
  | 0x2202 => if sub = 1 then some s.spillUsed else none
  | 0x26B0 => some (if sub = 1 then s.shutterReg 4 else s.shutter.gfailSt32)
  | _ => none

/-! ### Time and phase (R274, R296) -/

/-- FREQ_ADJ (0x3004) in 2^-8 ppb. -/
def State.freqAdj (s : State) : Int := clampI (-2147483648) 2147483647 (ratNear (s.time.y * (256000000000 : Nat)))

/-- The status and counts of tracker `k` (0x3420 + k). -/
def State.trkView (s : State) (k sub : Nat) : Option Nat :=
  let x := s.trk k
  match sub with
  | 1 => some (s.trkState k)
  | 2 => some (s.pa24 k)
  | 3 => some (s.cy24 k)
  | 4 => some (x.f % 2 ^ 24)
  | 5 => some (ofSigned 24 x.r)
  | 6 => some (x.amp % 2 ^ 24)
  | _ => none

/-- A field of a calendar entry (0x3601). -/
def calField (x : CalEntry) (sub : Nat) : Nat :=
  match sub with
  | 1 => x.trk
  | 2 => x.cycle
  | 3 => x.angle
  | 4 => ofSigned 32 x.lead
  | 5 => x.action
  | 6 => x.operand
  | 7 => x.repeat_
  | _ => x.tag

/-- 0x3000–0x37FF. -/
def State.view3 (s : State) (index sub item : Nat) : Option Nat :=
  match index with
  | 0x3000 => some s.time.status.code
  | 0x3001 => some (ofBe (wtBytes s.time.wt))
  | 0x3002 => some s.st32
  | 0x3004 => some (ofSigned 32 s.freqAdj)
  | 0x3005 => some s.inaccuracy
  | 0x3006 => some s.ownClass
  | 0x3007 => some (s.time.root % 256 * 256 + s.time.steps % 256)
  | 0x3008 => some (match s.time.syncPort with | some p => p.toNat | none => 0xFF)
  | 0x3013 => some (s.time.leap % 4)
  | 0x3420 => s.trkView 0 sub
  | 0x3421 => s.trkView 1 sub
  | 0x3422 => s.trkView 2 sub
  | 0x3423 => s.trkView 3 sub
  | 0x3601 => some (calField (s.cal item) sub)
  | 0x3603 => some (match sub with | 1 => (s.cal item).st | 2 => (s.cal item).reason | _ => (s.cal item).fireSt)
  | 0x3604 => some s.calLiveCount
  | _ => none

/-! ### Station services and cores (R325, R350) -/

/-- BASE of a breaker's kind, band and pole: T_NOMINAL while it is empty (R325). -/
def State.cswBaseView (s : State) (b sub : Nat) : Nat :=
  let i := sub - 1
  s.cswBase b (i / 9 + 1) (i / 3 % 3) (i % 3)

/-- 0x3800–0x3FFF. -/
def State.view38 (s : State) (index sub item : Nat) : Option Nat :=
  match index with
  | 0x3824 => some (s.svSub item).state
  | 0x3843 => if sub = 3 then some (s.goosePub item).stNum else none
  | 0x3854 => some (s.gooseSub item).state
  | 0x3861 => (match sub with
    | 1 => some (s.sigOf item).value
    | 2 => some (s.sigOf item).quality
    | 3 => some (s.sigOf item).changed
    | _ => none)
  | 0x3904 => some (if sub = 1 then s.logOldest else s.logNewest)
  | 0x3A06 => if sub = 2 then some (s.cswState item) else none
  | 0x3A07 => some (s.cswBaseView item sub)
  | _ => none

/-- 0x4000–0x40FF. -/
def State.view4 (s : State) (index sub item : Nat) : Option Nat :=
  let c := s.coreSt item
  let x := s.svc item
  match index, sub with
  | 0x4001, 1 => some c.state
  | 0x4001, 2 => some c.load10
  | 0x4001, 3 => some c.load1s
  | 0x4001, 4 => some c.peak
  | 0x4001, 5 => some (s.corePlanned item)
  | 0x4001, 6 => some (s.svcsOn item).length
  | 0x4011, 1 => some x.core
  | 0x4011, 2 => some x.state
  | 0x4011, 3 => some (s.svcPlanned item)
  | 0x4011, 5 => some (hingeMaxOf item)
  | 0x4011, 6 => some (match x.tcm with | some h => h.st32 | none => 0)
  | 0x4021, 1 => some s.cores.head
  | 0x4021, 2 => some s.cores.lap
  | _, _ => none

/-- PLACEMENT (0x4012): the placed instances by service number. -/
def State.placementBytes (s : State) : List Byte :=
  (s.cores.svcs.filter (fun x => x.2.core ≠ 0xFF)).flatMap (fun x => beBytes 2 x.1 ++ beBytes 1 x.2.core ++ [0])

/-! ### Channels, engines and banks (R202, R238, R247) -/

/-- 0x5000–0x50FF. -/
def State.view5 (s : State) (index sub item : Nat) : Option Nat :=
  let x := s.chan item
  match index with
  | 0x5010 => some (match sub with | 1 => x.items.length | 2 => x.hwm | 3 => x.itemsIn | _ => x.itemsOut)
  | 0x5011 => some (b2n x.quarantined)
  | 0x5041 =>
    let l := s.lock (sub - 1)
    some (b2n l.running * 2 ^ 31 + (s.lockMembers (sub - 1)).length % 128 * 2 ^ 24 + min l.parkedStarts 0xFFFFFF)
  | 0x5081 => some s.unitsUp
  | 0x5090 => some (bitsOf 32 (fun j => (s.chan (32 * (sub - 1) + j)).quarantined))
  | _ => none

/-- 0x6000–0x68FF. -/
def State.view6 (s : State) (index sub item : Nat) : Option Nat :=
  let x := s.eng item
  match index with
  | 0x6020 => some (match sub with | 1 => x.st.code | 2 => x.r.pc | 3 => x.parkCause | 4 => x.parkPc | _ => x.parkSt32)
  | 0x6801 => some (s.bank (sub - 1)).seen
  | 0x6820 => some (bitsOf 24 (fun p => s.padLevel (sub - 1) p))
  | _ => none

/-! ### Buses, bridge and keys (R376, R402, R421) -/

/-- The status of a controller (0x7011, 0x7032). -/
def State.canView (s : State) (index sub k : Nat) : Option Nat :=
  let x := s.ctl k
  match index, sub with
  | 0x7011, 1 => some x.state
  | 0x7011, 2 => some x.tec
  | 0x7011, 3 => some x.rec_
  | 0x7011, 4 => some x.tdcv
  | 0x7011, 5 => some x.queue.length
  | 0x7011, _ => some (x.wakeCause % 8 * 2 ^ 29 + x.wakeId % 2 ^ 29)
  | 0x7032, 1 => some (s.ttState k)
  | 0x7032, 2 => some x.cycle
  | 0x7032, 3 => some (if s.ttMode k = 0 then 0 else min (s.ttUncert k) 0xFFFF)
  | 0x7032, 4 => some x.tur
  | 0x7032, 5 => some x.level
  | 0x7032, _ => some (b2n x.master * 8 + x.prio % 8)
  | _, _ => none

/-- 0x7000–0x78FF. -/
def State.view7 (s : State) (index sub item : Nat) : Option Nat :=
  match index with
  | 0x7011 => s.canView index sub item
  | 0x7032 => s.canView index sub item
  | 0x7800 => if sub = 5 then some (if s.bridge.pcieUp then Config.pcieLink % 256 else 0) else none
  | 0x7844 => some (s.filterAddrs (sub - 1)).length
  | _ => none

/-- 0x8000–0x80FF: the status of key slot `item`. A volatile key reads all ones as its count (R407). -/
def State.view8 (s : State) (index sub item : Nat) : Option Nat :=
  let k := s.slot item
  match index with
  | 0x8001 => some (match sub with | 1 => k.state | 2 => k.attr | _ => if k.state ≠ 0 && slotVolatile k then 2 ^ 48 - 1 else k.uses)
  | _ => none

/-! ### Store, faults, pair, self-test and power (R446, R466, R488, R502, R525) -/

/-- 0x9000–0x90FF. -/
def State.view9 (s : State) (index sub : Nat) : Option Nat :=
  let f := s.flash
  match index, sub with
  | 0x9001, 1 => some (b2n f.wp)
  | 0x9001, 2 => some (min s.sparesFree.length 0xFFFF)
  | 0x9001, 3 => some (min sparePool.length 0xFFFF)
  | 0x9001, 4 => some s.logLive.length
  | 0x9001, 5 => some (min f.retired.length 0xFFFF)
  | 0x9001, 6 => some ((f.counts.map (·.2)).foldl max 0)
  | 0x9012, 1 => some f.updState
  | 0x9013, i => some (s.imgSlot (i - 1)).state
  | 0x9014, i => some (s.imgSlot (i - 1)).version
  | 0x9015, i => some (s.imgSlot (i - 1)).rollback
  | 0x9016, _ => some f.failed
  | _, _ => none

/-- ROLE (0xA800:01). -/
def State.pairRole (s : State) : Nat := if !s.pairMember then 0 else if s.holds then 1 else if s.pair.claim = .seeking then 3 else 2

/-- PAIR_FLAGS (0xA800:05). -/
def State.pairFlags (s : State) : Nat :=
  b2n s.leashToggles + 2 * b2n s.pair.link + 4 * b2n s.inSync + 8 * b2n s.pair.pFit + 16 * b2n s.pair.pClaim

/-- 0xA000–0xA8FF. -/
def State.viewA (s : State) (index sub : Nat) : Option Nat :=
  let f := s.fc.first
  match index, sub with
  | 0xA000, 1 => some f.source
  | 0xA000, 2 => some f.cls
  | 0xA000, 3 => some f.st32
  | 0xA000, 4 => some f.syndrome
  | 0xA000, 5 => some f.address
  | 0xA000, 6 => some (b2n f.valid + 2 * b2n f.overflow + 4 * b2n f.fromReset)
  | 0xA000, 7 => some f.merged
  | 0xA002, _ => some s.fc.state.code
  | 0xA004, 2 => some (min s.recoveriesHour 0xFF)
  | 0xA800, 1 => some s.pairRole
  | 0xA800, 2 => some s.pair.claim.code
  | 0xA800, 3 => some s.pair.node
  | 0xA800, 4 => some s.pair.mode
  | 0xA800, 5 => some s.pairFlags
  | _, _ => none

/-- 0xB000–0xB8FF. -/
def State.viewB (s : State) (index sub : Nat) : Option Nat :=
  let b := s.bist
  match index, sub with
  | 0xB000, 1 => some b.pointer
  | 0xB000, 2 => some b.rounds
  | 0xB000, 3 => some b.candidates.length
  | 0xB801, _ => some (s.powerReg .pcie 0 % 32)
  | i, 1 => if 0xB830 ≤ i && i ≤ 0xB837 then some (s.efState (i - 0xB830)) else none
  | _, _ => none

/-! ### The whole -/

/-- STRING and DOMAIN objects held elsewhere. -/
def State.viewBytes (s : State) (index : Nat) : Option (List Byte) :=
  match index with
  | 0x2016 => some s.ringMapBytes
  | 0x4012 => some s.placementBytes
  | 0x4022 => some (Config.traceDict (s.imgSlot s.flash.running).version)
  | 0xA807 => some s.pair.bark
  | 0xB001 => some s.bist.results.flatten
  | 0xB002 => some (s.bist.map.flatMap (fun r => beBytes 2 r.macro_ ++ beBytes 1 r.kind ++ beBytes 1 r.spare ++ beBytes 4 r.loc))
  | 0xB003 => some (s.bist.retired.flatMap (fun m => beBytes 2 m))
  | 0xB004 => some s.bist.remap
  | _ => none

/-- OPS (0x3A09): the records of a breaker, newest first. -/
def State.opsBytes (s : State) (b : Nat) : List Byte := (s.brk b).ops.flatten

/-- A number that is held elsewhere than in the dictionary's table. -/
def State.viewNum (s : State) (index sub item : Nat) : Option Nat :=
  match index / 0x1000 with
  | 1 => s.view1 index sub
  | 2 => s.view2 index sub
  | 3 => if index < 0x3800 then s.view3 index sub item else s.view38 index sub item
  | 4 => s.view4 index sub item
  | 5 => s.view5 index sub item
  | 6 => s.view6 index sub item
  | 7 => s.view7 index sub item
  | 8 => s.view8 index sub item
  | 9 => s.view9 index sub
  | 10 => s.viewA index sub
  | 11 => s.viewB index sub
  | _ => none

/-- The value that a session reads of an entry of a selected item or of the hub. -/
def State.view (s : State) (index sub item : Nat) : Val :=
  match s.viewNum index sub item with
  | some v => .num v
  | none =>
    match if index = 0x3A09 then some (s.opsBytes item) else s.viewBytes index with
    | some b => .bytes b
    | none => s.val index sub item

/-- A value as the bytes of its type (R29). -/
def valWire (t : Ty) (v : Val) : List Byte :=
  match v with
  | .bytes b => b
  | .num n => beBytes t.bytes n

end Sys2Proof.Machine
end

