-- ==== Sys2Proof/Machine/ObjWrite.lean ====
section
/-!
DEFINITION. What a write of an object does (R28–R34, R548): legal values, staging, and the actions and settings of rw and wo objects.
-/

namespace Sys2Proof.Machine

/-! ### Legal values (R30, R548 step 7) -/

/-- The Boolean lies between two numbers. -/
def within (lo hi v : Nat) : Bool := lo ≤ v && v ≤ hi

/-- A VLAN word (R325, PTP_VLAN): 0xFFFF, or bit 12 is 0. -/
def vlanBad (v : Nat) : Bool := v ≠ 0xFFFF && bitOf v 12

/-- Endpoint codes (R180): a reserved kind, or an index outside the kind's range. -/
def endpointBad (consumer : Bool) (v : Nat) : Bool :=
  let i := v % 0x1000
  match v / 0x1000 with
  | 0 => i ≠ 0
  | 1 => i > 255
  | 2 => i ≠ 0
  | 3 => if consumer then i > 7 else i > 255
  | 4 => i > 255
  | 5 => i > 63
  | 6 => !((0x20 ≤ i && i ≤ 0x23) || (0x30 ≤ i && i ≤ 0x37))
  | 7 => i ≠ 0
  | _ => true

/-- A service number of R329. -/
def svcNumber (v : Nat) : Bool :=
  v = 0 || within 0x100 0x11F v || within 0x140 0x17F v || within 0x200 0x27F v || within 0x300 0x3FF v || v = 0x400
    || within 0x480 0x487 v || v = 0x500 || v = 0x501

/-- A reaction word that R453 refuses for a source. -/
def reactionBad (source v : Nat) : Bool :=
  let c := v % 8
  let fatal := decide (srcClass source = 2)
  v ≥ 32 || c = 7 || (1 ≤ c && c ≤ 3 && srcMark source ≠ c) || (fatal && (c < 4 || bitOf v 4))

/-- An entry of the SEF table (R396, R402): reserved bits, and the size of an entry that is not empty. -/
def sefBad (v : Nat) : Bool :=
  v / 2 ^ 28 % 2 ^ 22 ≠ 0 || (v / 2 ^ 56 ≠ 0xFF && !within 12 40 (v / 2 ^ 50 % 64))

/-- Values that the ring, the switch and the Shutter refuse beside the range of the type (R83–R175). DESIGN CHOICE: MARGIN_WARN and MARGIN_RETRAIN
are each judged against the other's applied value. -/
def State.bad2 (s : State) (index sub v : Nat) : Bool :=
  match index with
  | 0x2001 => v > 0x7F && v ≠ 0xFF
  | 0x2004 => !(bitOf v 7 && bitOf v 6 && !bitOf v 5)
  | 0x2006 => (sub = 1 && v < s.o 0x2006 2 + 5) || (sub = 2 && v + 5 > s.o 0x2006 1)
  | 0x2103 => sub ≤ 6 && v = 0
  | 0x2200 => !within 128 (min 2048 (s.o 0x1006 0 / 2)) v
  | 0x2201 => ! [1600, 1866, 2133, 2400, 2666].contains v
  | i =>
    if 0x2140 ≤ i && i ≤ 0x217F then sub = 5 && bitOf v 7 && !(within 2 6 (v / 16 % 8) && !bitOf v 3 && v % 8 ≤ 4)
    else if 0x2610 ≤ i && i ≤ 0x268F then v > 0x1FF && v ≠ 0xFFFF
    else false

/-- Values that time, phase, station services and cores refuse beside the range of the type (R250–R350). -/
def bad34 (index sub v : Nat) : Bool :=
  match index with
  | 0x3020 => sub = 1 && v > 4
  | 0x3040 => sub = 4 && vlanBad v
  | 0x3052 => sub = 1 && v > 0x1FF && v ≠ 0xFFFF
  | 0x3601 => calBadValue (sub - 1) v
  | 0x3800 => sub = 1 && v > 0x3F
  | 0x3811 =>
    (sub = 5 && vlanBad v) || (sub = 7 && ! [4800, 14400, 96000].contains v) || (sub = 8 && ! [1, 2, 4, 6, 8].contains v)
      || (sub = 14 && v > 63 && v ≠ 0xFF)
  | 0x3821 =>
    (sub = 7 && ! [4800, 14400, 96000].contains v) || (sub = 8 && ! [1, 2, 4, 6, 8].contains v) || (sub = 14 && v > 63 && v ≠ 0xFF)
  | 0x3841 => (sub = 5 && vlanBad v) || (sub = 15 && v > 63 && v ≠ 0xFF)
  | 0x3851 => sub = 15 && v > 63 && v ≠ 0xFF
  | 0x3842 => v / 2 ^ 28 > 5 || v / 2 ^ 12 % 2 ^ 16 ≠ 0
  | 0x3852 => v / 2 ^ 28 > 5 || v / 2 ^ 13 % 2 ^ 15 ≠ 0
  | 0x3861 => sub = 4 && v > 31 && v ≠ 0xFF
  | 0x3A04 => sub ≤ 4 && v > 0xFFF && v ≠ 0xFFFF
  | 0x4010 => !svcNumber v
  | i => (0x3400 ≤ i && i ≤ 0x3403) && sub = 1 && v > 2

/-- Values that channels, engines and banks refuse beside the range of the type (R178–R247). -/
def bad56 (index v : Nat) : Bool :=
  match index with
  | 0x5001 => endpointBad false v
  | 0x5002 => endpointBad true v
  | 0x5003 => v > 0x7F && v ≠ 0xFF
  | 0x5004 => false
  | 0x5009 => v > 63 && v ≠ 0xFF
  | 0x500A => v > 3 && v ≠ 0xFF
  | 0x6110 => (List.range 8).any (fun f => v / 16 ^ f % 16 > 2)
  | i => (0x6810 ≤ i && i ≤ 0x681F) && (bitOf v 4 || v / 64 % 4 ≠ 0 || v / 4 % 4 = 3 || v % 4 = 3)

/-- Values that CAN, bridge, keys, faults, pair and power refuse beside the range of the type (R376, R402, R421, R453, R488, R525). -/
def bad7B (index sub v : Nat) : Bool :=
  match index with
  | 0x600C => sub = 1 && v > 47 && v ≠ 0xFF
  | 0x7003 => (sub = 4 || sub = 5) && v ≥ 2 ^ 29
  | 0x7020 => v / 2 ^ 62 = 3 || v / 2 ^ 59 % 4 = 3 || bitOf v 58
  | 0x7030 => (sub = 2 && v ≥ 2 ^ 29) || (sub = 5 && ! [1, 2, 4, 8, 16, 32, 64, 128].contains v)
  | 0x7031 => v / 2 ^ 29 > 4
  | 0x7811 => (sub = 2 && !within 12 32 v) || (sub = 4 && (v ≥ 32 || v / 4 % 4 = 3))
  | 0x7820 => sefBad v
  | 0xA020 => reactionBad sub v
  | 0xA803 => v ≥ 2 ^ 24
  | 0xB841 => v % 4 ≠ 0
  | _ => false

/-- Values of the identity, mode and session objects that are refused beside the range of the type (R58, R59, R64). -/
def bad1 (index sub v : Nat) : Bool :=
  match index with
  | 0x1102 => v ≠ 0x5A01 && v ≠ 0x5A02
  | 0x1101 => ! [4, 8, 9, 10, 11].contains v
  | 0x1112 => if sub = 17 then v % 4 ≠ 0 else v ≥ 2 ^ 24
  | 0x1204 => ! [115200, 230400, 460800, 921600].contains v
  | 0x5004 => sub = 1 && v > 0x7F && v ≠ 0xFF
  | _ => false

/-- A number is out of range for an entry, or carries a reserved encoding. -/
def State.numBad (s : State) (d : Desc) (index sub n : Nat) : Bool :=
  let i := d.ty.decode n
  decide (i < d.min) || decide (d.max < i) || (decide (d.ty = .bool) && n > 1) || (decide (d.ty = .wt) && (wtRead (beBytes 14 n)).isNone)
    || bad1 index sub n || s.bad2 index sub n || bad34 index sub n || bad56 index n || bad7B index sub n

/-- Bytes are out of range for an entry: a STRING outside 0x20–0x7E, or a PROGRAM that is not whole words (R30, R238). -/
def bytesBad (d : Desc) (index : Nat) (b : List Byte) : Bool :=
  match d.ty with
  | .str _ => b.any (fun c => c.toNat < 0x20 || c.toNat > 0x7E)
  | _ => 0x6100 ≤ index && index ≤ 0x610F && b.length % 3 ≠ 0

/-- Steps 6 and 7 of R548: the value that the data spell, or the abort. -/
def State.valueOf (s : State) (d : Desc) (index sub : Nat) (data : List Byte) : Except Nat Val :=
  match d.ty with
  | .str m => if data.length > m then .error Abort.valueTooLong
      else if bytesBad d index data then .error Abort.valueOutOfRange else .ok (.bytes data)
  | .dom m => if data.length > m then .error Abort.valueTooLong
      else if index = 0x7002 && data.length ≠ 16 then .error Abort.lengthMismatch
      else if bytesBad d index data then .error Abort.valueOutOfRange else .ok (.bytes data)
  | t => if data.length ≠ t.bytes then .error Abort.lengthMismatch
      else if s.numBad d index sub (ofBe data) then .error Abort.valueOutOfRange else .ok (.num (ofBe data))

/-! ### Roles (R31, R548 step 2) -/

/-- A read is permitted. -/
def mayRead (role : Nat) (d : Desc) : Bool := bitOf d.roles 0 || decide (roleGrant role &&& d.roles ≠ 0)

/-- A write is permitted: in a role other than Observer, or of an object held per session whose mask has Observer. -/
def mayWrite (role : Nat) (d : Desc) : Bool :=
  decide (roleGrant role &&& d.roles &&& 30 ≠ 0) || (decide (d.sel = .own) && bitOf d.roles 0)

/-- The entry takes writes at all (R30, R32): an F-class entry is constant outside BLANK. -/
def State.writable (s : State) (d : Desc) : Bool :=
  match d.acc with
  | .const | .ro => false
  | _ => !(decide (d.pers = .f) && decide (s.sec.lc ≠ 0))

/-- The item that a session's access of an entry addresses (R47). -/
def State.selItem (s : State) (n : Nat) (k : Sel) : Nat :=
  match k with
  | .one => 0
  | .own => 0
  | .ch => s.ownGet n 0x5000 0
  | .eng => s.ownGet n 0x6000 0
  | .can => s.ownGet n 0x7000 0
  | .cal => s.ownGet n 0x3600 0
  | .svp => s.ownGet n 0x3810 0
  | .svs => s.ownGet n 0x3820 0
  | .gp => s.ownGet n 0x3840 0
  | .gs => s.ownGet n 0x3850 0
  | .sig => s.ownGet n 0x3860 0
  | .csw => s.ownGet n 0x3A00 0
  | .core => s.ownGet n 0x4000 0
  | .svc => s.ownGet n 0x4010 0
  | .win => s.ownGet n 0x7810 0
  | .tun => s.ownGet n 0x7830 0
  | .key => s.ownGet n 0x8000 0

/-- The selected channel or engine is retired (R48). -/
def State.itemGone (s : State) (k : Sel) (item : Nat) : Bool :=
  match k with
  | .ch => (s.chan item).retired
  | .eng => (s.eng item).st = .retired
  | _ => false

/-! ### Staging (R49) -/

/-- A write enters the session's staging set: it replaces the value staged for the entry, and the first entry records the epoch. -/
def State.stage (s : State) (n : Nat) (e : Staged) : Act :=
  let x := s.session n
  let l := x.staging.filter (fun y => stagedKey y ≠ stagedKey e) ++ [e]
  if l.length > 4096 || stagedBytes l > 65536 then .error Abort.stagingSetFull
  else .ok (s.setSession n { x with staging := l, epoch := if x.staging.isEmpty then s.o 0x1221 0 else x.epoch })

/-! ### Actions that the partner follows (R476) -/

/-- CSW_CMD of breaker `b`. On a standby it is a mirrored one, which acts as on the active. -/
def State.cswAct (s : State) (b v : Nat) : Act :=
  if v = 3 then .ok (s.cswAbort b)
  else if s.modes.mode = .standby then
    (if !s.svcUp (0x480 + b) then .error Abort.notInThisMode else if (s.brk b).kind ≠ 0 then .error Abort.busyRetry else .ok (s.cswBegin b v))
  else s.cswCommand b v

/-- CH_CMD of channel `c`. -/
def State.chAct (s : State) (c v : Nat) : Act :=
  match v with
  | 1 => .ok (s.chanFlush c)
  | 2 => if s.quarBusy c then .error Abort.busyRetry else .ok (s.quarRelease c)
  | _ => .ok (s.chanClear c)

/-- ENG_CMD of engine `e`. -/
def State.engAct (s : State) (e v : Nat) : Act :=
  match v with
  | 1 => .ok (s.enginePark e 3)
  | 2 => (match s.restartBar e with | some c => .error c | none => .ok (s.engineRestart e))
  | _ => .ok (s.engineClear e)

/-- CAN_CMD of controller `k`: whether the head frame is on the bus is free. -/
def State.canAct (s : State) (k v : Nat) : State :=
  match v with
  | 1 => s.drew.canAbort k false (s.freeNat 1 = 1) (fun _ => true)
  | 2 => s.canRestart k
  | 3 => s.canClear k
  | _ => s.canUnhalt k

/-- A BOOL command: 0 does nothing. -/
def State.ifOne (s : State) (v : Nat) (t : State) : Act := .ok (if v = 1 then t else s)

/-- TOD_SET with the 14 bytes of its value. -/
def State.todAct (s : State) (v : Nat) : Act := s.todSet (v / 2 ^ 64) (v / 2 ^ 32 % 2 ^ 32) (v % 2 ^ 32)

/-- A write of an rw or wo object whose effect does not depend on who writes it. -/
def State.itemAct (s : State) (index sub item v : Nat) : Act :=
  match index with
  | 0x2022 => s.ifOne v s.ringClear
  | 0x2180 => s.ifOne v s.switchClear
  | 0x26A0 => s.ifOne v s.shutterClear
  | 0x3010 => s.todAct v
  | 0x3011 => s.ppsTod v
  | 0x3071 => s.ifOne v s.timeClear
  | 0x3501 => s.ifOne v s.phaseClear
  | 0x3601 => s.calWriteAt item (sub - 1) v
  | 0x3800 => s.ifOne v s.stationClear
  | 0x3A06 => s.cswAct item v
  | 0x4011 => .ok (if v = 1 then s.svcCmdRestart item else s.svcClear item)
  | 0x5013 => s.chAct item v
  | 0x5040 => .ok (s.lockStart v)
  | 0x6030 => s.engAct item v
  | 0x7012 => .ok (s.canAct item v)
  | 0xA000 => s.ifOne v s.firstClear
  | 0xA0F1 => .ok s.reservedClear
  | 0xB005 => s.repairClearAct
  | 0xB840 => if v = 1 then s.efOn (sub - 1) else s.efOff (sub - 1)
  | _ => .ok s

/-- Objects whose writes `itemAct` carries out. -/
def itemActs : List Nat :=
  [0x2022, 0x2180, 0x26A0, 0x3010, 0x3011, 0x3071, 0x3501, 0x3601, 0x3800, 0x3A06, 0x4011, 0x5013, 0x5040, 0x6030, 0x7012, 0xA000, 0xA0F1,
    0xB005, 0xB840]

/-- A session's write of such an object: mirrored when it succeeds (R476), then answered. A Factory session's clear of the switch counters clears
DDR_ECC too (R148). -/
def State.itemWrite (s : State) (n index sub item v : Nat) : State :=
  let s := if index = 0x2180 && v = 1 && (s.session n).role = 4 then s.clearSubs 0x2230 1 2 0 else s
  match s.itemAct index sub item v with
  | .error c => s.answer n (.abort c)
  | .ok t => (t.mirror (.write { index := index, sub := sub, item := item, v := .num v })).answer n (.ok [])

/-! ### Writes that concern the session itself -/

/-- MODE_REQ (R66). -/
def State.modeWrite (s : State) (n v : Nat) : State :=
  match v with
  | 4 => s.modeReq n State.modeReturn
  | 8 => s.modeReq n State.modeMaintenance
  | 9 => s.modeReq n State.modeFailsafe
  | 10 => s.modeReq n State.modeDoze
  | _ => s.modeReq n State.modeShutdown

/-- RESET_CMD (R58, R69): answered, then the reset. -/
def State.resetWrite (s : State) (n v : Nat) : State := (s.answer n (.ok [])).beginReset (if v = 0x5A01 then 4 else 5)

/-- COMMIT_CMD (R50, R54). -/
def State.commitWrite (s : State) (n v : Nat) : State :=
  match v with
  | 1 => s.commitNow n
  | 2 => s.act n (.ok (s.discardSet n))
  | 3 => s.act n (s.cancelOwn n)
  | _ => s.act n s.cancelAny

/-- CAL_CMD (R287, R291). -/
def State.calCmd (s : State) (n v : Nat) : State :=
  let c : Ctx := .session (Fin.ofNat 32 n)
  if v = 1 then s.calArm c else s.calCancel c

/-- Test permission (R64): pins that lose it are held as the override holds them. -/
def State.permitWrite (s : State) (sub v : Nat) : State :=
  let t := (s.setO 0x1112 sub 0 v).holdLatch s false
  if sub = 17 then t.fieldsPermit else t

/-- KEY_CMD (R410). -/
def State.keyCmd (s : State) (n v : Nat) : Act := if v = 1 then .ok (s.keyDestroyAt (s.keySel n)) else s.keyDerived n

/-- LC_REQ (R418, R419): whether the zeroed slots verify is free. -/
def State.lcWrite (s : State) (n v : Nat) : State :=
  match s.lcRequest v with
  | .error c => s.answer n (.abort c)
  | .ok t =>
    let (t, done) := ((t.answer n (.ok [])).drew).lcRun (v % 256) (s.freeNat 1 = 1)
    if done then t.beginReset 4 else t

/-- UPD_CMD (R435, R438). -/
def State.updCmd (s : State) (n v : Nat) : Act :=
  match v with
  | 1 => s.updPrepare n
  | 2 => s.activateHandover
  | 3 => s.activateReset
  | _ => s.updAbandon

/-- SWITCHOVER_CMD (R486, R487). -/
def State.swapWrite (s : State) (n v : Nat) : State :=
  match v with
  | 2 => (match s.heelAct n with | none => s.act n (.ok s) | some r => s.actLater n r)
  | v => s.actLater n (s.switchover v n)

/-- A session's write of any other rw or wo number. -/
def State.sessWrite (s : State) (n index sub v : Nat) : State :=
  match index with
  | 0x1101 => s.modeWrite n v
  | 0x1102 => s.resetWrite n v
  | 0x1112 => s.act n (.ok (s.permitWrite sub v))
  | 0x1220 => if sub = 1 then s.commitWrite n v else s.act n (.ok (s.ownSet n index sub v))
  | 0x3602 => s.calCmd n v
  | 0x8003 => s.act n (s.keyCmd n v)
  | 0x8030 => s.act n (s.revoke v)
  | 0x8040 => s.lcWrite n v
  | 0x9010 => s.act n (s.updCmd n v)
  | 0x9020 => s.act n (if v = 1 then s.floorRaise else .ok s)
  | 0xA804 => s.swapWrite n v
  | _ => s.act n (.ok (s.ownSet n index sub v))

/-- A session's write of bytes to an rw or wo object. -/
def State.bytesWrite (s : State) (n index sub : Nat) (b : List Byte) : State :=
  let x := s.session n
  match index, sub with
  | 0x8002, 5 => s.act n (.ok (s.setSession n { x with label := b }))
  | 0x8002, _ => s.act n (.ok (s.setSession n { x with context := b }))
  | 0x8003, 1 => s.act n (s.keyPlain n b)
  | 0x8003, _ => s.act n (s.keyWrapped n b)
  | _, _ => s.act n (.ok s)

/-! ### The ordered checks (R548) -/

/-- Steps 1 to 3 and the access to an entry: its row, or the abort. -/
def State.findEntry (s : State) (n : Nat) (index sub : Nat) (write : Bool) : Except Nat Desc :=
  let x := s.session n
  match Desc.find index sub with
  | none => .error (if Desc.hasIndex index then Abort.subindexDoesNotExist else Abort.objectDoesNotExist)
  | some d =>
    if write then
      if !s.writable d then .error Abort.writeToReadOnly
      else if !mayWrite x.role d || pathBar x.path index sub then .error Abort.roleNotPermitted
      else .ok d
    else if d.acc = .wo then .error Abort.readOfWriteOnly
    else if !mayRead x.role d then .error Abort.roleNotPermitted
    else .ok d

/-- A write of session `n` (R548): refused by the first check that fails, else carried out or staged, and answered. -/
def State.objWrite (s : State) (n index sub : Nat) (data : List Byte) : State :=
  match s.findEntry n index sub true with
  | .error c => s.answer n (.abort c)
  | .ok d =>
    let item := s.selItem n d.sel
    if s.lcBar index sub then s.answer n (.abort Abort.notInThisLifeCycleState)
    else if s.modeBar index sub then s.answer n (.abort Abort.notInThisMode)
    else match s.valueOf d index sub data with
      | .error c => s.answer n (.abort c)
      | .ok v =>
        if s.itemGone d.sel item then s.answer n (.abort Abort.resourceRetired)
        else if d.acc = .rwc then s.act n (s.stage n { index := index, sub := sub, item := item, v := v })
        else match v with
          | .bytes b => s.bytesWrite n index sub b
          | .num v => if itemActs.contains index then s.itemWrite n index sub item v else s.sessWrite n index sub v

/-- A segment of IMAGE_DATA (R435, R548): each segment is carried out and answered by itself. -/
def State.imageWrite (s : State) (n off : Nat) (data : List Byte) (last : Bool) : State :=
  match s.findEntry n 0x9011 0 true with
  | .error c => s.answer n (.abort c)
  | .ok _ => s.imageSegment n off data last

/-! ### Reads -/

/-- A session's own entries as it reads them (R47, R59). -/
def State.ownRead (s : State) (n index sub : Nat) (d : Desc) : Resp :=
  let x := s.session n
  match index, sub with
  | 0x1207, _ => .ok (beBytes 2 (x.role * 256 + n))
  | 0x1210, _ => .ok (beBytes 2 x.staging.length)
  | 0x3410, 4 => s.convRead n false
  | 0x3410, 5 => s.convRead n true
  | 0x8002, 5 => .ok x.label
  | 0x8002, 6 => .ok x.context
  | _, _ => .ok (beBytes d.ty.bytes (s.ownGet n index sub))

/-- The value staged for an entry by session `n`. -/
def State.stagedVal (s : State) (n index sub item : Nat) : Option Val :=
  ((s.session n).staging.find? (fun x => stagedKey x = objKey index sub item)).map (fun x => x.v)

/-- A read of session `n` (R548), of the staged value where one is asked for and staged: the state after it, and the response. -/
def State.objRead (s : State) (n index sub : Nat) (staged : Bool) : State × Resp :=
  match s.findEntry n index sub false with
  | .error c => (s, .abort c)
  | .ok d =>
    let item := s.selItem n d.sel
    if s.itemGone d.sel item then (s, .abort Abort.resourceRetired)
    else if d.sel = .own then (s, s.ownRead n index sub d)
    else if index = 0x3903 then
      let (l, t) := s.logReadOut n
      (t, .ok l)
    else if index = 0xA011 then
      let (l, t) := s.faultReadOut n
      (t, .ok l)
    else
      let v := if staged && d.acc = .rwc then (s.stagedVal n index sub item).getD (s.view index sub item) else s.view index sub item
      (s, .ok (valWire d.ty v))

end Sys2Proof.Machine
end

