-- ==== Sys2Proof/Machine/Sessions.lean ====
section
/-!
DEFINITION. Sessions (R35–R47): paths, opens, the transactions of a session in their order, segments, session fabric accesses, and what
ends a session.
-/

namespace Sys2Proof.Machine

/-! ### Paths (R43, R44) -/

/-- Sessions a path holds at most. -/
def pathLimit : Path → Nat
  | .ring => 16
  | .can => 8
  | .udp => 8
  | .mailbox => 4
  | .uart => 2

/-- Session service is available on a path in this mode. -/
def State.pathUp (s : State) (p : Path) : Bool :=
  match p with
  | .mailbox | .uart => s.modes.mode.code ≥ 2
  | _ => s.modes.mode.code ≥ 3

/-- The hub takes a request from the mailbox's buffer (R385). -/
def State.mbServe (s : State) (p : Path) : State :=
  if p = .mailbox then { s with bridge := { s.bridge with mbBusy := false, mbTaken := s.bridge.mbTaken.drop 1 } } else s

/-- The request is malformed, for command `cmd` (R36). -/
def txnBad (t : Txn) (cmd : Nat) : Bool := t.size < 16 || t.cmd ≠ cmd || t.flags > 1

/-- A malformed request is answered when its session number and tag are readable, and counted otherwise (R36). -/
def State.malformed (s : State) (t : Txn) : State :=
  if t.size ≥ 4 then s.respond t (.abort Abort.malformedTransaction) else s.bump 0x1209 2

/-- A request's bytes (R35): its header, or as much of it as came, and its data. -/
def reqBytes (t : Txn) (data : List Byte) : List Byte :=
  (beBytes 1 t.cmd ++ beBytes 1 t.sess ++ beBytes 2 t.tag ++ beBytes 2 t.index ++ beBytes 1 t.sub ++ beBytes 1 t.flags
    ++ beBytes 4 data.length ++ beBytes 4 t.off).take t.size ++ data

/-- The CRC-16 that came with a request on the UART fails (R44). -/
def uartBad (t : Txn) (data : List Byte) : Bool :=
  t.path = .uart && (match t.fcs with | some c => c ≠ crc16 (reqBytes t data) | none => false)

/-- A request arrives on its path: a UART frame whose CRC fails is dropped and counted (R44); where no session service is available a
request is dropped and counted. -/
def State.request (s : State) (t : Txn) (cmd : Nat) (data : List Byte) (run : State → State) : State :=
  let s := s.mbServe t.path
  if uartBad t data then s.bump 0x1209 1
  else if !s.pathUp t.path then s.bump 0x1209 2
  else if txnBad t cmd then s.malformed t
  else run s

/-! ### Open (R32, R37, R44, R45, R415) -/

/-- A session number is taken: open, or waiting for its open-confirm. -/
def Session.taken (x : Session) : Bool := x.isOpen || x.challenge.isSome

/-- Sessions taken on a path. -/
def State.pathCount (s : State) (p : Path) : Nat :=
  ((List.range 32).filter (fun n => (s.session n).taken && decide ((s.session n).path = p))).length

/-- The free session number an open takes: the lowest. -/
def State.freeSession (s : State) : Option Nat := (List.range 32).find? (fun n => !(s.session n).taken)

/-- The opens and failures of a path. -/
def State.pathAuth (s : State) (p : Path) : PathAuth := tget {} s.dict.paths (pathCode p)

/-- Replace them. -/
def State.setPathAuth (s : State) (p : Path) (v : PathAuth) : State :=
  { s with dict := { s.dict with paths := tset {} s.dict.paths (pathCode p) v } }

/-- The path needs physical access to the card (R415). -/
def nearPath (p : Path) : Bool := p = .mailbox || p = .uart

/-- Whether an open needs a challenge (R32, R415), or why it is refused. -/
def State.openKey (s : State) (p : Path) (role : Nat) : Except Nat Bool :=
  if role = 0 then .ok false
  else if role = 4 then
    if s.sec.lc ≠ 0 then .error Abort.notInThisLifeCycleState
    else if nearPath p then .ok false else .error Abort.roleNotPermitted
  else match s.purposeSlot (role + 1) with
    | some _ => .ok true
    | none => if role = 3 then (if nearPath p then .ok false else .error Abort.roleNotPermitted) else .error Abort.keySlotEmpty

/-- The checks of an open: the number it takes and whether a challenge must be answered, or the abort. -/
def State.openBar (s : State) (p : Path) (role : Nat) : Except Nat (Nat × Bool) :=
  if role > 4 then .error Abort.valueOutOfRange
  else if (s.pathAuth p).locked then .error Abort.pathLocked
  else if !bitOf (s.o 0x1205 0) (pathCode p) || s.pathCount p ≥ pathLimit p then .error Abort.noFreeSession
  else match s.freeSession with
    | none => .error Abort.noFreeSession
    | some n =>
      match s.openKey p role with
      | .error c => .error c
      | .ok w => if !s.sec.rngOk && (w || role = 0) then .error Abort.busyRetry else .ok (n, w)

/-- An open request: a session is allocated and its number and a random challenge are answered. It keeps the identifier base or UDP port
of this instant (R60). -/
def State.openTxn (s : State) (t : Txn) (role : Nat) : State :=
  match s.openBar t.path role with
  | .error c => s.respond t (.abort c)
  | .ok (n, w) =>
    let ch := if w || role = 0 then beBytes 16 (s.freeNat 128) else []
    let x : Session := {
      isOpen := !w, challenge := if w then some ch else none, since := s.clock, role := role, path := t.path, ident := t.ident,
      base := if t.path = .can then s.o 0x7002 3 (t.ident / 256) else 0, port := if t.path = .udp then s.o 0x1203 0 else 0,
      lastUsed := s.clock }
    let s := s.drew.setSession n x
    let s := { s with dict := { s.dict with expired := tset none s.dict.expired n none } }
    s.respond { t with sess := n } (.ok ch)

/-- An open request. -/
def execOpenReq (t : Txn) (role : Nat) (s : State) : Host.Outcome State Fault Refusal :=
  .next (s.request t 0x01 (beBytes 1 role) (fun s => s.openTxn t role))

/-- An open has failed on a path: three within 60 s lock it (R45). -/
def State.openFailed (s : State) (p : Path) : State :=
  let a := s.pathAuth p
  let l := s.clock :: a.failures.filter (fun t => s.clock < ticksMs 60000 + t)
  s.setPathAuth p { failures := l, locked := a.locked || decide (l.length ≥ 3) }

/-- The 18 bytes whose HMAC answers a challenge (R37). -/
def confirmMessage (ch : List Byte) (n role : Nat) : List Byte := ch ++ beBytes 1 n ++ beBytes 1 role

/-- The response to a pending open's challenge is judged (R45, R407): right, the session is open; wrong or late, it is freed. DESIGN CHOICE:
for a session that is already open it is answered "malformed transaction". -/
def State.confirmTxn (s : State) (t : Txn) (resp : List Byte) : State :=
  let n := t.sess
  let x := s.session n
  match x.challenge with
  | none => s.respond t (.abort Abort.malformedTransaction)
  | some ch =>
    match s.purposeSlot (x.role + 1) with
    | none => (s.setSession n {}).respond t (.abort Abort.keySlotEmpty)
    | some k =>
      let good := resp = (Config.hmacSha256 (s.slot k).key (confirmMessage ch n x.role)).take 16
      let late := s.clock > ticksMs 5000 + x.since
      let s := s.useKey k
      if good && !late then
        (s.setSession n { x with isOpen := true, challenge := none, lastUsed := s.clock }).respond t (.ok [])
      else ((s.setSession n {}).openFailed x.path).respond t (.abort Abort.authenticationFailed)

/-- The session number that a request names belongs to its path and identity (R37). -/
def State.owns (s : State) (t : Txn) : Bool :=
  let x := s.session t.sess
  t.sess < 32 && x.taken && decide (x.path = t.path) && x.ident = t.ident

/-- An open-confirm: one that comes after its open has timed out fails authentication. -/
def State.confirm (s : State) (t : Txn) (resp : List Byte) : State :=
  if s.owns t then s.confirmTxn t resp
  else if t.sess < 32 && tget none s.dict.expired t.sess = some (t.path, t.ident) then
    { s with dict := { s.dict with expired := tset none s.dict.expired t.sess none } }.respond t (.abort Abort.authenticationFailed)
  else s.respond t (.abort Abort.noSuchSession)

/-- An open-confirm. -/
def execOpenConfirm (t : Txn) (resp : List Byte) (s : State) : Host.Outcome State Fault Refusal :=
  .next (s.request t 0x02 resp (fun s => s.confirm t resp))

/-- An open has not been confirmed within 5 s: it fails and its session is freed (R45). -/
def execOpenConfirmTimeout (n : Fin 32) (s : State) : Host.Outcome State Fault Refusal :=
  let x := s.session n
  if x.challenge.isNone || s.clock ≤ ticksMs 5000 + x.since then .next s
  else
    let s := (s.setSession n {}).openFailed x.path
    .next { s with dict := { s.dict with expired := tset none s.dict.expired n (some (x.path, x.ident)) } }

/-- 10 s after the third failure the path takes opens again (R45). -/
def execPathLockExpiry (p : Path) (s : State) : Host.Outcome State Fault Refusal :=
  let a := s.pathAuth p
  if a.locked && a.failures.all (fun t => s.clock ≥ ticksMs 10000 + t) then .next (s.setPathAuth p { a with locked := false }) else .next s

/-! ### Session fabric accesses (R40, R41, R17, R390) -/

/-- The context of a session's local accesses (R41). -/
def sessCtx (n : Nat) : Ctx := .session (Fin.ofNat 32 n)

/-- The access touches a selection register or a selected block (R40). -/
def touchesSelected (a len : Nat) : Bool := a < 2 ^ 24 && (List.range ((len + 3) / 4)).any (fun i => selectedReg (a + 4 * i))

/-- Checks before a session's access starts: its length, its parts and its address. -/
def fabBar (node a len : Nat) (write : Bool) : Option Nat :=
  if len = 0 || (splitParts a len).length > 256 then some Abort.valueOutOfRange
  else if 0x80 ≤ node && (node ≠ 0xFF || !write) then some Abort.addressError
  else if touchesSelected a len then some Abort.selectionRegisterRefused
  else none

/-- The request that waits is put back in front of those behind it. -/
def State.putBack (s : State) (n : Nat) (t : Txn) (data : List Byte) : State :=
  let x := s.session n
  s.setSession n { x with serving := none, waiting := (t, data) :: x.waiting }

/-- A session's fabric read of `len` bytes. -/
def State.sessRead (s : State) (n : Nat) (t : Txn) (addr len : Nat) (raw : List Byte) : State :=
  let node := addr / 2 ^ 40
  let a := addr % 2 ^ 40
  if node = s.node && len ≠ 0 then
    match s.localRead (sessCtx n) a len with
    | .error c => (s.readFault a len c).answerAs n 0x18 (.abort c)
    | .ok (u, none) => u.putBack n t raw
    | .ok (u, some b) => u.answerAs n 0x18 (.ok b)
  else match fabBar node a len false with
    | some c => s.answerAs n 0x18 (.abort c)
    | none => s.remoteStart (.session n) node a len none []

/-- The model's number for a broadcast part that was refused here. -/
def partStatus (code : Nat) : Nat :=
  if code = Abort.valueOutOfRange then 4 else if code = Abort.selectionRegisterRefused then 5 else fabricStatus code

/-- The parts of a broadcast write are applied here (R17): the state after them, and the parts refused. -/
def State.broadcastHere (s : State) (c : Ctx) (a : Nat) (data : List Byte) : Nat → List (Nat × Nat) → State × Tab (Option Nat)
  | _, [] => (s, [])
  | k, (off, len) :: l =>
    let (t, e, _) := s.localWrite c .none (a + off) ((data.drop off).take len)
    let (t, r) := t.broadcastHere c a data (k + 1) l
    (t, match e with | some code => tset none r k (some (partStatus code)) | none => r)

/-- A session's fabric write. -/
def State.sessWriteFab (s : State) (n addr : Nat) (data : List Byte) : State :=
  let node := addr / 2 ^ 40
  let a := addr % 2 ^ 40
  let len := data.length
  if node = s.node && len ≠ 0 then
    match s.localWrite (sessCtx n) (.session n) a data with
    | (u, some c, _) => u.answerAs n 0x19 (.abort c)
    | (u, none, true) => u
    | (u, none, false) => u.answerAs n 0x19 (.ok [])
  else match fabBar node a len true with
    | some c => s.answerAs n 0x19 (.abort c)
    | none =>
      if node = 0xFF then
        let (u, pre) := s.broadcastHere (sessCtx n) a data 0 (splitParts a len)
        u.remoteStart (.session n) node a len (some data) pre
      else (s.remoteStart (.session n) node a len (some data) []).pfWrite node a len

/-! ### Segments (R38) -/

/-- The segmented transaction of a tag. -/
def Session.segOf (x : Session) (tag : Nat) : Option Seg := x.segs.find? (fun g => g.tag = tag)

/-- Without the segments of a tag. -/
def Session.segDrop (x : Session) (tag : Nat) : Session := { x with segs := x.segs.filter (fun g => g.tag ≠ tag) }

/-- A segment of a write (R38): the last one brings the whole value to `run`; the others are kept and answered. -/
def State.gather (s : State) (n : Nat) (t : Txn) (data : List Byte) (run : State → List Byte → State) : State :=
  let x := s.session n
  let last := bitOf t.flags 0
  let old := x.segOf t.tag
  let before := match old with | some g => g.data | none => []
  let fits := t.off = before.length && (match old with | some g => g.cmd = t.cmd && g.index = t.index && g.sub = t.sub | none => true)
  let s := s.setSession n (x.segDrop t.tag)
  if !fits then s.answerAs n t.cmd (.abort Abort.segmentOutOfSequence)
  else if last then run s (before ++ data)
  else
    let y := s.session n
    let g : Seg := { tag := t.tag, cmd := t.cmd, index := t.index, sub := t.sub, data := before ++ data, since := s.clock }
    (s.setSession n { y with segs := y.segs ++ [g] }).answerAs n t.cmd (.ok [])

/-- A segment of IMAGE_DATA: carried out by itself; the tag stays outstanding while the upload goes on. -/
def State.imageTxn (s : State) (n : Nat) (t : Txn) (data : List Byte) : State :=
  let last := bitOf t.flags 0
  let s := s.setSession n ((s.session n).segDrop t.tag)
  let on := (match s.findEntry n 0x9011 0 true with | .ok _ => true | .error _ => false) && (s.segmentBar n t.off data.length).isNone
  let u := s.imageWrite n t.off data last
  if last || !on || u.flash.updState ≠ 3 then u
  else
    let y := u.session n
    let g : Seg := { tag := t.tag, cmd := t.cmd, index := t.index, sub := t.sub, data := [], since := s.clock }
    u.setSession n { y with segs := y.segs ++ [g] }

/-- A gap of more than 1 s ends a segmented transaction (R38). -/
def execSegmentTimeout (n : Fin 32) (s : State) : Host.Outcome State Fault Refusal :=
  let x := s.session n
  let late := x.segs.filter (fun g => s.clock > ticksMs 1000 + g.since)
  let s := s.setSession n { x with segs := x.segs.filter (fun g => !(s.clock > ticksMs 1000 + g.since)) }
  .next (late.foldl (fun s g =>
    s.respond { path := x.path, ident := x.ident, cmd := g.cmd, sess := n, tag := g.tag, index := g.index, sub := g.sub }
      (.abort Abort.transactionTimedOut)) s)

/-! ### Transactions in their order (R39) -/

/-- A session closes, and the transactions that it has not answered fail with "no such session" (R46). -/
def State.closeAnswer (s : State) (n : Nat) : State :=
  let x := s.session n
  (x.serving.toList ++ x.waiting.map (·.1)).foldl (fun s t => s.respond t (.abort Abort.noSuchSession)) (s.closeSession n)

/-- A transaction is carried out. -/
def State.runTxn (s : State) (n : Nat) (t : Txn) (data : List Byte) : State :=
  match t.cmd with
  | 0x03 => (s.answerAs n 0x03 (.ok [])).closeAnswer n
  | 0x10 =>
    let (u, r) := s.objRead n t.index t.sub false
    u.answerAs n 0x10 r
  | 0x11 =>
    if t.index = 0x9011 && t.sub = 0 then s.imageTxn n t data
    else s.gather n t data (fun s d => s.objWrite n t.index t.sub d)
  | 0x12 =>
    let (u, r) := s.objRead n t.index t.sub true
    u.answerAs n 0x12 r
  | 0x18 => s.sessRead n t (ofBe (data.take 6)) (ofBe (data.drop 6)) data
  | 0x19 => s.gather n t data (fun s d => s.sessWriteFab n (ofBe (d.take 6)) (d.drop 6))
  | _ => s.answerAs n t.cmd (.ok [])

/-- The oldest waiting transaction of session `n` is carried out, unless one is being served. -/
def State.serveNext (s : State) (n : Nat) : State :=
  let x := s.session n
  if !x.isOpen || x.serving.isSome then s
  else match x.waiting with
    | [] => s
    | (t, d) :: l => (s.setSession n { x with serving := some t, waiting := l }).runTxn n t d

/-- Tags outstanding in a session (R39). -/
def Session.tags (x : Session) : List Nat :=
  ((x.serving.map (fun t : Txn => t.tag)).toList ++ x.waiting.map (fun e => e.1.tag) ++ x.segs.map (fun g : Seg => g.tag)).eraseDups

/-- A segmented write of the tag has begun and its last segment has not come (R38): its segments are gathered, or the newest of the tag that
waits or is being served is not the last. -/
def Session.unfinished (x : Session) (tag : Nat) : Bool :=
  match ((x.serving.toList ++ x.waiting.map (·.1)).filter (fun t : Txn => t.tag = tag)).getLast? with
  | some t => (t.cmd = 0x11 || t.cmd = 0x19) && !bitOf t.flags 0
  | none => (x.segOf tag).isSome

/-- A transaction that names a session (R37, R39): one of no open session, or of another identity, is refused; a fifth outstanding, or one
that reuses a tag, as well; else it takes its place, and is carried out if nothing is before it. DESIGN CHOICE: a fifth that also reuses a
tag is answered "tag in use"; a segment at offset 0 under the tag of an unfinished segmented write is answered "tag in use", and
that write goes on. -/
def State.arrive (s : State) (t : Txn) (data : List Byte) : State :=
  let n := t.sess
  if !s.owns t || !(s.session n).isOpen then s.respond t (.abort Abort.noSuchSession)
  else
    let s := s.setSession n { s.session n with lastUsed := s.clock }
    let x := s.session n
    let more := t.off ≠ 0 && x.unfinished t.tag
    if !more && x.tags.contains t.tag then s.respond t (.abort Abort.tagInUse)
    else if !more && x.tags.length ≥ 4 then s.respond t (.abort Abort.tooManyOutstanding)
    else (s.setSession n { x with waiting := x.waiting ++ [(t, data)] }).serveNext n

/-- A close request (R46). -/
def execCloseReq (t : Txn) (s : State) : Host.Outcome State Fault Refusal := .next (s.request t 0x03 [] (fun s => s.arrive t []))

/-- A keep-alive request. -/
def execKeepAlive (t : Txn) (s : State) : Host.Outcome State Fault Refusal := .next (s.request t 0x04 [] (fun s => s.arrive t []))

/-- A read. -/
def execRead (t : Txn) (s : State) : Host.Outcome State Fault Refusal := .next (s.request t 0x10 [] (fun s => s.arrive t []))

/-- A segment of a write. -/
def execWrite (t : Txn) (data : List Byte) (s : State) : Host.Outcome State Fault Refusal :=
  .next (s.request t 0x11 data (fun s => s.arrive t data))

/-- A read of the staged value. -/
def execReadStaged (t : Txn) (s : State) : Host.Outcome State Fault Refusal := .next (s.request t 0x12 [] (fun s => s.arrive t []))

/-- The data of a fabric read: the address and the length. -/
def fabReadData (addr : BitVec 48) (len : Nat) : List Byte := beBytes 6 addr.toNat ++ beBytes 2 len

/-- A fabric read. -/
def execFabricRead (t : Txn) (addr : BitVec 48) (len : Nat) (s : State) : Host.Outcome State Fault Refusal :=
  .next (s.request t 0x18 (fabReadData addr len) (fun s => s.arrive t (fabReadData addr len)))

/-- The data of a segment of a fabric write: the address, then the bytes; a further segment carries bytes alone. -/
def fabWriteData (t : Txn) (addr : BitVec 48) (data : List Byte) : List Byte := (if t.off = 0 then beBytes 6 addr.toNat else []) ++ data

/-- A fabric write. -/
def execFabricWrite (t : Txn) (addr : BitVec 48) (data : List Byte) (s : State) : Host.Outcome State Fault Refusal :=
  .next (s.request t 0x19 (fabWriteData t addr data) (fun s => s.arrive t (fabWriteData t addr data)))

/-! ### Requests as bytes (R35, R36, R43) -/

/-- The header of a request's bytes (R35); what a short header lacks reads as 0. -/
def txnOf (path : Path) (ident : Nat) (b : List Byte) : Txn :=
  let n : Nat → Nat → Nat := fun i k => ofBe ((b.drop i).take k)
  { path := path, ident := ident, size := b.length, cmd := n 0 1, sess := n 1 1, tag := n 2 2, index := n 4 2, sub := n 6 1, flags := n 7 1,
    len := n 8 4, off := n 12 4 }

/-- The data of a request's bytes: as many as the header says, of those that came (DESIGN CHOICE). -/
def reqData (b : List Byte) : List Byte := (b.drop 16).take (ofBe ((b.drop 8).take 4))

/-- A request that names a session reached it by the UDP port or identifier base of its open (R60). -/
def State.viaOk (s : State) (a : Arrival) (t : Txn) : Bool :=
  match a.path with
  | .udp => if t.cmd = 0x01 then a.via = s.o 0x1203 0 else !s.owns t || (s.session t.sess).port = a.via
  | .can => if t.cmd = 0x01 then a.via = s.o 0x7002 3 (a.ident / 256) else !s.owns t || (s.session t.sess).base = a.via
  | _ => true

/-- A request's bytes are read and carried out by their command (R35): an unknown command is malformed (R36), and an open or an
open-confirm with data of another size fails with "length mismatch" (DESIGN CHOICE). A request under a port or base that is no longer set is
for the sessions opened under it alone (R60): any other is dropped and counted as unanswered. -/
def State.serveBytes (s : State) (a : Arrival) : State :=
  let t := txnOf a.path a.ident a.bytes
  let d := reqData a.bytes
  if !s.viaOk a t then (s.mbServe a.path).bump 0x1209 2
  else match t.cmd with
    | 0x01 => s.request t 0x01 d (fun s => if d.length = 1 then s.openTxn t (ofBe d) else s.respond t (.abort Abort.lengthMismatch))
    | 0x02 => s.request t 0x02 d (fun s => if d.length = 16 then s.confirm t d else s.respond t (.abort Abort.lengthMismatch))
    | 0x03 => s.request t 0x03 d (fun s => s.arrive t [])
    | 0x04 => s.request t 0x04 d (fun s => s.arrive t [])
    | 0x10 => s.request t 0x10 d (fun s => s.arrive t [])
    | 0x11 => s.request t 0x11 d (fun s => s.arrive t d)
    | 0x12 => s.request t 0x12 d (fun s => s.arrive t [])
    | 0x18 => s.request t 0x18 d (fun s => s.arrive t d)
    | 0x19 => s.request t 0x19 d (fun s => s.arrive t d)
    | c => s.request t (c + 1) d (fun s => s)

/-- The next request that has arrived as bytes: the oldest of the mailbox, outside BOOT, where the recovery loader takes it (R436), else the
oldest of the other paths. -/
def State.nextArrival (s : State) : Option (Arrival × State) :=
  match s.bridge.mbTaken, s.dict.inbox with
  | b :: _, l =>
    if s.modes.mode = .boot then (match l with | [] => none | a :: l => some (a, { s with dict := { s.dict with inbox := l } }))
    else some ({ path := .mailbox, ident := 0, bytes := b }, s)
  | [], a :: l => some (a, { s with dict := { s.dict with inbox := l } })
  | [], [] => none

/-! ### Ends (R46) -/

/-- A session idle beyond IDLE_TIMEOUT closes. -/
def execSessionIdleTimeout (n : Fin 32) (s : State) : Host.Outcome State Fault Refusal :=
  let x := s.session n
  .next (if x.isOpen && s.clock > ticksMs (1000 * s.o 0x1202 1) + x.lastUsed then s.closeAnswer n else s)

/-- Sessions of a path that goes down close, and opens of it that wait are given up. -/
def execSessionPathDown (p : Path) (s : State) : Host.Outcome State Fault Refusal :=
  .next ((List.range 32).foldl (fun s n =>
    if (s.session n).taken && decide ((s.session n).path = p) then
      (if (s.session n).isOpen then s.closeSession n else s.setSession n {})
    else s) s)

end Sys2Proof.Machine
end

