-- ==== Sys2Proof/Machine/PairRest.lean ====
section
/-!
DEFINITION. What a standby does with the records its active mirrors, the instant of a mirrored commit, and the configuration transfer
(R475–R479).
-/

namespace Sys2Proof.Machine

/-- A record was refused or missed: the pair leaves sync until the next transfer (R476–R478). -/
def State.outOfStep (s : State) : State := { s with pair := { s.pair with whole := false } }

/-- The entry's group has this image's format (R478). -/
def State.sameFormat (s : State) (e : MirrorEntry) : Bool := e.format = tget 0 s.flash.formats (setGroup e.index e.sub)

/-- The entries of a mirrored set that this image may apply, as a staging set. -/
def State.usable (s : State) (l : List MirrorEntry) : List Staged :=
  (l.filter s.sameFormat).map (fun e : MirrorEntry => { index := e.index, sub := e.sub, item := e.item, v := e.v : Staged })

/-- An effect carried out, or refused. -/
def State.mirrored (s : State) : Act → State
  | .ok t => t
  | .error _ => s.outOfStep

/-- A mirrored commit waits for its instant; the checks that refuse it are those of the active (R476, R477). -/
def State.mirroredSet (s : State) (l : List MirrorEntry) (ns : Nat) : State :=
  let set := s.usable l
  let s := if set.length = l.length then s else s.outOfStep
  if s.flash.wp || (s.setBarred set).isSome || (s.firstOffender (s.withSet set) (s.changedBy set)).isSome then s.outOfStep
  else { s with pair := { s.pair with commit := some (set, ns) } }

/-- A mirrored write has the effect it had on the active. -/
def State.mirroredWrite (s : State) (e : MirrorEntry) : State :=
  if !s.sameFormat e then s.outOfStep
  else match e.v with
    | .bytes _ => s.outOfStep
    | .num v => s.mirrored (s.itemAct e.index e.sub e.item v)

/-- The entry's fields, by number. -/
def calFill (x : CalEntry) (l : List Nat) : CalEntry := (l.zipIdx).foldl (fun x p => calPut x p.2 p.1) x

/-- A mirrored arm or cancel of a calendar entry with its fields. -/
def State.mirroredCal (s : State) (i : Nat) (fields : List Nat) (arm : Bool) : State :=
  let x := s.cal i
  if s.calService i then s.outOfStep
  else if arm then
    if calLive x then s.outOfStep
    else match (s.setCal i (calFill x fields)).calArmAt i with
      | (t, none) => t
      | (t, some _) => t.outOfStep
  else if calLive x && s.time.ltb < x.fire then s.calEnd 5 5 i
  else s.outOfStep

/-- The standby applies the active's configuration as one commit of its own; what is of another format stays unapplied, and the pair out
of sync (R478). -/
def State.transfer (s : State) (l : List MirrorEntry) : State :=
  let set := s.usable l
  let s := s.applySet set
  { s with pair := { s.pair with whole := set.length = l.length } }

/-- Apply one mirror record (R476). -/
def State.applyRecord (s : State) : MirrorRec → State
  | .commit l ns => s.mirroredSet l ns
  | .write e => s.mirroredWrite e
  | .hinge n h => { s with pair := { s.pair with adopt := tset none s.pair.adopt n (some h) } }
  | .calendar i fields arm => s.mirroredCal i fields arm
  | .config l => s.transfer l

/-- A record arrives intact under its sequence number: one already received changes nothing, and one missed in between takes the pair out
of sync. -/
def State.takeRecord (s : State) (seq : Nat) (r : MirrorRec) : State :=
  let p := s.pair
  if !serialAfter 32 seq p.rxSeq then s
  else
    let s := { s with pair := { p with rxSeq := seq, whole := p.whole && decide (seq = (p.rxSeq + 1) % 2 ^ 32) } }
    (s.applyRecord r).sfgUpdate

/-- A mirror record arrives on the pair link, or as a delivered type-8 frame while the link is down (R475). -/
def execPairMirrorBlock (seq : W32) (r : MirrorRec) (s : State) : Host.Outcome State Fault Refusal :=
  if !s.pairMember || s.holds then .next s
  else if s.pair.link then .next (s.takeRecord seq.toNat r)
  else match s.takeDelivered (fun h => h.typ = 8 && specField h 22 4 = seq.toNat) with
    | none => .next s
    | some (_, t) => .next (t.takeRecord seq.toNat r)

/-- The active applies its mirrored commit, alone where the standby has not acknowledged it, and answers its session. -/
def State.mirroredApply (s : State) (l : List Staged) : State :=
  let p := s.pair
  let unacked := s.holds && p.out.any (fun m => m.seq = p.commitSeq)
  let out := p.out.filter (fun m => m.seq ≠ p.commitSeq)
  let s := { s with pair := { p with
    commit := none, commitBy := none, out := if unacked then out else p.out, whole := p.whole && !unacked } }
  let s := s.applySet l
  let s := match p.commitBy with
    | none => s
    | some n => s.answer n (.ok [])
  s.closePaths.sfgUpdate

/-- A mirrored commit reaches its instant, on each hub's own 4 ns grid (R477). -/
def execMirroredCommitApply (s : State) : Host.Outcome State Fault Refusal :=
  match s.pair.commit with
  | none => .next s
  | some (l, ns) => .next (if s.nsCount < ns then s else s.mirroredApply l)

/-- A standby takes its active's configuration, as it asks on its entry to STANDBY and whenever the hashes differ; the command is that
request with its answer. -/
def execConfigTransferRequest (set : List MirrorEntry) (s : State) : Host.Outcome State Fault Refusal :=
  .next (if s.modes.mode = .standby && s.pair.link then (s.transfer set).sfgUpdate else s)

end Sys2Proof.Machine
end

