-- ==== Sys2Proof/Machine/Dispatch.lean ====
section
/-!
DEFINITION. What each command does: one arm per constructor, one direct call of its meaning.
-/

namespace Sys2Proof.Machine

def exec (i : Instr) (s : State) : Host.Outcome State Fault Refusal :=
  match i with
  | .registerWrite c addr v => Sys2Proof.Machine.execRegisterWrite c addr v s
  | .reservedClear => Sys2Proof.Machine.execReservedClear s
  | .openReq t role => Sys2Proof.Machine.execOpenReq t role s
  | .openConfirm t resp => Sys2Proof.Machine.execOpenConfirm t resp s
  | .openConfirmTimeout n => Sys2Proof.Machine.execOpenConfirmTimeout n s
  | .pathLockExpiry p => Sys2Proof.Machine.execPathLockExpiry p s
  | .closeReq t => Sys2Proof.Machine.execCloseReq t s
  | .keepAlive t => Sys2Proof.Machine.execKeepAlive t s
  | .sessionIdleTimeout n => Sys2Proof.Machine.execSessionIdleTimeout n s
  | .sessionPathDown p => Sys2Proof.Machine.execSessionPathDown p s
  | .read t => Sys2Proof.Machine.execRead t s
  | .write t data => Sys2Proof.Machine.execWrite t data s
  | .readStaged t => Sys2Proof.Machine.execReadStaged t s
  | .fabricRead t addr len => Sys2Proof.Machine.execFabricRead t addr len s
  | .fabricWrite t addr data => Sys2Proof.Machine.execFabricWrite t addr data s
  | .segmentTimeout n => Sys2Proof.Machine.execSegmentTimeout n s
  | .commit n => Sys2Proof.Machine.execCommit n s
  | .discard n => Sys2Proof.Machine.execDiscard n s
  | .cancelOwnCommit n => Sys2Proof.Machine.execCancelOwnCommit n s
  | .cancelAnyCommit n => Sys2Proof.Machine.execCancelAnyCommit n s
  | .commitApply => Sys2Proof.Machine.execCommitApply s
  | .commitFreeze => Sys2Proof.Machine.execCommitFreeze s
  | .configStoreCommitWrite ok => Sys2Proof.Machine.execConfigStoreCommitWrite ok s
  | .configStoreCompact => Sys2Proof.Machine.execConfigStoreCompact s
  | .modeReqReturn n => Sys2Proof.Machine.execModeReqReturn n s
  | .modeReqMaintenance n => Sys2Proof.Machine.execModeReqMaintenance n s
  | .modeReqFailsafe n => Sys2Proof.Machine.execModeReqFailsafe n s
  | .modeReqDoze n => Sys2Proof.Machine.execModeReqDoze n s
  | .modeReqShutdown n => Sys2Proof.Machine.execModeReqShutdown n s
  | .resetCmdWarm => Sys2Proof.Machine.execResetCmdWarm s
  | .resetCmdRecovery => Sys2Proof.Machine.execResetCmdRecovery s
  | .porstNAssert lowNs => Sys2Proof.Machine.execPorstNAssert lowNs s
  | .supplyOutOfRange rail ns => Sys2Proof.Machine.execSupplyOutOfRange rail ns s
  | .wrstNAssert lowNs => Sys2Proof.Machine.execWrstNAssert lowNs s
  | .refclkLoss ns => Sys2Proof.Machine.execRefclkLoss ns s
  | .pllLockLoss pll ns => Sys2Proof.Machine.execPllLockLoss pll ns s
  | .resetEnd modeSel pairId => Sys2Proof.Machine.execResetEnd modeSel pairId s
  | .pllLocked => Sys2Proof.Machine.execPllLocked s
  | .repairMapApply => Sys2Proof.Machine.execRepairMapApply s
  | .imageHeaderChecked slot header => Sys2Proof.Machine.execImageHeaderChecked slot header s
  | .ddrTrainingDone rate failLane => Sys2Proof.Machine.execDdrTrainingDone rate failLane s
  | .imageLoadDone slot body => Sys2Proof.Machine.execImageLoadDone slot body s
  | .configLoadDone => Sys2Proof.Machine.execConfigLoadDone s
  | .dramInitDone => Sys2Proof.Machine.execDramInitDone s
  | .pcieEndpointReady => Sys2Proof.Machine.execPcieEndpointReady s
  | .joinComplete => Sys2Proof.Machine.execJoinComplete s
  | .joinTimeout => Sys2Proof.Machine.execJoinTimeout s
  | .wakeTimer => Sys2Proof.Machine.execWakeTimer s
  | .wakeSequenceDone => Sys2Proof.Machine.execWakeSequenceDone s
  | .shutdownFlushDone => Sys2Proof.Machine.execShutdownFlushDone s
  | .leaveIdleTimer => Sys2Proof.Machine.execLeaveIdleTimer s
  | .halt => Sys2Proof.Machine.execHalt s
  | .islandSupplyWarning mv us => Sys2Proof.Machine.execIslandSupplyWarning mv us s
  | .headerReceived p f => Sys2Proof.Machine.execHeaderReceived p f s
  | .trailerChecked p trailer lengthOk => Sys2Proof.Machine.execTrailerChecked p trailer lengthOk s
  | .receiveLinkError p got => Sys2Proof.Machine.execReceiveLinkError p got s
  | .specDeadline g => Sys2Proof.Machine.execSpecDeadline g s
  | .stagedEntryApply e => Sys2Proof.Machine.execStagedEntryApply e s
  | .fabricReadRequest => Sys2Proof.Machine.execFabricReadRequest s
  | .fabricWritePart => Sys2Proof.Machine.execFabricWritePart s
  | .readResponseReceived => Sys2Proof.Machine.execReadResponseReceived s
  | .splitRemoteTimeout id => Sys2Proof.Machine.execSplitRemoteTimeout id s
  | .frameOriginate => Sys2Proof.Machine.execFrameOriginate s
  | .c7BucketAdmit => Sys2Proof.Machine.execC7BucketAdmit s
  | .originationEnable => Sys2Proof.Machine.execOriginationEnable s
  | .keepTimer p => Sys2Proof.Machine.execKeepTimer p s
  | .class7Suspend p off => Sys2Proof.Machine.execClass7Suspend p off s
  | .suspendReceived p off => Sys2Proof.Machine.execSuspendReceived p off s
  | .helloTimer => Sys2Proof.Machine.execHelloTimer s
  | .helloReceived p => Sys2Proof.Machine.execHelloReceived p s
  | .announceTimer => Sys2Proof.Machine.execAnnounceTimer s
  | .announceReceived p => Sys2Proof.Machine.execAnnounceReceived p s
  | .ringClosureTimeout => Sys2Proof.Machine.execRingClosureTimeout s
  | .portJoined p => Sys2Proof.Machine.execPortJoined p s
  | .leaveReceived p => Sys2Proof.Machine.execLeaveReceived p s
  | .recalNoticeReceived p => Sys2Proof.Machine.execRecalNoticeReceived p s
  | .retrainNoticeReceived p => Sys2Proof.Machine.execRetrainNoticeReceived p s
  | .topologyReceived p => Sys2Proof.Machine.execTopologyReceived p s
  | .plannedOutageOverrun p => Sys2Proof.Machine.execPlannedOutageOverrun p s
  | .linkDown p => Sys2Proof.Machine.execLinkDown p s
  | .trainingComplete p ok => Sys2Proof.Machine.execTrainingComplete p ok s
  | .trainingRetryTimer p => Sys2Proof.Machine.execTrainingRetryTimer p s
  | .marginRetrainTimeout p vert horiz => Sys2Proof.Machine.execMarginRetrainTimeout p vert horiz s
  | .errorLimitExceeded p => Sys2Proof.Machine.execErrorLimitExceeded p s
  | .retrainDone p => Sys2Proof.Machine.execRetrainDone p s
  | .recalDeferTimeout p => Sys2Proof.Machine.execRecalDeferTimeout p s
  | .synthRecalStart p temp => Sys2Proof.Machine.execSynthRecalStart p temp s
  | .synthLockLoss p => Sys2Proof.Machine.execSynthLockLoss p s
  | .synthRelock p => Sys2Proof.Machine.execSynthRelock p s
  | .enqueue => Sys2Proof.Machine.execEnqueue s
  | .dequeue p => Sys2Proof.Machine.execDequeue p s
  | .kennelReadbackDone q bad => Sys2Proof.Machine.execKennelReadbackDone q bad s
  | .heldSourceResume src => Sys2Proof.Machine.execHeldSourceResume src s
  | .auditWalk onChip spill => Sys2Proof.Machine.execAuditWalk onChip spill s
  | .dramRequest r tick => Sys2Proof.Machine.execDramRequest r tick s
  | .ancientMark tick => Sys2Proof.Machine.execAncientMark tick s
  | .dramTransferDone tick => Sys2Proof.Machine.execDramTransferDone tick s
  | .ddrRefresh tick => Sys2Proof.Machine.execDdrRefresh tick s
  | .ddrTempRead hot => Sys2Proof.Machine.execDdrTempRead hot s
  | .scrubPass dram corrected checkerFailed => Sys2Proof.Machine.execScrubPass dram corrected checkerFailed s
  | .backgroundPassLate activity overrunMs => Sys2Proof.Machine.execBackgroundPassLate activity overrunMs s
  | .channelWindowRead c ch off len => Sys2Proof.Machine.execChannelWindowRead c ch off len s
  | .channelWindowWrite c ch off data => Sys2Proof.Machine.execChannelWindowWrite c ch off data s
  | .channelDeliveryResume cls => Sys2Proof.Machine.execChannelDeliveryResume cls s
  | .channelHoldLimit ch => Sys2Proof.Machine.execChannelHoldLimit ch s
  | .chFlush ch => Sys2Proof.Machine.execChFlush ch s
  | .chQuarantineRelease ch => Sys2Proof.Machine.execChQuarantineRelease ch s
  | .chClearCounters ch => Sys2Proof.Machine.execChClearCounters ch s
  | .chInRead c => Sys2Proof.Machine.execChInRead c s
  | .chOutRead c => Sys2Proof.Machine.execChOutRead c s
  | .chHwmRead c => Sys2Proof.Machine.execChHwmRead c s
  | .lockCmd g => Sys2Proof.Machine.execLockCmd g s
  | .lockStartEdge g => Sys2Proof.Machine.execLockStartEdge g s
  | .jmp e => Sys2Proof.Machine.execJmp e s
  | .wait c k => Sys2Proof.Machine.execWait c k s
  | .inp c k => Sys2Proof.Machine.execInp c k s
  | .outp c k => Sys2Proof.Machine.execOutp c k s
  | .pull c k => Sys2Proof.Machine.execPull c k s
  | .push c k => Sys2Proof.Machine.execPush c k s
  | .mov e => Sys2Proof.Machine.execMov e s
  | .setImm e => Sys2Proof.Machine.execSetImm e s
  | .cmp e => Sys2Proof.Machine.execCmp e s
  | .syncBarrier e => Sys2Proof.Machine.execSyncBarrier e s
  | .syncArm e => Sys2Proof.Machine.execSyncArm e s
  | .syncRestart e => Sys2Proof.Machine.execSyncRestart e s
  | .stamp c k => Sys2Proof.Machine.execStamp c k s
  | .irqSet e => Sys2Proof.Machine.execIrqSet e s
  | .irqClear e => Sys2Proof.Machine.execIrqClear e s
  | .irqToggle e => Sys2Proof.Machine.execIrqToggle e s
  | .undefinedInstruction e => Sys2Proof.Machine.execUndefinedInstruction e s
  | .compareMatch e => Sys2Proof.Machine.execCompareMatch e s
  | .groupArmTimeout g => Sys2Proof.Machine.execGroupArmTimeout g s
  | .engineParkCmd e => Sys2Proof.Machine.execEngineParkCmd e s
  | .engineRestart e => Sys2Proof.Machine.execEngineRestart e s
  | .engineClearCounters e => Sys2Proof.Machine.execEngineClearCounters e s
  | .peWrapWrite e v => Sys2Proof.Machine.execPeWrapWrite e v s
  | .peClFlagSet c flags => Sys2Proof.Machine.execPeClFlagSet c flags s
  | .peClFlagClear c flags => Sys2Proof.Machine.execPeClFlagClear c flags s
  | .peClStallRead x c => Sys2Proof.Machine.execPeClStallRead x c s
  | .readbackFail e pin => Sys2Proof.Machine.execReadbackFail e pin s
  | .bankSupplySample b mv => Sys2Proof.Machine.execBankSupplySample b mv s
  | .bankSupplyRestore b => Sys2Proof.Machine.execBankSupplyRestore b s
  | .filterRunComplete b pin level => Sys2Proof.Machine.execFilterRunComplete b pin level s
  | .syncReceived p ago frac => Sys2Proof.Machine.execSyncReceived p ago frac s
  | .syncTimer => Sys2Proof.Machine.execSyncTimer s
  | .syncPortTimeout => Sys2Proof.Machine.execSyncPortTimeout s
  | .pdelayTimer p => Sys2Proof.Machine.execPdelayTimer p s
  | .pdelayReqReceived p ago frac => Sys2Proof.Machine.execPdelayReqReceived p ago frac s
  | .pdelayRespReceived p ago => Sys2Proof.Machine.execPdelayRespReceived p ago s
  | .pdelayResponseTimeout p => Sys2Proof.Machine.execPdelayResponseTimeout p s
  | .timeAnnounceTimer => Sys2Proof.Machine.execTimeAnnounceTimer s
  | .timeAnnounceReceived p => Sys2Proof.Machine.execTimeAnnounceReceived p s
  | .datasetAgeOut p => Sys2Proof.Machine.execDatasetAgeOut p s
  | .stationPtpMessage port m ago => Sys2Proof.Machine.execStationPtpMessage port m ago s
  | .timeReferenceTimeout => Sys2Proof.Machine.execTimeReferenceTimeout s
  | .holdoverExpiry => Sys2Proof.Machine.execHoldoverExpiry s
  | .todSet n sec ns frac => Sys2Proof.Machine.execTodSet n sec ns frac s
  | .ppsTod n sec => Sys2Proof.Machine.execPpsTod n sec s
  | .ppsInEdge rising ago => Sys2Proof.Machine.execPpsInEdge rising ago s
  | .ppsSourceLoss => Sys2Proof.Machine.execPpsSourceLoss s
  | .irigFrameDecode => Sys2Proof.Machine.execIrigFrameDecode s
  | .irigSourceLoss => Sys2Proof.Machine.execIrigSourceLoss s
  | .leapSecond => Sys2Proof.Machine.execLeapSecond s
  | .ppsOutEdge rise => Sys2Proof.Machine.execPpsOutEdge rise s
  | .sampleStrobe k => Sys2Proof.Machine.execSampleStrobe k s
  | .wtTargetFreeze w => Sys2Proof.Machine.execWtTargetFreeze w s
  | .wrapMarker => Sys2Proof.Machine.execWrapMarker s
  | .tmWtSecLoRead c => Sys2Proof.Machine.execTmWtSecLoRead c s
  | .trackerInput k x => Sys2Proof.Machine.execTrackerInput k x s
  | .trackerInputTimeout k => Sys2Proof.Machine.execTrackerInputTimeout k s
  | .trackerCrossingTelemetry k => Sys2Proof.Machine.execTrackerCrossingTelemetry k s
  | .phTrkPaRead c k => Sys2Proof.Machine.execPhTrkPaRead c k s
  | .convTargetRead n st32 => Sys2Proof.Machine.execConvTargetRead n st32 s
  | .calFieldWrite c field v => Sys2Proof.Machine.execCalFieldWrite c field v s
  | .calArm c => Sys2Proof.Machine.execCalArm c s
  | .calCancel c => Sys2Proof.Machine.execCalCancel c s
  | .calFreeze e => Sys2Proof.Machine.execCalFreeze e s
  | .calFire e => Sys2Proof.Machine.execCalFire e s
  | .svSamplePacket n => Sys2Proof.Machine.execSvSamplePacket n s
  | .svFrameSend n => Sys2Proof.Machine.execSvFrameSend n s
  | .svSampleMissing n => Sys2Proof.Machine.execSvSampleMissing n s
  | .svFrameReceived port f => Sys2Proof.Machine.execSvFrameReceived port f s
  | .svSubscriptionExpiry n => Sys2Proof.Machine.execSvSubscriptionExpiry n s
  | .signalUpdatePacket n => Sys2Proof.Machine.execSignalUpdatePacket n s
  | .gooseRepeat n => Sys2Proof.Machine.execGooseRepeat n s
  | .gooseFrameReceived port f => Sys2Proof.Machine.execGooseFrameReceived port f s
  | .gooseTalExpiry n => Sys2Proof.Machine.execGooseTalExpiry n s
  | .soePacket n => Sys2Proof.Machine.execSoePacket n s
  | .soeProvisional n => Sys2Proof.Machine.execSoeProvisional n s
  | .soeChatterEnd point => Sys2Proof.Machine.execSoeChatterEnd point s
  | .logPageProgram ok => Sys2Proof.Machine.execLogPageProgram ok s
  | .logRead n => Sys2Proof.Machine.execLogRead n s
  | .faultRead n => Sys2Proof.Machine.execFaultRead n s
  | .cswClose n => Sys2Proof.Machine.execCswClose n s
  | .cswOpen n => Sys2Proof.Machine.execCswOpen n s
  | .cswAbort n => Sys2Proof.Machine.execCswAbort n s
  | .cswContact b p => Sys2Proof.Machine.execCswContact b p s
  | .cswNoContact b => Sys2Proof.Machine.execCswNoContact b s
  | .stationClearCounters => Sys2Proof.Machine.execStationClearCounters s
  | .coreLoadWindow k load10 load1s svcLoads => Sys2Proof.Machine.execCoreLoadWindow k load10 load1s svcLoads s
  | .hingePoint svc => Sys2Proof.Machine.execHingePoint svc s
  | .hingeCopyDone svc => Sys2Proof.Machine.execHingeCopyDone svc s
  | .hingeOverdue svc => Sys2Proof.Machine.execHingeOverdue svc s
  | .coreTrap k cause svc pc => Sys2Proof.Machine.execCoreTrap k cause svc pc s
  | .instanceRestartDone svc => Sys2Proof.Machine.execInstanceRestartDone svc s
  | .svcRestartCmd n => Sys2Proof.Machine.execSvcRestartCmd n s
  | .svcClearCounters n => Sys2Proof.Machine.execSvcClearCounters n s
  | .traceMessage typ k stamp payload => Sys2Proof.Machine.execTraceMessage typ k stamp payload s
  | .traceDrain => Sys2Proof.Machine.execTraceDrain s
  | .scTraceDropRead c => Sys2Proof.Machine.execScTraceDropRead c s
  | .canTxPacket k => Sys2Proof.Machine.execCanTxPacket k s
  | .canFrameReceived k f ago => Sys2Proof.Machine.execCanFrameReceived k f ago s
  | .canRxBufferDrain k => Sys2Proof.Machine.execCanRxBufferDrain k s
  | .canTxComplete k tdcv => Sys2Proof.Machine.execCanTxComplete k tdcv s
  | .canTxLost k => Sys2Proof.Machine.execCanTxLost k s
  | .canBusError k tx dominant => Sys2Proof.Machine.execCanBusError k tx dominant s
  | .canBusoffRecovery k => Sys2Proof.Machine.execCanBusoffRecovery k s
  | .canAbortAll k onBus => Sys2Proof.Machine.execCanAbortAll k onBus s
  | .canAbortSeq k seq onBus => Sys2Proof.Machine.execCanAbortSeq k seq onBus s
  | .canBusoffRestart k => Sys2Proof.Machine.execCanBusoffRestart k s
  | .canClearCounters k => Sys2Proof.Machine.execCanClearCounters k s
  | .canLeaveHalted k => Sys2Proof.Machine.execCanLeaveHalted k s
  | .canAbortClear k => Sys2Proof.Machine.execCanAbortClear k s
  | .canFhitRead c f => Sys2Proof.Machine.execCanFhitRead c f s
  | .canWake k w => Sys2Proof.Machine.execCanWake k w s
  | .canIntegrationDone k => Sys2Proof.Machine.execCanIntegrationDone k s
  | .ttReferenceSend k => Sys2Proof.Machine.execTtReferenceSend k s
  | .ttReferenceReceived k r ago => Sys2Proof.Machine.execTtReferenceReceived k r ago s
  | .ttTrigger k t => Sys2Proof.Machine.execTtTrigger k t s
  | .ttGuardExceeded k => Sys2Proof.Machine.execTtGuardExceeded k s
  | .windowRead addr len => Sys2Proof.Machine.execWindowRead addr len s
  | .windowWrite addr data => Sys2Proof.Machine.execWindowWrite addr data s
  | .readDeadlineExpiry id => Sys2Proof.Machine.execReadDeadlineExpiry id s
  | .windowRegisterWrite w r v => Sys2Proof.Machine.execWindowRegisterWrite w r v s
  | .prefetchFillDone id => Sys2Proof.Machine.execPrefetchFillDone id s
  | .prefetchLineExpiry e => Sys2Proof.Machine.execPrefetchLineExpiry e s
  | .prefetchInvalidate => Sys2Proof.Machine.execPrefetchInvalidate s
  | .brPfHitsRead c => Sys2Proof.Machine.execBrPfHitsRead c s
  | .brFenceRead => Sys2Proof.Machine.execBrFenceRead s
  | .brErrClear => Sys2Proof.Machine.execBrErrClear s
  | .brIntPendClear v => Sys2Proof.Machine.execBrIntPendClear v s
  | .msixUnmask v => Sys2Proof.Machine.execMsixUnmask v s
  | .mbDoorbell len => Sys2Proof.Machine.execMbDoorbell len s
  | .mbRespAck => Sys2Proof.Machine.execMbRespAck s
  | .atomicOp addr op => Sys2Proof.Machine.execAtomicOp addr op s
  | .brSemRead c n => Sys2Proof.Machine.execBrSemRead c n s
  | .semFree c n => Sys2Proof.Machine.execSemFree c n s
  | .semTimeout n => Sys2Proof.Machine.execSemTimeout n s
  | .hostWriteHoldExpiry => Sys2Proof.Machine.execHostWriteHoldExpiry s
  | .tunnelIngress t => Sys2Proof.Machine.execTunnelIngress t s
  | .tunnelFrameDelivered => Sys2Proof.Machine.execTunnelFrameDelivered s
  | .stationFrameReceived port bytes => Sys2Proof.Machine.execStationFrameReceived port bytes s
  | .prpSupervisionSend => Sys2Proof.Machine.execPrpSupervisionSend s
  | .prpNodeForget mac => Sys2Proof.Machine.execPrpNodeForget mac s
  | .keyLoadPlain n key => Sys2Proof.Machine.execKeyLoadPlain n key s
  | .keyLoadWrapped n wrapped => Sys2Proof.Machine.execKeyLoadWrapped n wrapped s
  | .keyDestroy n => Sys2Proof.Machine.execKeyDestroy n s
  | .keyDerive n => Sys2Proof.Machine.execKeyDerive n s
  | .revokeKey0 n => Sys2Proof.Machine.execRevokeKey0 n s
  | .raiseFloor n => Sys2Proof.Machine.execRaiseFloor n s
  | .lcReq n v verified => Sys2Proof.Machine.execLcReq n v verified s
  | .rngHealthFail => Sys2Proof.Machine.execRngHealthFail s
  | .updPrepare n => Sys2Proof.Machine.execUpdPrepare n s
  | .updSlotReady => Sys2Proof.Machine.execUpdSlotReady s
  | .imageDataSegment n off data last => Sys2Proof.Machine.execImageDataSegment n off data last s
  | .updVerifyDone => Sys2Proof.Machine.execUpdVerifyDone s
  | .updActivateHandover n => Sys2Proof.Machine.execUpdActivateHandover n s
  | .updActivateReset n => Sys2Proof.Machine.execUpdActivateReset n s
  | .updAbandon n => Sys2Proof.Machine.execUpdAbandon n s
  | .handoverImageLoaded => Sys2Proof.Machine.execHandoverImageLoaded s
  | .handoverComplete => Sys2Proof.Machine.execHandoverComplete s
  | .trialHealthy => Sys2Proof.Machine.execTrialHealthy s
  | .trialTimeout => Sys2Proof.Machine.execTrialTimeout s
  | .recoveryLoaderRequest path off data last => Sys2Proof.Machine.execRecoveryLoaderRequest path off data last s
  | .flashEraseDone ok => Sys2Proof.Machine.execFlashEraseDone ok s
  | .flashEraseSuspend u => Sys2Proof.Machine.execFlashEraseSuspend u s
  | .flashEraseResume => Sys2Proof.Machine.execFlashEraseResume s
  | .faultReport r level => Sys2Proof.Machine.execFaultReport r level s
  | .reactionComplete => Sys2Proof.Machine.execReactionComplete s
  | .quietPeriodExpiry => Sys2Proof.Machine.execQuietPeriodExpiry s
  | .fcFirstClear => Sys2Proof.Machine.execFcFirstClear s
  | .fcCountRead c => Sys2Proof.Machine.execFcCountRead c s
  | .collectorSelfTest arrived => Sys2Proof.Machine.execCollectorSelfTest arrived s
  | .ringClearCounters => Sys2Proof.Machine.execRingClearCounters s
  | .switchClearCounters => Sys2Proof.Machine.execSwitchClearCounters s
  | .shutterClearCounters => Sys2Proof.Machine.execShutterClearCounters s
  | .timeClearCounters => Sys2Proof.Machine.execTimeClearCounters s
  | .phaseClearCounters => Sys2Proof.Machine.execPhaseClearCounters s
  | .swAuditRead c => Sys2Proof.Machine.execSwAuditRead c s
  | .ddrEccErrClear => Sys2Proof.Machine.execDdrEccErrClear s
  | .shtGfailClear => Sys2Proof.Machine.execShtGfailClear s
  | .leashInSilence => Sys2Proof.Machine.execLeashInSilence s
  | .leashInEdge => Sys2Proof.Machine.execLeashInEdge s
  | .claimSeekExpiry => Sys2Proof.Machine.execClaimSeekExpiry s
  | .claimBackoffExpiry => Sys2Proof.Machine.execClaimBackoffExpiry s
  | .dualClaimDetected => Sys2Proof.Machine.execDualClaimDetected s
  | .leashOutReadbackFail => Sys2Proof.Machine.execLeashOutReadbackFail s
  | .pairStatusSend => Sys2Proof.Machine.execPairStatusSend s
  | .pairStatusBlock b crcOk => Sys2Proof.Machine.execPairStatusBlock b crcOk s
  | .pairLinkDown => Sys2Proof.Machine.execPairLinkDown s
  | .pairMirrorBlock seq r => Sys2Proof.Machine.execPairMirrorBlock seq r s
  | .mirrorResend seq => Sys2Proof.Machine.execMirrorResend seq s
  | .mirroredCommitApply => Sys2Proof.Machine.execMirroredCommitApply s
  | .configTransferRequest set => Sys2Proof.Machine.execConfigTransferRequest set s
  | .shadowMismatch ef bank pin => Sys2Proof.Machine.execShadowMismatch ef bank pin s
  | .paShadowClear => Sys2Proof.Machine.execPaShadowClear s
  | .paLinkRead c => Sys2Proof.Machine.execPaLinkRead c s
  | .barkSend => Sys2Proof.Machine.execBarkSend s
  | .barkReceived => Sys2Proof.Machine.execBarkReceived s
  | .barkTimeout => Sys2Proof.Machine.execBarkTimeout s
  | .switchover n => Sys2Proof.Machine.execSwitchover n s
  | .heel n => Sys2Proof.Machine.execHeel n s
  | .switchoverNoSync n => Sys2Proof.Machine.execSwitchoverNoSync n s
  | .switchoverFallback => Sys2Proof.Machine.execSwitchoverFallback s
  | .bistSliceDone found => Sys2Proof.Machine.execBistSliceDone found s
  | .bistSliceBudgetExpiry => Sys2Proof.Machine.execBistSliceBudgetExpiry s
  | .repairClear n => Sys2Proof.Machine.execRepairClear n s
  | .feedUsable f => Sys2Proof.Machine.execFeedUsable f s
  | .feedUnusable f why => Sys2Proof.Machine.execFeedUnusable f why s
  | .feedReturnTimer => Sys2Proof.Machine.execFeedReturnTimer s
  | .feedOffConfirmed => Sys2Proof.Machine.execFeedOffConfirmed s
  | .feedOffTimeout => Sys2Proof.Machine.execFeedOffTimeout s
  | .feedLossDegrade f => Sys2Proof.Machine.execFeedLossDegrade f s
  | .efCmdOn n ch => Sys2Proof.Machine.execEfCmdOn n ch s
  | .efCmdOff n ch => Sys2Proof.Machine.execEfCmdOff n ch s
  | .efStartComplete ch => Sys2Proof.Machine.execEfStartComplete ch s
  | .efInsertionAbort ch lt => Sys2Proof.Machine.execEfInsertionAbort ch lt s
  | .efStartTimeout ch lt => Sys2Proof.Machine.execEfStartTimeout ch lt s
  | .efCurveTrip ch lt => Sys2Proof.Machine.execEfCurveTrip ch lt s
  | .efComparatorTrip ch lt => Sys2Proof.Machine.execEfComparatorTrip ch lt s
  | .efLetThroughTrip ch lt => Sys2Proof.Machine.execEfLetThroughTrip ch lt s
  | .efShorted ch => Sys2Proof.Machine.execEfShorted ch s
  | .efShortEnd ch => Sys2Proof.Machine.execEfShortEnd ch s
  | .efEnergyTick ch ma mv => Sys2Proof.Machine.execEfEnergyTick ch ma mv s
  | .energyStore => Sys2Proof.Machine.execEnergyStore s
  | .efTelemetry ch ma mv => Sys2Proof.Machine.execEfTelemetry ch ma mv s
  | .pwEfEloRead c ch => Sys2Proof.Machine.execPwEfEloRead c ch s
  | .measReferenceCheck ch off => Sys2Proof.Machine.execMeasReferenceCheck ch off s
  | .railMonitorWarning rail mv => Sys2Proof.Machine.execRailMonitorWarning rail mv s
  | .tempSample t => Sys2Proof.Machine.execTempSample t s
  | .refclkWarning ppm => Sys2Proof.Machine.execRefclkWarning ppm s
  | .linkUp p => Sys2Proof.Machine.execLinkUp p s
  | .noticeLeadExpiry p => Sys2Proof.Machine.execNoticeLeadExpiry p s
  | .outageDeferralExpiry p => Sys2Proof.Machine.execOutageDeferralExpiry p s
  | .feedLossEnd f => Sys2Proof.Machine.execFeedLossEnd f s
  | .feedRampComplete => Sys2Proof.Machine.execFeedRampComplete s
  | .rngHealthRestored => Sys2Proof.Machine.execRngHealthRestored s
  | .ptpMessageInterval port => Sys2Proof.Machine.execPtpMessageInterval port s

end Sys2Proof.Machine
end

