-- ==== Sys2Proof/Machine/Tick.lean ====
section
/-!
DEFINITION. What the hub does at a 250 MHz edge at which no command waits: time goes on, one request that has arrived as bytes
is read, and one transaction that waits in a session is served.
-/

namespace Sys2Proof.Machine

/-- Wide time and the local time base advance at an edge (R249, R251); in RESET both stand at their values at the end of every reset. -/
def State.edgeTime (s : State) : State :=
  let s := { s with clock := s.clock + 1 }
  if s.modes.mode = .reset then s
  else { s with time := { s.time with ltb := (s.time.ltb + 1) % 2 ^ 64, wt := s.time.wt + s.time.incr } }

/-- The lowest session in which a transaction waits and none is being served (R39). -/
def State.toServe (s : State) : Option Nat :=
  (List.range 32).find? (fun n => (s.session n).isOpen && (s.session n).serving.isNone && !(s.session n).waiting.isEmpty)

/-- One edge: the pads are sampled and the engines' captures and readback examine them; a posted host
write that waited proceeds; a request that has arrived as bytes is read and takes its place, and one transaction that waits is served. -/
def State.tick (s : State) : State :=
  let s := s.edgeTime.bankEdges.shadowEdge.engineEdge.coEdge.logHoldEnd.traceHoldEnd.postEdge
  let s := match s.nextArrival with
    | some (a, t) => t.serveBytes a
    | none => s
  match s.toServe with
  | none => s
  | some n => s.serveNext n

end Sys2Proof.Machine
end

