-- ==== Sys2Proof/WellFormed.lean ====
section
/-!
DEFINITION. Which commands are well formed: operands that no encoding, frame or table of the hub can carry are refused here. A
meaning is total on every command, well formed or not.
-/

namespace Sys2Proof

/-- The identity a path can name (R37). -/
def Path.identOk : Path → Nat → Bool
  | .ring, n => n < 256
  | .can, n => n < 2048
  | .udp, n => n < 2 ^ 48
  | .mailbox, n => n = 0
  | .uart, n => n = 0

/-- The fields of a transaction header fit their bytes (R35). -/
def Txn.wf (t : Txn) : Bool :=
  t.path.identOk t.ident && t.size ≤ 16 && t.cmd < 256 && t.sess < 256 && t.tag < 2 ^ 16 && t.index < 2 ^ 16 && t.sub < 256
    && t.flags < 256 && t.len < 2 ^ 32 && t.off < 2 ^ 32

/-- The fields of a ring header fit their bits (R86). -/
def Hdr.wf (h : Hdr) : Bool :=
  h.version < 4 && h.typ < 16 && h.colour < 4 && h.cls < 8 && h.source < 256 && h.dest < 256 && h.destCh < 4096 && h.seq < 2 ^ 16
    && h.hops < 256 && h.rsv9 < 256 && h.length < 2 ^ 16 && h.originSt32 < 2 ^ 32 && h.residence < 2 ^ 32 && h.spec < 2 ^ 64
    && h.keySlot < 64 && h.tagMode < 4 && h.rsv28 < 256 && h.hcrc < 2 ^ 16

/-- A ring frame's header fits, and its tag has 16 bytes when AUTH is set and none otherwise (R86, R89). -/
def Frame.wf (f : Frame) : Bool := f.hdr.wf && f.tag.length = (if f.hdr.auth then 16 else 0)

/-- A fault report's fields fit (R450). -/
def Report.wf (r : Report) : Bool := r.source < 256 && r.syndrome < 2 ^ 32 && r.address < 2 ^ 48

/-- An arbiter request names one of 22 requesters with a class and background flag that the requester can have (R142). -/
def DramReq.wf (r : DramReq) : Bool :=
  r.index < 22 && r.cls < 8 &&
    (if r.index = 18 then r.cls = 0 && !r.background
     else if r.index = 19 || r.index = 21 then r.cls = 0 && r.background
     else (2 ≤ r.index && r.index ≤ 17) || !r.background)

/-- A PTP message's fields fit (R258); an Announce has its seven fields. -/
def PtpMsg.wf (m : PtpMsg) : Bool :=
  m.domain < 256 && m.seq < 2 ^ 16 && m.flags < 2 ^ 16 && m.sec < 2 ^ 48 && m.ns < 2 ^ 32 && (m.kind ≠ .announce || m.ann.length = 7)

/-- An SV frame's fields fit (R301). -/
def SvFrame.wf (f : SvFrame) : Bool := f.dest < 2 ^ 48 && f.appid < 2 ^ 16 && f.confRev < 2 ^ 32 && f.asdus.all (fun a => a.smpCnt < 2 ^ 16)

/-- A GOOSE frame's fields fit (R310). -/
def GooseFrame.wf (f : GooseFrame) : Bool :=
  f.dest < 2 ^ 48 && f.appid < 2 ^ 16 && f.confRev < 2 ^ 32 && f.stNum < 2 ^ 32 && f.sqNum < 2 ^ 32 && f.tal < 2 ^ 32

/-- A CAN frame carries at most 64 bytes, at most 8 in a classical frame, and none in a remote frame (R352, R357). -/
def CanFrame.wf (f : CanFrame) : Bool := f.data.length ≤ (if f.rtr then 0 else if f.fdf then 64 else 8) && !(f.fdf && f.rtr)

/-- A mirrored entry names a dictionary entry (R475). -/
def MirrorEntry.wf (e : MirrorEntry) : Bool := e.index < 2 ^ 16 && e.sub < 256

/-- A mirror record's entries do; a calendar record has the eight fields of an entry (R475, R476). -/
def MirrorRec.wf : MirrorRec → Bool
  | .commit l _ => l.all MirrorEntry.wf
  | .write e => e.wf
  | .hinge n _ => n < 1282
  | .calendar _ fields _ => fields.length = 8
  | .config l => l.all MirrorEntry.wf

/-- A finding names a macro of the map and a bit of a word (R495, R501). -/
def Finding.wf (f : Finding) : Bool := f.macro_ < 2 ^ 16 && f.bit < 256

/-- A command is well formed. The commands listed last have operands that their types already bound, or quantities measured from
outside that any value may take. -/
def Instr.wf : Instr → Bool
  | .registerWrite _ addr _ => addr < 2 ^ 24 && addr % 4 = 0
  | .openReq t role => t.wf && role < 256
  | .openConfirm t _ => t.wf
  | .closeReq t => t.wf
  | .keepAlive t => t.wf
  | .read t => t.wf
  | .write t data => t.wf && data.length = t.len
  | .readStaged t => t.wf
  | .fabricRead t _ len => t.wf && len < 65536
  | .fabricWrite t _ _ => t.wf
  | .supplyOutOfRange rail _ => rail < 4
  | .imageHeaderChecked _ header => header.length = 256
  | .headerReceived _ f => f.wf
  | .class7Suspend _ off => off % 64 = 0
  | .suspendReceived _ off => off % 64 = 0
  | .marginRetrainTimeout _ vert horiz => vert < 256 && horiz < 256
  | .auditWalk onChip spill => decide onChip.Nodup && decide spill.Nodup && onChip.all (· < 32768)
  | .dramRequest r _ => r.wf
  | .backgroundPassLate activity _ => activity < 256
  | .channelWindowRead _ _ off len => 0 < len && off + len ≤ 2 ^ 22
  | .channelWindowWrite _ _ off data => 0 < data.length && off + data.length ≤ 2 ^ 22
  | .stationPtpMessage _ m _ => m.wf
  | .svFrameReceived _ f => f.wf
  | .gooseFrameReceived _ f => f.wf
  | .coreLoadWindow _ load10 load1s l => load10 ≤ 1000 && load1s ≤ 1000 && l.all (fun p => p.1 < 1282 && p.2 ≤ 1000)
  | .traceMessage _ _ _ payload => payload.length ≤ 255
  | .canFrameReceived _ f _ => f.wf
  | .windowRead _ len => 0 < len && len ≤ 4096
  | .windowWrite _ data => 0 < data.length && data.length ≤ 4096
  | .stationFrameReceived _ bytes => 14 ≤ bytes.length
  | .faultReport r _ => r.wf
  | .pairStatusBlock b _ => b.mode < 256
  | .pairMirrorBlock _ r => r.wf
  | .configTransferRequest set => set.all MirrorEntry.wf
  | .bistSliceDone found => found.all Finding.wf
  | .tempSample t => t.length = 8 && t.all (fun x => -128 ≤ x && x < 128)
  | .reservedClear | .openConfirmTimeout _ | .pathLockExpiry _ | .sessionIdleTimeout _ | .sessionPathDown _ | .segmentTimeout _
  | .commit _ | .discard _ | .cancelOwnCommit _ | .cancelAnyCommit _ | .commitApply | .commitFreeze | .configStoreCommitWrite _
  | .configStoreCompact | .modeReqReturn _ | .modeReqMaintenance _ | .modeReqFailsafe _ | .modeReqDoze _ | .modeReqShutdown _
  | .resetCmdWarm | .resetCmdRecovery | .porstNAssert _ | .wrstNAssert _ | .refclkLoss _ | .pllLockLoss _ _ | .resetEnd _ _ | .pllLocked
  | .repairMapApply | .ddrTrainingDone _ _ | .imageLoadDone _ _ | .configLoadDone | .dramInitDone | .pcieEndpointReady | .joinComplete
  | .joinTimeout | .wakeTimer | .wakeSequenceDone | .shutdownFlushDone | .leaveIdleTimer | .halt | .islandSupplyWarning _ _
  | .trailerChecked _ _ _ | .receiveLinkError _ _ | .specDeadline _ | .stagedEntryApply _ | .fabricReadRequest | .fabricWritePart
  | .readResponseReceived | .splitRemoteTimeout _ | .frameOriginate | .c7BucketAdmit | .originationEnable | .keepTimer _ | .helloTimer
  | .helloReceived _ | .announceTimer | .announceReceived _ | .ringClosureTimeout | .portJoined _ | .leaveReceived _
  | .recalNoticeReceived _ | .retrainNoticeReceived _ | .topologyReceived _ | .plannedOutageOverrun _ | .linkDown _
  | .trainingComplete _ _ | .trainingRetryTimer _ | .errorLimitExceeded _ | .retrainDone _ | .recalDeferTimeout _ | .synthRecalStart _ _
  | .synthLockLoss _ | .synthRelock _ | .enqueue | .dequeue _ | .kennelReadbackDone _ _ | .heldSourceResume _ | .ancientMark _
  | .dramTransferDone _ | .ddrRefresh _ | .ddrTempRead _ | .scrubPass _ _ _ | .channelDeliveryResume _ | .channelHoldLimit _ | .chFlush _
  | .chQuarantineRelease _ | .chClearCounters _ | .chInRead _ | .chOutRead _ | .chHwmRead _ | .lockCmd _ | .lockStartEdge _ | .jmp _
  | .wait _ _ | .inp _ _ | .outp _ _ | .pull _ _ | .push _ _ | .mov _ | .setImm _ | .cmp _ | .syncBarrier _ | .syncArm _ | .syncRestart _
  | .stamp _ _ | .irqSet _ | .irqClear _ | .irqToggle _ | .undefinedInstruction _ | .compareMatch _ | .groupArmTimeout _
  | .engineParkCmd _ | .engineRestart _ | .engineClearCounters _ | .peWrapWrite _ _ | .peClFlagSet _ _ | .peClFlagClear _ _
  | .peClStallRead _ _ | .readbackFail _ _ | .bankSupplySample _ _ | .bankSupplyRestore _ | .filterRunComplete _ _ _
  | .syncReceived _ _ _ | .syncTimer | .syncPortTimeout | .pdelayTimer _ | .pdelayReqReceived _ _ _ | .pdelayRespReceived _ _
  | .pdelayResponseTimeout _ | .timeAnnounceTimer | .timeAnnounceReceived _ | .datasetAgeOut _ | .timeReferenceTimeout | .holdoverExpiry
  | .todSet _ _ _ _ | .ppsTod _ _ | .ppsInEdge _ _ | .ppsSourceLoss | .irigFrameDecode | .irigSourceLoss | .leapSecond | .ppsOutEdge _
  | .sampleStrobe _ | .wtTargetFreeze _ | .wrapMarker | .tmWtSecLoRead _ | .trackerInput _ _ | .trackerInputTimeout _
  | .trackerCrossingTelemetry _ | .phTrkPaRead _ _ | .convTargetRead _ _ | .calFieldWrite _ _ _ | .calArm _ | .calCancel _ | .calFreeze _
  | .calFire _ | .svSamplePacket _ | .svFrameSend _ | .svSampleMissing _ | .svSubscriptionExpiry _ | .signalUpdatePacket _
  | .gooseRepeat _ | .gooseTalExpiry _ | .soePacket _ | .soeProvisional _ | .soeChatterEnd _ | .logPageProgram _ | .logRead _
  | .faultRead _ | .cswClose _ | .cswOpen _ | .cswAbort _ | .cswContact _ _ | .cswNoContact _ | .stationClearCounters | .hingePoint _
  | .hingeCopyDone _ | .hingeOverdue _ | .coreTrap _ _ _ _ | .instanceRestartDone _ | .svcRestartCmd _ | .svcClearCounters _
  | .traceDrain | .scTraceDropRead _ | .canTxPacket _ | .canRxBufferDrain _ | .canTxComplete _ _ | .canTxLost _ | .canBusError _ _ _
  | .canBusoffRecovery _ | .canAbortAll _ _ | .canAbortSeq _ _ _ | .canBusoffRestart _ | .canClearCounters _ | .canLeaveHalted _
  | .canAbortClear _ | .canFhitRead _ _ | .canWake _ _ | .canIntegrationDone _ | .ttReferenceSend _ | .ttReferenceReceived _ _ _
  | .ttTrigger _ _ | .ttGuardExceeded _ | .readDeadlineExpiry _ | .windowRegisterWrite _ _ _ | .prefetchFillDone _
  | .prefetchLineExpiry _ | .prefetchInvalidate | .brPfHitsRead _ | .brFenceRead | .brErrClear | .brIntPendClear _ | .msixUnmask _
  | .mbDoorbell _ | .mbRespAck | .atomicOp _ _ | .brSemRead _ _ | .semFree _ _ | .semTimeout _ | .hostWriteHoldExpiry | .tunnelIngress _
  | .tunnelFrameDelivered | .prpSupervisionSend | .prpNodeForget _ | .keyLoadPlain _ _ | .keyLoadWrapped _ _ | .keyDestroy _
  | .keyDerive _ | .revokeKey0 _ | .raiseFloor _ | .lcReq _ _ _ | .rngHealthFail | .updPrepare _ | .updSlotReady
  | .imageDataSegment _ _ _ _ | .updVerifyDone | .updActivateHandover _ | .updActivateReset _ | .updAbandon _ | .handoverImageLoaded
  | .handoverComplete | .trialHealthy | .trialTimeout | .recoveryLoaderRequest _ _ _ _ | .flashEraseDone _ | .flashEraseSuspend _
  | .flashEraseResume | .reactionComplete | .quietPeriodExpiry | .fcFirstClear | .fcCountRead _ | .collectorSelfTest _
  | .ringClearCounters | .switchClearCounters | .shutterClearCounters | .timeClearCounters | .phaseClearCounters | .swAuditRead _
  | .ddrEccErrClear | .shtGfailClear | .leashInSilence | .leashInEdge | .claimSeekExpiry | .claimBackoffExpiry | .dualClaimDetected
  | .leashOutReadbackFail | .pairStatusSend | .pairLinkDown | .mirrorResend _ | .mirroredCommitApply | .shadowMismatch _ _ _
  | .paShadowClear | .paLinkRead _ | .barkSend | .barkReceived | .barkTimeout | .switchover _ | .heel _ | .switchoverNoSync _
  | .switchoverFallback | .bistSliceBudgetExpiry | .repairClear _ | .feedUsable _ | .feedUnusable _ _ | .feedReturnTimer
  | .feedOffConfirmed | .feedOffTimeout | .feedLossDegrade _ | .efCmdOn _ _ | .efCmdOff _ _ | .efStartComplete _ | .efInsertionAbort _ _
  | .efStartTimeout _ _ | .efCurveTrip _ _ | .efComparatorTrip _ _ | .efLetThroughTrip _ _ | .efShorted _ | .efShortEnd _
  | .efEnergyTick _ _ _ | .energyStore | .efTelemetry _ _ _ | .pwEfEloRead _ _ | .measReferenceCheck _ _ | .railMonitorWarning _ _
  | .refclkWarning _ | .linkUp _ | .noticeLeadExpiry _ | .outageDeferralExpiry _ | .feedLossEnd _ | .feedRampComplete
  | .rngHealthRestored | .ptpMessageInterval _ => true

end Sys2Proof
end

