-- ==== Sys2Proof/Safety.lean ====
section
/-!
DEFINITION. The terms that claims about the hub use: the forms its tables keep, what a step leaves alone, and what goes out.
-/

namespace Sys2Proof.Machine

/-- The dictionary and the configuration store hold no entry at its default, and their keys rise. -/
def Tab.objWf (t : Tab Val) : Bool := Tab.wfWith objDefaultKey t

/-- Memory, the dictionary and the store are in canonical form, so that equal contents are equal data. -/
def State.Inv (s : State) : Prop := Memory.wf s.dram = true ∧ Tab.objWf s.od = true ∧ Tab.objWf s.store = true

/-- Everything but the dictionary's values is as before. -/
def onlyOd (s t : State) : Prop := t = { s with od := t.od }

/-- Everything but the outputs is as before. -/
def onlySent (s t : State) : Prop := t = { s with sent := t.sent }

/-- Nothing already sent is taken back. -/
def sentGrows (s t : State) : Prop := ∃ l, t.sent = l ++ s.sent

/-- Every byte of DRAM reads as before. -/
def sameDram (s t : State) : Prop := ∀ a, t.dramByte a = s.dramByte a

/-- Every dictionary entry outside `p` reads as before. -/
def sameVals (p : Nat → Nat → Nat → Prop) (s t : State) : Prop :=
  ∀ index sub item, sub < 256 → item < 65536 → ¬ p index sub item → t.val index sub item = s.val index sub item

/-- The entries of `p` read 0, and nothing else has changed. -/
def clears (p : Nat → Nat → Nat → Prop) (s t : State) : Prop :=
  onlyOd s t ∧ (∀ index sub item, sub < 256 → item < 65536 → p index sub item → t.o index sub item = 0) ∧ sameVals p s t

/-- An entry index in a range of subindices, for one item. -/
def inSubs (i lo hi k : Nat) (index sub item : Nat) : Prop := index = i ∧ lo ≤ sub ∧ sub ≤ hi ∧ item = k

/-- A request that is well formed for command `cmd` arrives with its data on a path in service, from the identity of its open session, in
which nothing waits. -/
abbrev State.alone (s : State) (t : Txn) (cmd : Nat) (data : List Byte) : Prop :=
  uartBad t data = false ∧ s.pathUp t.path = true ∧ txnBad t cmd = false ∧ s.owns t = true ∧ (s.session t.sess).isOpen = true ∧
    (s.session t.sess).serving = none ∧ (s.session t.sess).waiting = [] ∧ (s.session t.sess).segs = []

/-- Session `n` is open, and its role (a mask of those that may write), its path, the life cycle and the mode let it write the entry: steps 3 to
5 of R548. -/
abbrev State.mayWrite (s : State) (n mask index sub : Nat) : Prop :=
  (s.session n).isOpen = true ∧ s.writeBar n mask index sub = none

/-- The state in which that request is being served. -/
def State.serve (s : State) (t : Txn) : State :=
  (s.mbServe t.path).setSession t.sess { s.session t.sess with lastUsed := s.clock, serving := some t }

/-- An output has gone out. -/
def sends (t : State) (o : Output) : Prop := o ∈ t.sent

/-- Engine `e` is running in a mode that runs it, and word `w` is under its program counter, readable and legal. -/
abbrev State.fetches (s : State) (e w : Nat) : Prop :=
  (s.eng e).st = .running ∧ s.enginesRun e = true ∧ s.engWord e = w ∧ s.wordBad e w = none ∧ s.wordLost e = false

/-- The tick of an instruction that completes with its pin write and next address; as it stands if the write must wait. -/
def State.ended (s : State) (e w : Nat) (jump : Option Nat) (pw : PinWrite) : State := (s.engFinish e w jump pw).getD s

/-- The tick of an instruction that waits. -/
def State.stalled (s : State) (e : Nat) : State := s.setEng e { engTickEnd (s.eng e) with waiting := true }

/-- The tick of an instruction whose work leaves `t`; the engine waits in `s` while its staging store is full. -/
def State.ends (s t : State) (e w : Nat) (jump : Option Nat) (pw : PinWrite) : State := (t.engFinish e w jump pw).getD (s.stalled e)

end Sys2Proof.Machine
end

