-- ==== Sys2Proof/Certificates/Slice0/Obligations.lean ====
section
/-!
DEFINITION. The statements about the hub that the provers prove.
-/

open Sys2Proof Sys2Proof.Machine

/-- A step takes the command at the front of the queue and is its effect with the queue's rest; on an empty queue it is one edge of the
clock, which is the model's own choice (log entry 1). -/
def Obligations.StepRunsFrontCommand : Prop :=
  ∀ s : State,
    (∀ (c : Instr) (l : List Instr), s.pending = c :: l → step s = exec c { s with pending := l }) ∧
    (s.pending = [] → step s = .next s.tick)

/-- DRAM, the object dictionary and the configuration store are lists in one canonical form, so that equal contents are equal data; every
step keeps it. -/
def Obligations.StepKeepsTablesCanonical : Prop :=
  ∀ s t : State, s.Inv → step s = .next t → t.Inv

/-- The hub right after a power-on reset (R70, R99, R249, R452): it is in RESET with every entry of the dictionary at its default, WT at 0 s
and status FREE, no error recorded, no session open and nothing originated; its tables are canonical. Where it rests on the model's own
readings: log entry 9. -/
def Obligations.ResetHoldsDefaults : Prop :=
  State.reset.Inv ∧ State.reset.modes.mode = .reset ∧ State.reset.pending = [] ∧ State.reset.sent = [] ∧
    (∀ index sub item, sub < 256 → item < 65536 → State.reset.val index sub item = objDefault index sub) ∧
    State.reset.time.wt = 0 ∧ State.reset.time.status = .free ∧ State.reset.time.incr = 4 * 2 ^ 32 ∧
    State.reset.ring.origOn = false ∧ State.reset.ring.seqs = [] ∧ State.reset.fc.first.valid = false ∧ State.reset.fc.queue = [] ∧
    (∀ n, (State.reset.session n).isOpen = false) ∧ (∀ e, (State.reset.eng e).st ≠ .running)


/-- Key loads, derivation and destruction by a session that may write the entry complete under the conditions of R406, R407, R409 and R410, and their write is
answered. What an unwrap yields is not the model's to say, so both outcomes are stated. Where it rests on the model's own readings: log
entries 3, 7 and 101. -/
def Obligations.KeyCommandsLoadAndDestroy : Prop :=
  ∀ (s : State) (n : Fin 32),
    (∀ key : List Byte, s.mayWrite n 8 0x8003 1 → ((s.session n).path = .mailbox ∨ (s.session n).path = .uart) → s.sec.lc < 3 →
      key.length = attrLen (s.ownGet n 0x8002 1) → attrOk (s.ownGet n 0x8002 1) = true →
      exec (.keyLoadPlain n key) s =
        .next ((s.keyPut (s.keySel n) (s.ownGet n 0x8002 1) (s.ownGet n 0x8002 2) key).answer n (.ok []))) ∧
    (∀ w : List Byte, s.mayWrite n 8 0x8003 2 → s.sec.lc < 3 → (w.length = 40 ∨ w.length = 56) → s.keyRefused (s.ownGet n 0x8002 3) 6 = none →
      ∃ t, exec (.keyLoadWrapped n w) s = .next t ∧
        match Config.keyUnwrap (s.slot (s.ownGet n 0x8002 3)).key w with
        | none => t = s.answer n (.abort Abort.valueOutOfRange)
        | some d =>
          let attr := ofBe ((d.drop (w.length - 24)).take 4)
          let uses := ofBe ((d.drop (w.length - 24 + 4)).take 6)
          if w.length - 24 ≠ attrLen attr then t = s.answer n (.abort Abort.lengthMismatch)
          else if attrOk attr = false ∨ (uses = 0 ∧ bitOf attr 16 = false) then t = s.answer n (.abort Abort.valueOutOfRange)
          else t = ((s.useKey (s.ownGet n 0x8002 3)).keyPut (s.keySel n) attr uses (d.take (w.length - 24))).answer n (.ok [])) ∧
    (s.mayWrite n 8 0x8003 3 → exec (.keyDestroy n) s =
      .next ((s.setSlot (s.keySel n) { lastCount := (s.slot (s.keySel n)).lastCount }).answer n (.ok []))) ∧
    (s.mayWrite n 8 0x8003 3 → s.sec.lc < 3 → s.sec.rngOk = true → s.keyRefused (s.ownGet n 0x8002 4) 5 = none → attrOk (s.ownGet n 0x8002 1) = true →
      (∀ i, i < 8 → bitOf (s.ownGet n 0x8002 1) i = true → bitOf ((s.slot (s.ownGet n 0x8002 4)).attr / 256 % 64) i = true) →
      exec (.keyDerive n) s = .next (((s.useKey (s.ownGet n 0x8002 4)).keyPut (s.keySel n) (s.ownGet n 0x8002 1) (s.ownGet n 0x8002 2)
        (deriveKey (s.slot (s.ownGet n 0x8002 4)).key (s.session n).label (s.session n).context
          (attrLen (s.ownGet n 0x8002 1)))).answer n (.ok [])))

/-- The fuses, the life cycle, the random source and the repair map (R416–R419, R437, R500): what the command of a session that may write
its entry does, and what the health tests do. Where it rests on the model's own readings: log entries 3, 28 and 111. -/
def Obligations.FusesLifeCycleAndRandomSource : Prop :=
  ∀ (s : State) (n : Fin 32),
    (s.mayWrite n 8 0x8030 1 → s.o 0x8030 1 ≠ 1 → (s.imgSlot s.flash.running).key0 = false →
      exec (.revokeKey0 n) s = .next ((s.setO 0x8030 1 0 1).answer n (.ok []))) ∧
    (s.mayWrite n 8 0x9020 0 → s.flash.trial = none →
      ∀ r, ((([0, 1].map s.imgSlot).filter (fun x : Slot => x.state = 1 || x.state = 3)).map (fun x : Slot => x.rollback)).min? = some r →
        exec (.raiseFloor n) s = .next ((if r > s.o 0x8030 2 then s.setO 0x8030 2 0 r else s).answer n (.ok []))) ∧
    (∀ v : W32, s.mayWrite n 8 0x8040 0 → v.toNat / 256 = 0xC0DE00 → v.toNat % 256 ≤ 4 → s.sec.intent = none →
      lcAllowed s.sec.lc (v.toNat % 256) (s.o 0x8041 0) = true →
      exec (.lcReq n v true) s =
        .next ((({ s with sec := { s.sec with intent := some (v.toNat % 256) } }.answer n (.ok [])).lcRun (v.toNat % 256) true).1.beginReset 4) ∧
      exec (.lcReq n v false) s =
        .next (({ s with sec := { s.sec with intent := some (v.toNat % 256) } }.answer n (.ok [])).lcRun (v.toNat % 256) false).1) ∧
    (s.mayWrite n 16 0xB005 0 → s.sec.lc = 0 →
      exec (.repairClear n) s = .next ({ s with bist := { s.bist with clear := true } }.answer n (.ok []))) ∧
    exec .rngHealthFail s = .next ({ s with sec := { s.sec with rngOk := false } }.report { source := 0x71 }) ∧
    exec .rngHealthRestored s = .next { s with sec := { s.sec with rngOk := true } }

/-- A transition to a life-cycle state ends with every key slot empty, the target in force and no intent; a failed verification leaves the
life cycle as it was and the slots empty (R419). Where it rests on the model's own readings: log entries 28 and 100. -/
def Obligations.LifeCycleRunEmptiesKeys : Prop :=
  ∀ (s : State) (target : Nat),
    ((s.lcRun target true).2 = true ∧ (s.lcRun target true).1.sec.slots = [] ∧ (s.lcRun target true).1.sec.lc = target ∧
      (s.lcRun target true).1.sec.intent = none ∧ (target = 4 → (s.lcRun target true).1.sec.rootKey = List.replicate 32 0xFF) ∧
      (target ≠ 4 → (s.lcRun target true).1.sec.rootKey = s.sec.rootKey)) ∧
    ((s.lcRun target false).2 = false ∧ (s.lcRun target false).1 = (s.keysGone).report { source := 0x70, syndrome := 64 } ∧
      s.keysGone.sec.slots = [] ∧ s.keysGone.sec.lc = s.sec.lc)

/-- A slice that ends at its budget repairs and retires nothing, and records "incomplete" (R492); one that ends with nothing found records a
pass and leaves the map as it was (R494, R501). Where it rests on the model's own readings: log entries 91 and 93. -/
def Obligations.SliceEndsRecordTheirOutcome : Prop :=
  ∀ (s : State) (k : Nat), s.bist.running = some k →
    (ticksMs (sliceBudget k) + s.bist.sliceAt ≤ s.clock → ∃ t, exec .bistSliceBudgetExpiry s = .next t ∧
      t = ((s.bistRecord k 4 { macro_ := sliceMacro k }).sliceEnd k (s.bist.candidates.any (fun f => sliceOf f.macro_ = k))).anchorUpdate ∧
      t.bist.map = s.bist.map ∧ t.bist.toRetire = s.bist.toRetire ∧ t.bist.outcome = 4) ∧
    ((∀ f ∈ s.bist.candidates, sliceOf f.macro_ ≠ k) → s.clock ≤ ticksMs (sliceBudget k) + s.bist.sliceAt →
      ∃ t, exec (.bistSliceDone []) s = .next t ∧ t.bist.map = s.bist.map ∧ t.bist.toRetire = s.bist.toRetire ∧ t.bist.outcome = 0 ∧
        t.bist.last = k)

/-- Feeds become usable and unusable, and the selector follows (R505–R507): the reading changes the feed and nothing outside the power unit
but TRIP_CAUSE. Where it rests on the model's own readings: log entry 4. -/
def Obligations.FeedsComeAndGo : Prop :=
  ∀ (s : State) (f : Fin 2),
    (s.fitted f = true → ∃ t, exec (.feedUsable f) s = .next t ∧ (t.feed f).usable = true ∧
      t = { s with free := t.free, power := t.power }) ∧
    (∀ why : FeedBad, ∃ t, exec (.feedUnusable f why) s = .next t ∧ (t.feed f).usable = false ∧
      (why = .overcurrent → t.o (0xB830 + f) 6 = 7) ∧ (why = .reverse → t.o (0xB830 + f) 6 = 8) ∧ (why = .under → t.od = s.od) ∧
      t = { s with free := t.free, od := t.od, power := t.power }) ∧
    (∀ t0, (s.feed f).badSince = some t0 → ticksMs 1000 + t0 ≤ s.clock → s.fitted f = true → s.feedOk f = false →
      exec (.feedLossDegrade f) s = .next ((s.setFeed f { s.feed f with lost := true }).degrade 2 true)) ∧
    (∀ t0, (s.feed f).goodSince = some t0 → ticksMs 1000 + t0 ≤ s.clock → (s.feed f).lost = true → s.feedOk f = true →
      exec (.feedLossEnd f) s = .next ((s.setFeed f { s.feed f with lost := false }).degrade 2 (s.feed (1 - f)).lost)) ∧
    exec .feedRampComplete s = .next { s with power := { s.power with ramp := false } }

/-- A changeover between feeds (R506 rule 3, R507): it begins when the preferred feed has been usable for FEED_RETURN, ends with the new
feed in use and counted, and a gate that does not turn off in time makes the old element shorted. Where it rests on the model's own
readings: log entry 4. -/
def Obligations.FeedChangeover : Prop :=
  ∀ s : State,
    (∀ t0, (s.feed s.feedFirst).goodSince = some t0 → ticksMs (s.o 0xB800 4) + t0 ≤ s.clock → s.power.inUse = 2 - s.feedFirst →
      s.power.change = none → s.feedOk s.feedFirst = true →
      exec .feedReturnTimer s =
        .next { s with power := { s.power with inUse := 0, ramp := false, change := some (s.feedFirst, s.clock) } }) ∧
    (∀ f t0, s.power.change = some (f, t0) → s.feedOk f = true → ∃ t, exec .feedOffConfirmed s = .next t ∧
      t.power = { s.power with inUse := f + 1, ramp := false, change := none } ∧
      t.o 0xB802 1 = min (s.o 0xB802 1 + 1) 0xFFFFFFFF ∧ t = { s with od := t.od, power := t.power }) ∧
    (∀ f t0, s.power.change = some (f, t0) → 5000 + (t0 * 4 + s.o (0xB820 + (1 - f)) 0x15) ≤ s.clock * 4 →
      exec .feedOffTimeout s = .next (({ s with power := { s.power with change := none } }.feedSet (1 - f)
        { s.feed (1 - f) with shorted := true } false).efShort (1 - f)))

/-- EF_CMD (R510): field channels start and stop in the modes that take commands, and a feed is admitted or excluded; given by a
session that may write it the command is answered, given by PW_EF_CTRL it is not. -/
def Obligations.FieldChannelCommands : Prop :=
  ∀ (s : State) (ch : Fin 8),
    (2 ≤ ch.val → s.efMode ch = true → (s.field ch).state < 3 →
      exec (.efCmdOn none ch) s = .next (s.fieldOn ch) ∧ exec (.efCmdOff none ch) s = .next (s.fieldOff ch) ∧
      ∀ n : Fin 32, s.mayWrite n 6 0xB840 (ch + 1) →
        exec (.efCmdOn (some n) ch) s = .next ((s.fieldOn ch).answer n (.ok [])) ∧
        exec (.efCmdOff (some n) ch) s = .next ((s.fieldOff ch).answer n (.ok []))) ∧
    (2 ≤ ch.val → s.efMode ch = true → (s.field ch).state = 3 →
      exec (.efCmdOff none ch) s = .next (s.setField ch { s.field ch with cmd := false, state := 0, startAt := s.clock }) ∧
      exec (.efCmdOn none ch) s = .next s) ∧
    (2 ≤ ch.val → s.efMode ch = false → ∀ n : Fin 32, (s.session n).isOpen = true → roleGrant (s.session n).role &&& 6 ≠ 0 →
      exec (.efCmdOn (some n) ch) s = .next (s.answer n (.abort Abort.notInThisMode))) ∧
    (ch.val < 2 → (s.feed ch).tripped = false → (s.feed ch).shorted = false →
      exec (.efCmdOn none ch) s = .next (s.feedSet ch { s.feed ch with excluded := false } false)) ∧
    (ch.val < 2 → (s.feedOk ch = false ∨ s.feedOk (1 - ch) = true) →
      exec (.efCmdOff none ch) s = .next (s.feedSet ch { s.feed ch with excluded := true, tripped := false } true)) ∧
    (2 ≤ ch.val → s.efGated = false → (s.field ch).cmd = false → (s.field ch).state < 3 →
      s.fieldOn ch = s.setField ch { s.field ch with cmd := true, state := 1, startAt := s.clock })

/-- Starts and trips of a field channel (R512–R517): a trip records its cause and let-through, counts it, latches the element off and
reports source 0xC0 with cause and channel, or 0xC2 for an insertion abort. Where it rests on the model's own readings: log entries 4 and
95. -/
def Obligations.FieldChannelTrips : Prop :=
  ∀ (s : State) (ch : Fin 8) (lt : W32), 2 ≤ ch.val →
    let latched := fun (cause : Nat) =>
      (((s.setO (0xB830 + ch) 6 0 cause).setO (0xB830 + ch) 7 0 lt.toNat).bump (0xB830 + ch) 8).setField ch { s.field ch with state := 3 }
    ((s.field ch).state = 1 → exec (.efStartComplete ch) s = .next (s.setField ch { s.field ch with state := 2 })) ∧
    ((s.field ch).state = 1 → exec (.efInsertionAbort ch lt) s = .next ((latched 4).report { source := 0xC2, syndrome := 4 * 2 ^ 24 + ch })) ∧
    ((s.field ch).state = 1 → ticksMs (s.o (0xB810 + ch) 4) + (s.field ch).startAt ≤ s.clock →
      exec (.efStartTimeout ch lt) s = .next ((latched 5).report { source := 0xC0, syndrome := 5 * 2 ^ 24 + ch })) ∧
    (((s.field ch).state = 1 ∨ (s.field ch).state = 2) →
      (s.o (0xB820 + ch) 1 ≠ 0 → exec (.efCurveTrip ch lt) s = .next ((latched 1).report { source := 0xC0, syndrome := 2 ^ 24 + ch })) ∧
      exec (.efComparatorTrip ch lt) s = .next ((latched 2).report { source := 0xC0, syndrome := 2 * 2 ^ 24 + ch }) ∧
      exec (.efLetThroughTrip ch lt) s = .next ((latched 3).report { source := 0xC0, syndrome := 3 * 2 ^ 24 + ch })) ∧
    ((s.field ch).cmd = false → (s.field ch).state ≠ 4 → s.pairMember = false → ticksMs 1 + (s.field ch).startAt ≤ s.clock →
      exec (.efShorted ch) s = .next ((((s.setField ch { s.field ch with state := 4 }).setO (0xB830 + ch) 6 0 6).levelSet 0xC1 ch true).report
        { source := 0xC1, syndrome := 6 * 2 ^ 24 + ch })) ∧
    ((s.field ch).state = 4 → exec (.efShortEnd ch) s = .next ((s.levelSet 0xC1 ch false).setField ch { s.field ch with state := 0 }))

/-- Measurement (R519–R521, R526): what an energy tick and the store write leave, the telemetry packet, the two-part ENERGY read, and the
reference check. Where it rests on the model's own readings: log entry 90. -/
def Obligations.EnergyAndTelemetry : Prop :=
  ∀ (s : State) (ch : Fin 8),
    (∀ (ma : Int) (mv : W32), 2 ≤ ch.val → s.modes.mode ≠ .reset → ticksUs 100 + (s.field ch).tickAt ≤ s.clock → ∃ t, exec (.efEnergyTick ch ma mv) s = .next t ∧
      t.o (0xB830 + ch) 2 = ofSigned 32 ma ∧ t.o (0xB830 + ch) 3 = mv.toNat ∧ t.o (0xB830 + ch) 4 = ofSigned 32 (ma * mv.toNat / 1000) ∧
      t.o (0xB830 + ch) 5 = ofSigned 48 ((s.o (0xB830 + ch) 5 : Nat) + (((s.field ch).frac : Int) + ma * mv.toNat) / 10000000) ∧
      (t.field ch).frac = ((((s.field ch).frac : Int) + ma * mv.toNat) % 10000000).toNat ∧
      t = { s with od := t.od, power := t.power }) ∧
    (ticksMs 600000 + s.power.storedAt ≤ s.clock → ∃ t, exec .energyStore s = .next t ∧
      t = { s with store := t.store, power := { s.power with storedAt := s.clock } } ∧
      tgetF objDefaultKey t.store (objKey (0xB830 + ch) 5 0) = .num (s.o (0xB830 + ch) 5)) ∧
    (∀ (ma : Int) (mv : W24) (c : Nat), ticksUs (s.o (0xB810 + ch) 5) + (s.field ch).telAt ≤ s.clock → s.telemetryChan (0x30 + ch) = some c →
      exec (.efTelemetry ch ma mv) s = .next ((s.setField ch { s.field ch with telAt := s.clock }).telemetryPut c (stampItems s.st32 ++ [dataItem (ofSigned 24 ma), dataItem mv.toNat,
        { kind := 3, data := BitVec.ofNat 24 (s.efState ch + s.o (0xB830 + ch) 6 * 256), eop := true }]))) ∧
    (∀ c : Ctx, s.reaches c = true → ∃ t : State, exec (.pwEfEloRead c ch) s = .next (t.reply c 4 (s.o (0xB830 + ch) 5 % 2 ^ 32)) ∧
      t = { s with ctxs := t.ctxs } ∧ tget 0 (t.ctx c).efHi ch = s.o (0xB830 + ch) 5 / 2 ^ 32) ∧
    exec (.measReferenceCheck ch true) s = .next (s.report { source := 0xA1, syndrome := 2 ^ 31 + ch }) ∧
    exec (.measReferenceCheck ch false) s = .next s

/-- The supply, temperature and clock monitors (R522–R524). Where it rests on the model's own readings: log entries 30, 92 and 94. -/
def Obligations.MonitorsReport : Prop :=
  ∀ s : State,
    (∀ (rail : Fin 5) (mv : Nat), (railWindow rail).1 ≤ mv → mv ≤ (railWindow rail).2 →
      let u := s.setO 0xB850 (rail + 1) 0 mv
      exec (.railMonitorWarning rail mv) s = .next (if rail.val = 0 then u.coreRail false else u)) ∧
    (∀ (rail : Fin 5) (mv : Nat), rail.val < 4 → (mv < (railWindow rail).1 ∨ (railWindow rail).2 < mv) →
      let u := s.setO 0xB850 (rail + 1) 0 mv
      exec (.railMonitorWarning rail mv) s =
        .next ((if rail.val = 0 then u.coreRail (mv < 740 || 860 < mv) else u).report { source := 0xA1, syndrome := rail })) ∧
    (∀ l : List Int, l.length = 8 → l.foldl max (-128) < 115 → pairsApart 10 l = false → (0xA3, 0) ∉ s.fc.levels →
      ∃ t, exec (.tempSample l) s = .next t ∧ t = { s with od := t.od } ∧ t.o 0xB851 9 = ofSigned 8 (l.foldl max (-128)) ∧
        ∀ i, i < 8 → t.o 0xB851 (i + 1) = ofSigned 8 (l.getD i 0)) ∧
    (∀ l : List Int, l.length = 8 → 125 ≤ l.foldl max (-128) → 115 ≤ s.oi 0xB851 9 → (0xA3, 0) ∉ s.fc.levels →
      ∃ u : State, u = { s with od := u.od } ∧ u.o 0xB851 9 = ofSigned 8 (l.foldl max (-128)) ∧ exec (.tempSample l) s =
        .next ((u.levelSet 0xA3 0 true).report { source := 0xA3, syndrome := ofSigned 8 (l.foldl max (-128)) * 2 ^ 24 })) ∧
    (∀ ppm : Int, 100 < ppm.natAbs → exec (.refclkWarning ppm) s = .next (s.report { source := 0xA1, syndrome := 6 })) ∧
    (∀ ppm : Int, ppm.natAbs ≤ 100 → exec (.refclkWarning ppm) s = .next s)

/-- Reports (R449–R451, R455, R458): whatever its class, a report has the effects the chapters attach to its source and then its reaction; a
level condition is noted before it is reported, and its end is no report; a corrected report whose REACTION is 0 latches as the first error
where none stands, is counted and queued, and does nothing outside the collector and its counters. Where it rests on the model's own
readings: log entry 31. -/
def Obligations.ReportsAreRecorded : Prop :=
  ∀ (s : State) (r : Report),
    exec (.faultReport r none) s = .next ((s.builtIn r).report r) ∧
    exec (.faultReport r (some true)) s = .next (((s.levelSet r.source (r.syndrome % 2 ^ 24) true).builtIn r).report r) ∧
    (∃ t, exec (.faultReport r (some false)) s = .next t ∧ t = { s with fc := { s.fc with levels := t.fc.levels } } ∧
      (r.source, r.syndrome % 2 ^ 24) ∉ t.fc.levels) ∧
    (srcClass r.source = 0 → s.reaction r.source = 0 → s.fc.first.valid = false → s.fc.reacting = [] →
      ∃ t, exec (.faultReport r none) s = .next t ∧ t = { s with fc := t.fc, od := t.od, setAt := t.setAt } ∧
        t.fc.first = {
          valid := true, cls := 0, source := r.source, st32 := s.st32, syndrome := r.syndrome % 2 ^ 32, address := r.address % 2 ^ 48 } ∧
        t.fc.rcCorr = min (s.fc.rcCorr + 1) 0xFF ∧ t.fc.rcCont = s.fc.rcCont ∧ t.fc.rcFatal = s.fc.rcFatal ∧ t.fc.state = s.fc.state ∧
        t.o 0xA001 1 = min (s.o 0xA001 1 + 1) 0xFFFFFFFF ∧
        ∃ p, t.fc.queue.getLast? = some (p, {
          typ := 0, b1 := r.source, b2 := 0, w4 := s.st32, w8 := r.syndrome % 2 ^ 32, w12 := r.address % 2 ^ 32 }))

/-- The first-error record and the collector's recovery (R452, R454, R455, R457, R460, R467). Where it rests on the model's own readings:
log entry 3. -/
def Obligations.CollectorRecovers : Prop :=
  ∀ s : State,
    (s.fc.reacting ≠ [] → s.stillReacting = false →
      exec .reactionComplete s = .next (if s.fc.clearAfter then s.firstEmpty else { s with fc := { s.fc with reacting := [] } })) ∧
    (s.fc.first.valid = true → s.setNow W1c.first = false → s.fc.reacting = [] →
      exec .fcFirstClear s = .next { s with fc := { s.fc with first := {}, reacting := [], clearAfter := false } }) ∧
    (s.fc.first.valid = true → s.setNow W1c.first = false → s.fc.reacting ≠ [] → exec .fcFirstClear s = .next { s with fc := { s.fc with clearAfter := true } }) ∧
    (s.fc.state = .faulted → s.levelHeld = false → ticksMs (s.o 0xA003 1) + s.fc.quietSince ≤ s.clock → s.recoveryFull = false →
      s.modes.mode ≠ .failsafe → ∃ t, exec .quietPeriodExpiry s = .next t ∧ t.fc.state = .normal ∧ t.fc.fatal = false ∧
        t.o 0xA004 1 = min (s.o 0xA004 1 + 1) 0xFFFFFFFF ∧ t = { s with fc := t.fc, od := t.od }) ∧
    (∀ c : Ctx, s.reaches c = true → exec (.fcCountRead c) s =
      .next (({ s with fc := { s.fc with rcCorr := 0, rcCont := 0, rcFatal := 0 } }).reply c 4
        (s.fc.rcCont * 2 ^ 16 + s.fc.rcCorr * 2 ^ 8 + s.fc.rcFatal))) ∧
    exec (.collectorSelfTest true) s = .next { s with fc := { s.fc with testNext := (s.fc.testNext + 1) % 256 } } ∧
    exec (.collectorSelfTest false) s =
      .next ({ s with fc := { s.fc with testNext := (s.fc.testNext + 1) % 256 } }.report { source := 0xA5, syndrome := s.fc.testNext }) ∧
    (∀ n : Fin 32, (s.session n).isOpen = true →
      exec (.faultRead n) s = .next ((s.faultReadOut n).2.answerRead n (.ok (s.faultReadOut n).1)) ∧ (s.faultReadOut n).1.length ≤ 65 * 16)

/-- Scrubbing and late passes (R27, R461–R463): a pass that corrects nothing is counted and noted; a corrected word of neither of the last
two passes is reported as corrected; a late pass is reported with its activity and overrun, and an on-chip pass more than 2 s late clears
SCRUB_ON_TIME. Where it rests on the model's own readings: log entry 91. -/
def Obligations.ScrubbersReport : Prop :=
  ∀ s : State,
    (s.o 0xA030 1 ≠ 0 → s.modes.mode ≠ .reset → s.modes.mode ≠ .boot → exec (.scrubPass false [] []) s =
      .next (({ s with fc := { s.fc with lastCorrected := ([] :: s.fc.lastCorrected).take 2, scrubOnTime := !s.fc.passLate, passLate := false } }.bump 0xA031 1).sfgUpdate)) ∧
    (s.o 0xA030 1 ≠ 0 → s.modes.mode ≠ .reset → s.modes.mode ≠ .boot → s.modes.mode ≠ .doze → exec (.scrubPass true [] []) s =
      .next (({ s with fc := { s.fc with lastCorrectedDram := ([] :: s.fc.lastCorrectedDram).take 2 } }.bump 0xA031 2).sfgUpdate)) ∧
    (∀ (a : Nat), (∀ l ∈ s.fc.lastCorrected, a ∉ l) →
      s.scrubOne false s.fc.lastCorrected a = s.report { source := 0x10, address := a }) ∧
    (∀ (activity ms : Nat), activity ≠ 0 → activity < 256 → ms < 2 ^ 24 →
      exec (.backgroundPassLate activity ms) s = .next (s.report { source := 0xA0, syndrome := activity * 2 ^ 24 + ms })) ∧
    (∀ ms : Nat, 2000 < ms → ms < 2 ^ 24 →
      let t := s.report { source := 0xA0, syndrome := ms }
      exec (.backgroundPassLate 0 ms) s = .next ({ t with fc := { t.fc with scrubOnTime := false, passLate := true } }.sfgUpdate))

/-- The commands that clear counters set exactly the counters the spec names to 0 and change nothing else (R10, R125, R147, R175, R201,
R238, R274, R296, R325, R376). Where it rests on the model's own readings: log entry 39. -/
def Obligations.CounterClears : Prop :=
  ∀ s : State,
    (∃ t, exec .reservedClear s = .next t ∧ clears (inSubs 0xA0F0 0 0 0) s t) ∧
    (∃ t, exec .ringClearCounters s = .next t ∧
      clears (fun i j k => inSubs 0x2020 1 0x10 0 i j k ∨ inSubs 0x2021 1 0x10 0 i j k ∨ inSubs 0x2024 1 7 0 i j k) s t) ∧
    (∃ t, exec .switchClearCounters s = .next t ∧
      clears (fun i j k => inSubs 0x2180 1 7 0 i j k ∨ inSubs 0x2182 1 0x38 0 i j k ∨ inSubs 0x2210 1 3 0 i j k ∨
        inSubs 0x2220 1 3 0 i j k) s t) ∧
    (∃ t, exec .shutterClearCounters s = .next t ∧ clears (inSubs 0x26A0 1 8 0) s t) ∧
    (∃ t, exec .timeClearCounters s = .next t ∧ clears (inSubs 0x3070 1 0xA 0) s t) ∧
    (∃ t, exec .phaseClearCounters s = .next t ∧
      clears (fun i j k => inSubs 0x3501 1 5 0 i j k ∨ (∃ n, n < 4 ∧ (inSubs (0x3420 + n) 7 7 0 i j k ∨ inSubs (0x3420 + n) 9 9 0 i j k))) s t) ∧
    (∃ t, exec .stationClearCounters s = .next t ∧
      clears (fun i j k => (∃ n, n < 32 ∧ inSubs 0x3813 1 4 n i j k) ∨ (∃ n, n < 64 ∧ inSubs 0x3823 1 6 n i j k) ∨
        (∃ n, n < 128 ∧ inSubs 0x3843 1 2 n i j k) ∨ (∃ n, n < 256 ∧ inSubs 0x3853 1 6 n i j k) ∨
        (∃ n, n < 8 ∧ inSubs 0x3A0A 1 4 n i j k) ∨ inSubs 0x3862 1 2 0 i j k ∨ inSubs 0x3905 1 4 0 i j k) s t) ∧
    (∀ c : Fin 512, ∃ t, exec (.chClearCounters c) s = .next t ∧ clears (inSubs 0x5012 1 5 c) s t) ∧
    (∀ e : Fin 256, ∃ t, exec (.engineClearCounters e) s = .next t ∧ clears (inSubs 0x6021 1 6 e) s t) ∧
    (∀ k : Fin 8, ∃ t, exec (.canClearCounters k) s = .next t ∧ clears (inSubs 0x7010 1 13 k) s t) ∧
    (s.setNow W1c.gfail = false → exec .shtGfailClear s =
      .next { s with shutter := { s.shutter with gfailValid := false, gfailGroup := 0, gfailCodes := 0, gfailSt32 := 0 } })

/-- A request of an open session in which nothing waits is carried out at once (R35, R38–R40, R46, R548). Where it rests on the model's own
readings: log entries 13, 22 and 104. -/
def Obligations.SessionRequestsAreServed : Prop :=
  ∀ (s : State) (t : Txn),
    (s.alone t 0x03 [] → exec (.closeReq t) s = .next (((s.serve t).answerAs t.sess 0x03 (.ok [])).closeSession t.sess)) ∧
    (s.alone t 0x04 [] → exec (.keepAlive t) s = .next ((s.serve t).answerAs t.sess 0x04 (.ok []))) ∧
    (s.alone t 0x10 [] → exec (.read t) s = .next (((s.serve t).objRead t.sess t.index t.sub false).1.answerAs t.sess 0x10
      ((s.serve t).objRead t.sess t.index t.sub false).2)) ∧
    (s.alone t 0x12 [] → exec (.readStaged t) s = .next (((s.serve t).objRead t.sess t.index t.sub true).1.answerAs t.sess 0x12
      ((s.serve t).objRead t.sess t.index t.sub true).2)) ∧
    (∀ data : List Byte, s.alone t 0x11 data → bitOf t.flags 0 = true → t.off = 0 → ¬ (t.index = 0x9011 ∧ t.sub = 0) →
      exec (.write t data) s = .next ((s.serve t).objWrite t.sess t.index t.sub data)) ∧
    (∀ (addr : BitVec 48) (len : Nat), s.alone t 0x18 (fabReadData addr len) → len < 2 ^ 16 →
      exec (.fabricRead t addr len) s = .next ((s.serve t).sessRead t.sess t addr.toNat len (beBytes 6 addr.toNat ++ beBytes 2 len))) ∧
    (∀ (addr : BitVec 48) (data : List Byte), s.alone t 0x19 (fabWriteData t addr data) → bitOf t.flags 0 = true → t.off = 0 →
      exec (.fabricWrite t addr data) s = .next ((s.serve t).sessWriteFab t.sess addr.toNat data))

/-- Opens (R37, R44, R45): an open that its checks let through takes a session, which an Observer or an open at the card without a role key
has at once, and answers a challenge; the right response in time opens it, a wrong or late one frees it. Where it rests on the model's own
readings: log entries 14 and 15. -/
def Obligations.OpensAndConfirms : Prop :=
  ∀ s : State,
    (∀ (t : Txn) (role n : Nat) (w : Bool), uartBad t (beBytes 1 role) = false → s.pathUp t.path = true → txnBad t 0x01 = false → s.openBar t.path role = .ok (n, w) →
      ∃ u : State, exec (.openReq t role) s =
          .next (u.respond { t with sess := n } (.ok (if w || role = 0 then beBytes 16 (s.freeNat 128) else []))) ∧
        (u.session n).isOpen = !w ∧ ((u.session n).challenge.isSome = w) ∧ (u.session n).role = role ∧ (u.session n).path = t.path ∧
        (u.session n).ident = t.ident ∧ u.free = s.free + 1 ∧ u.od = s.od) ∧
    (∀ (t : Txn) (resp ch : List Byte) (k : Nat), uartBad t resp = false → s.pathUp t.path = true → txnBad t 0x02 = false → s.owns t = true →
      (s.session t.sess).challenge = some ch → s.purposeSlot ((s.session t.sess).role + 1) = some k →
      ∃ u : State,
        if resp = (Config.hmacSha256 (s.slot k).key (confirmMessage ch t.sess (s.session t.sess).role)).take 16 ∧
            s.clock ≤ ticksMs 5000 + (s.session t.sess).since then
          exec (.openConfirm t resp) s = .next (u.respond t (.ok [])) ∧ (u.session t.sess).isOpen = true ∧
            (u.session t.sess).challenge = none ∧ (u.session t.sess).lastUsed = s.clock
        else
          exec (.openConfirm t resp) s = .next (u.respond t (.abort Abort.authenticationFailed)) ∧ (u.session t.sess).isOpen = false ∧
            (u.session t.sess).challenge = none)

/-- Sessions, opens and segmented transactions end by time (R38, R45, R46): what has waited too long is freed, and a path that goes down
takes its sessions with it and leaves the others. Where it rests on the model's own readings: log entries 15 and 16. -/
def Obligations.SessionsEnd : Prop :=
  ∀ s : State,
    (∀ (n : Fin 32) (ch : List Byte), (s.session n).challenge = some ch → ticksMs 5000 + (s.session n).since < s.clock →
      ∃ t, exec (.openConfirmTimeout n) s = .next t ∧ t.session n = {} ∧ t = { s with dict := t.dict } ∧
        tget none t.dict.expired n = some ((s.session n).path, (s.session n).ident)) ∧
    (∀ p : Path, (s.pathAuth p).locked = true → (∀ f ∈ (s.pathAuth p).failures, ticksMs 10000 + f ≤ s.clock) →
      exec (.pathLockExpiry p) s = .next (s.setPathAuth p { s.pathAuth p with locked := false })) ∧
    (∀ n : Fin 32, (s.session n).isOpen = true → ticksMs (1000 * s.o 0x1202 1) + (s.session n).lastUsed < s.clock →
      exec (.sessionIdleTimeout n) s = .next (s.closeAnswer n) ∧ ((s.closeAnswer n).session n) = {}) ∧
    (∀ p : Path, ∃ t, exec (.sessionPathDown p) s = .next t ∧ ∀ n : Fin 32,
      ((s.session n).taken = true → (s.session n).path = p → (t.session n).taken = false) ∧
      ((s.session n).path ≠ p → t.session n = s.session n)) ∧
    (∀ (n : Fin 32) (g : Seg), (s.session n).segs = [g] → ticksMs 1000 + g.since < s.clock →
      exec (.segmentTimeout n) s = .next ((s.setSession n { s.session n with segs := [] }).respond
        { path := (s.session n).path, ident := (s.session n).ident, cmd := g.cmd, sess := n, tag := g.tag, index := g.index, sub := g.sub }
        (.abort Abort.transactionTimedOut)))

/-- Responses (R35, R37): an open session's answer goes out under the header of the transaction it is serving, which is then over, and a
closed session is not answered. Where it rests on the model's own readings: log entry 89. -/
def Obligations.ResponsesGoOut : Prop :=
  ∀ (s : State) (n cmd : Nat) (r : Resp),
    (∀ t : Txn, (s.session n).isOpen = true → (s.session n).serving = some t →
      sends (s.answerAs n cmd r) (.response t.path t.ident t.sess t.tag (t.cmd ||| 0x80) r) ∧
      (s.answerAs n cmd r).dict.sessions = (s.setSession n { s.session n with serving := none }).dict.sessions) ∧
    ((s.session n).isOpen = false → s.answerAs n cmd r = s) ∧
    sentGrows s (s.answerAs n cmd r) ∧
    (s.answerAs n cmd r).store = s.store ∧ (s.answerAs n cmd r).chans = s.chans ∧ (s.answerAs n cmd r).engines = s.engines ∧
    (s.answerAs n cmd r).dram = s.dram ∧ (s.answerAs n cmd r).time = s.time ∧ (s.answerAs n cmd r).phase = s.phase ∧
    (s.answerAs n cmd r).sec = s.sec ∧ (s.answerAs n cmd r).modes = s.modes ∧ (s.answerAs n cmd r).pending = s.pending

/-- A read or write of an entry that no object has (R33): the abort tells an index without an object from an object without the subindex,
nothing is written, and the reserved-write counter stays. -/
def Obligations.AbsentEntriesAreRefused : Prop :=
  ∀ (s : State) (n index sub : Nat) (staged : Bool) (data : List Byte), Desc.find index sub = none →
    let code := if Desc.hasIndex index then Abort.subindexDoesNotExist else Abort.objectDoesNotExist
    s.objRead n index sub staged = (s, .abort code) ∧ s.objWrite n index sub data = s.answer n (.abort code) ∧
      (s.objWrite n index sub data).o 0xA0F0 0 = s.o 0xA0F0 0

/-- Commits (R49–R55, R289, R431): a set that the checks pass is applied at once and answered on a hub without a partner, or waits for its
instant; a refused one stays staged with its outcome recorded; the commands that discard and cancel do so; a pending commit freezes and
applies at its instant, and its records reach the store. Where it rests on the model's own readings: log entries 25 and 119. -/
def Obligations.CommitsAreTakenAndApplied : Prop :=
  ∀ s : State,
    (∀ n : Fin 32, s.mayWrite n 12 0x1220 1 →
      (s.commitBar (s.session n).epoch (s.session n).staging = none → s.commitWhen n = .ok .now → s.mirrors = false →
        exec (.commit n) s = .next ((((s.setSession n { s.session n with staging := [] }).applySet (s.session n).staging).answer n
          (.ok [])).closePaths)) ∧
      (∀ ns, s.commitBar (s.session n).epoch (s.session n).staging = none → s.commitWhen n = .ok (.wt ns) →
        ∃ u : State, exec (.commit n) s = .next (u.answer n (.ok [])) ∧ (u.session n).staging = [] ∧ u = { s with dict := u.dict } ∧
          u.dict.pendingCommit =
            some { owner := some n.val, set := (s.session n).staging, epoch := (s.session n).epoch, at_ := .wt ns }) ∧
      (∀ c off, s.commitBar (s.session n).epoch (s.session n).staging = some (c, off) →
        exec (.commit n) s = .next ((s.commitResult c (off / 256) (off % 256)).answer n (.abort c))) ∧
      exec (.discard n) s = .next ((s.setSession n { s.session n with staging := [] }).answer n (.ok [])) ∧
      (∀ c : PendingCommit, s.dict.pendingCommit = some c → c.owner = some n.val →
        let back := c.set.filter (fun e => !(s.session n).staging.any (fun y => stagedKey y = stagedKey e)) ++ (s.session n).staging
        back.length ≤ 4096 → stagedBytes back ≤ 65536 → ∃ u : State, exec (.cancelOwnCommit n) s = .next (u.answer n (.ok [])) ∧ u = { s with dict := u.dict } ∧
          u.dict.pendingCommit = none ∧ (u.session n).epoch = c.epoch ∧ (u.session n).staging = back) ∧
      (∀ c : PendingCommit, s.dict.pendingCommit = some c → exec (.cancelAnyCommit n) s =
        .next (({ s with dict := { s.dict with pendingCommit := none } }.commitResult Abort.commitCancelled 0 0).answer n (.ok [])))) ∧
    (∀ (c : PendingCommit) (e : Nat), s.dict.pendingCommit = some c → c.frozen = some e → e ≤ s.time.ltb → s.mirrors = false →
      exec .commitApply s = .next (({ s with dict := { s.dict with pendingCommit := none } }.applySet c.set).closePaths)) ∧
    (∀ (c : PendingCommit) (k cy : Nat), s.dict.pendingCommit = some c → c.at_ = .cycle k cy → c.frozen = none →
      c.fire ≤ s.time.ltb + s.horizon → s.trkState k = 2 →
      exec .commitFreeze s = .next { s with dict := { s.dict with pendingCommit := some { c with frozen := some c.fire } } }) ∧
    (∀ l : List Staged, s.dict.toStore = some l → s.flash.wp = false → ∃ t, exec (.configStoreCommitWrite true) s = .next t ∧
      t.dict.toStore = none ∧ t.flash.cfg = (s.cfgRecords l ++ [cfgMarker]).foldl cfgAdd s.flash.cfg ∧ t.od = s.od ∧
      t = { s with dict := t.dict, flash := t.flash, store := t.store }) ∧
    (∀ (i : Nat) (l : List (Nat × Nat)) (rest : List (Nat × List (Nat × Nat))), s.flash.cfg = (i, l) :: rest → rest ≠ [] → s.cfgFree < 8 →
      exec .configStoreCompact s = .next ({ s with flash := { s.flash with
        cfg := (l.filter (fun r : Nat × Nat => r.1 ≠ 0 && !((rest.flatMap (fun e : Nat × List (Nat × Nat) => e.2)).map (fun e : Nat × Nat => e.1)).contains r.1)).foldl cfgAdd
            rest } }.eraseQueue
          [s.phys (lsec 2 i)]))

/-- The flash's sector erases and log pages (R316, R427, R429): an erase that ends is counted and the next begins; a suspended one resumes
outside DOZE. Where it rests on the model's own readings: log entries 84 and 85. -/
def Obligations.FlashWork : Prop :=
  ∀ s : State,
    (∀ e : Erase, s.flash.erase = some e → e.suspended = false → s.eraseCount e.sector + 1 < s.o 0x9001 7 →
      let n := s.eraseCount e.sector + 1
      exec (.flashEraseDone true) s = .next (((({ s with flash := { s.flash with
        erase := none, intents := s.flash.intents.filter (· ≠ e.sector), counts := tset 0 s.flash.counts e.sector n } }).bump 0x9002 1).journalWrite
          [{ typ := 2, logical := (s.logicalOf e.sector).getD 0, phys := e.sector, val := n }]).eraseKick)) ∧
    (∀ (u : FlashUse) (e : Erase), s.flash.erase = some e → e.suspended = false → e.suspends < 64 →
      (e.suspends = 0 ∨ ticksMs 1 + e.resumed ≤ s.clock) →
      exec (.flashEraseSuspend u) s = .next ({ s with flash := { s.flash with
        erase := some { e with suspended := true, suspends := e.suspends + 1 } } }.bump 0x9002 2)) ∧
    (s.modes.mode ≠ .doze → exec .flashEraseResume s = .next s.eraseResume) ∧
    (s.logDue = true → exec (.logPageProgram true) s = .next (State.withReports s.logPage))

/-- The mode requests (R65, R66, R68, R77, R80): from a mode that allows it, with no transition in progress, the request is answered and the
transition runs. Where it rests on the model's own readings: log entry 27. -/
def Obligations.ModeRequestsRun : Prop :=
  ∀ (s : State) (n : Fin 32), s.mayWrite n 6 0x1101 0 → s.inTransition = false →
    (s.returned = false → s.modes.mode = .maintenance →
      exec (.modeReqReturn n) s = .next ((s.answer n (.ok [])).returnService)) ∧
    (s.returned = false → s.modes.mode = .configure → s.modes.modeSel = 1 → s.modes.cfgLoaded = true →
      exec (.modeReqReturn n) s = .next ((s.answer n (.ok [])).setMode .join)) ∧
    (s.serving = true → exec (.modeReqMaintenance n) s = .next ((s.answer n (.ok [])).claimRelease.setMode .maintenance)) ∧
    (failsafeFrom s.modes.mode = true → exec (.modeReqFailsafe n) s = .next (State.withReports (s.answer n (.ok [])).failsafe)) ∧
    (s.serving = true → s.pairMember = false → s.dueSoon = false →
      let a := s.answer n (.ok [])
      exec (.modeReqDoze n) s = .next ({ a with modes := { a.modes with dozeFrom := a.modes.mode } }.dozePark.dozeCores.traceDrainAll.dozeDram.setMode
        .doze)) ∧
    ((s.serving = true ∨ s.modes.mode = .maintenance ∨ s.modes.mode = .failsafe) →
      exec (.modeReqShutdown n) s = .next ((s.answer n (.ok [])).shutdownBegin false))

/-- Every reset cause takes a running hub to RESET (R69, R70): the cause is noted with its edge, the command queue, the time and what has
gone out stay, DRAM keeps its contents under the warm causes and loses them under the power-on causes. Where it rests on the model's own
readings: log entries 28 and 30. -/
def Obligations.ResetCausesEnterReset : Prop :=
  ∀ s : State, s.modes.mode ≠ .reset →
    let into := fun (cause : Nat) (warm : Bool) (t : State) =>
      t.modes.mode = .reset ∧ t.modes.causes = [(cause, s.clock)] ∧ t.modes.resetCause = cause ∧ t.modes.warm = warm ∧
        t.clock = s.clock ∧ t.pending = s.pending ∧ t.dram = (if warm then s.dram else []) ∧ sentGrows s t
    (∃ t, exec .resetCmdWarm s = .next t ∧ into 4 true t) ∧
    (∃ t, exec .resetCmdRecovery s = .next t ∧ into 5 true t ∧ t.modes.recovery = true) ∧
    (∀ ns, 10000 ≤ ns → ∃ t, exec (.porstNAssert ns) s = .next t ∧ into 1 false t) ∧
    (∀ ns, ns < 2000 → exec (.porstNAssert ns) s = .next s) ∧
    (∀ rail ns, rail < 4 → 2000 < ns → ∃ t, exec (.supplyOutOfRange rail ns) s = .next t ∧ into 2 false t) ∧
    (∀ ns, 1000 ≤ ns → ∃ t, exec (.wrstNAssert ns) s = .next t ∧ into 3 true t) ∧
    (∀ ns, ns < 200 → exec (.wrstNAssert ns) s = .next s) ∧
    (∀ ns, 10000 ≤ ns → ∃ t, exec (.refclkLoss ns) s = .next t ∧ into 7 true t ∧ t.modes.refclkOk = false) ∧
    (∀ (pll : Fin 3) ns, 10000 ≤ ns → ∃ t, exec (.pllLockLoss pll ns) s = .next t ∧ into 9 true t)

/-- The steps of start-up up to the image (R71, R74, R75, R146): straps are latched and BOOT entered, the PLLs lock, the repair map is
applied, the header of the slot in turn is checked, DRAM is trained, and the body runs. Which image the keys accept is not the model's to
say, so both outcomes are stated. Where it rests on the model's own readings: log entries 7 and 29. -/
def Obligations.StartUpReachesConfigure : Prop :=
  ∀ s : State,
    (∀ (m : Fin 4) (p : Bool), s.modes.mode = .reset → s.sec.intent = none → ∃ t, exec (.resetEnd m p) s = .next t ∧
      t.modes.mode = .boot ∧ t.modes.modeSel = m.val ∧ t.modes.pairId = p ∧ t.modes.resetEndAt = s.clock ∧ t.modes.causes = []) ∧
    (s.modes.mode = .boot → s.modes.pllLocked = false → ∃ t, exec .pllLocked s = .next t ∧ t.modes.pllLocked = true ∧
      t = { s with modes := t.modes, ring := t.ring } ∧
      (∀ p : Port, s.unused p = false → (t.port p).synth = true ∧ (t.port p).training = !(s.port p).trained)) ∧
    (s.modes.mode = .boot → s.modes.pllLocked = true → s.modes.repairDone = false → ∃ t, exec .repairMapApply s = .next t ∧
      match [0, 1].find? (fun cs => !Config.flashOk cs) with
      | some cs => t = s.report { source := 0x84, syndrome := cs }
      | none => t.modes.repairDone = true ∧ t.o 0x1007 1 = Config.flashMiB 0 ∧ t.o 0x1007 2 = Config.flashMiB 1) ∧
    (∀ (slot : Fin 2) (header : List Byte), s.bootsFlash = true → s.modes.headerOk = none → s.bootOrder.head? = some slot.val →
      ∃ t, exec (.imageHeaderChecked slot header) s = .next t ∧
        match s.headerRefused (s.slotBytes slot header) with
        | some c => t = s.bootRefuse slot c
        | none => t = { s with modes := { s.modes with headerOk := some slot.val } }) ∧
    (∀ rate : Nat, s.modes.mode = .boot → s.modes.pllLocked = true → s.modes.ddrReady = false → rate ∈ [1600, 1866, 2133, 2400, 2666] →
      rate = s.storedO 0x2201 0 → ∃ t, exec (.ddrTrainingDone rate none) s = .next t ∧ t.modes.ddrReady = true ∧ t.sw.trained = true ∧ t.sw.ddrRate = rate ∧
        t.o 0x1006 0 = Config.dramMiB ∧ t = { s with od := t.od, modes := t.modes, sw := t.sw }) ∧
    (∀ (rate lane : Nat), s.modes.mode = .boot → s.modes.pllLocked = true → s.modes.ddrReady = false →
      exec (.ddrTrainingDone rate (some lane)) s = .next (s.report { source := 0x17, syndrome := lane })) ∧
    (∀ (slot : Fin 2) (body : List Byte), s.bootsFlash = true → s.modes.headerOk = some slot.val → s.modes.ddrReady = true →
      ∃ t, exec (.imageLoadDone slot body) s = .next t ∧
        (bodyOk (s.slotBytes slot body) = false → t = s.bootRefuse slot Abort.imageBodyHashMismatch) ∧
        (bodyOk (s.slotBytes slot body) = true → t.modes.mode = .configure) ∧
        (bodyOk (s.slotBytes slot body) = true → s.modes.warm = false → t.flash.running = slot.val))

/-- From CONFIGURE to service (R65, R73, R74, R76): the configuration is loaded and JOIN entered, and JOIN ends when both ports have joined
or at its time-out. Where it rests on the model's own readings: log entries 27 and 29. -/
def Obligations.StartUpReachesService : Prop :=
  ∀ s : State,
    (s.modes.mode = .configure → s.modes.cfgLoaded = false →
      let t := (s.loadStored.firstStart s.flash.running).adaptRetired.cfgTaken.placeNow.sfgUpdate
      exec .configLoadDone s = .next (if (t.firstOffender t []).isSome then { t with modes := { t.modes with cfgLoaded := false } }
        else if t.modes.modeSel = 1 then t else t.setMode .join)) ∧
    (s.modes.ddrReady = true → s.modes.dramInit = false →
      exec .dramInitDone s = .next { s with modes := { s.modes with dramInit := true } }.dramRelease) ∧
    (s.modes.mode ≠ .reset → ticksMs 100 + s.modes.resetEndAt ≤ s.clock →
      exec .pcieEndpointReady s = .next { s with modes := { s.modes with pcieReady := true } }) ∧
    (s.modes.mode = .join → s.modes.transit = false → s.bothJoined = true → exec .joinComplete s = .next (s.joinEnd false)) ∧
    (s.modes.mode = .join → s.modes.transit = false → s.bothJoined = false → ticksMs (s.o 0x1110 0) + s.modes.entryAt ≤ s.clock →
      exec .joinTimeout s = .next (s.joinEnd true))

/-- DOZE and SHUTDOWN (R77–R81, R508): the wake timer, the end of the wake, the flush, the leave announcement, the halt, and the shortened
SHUTDOWN of a supply warning. Where it rests on the model's own readings: log entry 27. -/
def Obligations.DozeAndShutdown : Prop :=
  ∀ s : State,
    (s.dueSoon = true → s.modes.mode = .doze → exec .wakeTimer s = .next { s with modes := { s.modes with waking := true } }) ∧
    (s.modes.mode = .doze → s.modes.waking = true →
      exec .wakeSequenceDone s = .next s.wakeUp) ∧
    (s.modes.mode = .shutdown → s.modes.shut = .flush → s.station.log.waiting = [] → ∃ t, exec .shutdownFlushDone s = .next t ∧
      t.modes.shut = (if s.modes.shutWarned then .bist else .leave) ∧ t.modes.mode = .shutdown ∧
      (s.modes.shutWarned = false → t.modes.leaveAt = s.clock)) ∧
    (s.modes.mode = .shutdown → s.modes.shut = .leave → ticksMs 1 + s.modes.leaveAt ≤ s.clock → exec .leaveIdleTimer s =
      .next ({ s.ringIdle with modes := { s.ringIdle.modes with shut := .bist } }.bistStart)) ∧
    (s.modes.mode = .shutdown → s.modes.shut = .bist → s.bist.running = none → ∃ t, exec .halt s = .next t ∧
      t.modes.shut = .halted ∧ t.o 0x1141 0 = (if s.modes.shutWarned then 2 else 1) ∧ t.time.ppsOut = false ∧
      (t.port .a).up = false ∧ (t.port .b).up = false) ∧
    (∀ mv us, s.modes.mode ≠ .reset → s.modes.mode ≠ .shutdown → s.power.warn = false → s.feedOk 0 = false →
      s.feedOk 1 = false → mv < s.o 0xB800 5 → 20 ≤ us →
      exec (.islandSupplyWarning mv us) s = .next (((s.warnSet mv).energyStore).shutdownBegin true))

/-- Updates of images (R434–R438): a slot is prepared, filled, verified, and activated or abandoned. Which headers and bodies verify is not
the model's to say, so both outcomes are stated. Where it rests on the model's own readings: log entries 7 and 87. -/
def Obligations.UpdateCommands : Prop :=
  ∀ (s : State) (n : Fin 32), s.mayWrite n 4 0x9010 0 →
    (∀ i, s.flash.wp = false → s.flash.updState = 0 → s.updateSlot = some i → ∃ u : State, exec (.updPrepare n) s = .next (u.answer n (.ok [])) ∧
      u.flash.updState = 1 ∧ u.flash.owner = some n.val ∧ u.flash.updSlot = i ∧ u.imgSlot i = {} ∧ u.o 0x9012 3 = 0) ∧
    (s.flash.updState = 1 → s.slotErasing = false → exec .updSlotReady s = .next { s with flash := { s.flash with updState := 2 } }) ∧
    (∀ (off : Nat) (data : List Byte) (last : Bool), s.mayWrite n 4 0x9011 0 → s.segmentBar n off data.length = none →
      ∃ t, exec (.imageDataSegment n off data last) s = .next t ∧
        match (s.segmentPut data last).headerDue off last with
        | some c => t = ((s.segmentPut data last).updFail c).answer n (.abort c)
        | none => t = if last then s.segmentPut data last else (s.segmentPut data last).answer n (.ok [])) ∧
    (s.flash.updState = 4 → ∃ t, exec .updVerifyDone s = .next t ∧
      if bodyOk (s.imgSlot s.flash.updSlot).image then
        ∃ u : State, t = s.answerOwner u (.ok []) ∧ (u.imgSlot s.flash.updSlot).state = 1 ∧
          u.flash.updState = (if s.coldOnly (s.imgSlot s.flash.updSlot).image then 6 else 5)
      else t = s.answerOwner (s.updFail Abort.imageBodyHashMismatch) (.abort Abort.imageBodyHashMismatch)) ∧
    (s.flash.updState = 5 → s.mayActivate = true → s.dict.pendingCommit = none → s.flash.wp = false →
      (∃ k ∈ s.coresUp, s.svcsOn k = []) →
      exec (.updActivateHandover n) s = .next ({ s with flash := { s.flash with updState := 7 } }.answer n (.ok []))) ∧
    ((s.flash.updState = 5 ∨ s.flash.updState = 6) → (s.pairMember = false ∨ s.modes.mode = .standby) → s.flash.wp = false →
      exec (.updActivateReset n) s = .next (({ s with flash := { s.flash with
        updState := 8, trial := some { slot := s.flash.updSlot, atReset := true } } }.setSlotSt s.flash.updSlot 4).answer n (.ok []))) ∧
    (s.flash.wp = false → 1 ≤ s.flash.updState → s.flash.updState ≤ 4 → exec (.updAbandon n) s = .next (s.updDrop.answer n (.ok [])))

/-- A verified image takes over and is judged, or is received by the recovery loader (R436, R439–R441). Where it rests on the model's own
readings: log entries 28, 87 and 88. -/
def Obligations.TrialsAndRecoveryLoader : Prop :=
  ∀ s : State,
    (s.flash.updState = 7 → s.flash.trial = none → s.serving = true → ∃ t, exec .handoverImageLoaded s = .next t ∧
      t = if bodyOk (s.imgSlot s.flash.updSlot).image then s.handoverBegin else s.updFail Abort.imageBodyHashMismatch) ∧
    (∀ k, s.flash.target = some k → s.unmoved = [] → s.pair.swap = none → s.flash.handBack = false → s.modes.mode = .handover →
      exec .handoverComplete s = .next s.handoverEnd) ∧
    (∀ (t : Trial) (e : Nat), s.healthy = true → s.pair.newAt = none → s.flash.trial = some t → t.since = some e →
      s.flash.running = t.slot → s.clock ≤ ticksMs 10000 + e → ∃ u, exec .trialHealthy s = .next u ∧
        u.flash.committed = some t.slot ∧ u.flash.trial = none ∧ u.flash.failed = 0 ∧ (u.imgSlot t.slot).state = 3 ∧
        u = { s with flash := u.flash, sent := u.sent }) ∧
    (∀ (t : Trial) (e : Nat), s.pair.newAt = none → s.flash.trial = some t → t.since = some e → ticksMs 10000 + e ≤ s.clock →
      (State.withReports s.trialFail).pair.newAt = none → exec .trialTimeout s = .next (State.withReports s.trialFail)) ∧
    (∀ (path : Path) (data : List Byte), s.recoveryServes = true → (path = .mailbox ∨ path = .uart) → data.length < 256 →
      exec (.recoveryLoaderRequest path 0 data false) s =
        .next ((s.setImgSlot 0 { state := 0, image := data }).recoveryStatus path 0))

/-- The Leash claim (R470–R472): silence starts the seeking, an edge while seeking decides a tie by PAIR_ID, 2 µs of silence settle it, and
a claim disputed or not read back is released with source 0xB3. -/
def Obligations.LeashClaim : Prop :=
  ∀ s : State, s.pairMember = true →
    (s.leashToggles = false → s.modes.mode ≠ .doze → s.pair.claim = .idle → s.claimMode = true → s.fc.state ≠ .held → s.fc.fatal = false →
      s.claimLink = true → ∃ t, exec .leashInSilence s = .next t ∧ t.pair.claim = .seeking ∧ t.pair.since = s.clock ∧
        t = { s with pair := t.pair, fc := { s.fc with levels := t.fc.levels } }) ∧
    (s.pair.claim = .seeking → s.modes.pairId = true → ∃ t, exec .leashInEdge s = .next t ∧ t.pair.claim = .backoff ∧
      t.pair.since = s.clock ∧ t.pair.lastEdge = s.clock ∧ t.o 0xA805 2 = min (s.o 0xA805 2 + 1) 0xFFFFFFFF ∧
      t = { s with od := t.od, pair := t.pair }) ∧
    (s.pair.claim = .seeking → s.modes.pairId = false → ∃ t, exec .leashInEdge s = .next t ∧ t.pair.claim = .seeking ∧
      t.pair.since = s.clock ∧ t = { s with pair := t.pair }) ∧
    (s.pair.claim = .seeking → ticksUs 2 + s.pair.since ≤ s.clock → s.pair.leashIn = false →
      exec .claimSeekExpiry s = .next s.claimSettle) ∧
    (s.pair.claim = .backoff → ticksUs 10 + s.pair.since ≤ s.clock → s.claimMode = true → s.claimClear = true → s.claimLink = true →
      ∃ t, exec .claimBackoffExpiry s = .next t ∧ t.pair.claim = .seeking ∧ t.pair.since = s.clock ∧ t = { s with pair := t.pair }) ∧
    (s.holds = true → s.leashToggles = true → ticksUs 2 + s.pair.runStart ≤ s.clock →
      (s.modes.pairId = true → exec .dualClaimDetected s = .next (s.claimRelease.report { source := 0xB3, syndrome := 2 ^ 24 })) ∧
      (s.modes.pairId = false → s.fc.levels.contains (0xB3, 1) = false →
        exec .dualClaimDetected s = .next ((s.levelSet 0xB3 1 true).report { source := 0xB3, syndrome := 1 * 2 ^ 24 }))) ∧
    ((s.holds = true ∨ s.pair.claim = .seeking) → exec .leashOutReadbackFail s =
      .next ({ s with pair := { s.pair with readback := false } }.claimRelease.report { source := 0xB3, syndrome := 2 * 2 ^ 24 }))

/-- The pair link (R475, R489): status blocks go out and come in, the link goes down, mirror records are sent again, and PA_LINK and
PA_SHADOW read and clear. Where it rests on the model's own readings: log entries 97 and 98. -/
def Obligations.PairLinkBlocks : Prop :=
  ∀ s : State,
    (s.pairMember = true → s.modes.mode ≠ .reset → exec .pairStatusSend s = .next (s.linkBlock 0 (fun n => s.statusBlock n))) ∧
    (∀ b : StatusBlock, s.pairMember = true → exec (.pairStatusBlock b true) s = .next (((s.statusGood b).followSwap.claimTry).sfgUpdate) ∧
      (s.statusGood b).pair.pHash = b.hash.toNat ∧ (s.statusGood b).pair.mode = b.mode ∧ (s.statusGood b).pair.lastGood = s.clock ∧
      (99 ≤ s.pair.goodRun → s.pair.goodRun ≤ 100 → (s.statusGood b).pair.link = true)) ∧
    (∀ b : StatusBlock, s.pairMember = true → ∃ t, exec (.pairStatusBlock b false) s = .next t ∧ t = { s with pair := t.pair } ∧
      t.pair.goodRun = 0 ∧ t.pair.crcErr = min (s.pair.crcErr + 1) 0xFFFF ∧ t.pair.link = s.pair.link) ∧
    (s.pair.link = true → ticksUs 4 + s.pair.lastGood ≤ s.clock →
      let u := { s with pair := { s.pair with link := false, goodRun := 0 } }.report { source := 0xB2 }
      exec .pairLinkDown s = .next (if u.pairActive then u.partnerSet true else u.claimTry.sfgUpdate)) ∧
    (∀ (seq : W32) (m : Mirror), s.pair.out.find? (fun m => m.seq = seq.toNat) = some m → s.pair.link = true → ticksUs 20 + m.at_ ≤ s.clock →
      exec (.mirrorResend seq) s = .next (({ s with pair := { s.pair with out := s.pair.out.map (fun x : Mirror =>
        if x.seq = m.seq then { x with at_ := s.clock } else x) } }.bump 0xA805 6).mirrorOut m.seq m.r)) ∧
    (s.setNow W1c.shadow = false →
      exec .paShadowClear s = .next { s with pair := { s.pair with shValid := false, shEf := false, shBank := 0, shPin := 0, shSt := 0 } }) ∧
    (∀ c : Ctx, s.reaches c = true → exec (.paLinkRead c) s = .next ({ s with pair := { s.pair with crcErr := 0 } }.reply c 4
      (s.pair.crcErr * 2 ^ 16 + min s.pair.out.length 0xFF)))

/-- What a standby does with the active's records (R475–R478): a record in its order is applied, one already received changes nothing, a
mirrored commit applies at its instant, and a configuration transfer applies as one commit. Where it rests on the model's own readings: log
entries 96 and 97. -/
def Obligations.StandbyFollowsActive : Prop :=
  ∀ (s : State) (seq : W32),
    (∀ r : MirrorRec, s.pairMember = true → s.holds = false → s.pair.link = true → serialAfter 32 seq.toNat s.pair.rxSeq = false →
      exec (.pairMirrorBlock seq r) s = .next s) ∧
    (∀ r : MirrorRec, s.pairMember = true → s.holds = false → s.pair.link = true → serialAfter 32 seq.toNat s.pair.rxSeq = true →
      exec (.pairMirrorBlock seq r) s = .next (({ s with pair := { s.pair with
        rxSeq := seq.toNat, whole := s.pair.whole && decide (seq.toNat = (s.pair.rxSeq + 1) % 2 ^ 32) } }.applyRecord r).sfgUpdate)) ∧
    (∀ (n : Nat) (h : Hinge), (s.applyRecord (.hinge n h)) = { s with pair := (s.applyRecord (.hinge n h)).pair } ∧
      tget none (s.applyRecord (.hinge n h)).pair.adopt n = some h) ∧
    (∀ (l : List Staged) (ns : Nat), s.pair.commit = some (l, ns) → ns ≤ s.nsCount → s.holds = false → s.pair.commitBy = none →
      exec .mirroredCommitApply s = .next (({ s with pair := { s.pair with commit := none } }.applySet l).closePaths.sfgUpdate)) ∧
    (∀ set : List MirrorEntry, s.modes.mode = .standby → s.pair.link = true →
      exec (.configTransferRequest set) s = .next ((s.transfer set).sfgUpdate) ∧
      (s.transfer set).pair.whole = decide ((s.usable set).length = set.length))

/-- Shadow comparison and barks (R482–R484): a disagreement is counted, reported and latched once; a standby's bark goes to the active, and
a bark or its absence sets the partner's fitness there. Where it rests on the model's own readings: log entries 98 and 124. -/
def Obligations.ShadowAndBarks : Prop :=
  ∀ s : State,
    (∀ (bank : Fin 16) (pin : Fin 24) (k t : Nat), s.shadowed false bank pin = true → s.pair.shValid = false →
      s.pair.shSince.find? (fun x => x.1 = bank.val * 24 + pin.val) = some (k, t) → s.o 0xA802 1 + 4 * t < 4 * s.clock →
      exec (.shadowMismatch false bank pin) s = .next ((State.noteSet { s.bump 0xA805 3 with pair := { s.pair with
        shValid := true, shEf := false, shBank := bank, shPin := pin, shSt := s.st32 } } W1c.shadow).report
        { source := 0xB0, syndrome := bank.val * 2 ^ 8 + pin })) ∧
    (∀ (bank : Fin 16) (pin : Fin 24), s.shadowed true bank pin = true → s.pair.shValid = true →
      exec (.shadowMismatch true bank pin) s = .next ((s.bump 0xA805 3).report { source := 0xB0, syndrome := 2 ^ 24 + pin })) ∧
    (s.pairMember = true → s.modes.mode = .standby → (∀ e, s.pair.barkSent = some e → ticksMs 10 + e ≤ s.clock) →
      ∃ t, exec .barkSend s = .next t ∧ t.pair.barkSent = some s.clock ∧ t.pair.rounds = (s.pair.rounds + 1) % 2 ^ 32 ∧
      t.o 0xA805 4 = min (s.o 0xA805 4 + 1) 0xFFFFFFFF ∧ ∃ o : Orig, t.ring.orig = s.ring.orig ++ [o] ∧ o.hdr.typ = 9 ∧ o.hdr.cls = 4 ∧
        o.hdr.dest = s.pair.node ∧ o.payload.length = 16) ∧
    (∀ (f : Frame) (u : State), s.takeDelivered (fun h => h.typ = 9) = some (f, u) → u.pairActive = false →
      ∃ t, exec .barkReceived s = .next t ∧ t.pair.barkAt = some s.clock ∧ t.pair.node = f.hdr.source ∧
        t.pair.mode = specField f.hdr 20 1 ∧ t.pair.pFit = bitOf (specField f.hdr 21 1) 0 ∧
        t.o 0xA805 5 = min (s.o 0xA805 5 + 1) 0xFFFFFFFF) ∧
    (∀ t0, s.pair.barkAt = some t0 → s.pairActive = true → ticksMs 30 + t0 ≤ s.clock → exec .barkTimeout s =
      .next (({ s with pair := { s.pair with barkAt := none } }.report { source := 0xB1 }).partnerSet true))

/-- Switchover and Heel (R486, R487): the active with a fit partner in sync enters HANDOVER, and the standby's claim not coming within 50 µs
of the release takes it back. Where it rests on the model's own readings: log entry 98. -/
def Obligations.SwitchoverCommands : Prop :=
  ∀ (s : State) (n : Fin 32), s.mayWrite n 6 0xA804 0 → s.pairMember = true →
    (s.holds = true → s.modes.mode = .active → s.pair.pFit = true → s.inSync = true →
      exec (.switchover n) s = .next (s.swapBegin 1 (some n.val)) ∧ (s.swapBegin 1 (some n.val)).modes.mode = .handover) ∧
    (s.holds = true → s.modes.mode = .active → s.pair.pFit = true →
      exec (.switchoverNoSync n) s = .next (s.swapBegin 3 (some n.val))) ∧
    (s.holds = true → s.isHome = false → s.modes.mode = .active → s.pair.pFit = true → s.inSync = true →
      exec (.heel n) s = .next (s.swapBegin 2 (some n.val))) ∧
    (s.holds = true → s.isHome = true → exec (.heel n) s = .next (s.answer n (.ok []))) ∧
    (∀ (w : Swap) (r : Nat), s.pair.swap = some w → w.mine = true → w.released = some r → ticksUs 50 + r ≤ s.clock →
      s.partnerHolds = false →
      let u := { s with pair := { s.pair with swap := some { w with session := none }, planned := false } }
      exec .switchoverFallback s =
        .next (match w.session with
          | some k => (u.answer k (.abort Abort.busyRetry)).claimTry
          | none => u.claimTry))

/-- R88: a header whose HCRC is wrong, whose VERSION is not 1, whose LENGTH exceeds 2 048, whose AUTH is 1 without TAG_MODE 1, or whose AUTH
is 0 with bytes 28–29 not 0, is charged to the receiving port beside the frame count, and has no other effect: nothing is delivered,
forwarded or kept for a trailer. -/
def Obligations.FaultyHeadersAreRefused : Prop :=
  ∀ (s : State) (p : Port) (f : Frame), s.ringOn = true → (s.port p).up = true → (s.port p).trained = true → s.unused p = false →
    (f.hdr.hcrc ≠ hdrCrc f.hdr ∨ f.hdr.version ≠ 1 ∨ 2048 < f.hdr.length ∨ (f.hdr.auth = true ∧ f.hdr.tagMode ≠ 1) ∨
      (f.hdr.auth = false ∧ (f.hdr.keySlot ≠ 0 ∨ f.hdr.tagMode ≠ 0 ∨ f.hdr.rsv28 ≠ 0))) →
    ∃ t : State, exec (.headerReceived p f) s = .next t ∧ onlyOd s t ∧
      t.o (0x2020 + p.toNat) 1 = min (s.o (0x2020 + p.toNat) 1 + 1) 0xFFFFFFFF ∧
      t.o (0x2020 + p.toNat) 3 = min (s.o (0x2020 + p.toNat) 3 + 1) 0xFFFFFFFF ∧
      sameVals (fun index sub item => index = 0x2020 + p.toNat ∧ (sub = 1 ∨ sub = 3) ∧ item = 0) s t

/-- A header that arrives on a live port (R88, R103, R106, R110): counted; one against its direction is discarded; a link-scope frame waits
for its trailer; an own frame that came round is stripped; any other is taken in where it is addressed here, sent on where it is not, and
kept until its trailer. Where it rests on the model's own readings: log entry 37. -/
def Obligations.HeadersAreSorted : Prop :=
  ∀ (s : State) (p : Port) (f : Frame), s.ringOn = true → (s.port p).up = true → (s.port p).trained = true → s.unused p = false →
    let c := s.portCount p 1
    let k := if f.hdr.colour = 3 then c.portCount p 0x0A else c
    let th := s.now10 - 256
    (hdrOk f.hdr = true → (if f.hdr.dir then p = .b else p = .a) → exec (.headerReceived p f) s = .next (c.portCount p 0x0B)) ∧
    (hdrOk f.hdr = true → ¬ (if f.hdr.dir then p = .b else p = .a) →
      (linkScope f.hdr = true ∨ (f.hdr.source = s.node ∧ isSup 1 f.hdr = true) →
        exec (.headerReceived p f) s = .next (k.pushRx p { f := f, th := th, lcl := .link })) ∧
      (linkScope f.hdr = false → f.hdr.source = s.node → isSup 1 f.hdr = false → exec (.headerReceived p f) s = .next k) ∧
      (linkScope f.hdr = false → f.hdr.source ≠ s.node →
        let k := if f.hdr.typ ≥ 10 then k.portCount p 8 else k
        let r := if k.isLocal f.hdr then k.localHeader p f th else (k, .none, false)
        let x : RxFrame := { f := f, th := th, lcl := r.2.1, through := r.2.2 }
        (r.1.isOnward f.hdr = false → exec (.headerReceived p f) s = .next (r.1.pushRx p x)) ∧
        (r.1.isOnward f.hdr = true → exec (.headerReceived p f) s = .next (
          match (if f.hdr.hops = 0 then r.1.portCount p 7 else r.1).route f.hdr with
          | (t, none) => t.pushRx p x
          | (t, some (q, h)) =>
            if t.cutThrough q f.hdr.cls then ((t.cutIn q (t.cutHdr p h)).drew).pushRx p { x with egress := some q, cut := true }
            else t.pushRx p { x with egress := some q }))))

/-- What ends a frame in progress (R87, R105–R108, R119, R152): a good trailer settles it and passes it on unchanged, a stomped or false one
revokes it and is counted, a broken link revokes it and ends its cut-through copy with the inverted CRC, and a tag unresolved at its
deadline is revoked. Where it rests on the model's own readings: log entries 33 and 37. -/
def Obligations.TrailersSettleFrames : Prop :=
  ∀ (s : State) (p : Port),
    (∀ (trailer : W32) (lengthOk : Bool) (r : RxFrame) (l : List RxFrame), (s.port p).rx = r :: l →
      let t := s.setPort p { s.port p with rx := l }
      let crc := crc32 (r.f.payload ++ r.f.tag)
      ((lengthOk && trailer = crc) = true →
        exec (.trailerChecked p trailer lengthOk) s = .next (
          match r.egress with
          | none => t.settle p r true
          | some q => if r.cut then (t.endCut q r.f.hdr trailer).settle p r true
            else (t.storeForward p q r).settle p { r with cells := [] } true)) ∧
      ((lengthOk && trailer = crc) = false → (lengthOk && trailer = crc ^^^ 0xFFFFFFFF) = true →
        exec (.trailerChecked p trailer lengthOk) s = .next (
          (match r.egress with
            | none => t.portCount p 5
            | some q => if r.cut then (t.portCount p 5).endCut q r.f.hdr trailer else t.portCount p 5).settle p r false)) ∧
      ((lengthOk && trailer = crc) = false → (lengthOk && trailer = crc ^^^ 0xFFFFFFFF) = false →
        let t := (t.portCount p 4).errNote p
        exec (.trailerChecked p trailer lengthOk) s = .next (
          (match r.egress with
            | none => t
            | some q => if r.cut then (t.portCount q 6).endCut q r.f.hdr (crc ^^^ 0xFFFFFFFF) else t).settle p r false))) ∧
    (∀ got : Nat, (s.port p).rx = [] → exec (.receiveLinkError p got) s = .next (s.errNote p)) ∧
    (∀ got : Nat, (s.port p).rx ≠ [] → exec (.receiveLinkError p got) s = .next (s.rxAbort p got)) ∧
    (∀ (g : Fin 4) (x : SpecTag), s.specTag g = some x → x.deadline ≤ s.now10 →
      let off : RxFrame → RxFrame := fun r => if r.lcl = .spec g && tagOf x x.port r.f.hdr then { r with lcl := .none } else r
      let u := s.setPort x.port { s.port x.port with rx := (s.port x.port).rx.map off }
      exec (.specDeadline g) s = .next (((u.revokeTag g).bump 0x26A0 4).resolveCopies
        { typ := 0, cls := x.cls, source := x.source, dest := 0, seq := x.seq }))

/-- Supervision frames in (R84, R85, R112–R117): HELLO names the neighbour, an own ANNOUNCE that came round marks the port, a foreign one
with the own number is a second hub, LEAVE and the notices mark the neighbour's outage with its bound, TOPOLOGY events enter and end
failures. Where it rests on the model's own readings: log entries 32 and 37. -/
def Obligations.SupervisionIsHeard : Prop :=
  ∀ (s t : State) (p : Port) (f : Frame),
    (s.takeLink p (isSup 0) = some (f, t) → ∃ u : State, (u.port p).nbr = some (helloNbr f) ∧
      let wired := decide (specField f.hdr 21 1 = portCode p.other)
      (u.port p).helloOk = (wired && (u.pairAdjacent || !u.facesAway p)) ∧
      (u.port p).joined = ((t.port p).joined && (u.port p).helloOk) ∧
      (wired = true → (t.port p).nbr = some (helloNbr f) → exec (.helloReceived p) s = .next u.ringUpdate) ∧
      (wired = false → (t.port p).nbr ≠ some (helloNbr f) →
        exec (.helloReceived p) s = .next (u.report { source := 0x00, syndrome := p.toNat }).ringUpdate)) ∧
    (s.takeLink p (isSup 1) = some (f, t) →
      (f.hdr.source = t.node → ofBe f.payload = t.serial →
        exec (.announceReceived p) s = .next (t.setPort p { t.port p with ownSeen := some 0 }).ringUpdate) ∧
      (f.hdr.source = t.node → ofBe f.payload ≠ t.serial →
        exec (.announceReceived p) s = .next (t.dupNodeSeen (ofBe f.payload)).ringUpdate) ∧
      (f.hdr.source ≠ t.node → ∃ u : State, exec (.announceReceived p) s = .next u.ringUpdate ∧
        u = { t with ring := { t.ring with map := u.ring.map } } ∧
        (match p with
          | .a => (tget {} u.ring.map f.hdr.source).award
          | .b => (tget {} u.ring.map f.hdr.source).bward) = min (t.o 0x2003 0 + 1 - f.hdr.hops) 0xFF)) ∧
    (s.takeLink p (isSup 2) = some (f, t) → exec (.leaveReceived p) s = .next (t.plannedMark p { bound := 0, lead := 0, since := s.clock, retrain := false })) ∧
    (let m : Planned := { bound := specField f.hdr 24 2, lead := specField f.hdr 22 2, since := s.clock, retrain := false }
     (s.takeLink p (isSup 3) = some (f, t) → exec (.recalNoticeReceived p) s = .next (t.plannedMark p m)) ∧
     (s.takeLink p (isSup 4) = some (f, t) → exec (.retrainNoticeReceived p) s = .next (t.plannedMark p { m with retrain := true }))) ∧
    (s.takeLink p (isSup 5) = some (f, t) →
      let src := f.hdr.source
      let port := specField f.hdr 22 1
      (specField f.hdr 21 1 = 0 →
        exec (.topologyReceived p) s = .next ((t.downAdd src port).event .topology [0, src, port]).ringUpdate) ∧
      (specField f.hdr 21 1 = 1 →
        exec (.topologyReceived p) s = .next ((t.downDel src port).event .topology [1, src, port]).ringUpdate))

/-- Supervision frames out and the state of the ring (R111–R116): HELLO and ANNOUNCE leave by every live port, RING_STATE is judged again, a
port that meets the conditions joins and tells the ring, and a planned outage beyond its bound counts as a failure. Where it rests on the
model's own readings: log entry 32. -/
def Obligations.SupervisionIsSent : Prop :=
  ∀ (s : State) (p : Port),
    (s.ringOn = true → s.due s.ring.helloAt s.supPeriod = true → exec .helloTimer s = .next ([Port.a, Port.b].foldl
      (fun s p => if s.linkLive p then s.hello p else s) { s with ring := { s.ring with helloAt := some s.clock } })) ∧
    (s.ringOn = true → s.due s.ring.annAt s.supPeriod = true → ∃ t : State, exec .announceTimer s =
        .next ([Port.a, Port.b].foldl (fun s p => if s.linkLive p then s.announce p else s) t) ∧
      t.ring.a = portPeriod s.ring.a ∧ t.ring.b = portPeriod s.ring.b ∧
      t = { s with ring := { s.ring with a := t.ring.a, b := t.ring.b, dupNode := t.ring.dupNode, annAt := some s.clock } }) ∧
    exec .ringClosureTimeout s = .next s.ringUpdate ∧
    ((s.port p).joined = false → s.joinOk p = true →
      let t := (s.setPort p { s.port p with joined := true, planned := none }).downDel s.node (portCode p)
      let t := if t.bothJoined then t.degrade 5 false else t
      exec (.portJoined p) s = .next ((t.topology 1 p none).event .topology [1, t.node, portCode p]).ringUpdate) ∧
    (∀ m : Planned, (s.port p).planned = some m → m.bound ≠ 0 → ticksUs (m.lead + m.bound + 50) + m.since ≤ s.clock →
      exec (.plannedOutageOverrun p) s = .next ((s.setPort p { s.port p with planned := none }).unplannedDown p))

/-- A port's link and its own outages (R100–R102, R107, R115–R122): links fall and rise, training ends or is tried again, low margin or
errors ask for a retrain, drift for a recalibration, notices run out, outages end, deferred ones are tried again or proceed unplanned; KEEP
and SUSPEND sets go out. Where it rests on the model's own readings: log entry 32. -/
def Obligations.PortsFallAndRise : Prop :=
  ∀ (s : State) (p : Port) (o : Outage),
    let x := s.port p
    (x.up = true → exec (.linkDown p) s = .next (s.linkDown p)) ∧
    (s.unused p = false → x.up = false → s.modes.mode ≠ .reset → exec (.linkUp p) s =
      .next (s.setPort p { x with up := true, training := true, trained := false, autoStopped := false, retrains := [], errTimes := [] })) ∧
    (x.training = true →
      exec (.trainingComplete p true) s = .next (s.setPort p { x with training := false, trained := true, vert := 100 }) ∧
      exec (.trainingComplete p false) s =
        .next (s.setPort p { x with training := false, trained := false, failedAt := some s.clock })) ∧
    (x.up = true → x.trained = false → x.training = false → s.media p = 1 → s.due x.failedAt (ticksMs 10) = true →
      exec (.trainingRetryTimer p) s = .next ((s.setPort p { x with training := true }).portCount p 0x0E)) ∧
    (∀ vert horiz, vert < s.o 0x2006 2 → s.o 0x2007 0 = 1 →
      let u := s.setPort p { x with vert := min vert 255, horiz := min horiz 255, retrains := if vert > s.o 0x2006 1 then [] else x.retrains }
      (s.o 0x2006 1 ≤ vert ∨ x.vert < s.o 0x2006 1 → exec (.marginRetrainTimeout p vert horiz) s = .next (u.retrainTry p)) ∧
      (vert < s.o 0x2006 1 → s.o 0x2006 1 ≤ x.vert → exec (.marginRetrainTimeout p vert horiz) s =
        .next ((u.report { source := 0x02, syndrome := p.toNat }).retrainTry p))) ∧
    (s.o 0x2006 3 < (x.errTimes.filter (fun t => s.clock - t < ticksMs 1000)).length →
      exec (.errorLimitExceeded p) s = .next (s.retrainTry p)) ∧
    (x.outage = some o → o.stage = .active → o.recal = false → exec (.retrainDone p) s = .next (((s.setPort p { x with
        outage := none, trained := true, training := false, lastRetrain := some s.clock, retrains := s.clock :: x.retrains.take 7 }).portCount p 0x0E).topology 3 p none).ringUpdate) ∧
    (x.outage = some o → o.stage = .deferred → o.recal = true → ticksMs 50 + o.since ≤ s.clock → exec (.recalDeferTimeout p) s =
      .next (((s.setPort p { portUnjoin x with synth := false, outage := none, calTemp := some o.temp, tx := none, suspended := none, suspEnd := none }).portCount p 0x0F).unplannedDown p)) ∧
    (x.outage = some o → o.stage = .deferred → exec (.outageDeferralExpiry p) s = .next (s.outageTry p o)) ∧
    (x.outage = some o → o.stage = .announced → o.recal = true → ticksUs 1000 + o.since ≤ s.clock → exec (.noticeLeadExpiry p) s =
      .next (s.setPort p { x with synth := false, outage := some { o with stage := .active, since := s.clock } }).ringUpdate) ∧
    (x.outage = some o → o.stage = .announced → o.recal = false → ticksUs 100 + o.since ≤ s.clock → exec (.noticeLeadExpiry p) s =
      .next ((s.setPort p { x with outage := some { o with stage := .active, since := s.clock } }).leaveService p).ringUpdate) ∧
    (∀ temp t0 : Int, x.calTemp = some t0 → (temp - t0).natAbs ≥ 10 → x.outage = none → x.synth = true → exec (.synthRecalStart p temp) s =
      .next (s.outageTry p { recal := true, stage := .deferred, since := s.clock, temp := temp })) ∧
    (x.synth = true → exec (.synthLockLoss p) s = .next (((s.setPort p { portUnjoin x with
      synth := false, tx := none, suspended := none, suspEnd := none }).portCount p 0x0F).downAdd s.node (portCode p)).ringUpdate) ∧
    (x.outage = none → exec (.synthRelock p) s = .next (s.synthLock p)) ∧
    (s.linkLive p = true → s.ringOn = true → x.tx = none → s.due x.quietAt (ticksUs 10) = true → exec (.keepTimer p) s =
      .next ((s.setPort p { x with quietAt := some s.clock }).emit (.ordered p 1))) ∧
    (∀ (off : Nat) (h : Hdr), x.tx = some h → h.cls ≠ 7 → (s.queue (8 * p.toNat + 7)).onchip ++ (s.queue (8 * p.toNat + 7)).returned ≠ [] → off % 64 = 0 →
      off + 64 < h.length + 16 * b2n h.auth + 4 → exec (.class7Suspend p off) s = .next (s.suspend p h off)) ∧
    (∀ (off : Nat) (h : Hdr) (r : RxFrame) (l : List RxFrame) (q : Port), x.rx = r :: l → r.egress = some q → r.cut = true →
      (s.port q).tx = some h → h.seq = r.f.hdr.seq → h.source = r.f.hdr.source → h.cls = r.f.hdr.cls → exec (.suspendReceived p off) s =
        .next ((s.setPort p { x with rx := { r with upSusp := true } :: l }).suspend q h off))


/-- Origination (R98, R99, R481, R549): the first unit's frame that can be sent goes out under its class's next number, then channel
packets; a standby discards what it may not originate; the class-7 bucket admits what waits; 70 ms after reset numbering starts at 0. Where
it rests on the model's own readings: log entry 35. -/
def Obligations.FramesAreOriginated : Prop :=
  ∀ s : State,
    (∀ (o : Orig) (l : List Orig), s.ring.origOn = true → s.ringOn = true → s.modes.mode ≠ .standby →
      s.nextOrig [] s.ring.orig = some (o, l) →
      exec .frameOriginate s = .next (State.send { s with ring := { s.ring with orig := l } } o)) ∧
    (∀ (c : Nat) (l : List Item) (odd : Bool), s.ring.origOn = true → s.ringOn = true → s.modes.mode ≠ .standby →
      s.nextOrig [] s.ring.orig = none → s.nextPacket = some (c, l, odd) →
      exec .frameOriginate s = .next ((s.takePacket c l odd).send (s.packetFrame c l))) ∧
    (∀ (c : Nat) (l : List Item) (odd : Bool), s.ring.origOn = true → s.ringOn = true → s.modes.mode = .standby →
      s.ring.orig = [] → s.nextPacket = some (c, l, odd) →
      exec .frameOriginate s = .next ((s.takePacket c l odd).bump 0xA805 8)) ∧
    (∀ (o : Orig) (l : List Orig), s.ring.c7wait = o :: l → s.bucketAdmits (frameBytes o.hdr + 12) = true → s.waysOut o ≠ [] →
      let t := State.bucketTake { s with ring := { s.ring with c7wait := l } } (frameBytes o.hdr + 12)
      exec .c7BucketAdmit s = .next ((t.waysOut o).foldl
        (fun u p => u.toSwitch { hdr := o.hdr, payload := o.payload } o.src p) t)) ∧
    (s.ring.origOn = false → s.modes.mode ≠ .reset → ticksMs 70 + s.modes.resetEndAt ≤ s.clock →
      exec .originationEnable s = .next { s with ring := { s.ring with origOn := true, seqs := [] } })

/-- The switch, its audit and the DRAM port (R127, R132–R134, R140, R141, R143, R144, R146, R149): a frame is enqueued, dropped or holds its
source; an egress sends the frame its queues choose; a read-back fills the return pool or loses its frame; the audit judges its cells;
requests are stamped, marked and ranked; a read of SW_AUDIT clears its count. Where it rests on the model's own readings: log entry 38. -/
def Obligations.SwitchAuditAndArbiter : Prop :=
  ∀ s : State,
    (∀ (f : InFrame) (l : List InFrame), s.sw.ingress = f :: l →
      let t : State := { s with sw := { s.sw with ingress := l } }
      (s.sw.held.any (fun g => g.src = f.src) = true →
        exec .enqueue s = .next { t with sw := { t.sw with held := t.sw.held ++ [f] } }) ∧
      (s.sw.held.any (fun g => g.src = f.src) = false → exec .enqueue s = .next (
        let u := (t.enqueue f).1
        if (t.enqueue f).2 = .held then { u with sw := { u.sw with held := u.sw.held ++ [f] } } else u))) ∧
    (∀ (src : Fin 7) (f : InFrame), s.sw.held.find? (fun f => f.src = src.val) = some f → exec (.heldSourceResume src) s = .next (
      let q := 8 * f.dst + f.cls
      let t := State.takeIn { s with sw := { s.sw with held := s.sw.held.eraseP (fun g => g.src = src.val) } } q f
      if t.2 = .held then s else t.1.redCount q f (t.2 = .dropped))) ∧
    exec (.dequeue 0) s = .next (s.dequeueRing .a) ∧
    exec (.dequeue 1) s = .next (s.dequeueRing .b) ∧
    (∀ (p : Fin 7) (t : State) (c : Nat) (f : QFrame), 2 ≤ p.val → s.pick p.val false = (t, some c) →
      qHead (t.queue (8 * p.val + c)) = some f → exec (.dequeue p) s = .next ((t.popQueue (8 * p.val + c)).egress p.val f)) ∧
    (∀ (q : Fin 56) (f : QFrame) (l : List QFrame), (s.queue q).kennel = f :: l →
      let x := s.queue q
      let pool := s.poolCells f.n
      (cellsOf x.returned + f.n ≤ 16 → f.n ≤ pool.length → exec (.kennelReadbackDone q none) s = .next ((s.setQueue q
        { x with kennel := l, returned := x.returned ++ [{ f with cells := pool }] }).freeCellList f.cells)) ∧
      (∀ a : Nat, exec (.kennelReadbackDone q (some a)) s = .next (((((s.setQueue q (qSettle s.clock
        { x with kennel := l })).freeCellList f.cells).bump 0x2180 7).dramBad a).report { source := 0x11, syndrome := q, address := a }))) ∧
    (∀ onChip spill : List Nat, 3 ≤ s.modes.mode.code → s.sw.walking = false → (∀ e, s.sw.walkAt = some e → ticksMs 100 + e ≤ s.clock) →
      let t := (lostCells onChip spill).foldl State.loseCell s
      exec (.auditWalk onChip spill) s = .next { t with sw := { t.sw with walking := true, walkAt := some t.clock, journal := [] } }) ∧
    (∀ onChip spill : List Nat, 3 ≤ s.modes.mode.code → s.sw.walking = true → ∃ cells : List Nat,
      (∀ c, c ∈ cells ↔ s.auditCovers c = true ∧ (c < s.sw.fresh ∨ 32768 ≤ c ∧ c < 32768 + s.sw.spillFresh)) ∧
      let t := (cells.foldl State.auditCell s).bump 0x2210 3
      exec (.auditWalk onChip spill) s = .next { t with sw := { t.sw with
        walking := false, journal := [], slice := if t.sw.selfRefresh then t.sw.slice else (t.sw.slice + 1) % 16 } }) ∧
    (∀ (r : DramReq) (tick : Fin 4096), r.wf = true → exec (.dramRequest r tick) s =
      .next (State.arbitrate { s with sw := { s.sw with reqs := s.sw.reqs ++ [{ r := r, stamp := tick }] } } tick)) ∧
    (∀ tick : Fin 4096, s.sw.grant = none → s.sw.reqs = [] → exec (.ancientMark tick) s = .next s) ∧
    (∀ (tick : Fin 4096) (a : ArbReq), s.sw.grant = none → s.sw.reqs = [a] → a.ancient = none → 2048 ≤ arbAge tick a →
      ∃ t : State, exec (.ancientMark tick) s = .next t ∧ t.sw.grant = some { a with ancient := some (4096 * s.sw.marks + (4095 - arbAge tick a)) } ∧
        t.sw.reqs = [] ∧ t.sw.marks = s.sw.marks + 1) ∧
    (∀ tick : Fin 4096, exec (.dramTransferDone tick) s = .next (State.arbitrate { s with sw := { s.sw with grant := none } } tick)) ∧
    (∀ tick : Fin 4096, exec (.ddrRefresh tick) s = .next (s.arbitrate tick)) ∧
    (∃ t : State, exec (.ddrTempRead true) s = .next t ∧ t.sw = { s.sw with refresh2x := true } ∧
      (s.sw.refresh2x = true → t.od = s.od)) ∧
    exec (.ddrTempRead false) s = .next { s with sw := { s.sw with refresh2x := false } } ∧
    (∀ c : Ctx, s.reaches c = true → exec (.swAuditRead c) s = .next (State.reply { s with sw := { s.sw with rcReclaimed := 0 } } c 4
      (65536 * s.sw.rcReclaimed + s.sw.slice * 16 + b2n s.sw.walking))) ∧
    (s.setNow W1c.ecc = false → exec .ddrEccErrClear s = .next { s with sw := { s.sw with eccErr := false } })

/-- Accesses over the fabric (R5, R10, R92, R161, R173, R174, R388, R389): a request of another node is served in its context and answered,
a write part is applied in order, an answer reaches the access it names, an access silent for REMOTE_TIMEOUT ends; a misplaced register
write is refused. Where it rests on the model's own readings: log entries 74, 75 and 79. -/
def Obligations.FabricAccesses : Prop :=
  ∀ s : State,
    (∀ f : Frame, nextRequest [] s.ring.delivered = some f →
      let src := f.hdr.source
      let len := specField f.hdr 26 2
      let bare := fun e : Nat =>
        ((s.readFault (specField f.hdr 20 6 % 2 ^ 40) len e).frameServed f).fabricAnswer src f.hdr.seq (fabricStatus e) 0 1 1 []
      (len = 0 ∨ 2048 < len → exec .fabricReadRequest s = .next (bare Abort.addressError)) ∧
      (1 ≤ len → len ≤ 2048 → exec .fabricReadRequest s = .next (
        match s.localRead (nodeCtx src) (specField f.hdr 20 6 % 2 ^ 40) len with
        | .error e => bare e
        | .ok (t, none) => t
        | .ok (t, some b) => (t.frameServed f).fabricAnswer src f.hdr.seq 0 0 1 1 b))) ∧
    (∀ (f : Frame) (t : State), s.takeDelivered (fun h => h.typ = 2) = some (f, t) →
      let w := if f.hdr.dest = 0xFF then Waiter.none else .node f.hdr.source f.hdr.seq (specField f.hdr 26 1) (specField f.hdr 27 1)
      let r := t.localWrite (nodeCtx f.hdr.source) w (specField f.hdr 20 6 % 2 ^ 40) f.payload
      exec .fabricWritePart s = .next (if r.2.2 then r.1 else r.1.heldEnd w r.2.1)) ∧
    (∀ (f : Frame) (t : State), s.takeDelivered (fun h => h.typ = 3) = some (f, t) →
      (t.ring.remotes.find? (fun r => (r.matches f.hdr).isSome) = none → exec .readResponseReceived s = .next t) ∧
      (∀ (r : Remote) (k : Nat), t.ring.remotes.find? (fun r => (r.matches f.hdr).isSome) = some r → r.matches f.hdr = some k →
        let a : Remote := { r with
          answers := tset none r.answers k (some (min (specField f.hdr 22 1) 3)), bytes := tset [] r.bytes k f.payload }
        exec .readResponseReceived s = .next (State.remoteSettle { t with ring := { t.ring with
          remotes := t.ring.remotes.map (fun x : Remote => if x.id = r.id then a else x) } } r.id))) ∧
    (∀ (id n at_ : Nat) (r : Remote), s.remote id = some r → r.who = .session n → r.sent = true → r.sentAt = some at_ →
      ticksMs (s.o 0x1202 2) + at_ ≤ s.clock → exec (.splitRemoteTimeout id) s = .next (s.remoteEnd r)) ∧
    (∀ (c : Ctx) (addr : Nat) (v : W32), s.reaches c = true → addr % 4 ≠ 0 ∨ 2 ^ 24 ≤ addr →
      exec (.registerWrite c addr v) s = .next (s.refuseAccess c Abort.addressError addr)) ∧
    (∀ (c : Ctx) (addr : Nat) (v : W32), s.reaches c = true → addr % 4 = 0 → addr < 2 ^ 24 → exec (.registerWrite c addr v) s = .next (
      match s.regWrite c addr v.toNat with
      | (t, none) => t
      | (t, some code) => t.refuseAccess c code addr)) ∧
    (∀ (e : Fin 256) (i : StageEnt) (l : List StageEnt), (s.eng e).sh = .draining → (s.eng e).staging = i :: l →
      i.off + (s.eng e).shift ≤ (s.eng e).tick →
      let y : Engine := { pinApply (s.eng e) i.w with staging := l }
      ((s.eng e).ckpt = none →
        exec (.stagedEntryApply e) s = .next (s.setEng e (if l.isEmpty then { y with sh := .direct, shift := 0 } else y))) ∧
      (∀ k : Ckpt, (s.eng e).ckpt = some k →
        let z : Engine := { y with ckpt := some { k with staged := k.staged - 1 } }
        exec (.stagedEntryApply e) s = .next (s.setEng e (if k.staged ≤ 1 then { z with sh := .speculating, shift := 0 } else z))))


/-- Channel commands (R187–R189, R193, R198, R199, R202, R203): a window access gives bytes, waits or is refused; deliveries and readings
that waited enter; a delivery held to HOLD_LIMIT quarantines its channel; a flush drops the confirmed items that no speculating engine
holds, clears in_packet and counts them in ITEMS_OUT; a quarantine ends; CH_IN, CH_OUT and CH_HWM are read. Where it rests on the model's
own readings: log entries 42, 70 and 72. -/
def Obligations.ChannelCommands : Prop :=
  ∀ s : State,
    (∀ (c : Ctx) (ch : Fin 512) (off len : Nat), s.reaches c = true → exec (.channelWindowRead c ch off len) s = .next (
      match s.readWindow ch off len with
      | .error e => s.refuseRead c len e (2 ^ 32 + ch * 2 ^ 22 + off)
      | .ok none => s
      | .ok (some (t, b)) => t.emit (.data c b))) ∧
    (∀ (c : Ctx) (ch : Fin 512), s.reaches c = true → s.o 0x5002 0 ch / 0x1000 = 7 → (s.chan ch).items = [] → (s.chan ch).quarantined = false →
      ∃ t : State, exec (.channelWindowRead c ch 0 4) s = .next t ∧
        t.sent = .data c (leBytes 4 (2 ^ 28 + s.o 0x5008 0 ch % 2 ^ 24)) :: s.sent ∧ t.dram = s.dram) ∧
    (∀ (c : Ctx) (ch : Fin 512) (off : Nat) (data : List Byte), c ≠ .pcie → exec (.channelWindowWrite c ch off data) s = .next (
      match s.writeWindow .none ch off data with
      | .error e => s.refuseAccess c e (2 ^ 32 + ch * 2 ^ 22 + off)
      | .ok (t, _) => t)) ∧
    (∀ (c : Fin 10) (d : HeldDel) (l : List HeldDel) (t : State), c.val < 8 → s.heldDel = d :: l → d.cls = c.val →
      s.chanWriteAll d.ch d.items = (t, []) → exec (.channelDeliveryResume c) s =
      .next ((({ t with heldDel := l } : State).promote s.heldDel).heldEnd d.who none)) ∧
    (∀ (ch : Fin 512) (k : Nat) (d : HeldDel), k < 8 → s.heldDel.find? (fun d => d.cls = k) = some d → d.ch = ch.val →
      d.since + ticksUs (s.o 0x5080 0) ≤ s.clock → s.chanSize ch ≤ (s.chan ch).items.length →
      exec (.channelHoldLimit ch) s = .next ((s.quarantine ch).report { source := 0x21, syndrome := ch })) ∧
    (∀ ch : Fin 512,
      let x := s.chan ch
      let held := if s.o 0x5002 0 ch / 0x1000 = 4 then [] else x.items.take x.held
      let keep := held ++ (x.items.drop held.length).filter (·.unc.isSome)
      exec (.chFlush ch) s = .next (s.setChan ch { x with
        items := keep, held := held.length, covered := 0, inPacket := false,
        itemsOut := (x.itemsOut + (x.items.length - keep.length)) % 2 ^ 32 })) ∧
    (∀ ch : Fin 512, (1, ch.val) ∉ s.fc.reacting → exec (.chQuarantineRelease ch) s =
      .next (s.setChan ch { s.chan ch with quarantined := false, inPacket := false, waited := false })) ∧
    (∀ c : Ctx, s.reaches c = true →
      let n := (s.ctx c).chSel
      let y := s.chan n
      (y.retired = true → exec (.chInRead c) s = .next (s.reply c 4 0) ∧ exec (.chOutRead c) s = .next (s.reply c 4 0) ∧
        exec (.chHwmRead c) s = .next (s.reply c 4 0)) ∧
      (y.retired = false →
        exec (.chInRead c) s = .next ((s.setCtx c { s.ctx c with chOut := some y.itemsOut }).reply c 4 y.itemsIn) ∧
        (∀ v, (s.ctx c).chOut = some v → exec (.chOutRead c) s = .next ((s.setCtx c { s.ctx c with chOut := none }).reply c 4 v)) ∧
        ((s.ctx c).chOut = none → exec (.chOutRead c) s = .next (s.reply c 4 y.itemsOut)) ∧
        exec (.chHwmRead c) s = .next ((s.setChan n { y with hwmRc := y.items.length }).reply c 4 y.hwmRc)))

/-- The register instructions of an engine whose writes are direct (R212, R213, R217, R218, R223–R225): JMP, IN without a push, OUT without
a pull, MOV, SET and CMP complete on their tick with the values their rules give. Where it rests on the model's own readings: log entry 43.
-/
def Obligations.EngineRegisterInstructions : Prop :=
  ∀ (s : State) (e : Fin 256) (w : Nat), s.fetches e w → engSpec (s.eng e) = false → (s.eng e).sh = .direct →
    let x := s.eng e
    let regs := fun (r : EngRegs) => s.setEng e { x with r := r }
    let k := fld w 14 12
    (isOp 0 w = true →
      (k = 0 → exec (.jmp e) s = .next (s.ended e w (some (fld w 9 0)) {})) ∧
      (k = 1 → exec (.jmp e) s = .next (s.ended e w (if x.f then some (fld w 9 0) else none) {})) ∧
      (k = 2 → exec (.jmp e) s = .next (s.ended e w (if !x.f then some (fld w 9 0) else none) {})) ∧
      (k = 3 → exec (.jmp e) s = .next
        ((regs { x.r with x := x.r.x - 1 }).ended e w (if x.r.x - 1 ≠ 0 then some (fld w 9 0) else none) {})) ∧
      (k = 4 → exec (.jmp e) s = .next
        ((regs { x.r with y := x.r.y - 1 }).ended e w (if x.r.y - 1 ≠ 0 then some (fld w 9 0) else none) {})) ∧
      (k = 5 → exec (.jmp e) s = .next (s.ended e w (if s.engPin e (s.o 0x6005 0x0A e) then some (fld w 9 0) else none) {})) ∧
      (k = 6 → exec (.jmp e) s = .next (s.ended e w (if !s.engPin e (s.o 0x6005 0x0A e) then some (fld w 9 0) else none) {})) ∧
      (k = 7 → exec (.jmp e) s = .next (s.ended e w
        (if s.engReady e then some (fld w 9 0) else none) {}))) ∧
    (isOp 2 w = true → fld w 5 5 = 0 ∨ min (x.r.isrCnt + fld w 11 7) 24 < s.o 0x6006 1 e → exec (.inp (clOf e) (engPlace e)) s = .next ((regs { x.r with
        isr := isrShift x.r.isr (s.engSource e k) (fld w 11 7) (fld w 6 6 = 1),
        isrCnt := min (x.r.isrCnt + fld w 11 7) 24 }).ended e w none {})) ∧
    (isOp 3 w = true → fld w 5 5 = 0 ∨ x.r.osrCnt < s.o 0x6006 2 e →
      let v := (osrShift x.r.osr (fld w 11 7) (fld w 6 6 = 1)).1
      let r := { x.r with osr := (osrShift x.r.osr (fld w 11 7) (fld w 6 6 = 1)).2, osrCnt := min (x.r.osrCnt + fld w 11 7) 24 }
      (k = 0 → exec (.outp (clOf e) (engPlace e)) s = .next ((regs { r with x := v }).ended e w none {})) ∧
      (k = 1 → exec (.outp (clOf e) (engPlace e)) s = .next ((regs { r with y := v }).ended e w none {})) ∧
      (k = 2 → exec (.outp (clOf e) (engPlace e)) s = .next ((regs { r with
        isr := isrShift r.isr v (fld w 11 7) (fld w 6 6 = 1), isrCnt := min (r.isrCnt + fld w 11 7) 24 }).ended e w none {})) ∧
      (k = 3 → exec (.outp (clOf e) (engPlace e)) s = .next ((regs r).ended e w none {})) ∧
      (k = 4 → exec (.outp (clOf e) (engPlace e)) s = .next ((regs r).ended e w none (s.outWindow e v.toNat false))) ∧
      (k = 5 → exec (.outp (clOf e) (engPlace e)) s = .next ((regs r).ended e w none (s.outWindow e v.toNat true))) ∧
      (k = 6 → exec (.outp (clOf e) (engPlace e)) s = .next ((regs r).ended e w (some (v.toNat % 1024)) {}))) ∧
    (isOp 6 w = true →
      let a := s.engSource e (fld w 11 9)
      let v := if fld w 8 7 = 0 then a else if fld w 8 7 = 1 then ~~~a else if fld w 8 7 = 2 then rev24 a else a + 1
      (k = 0 → exec (.mov e) s = .next ((regs { x.r with x := v }).ended e w none {})) ∧
      (k = 1 → exec (.mov e) s = .next ((regs { x.r with y := v }).ended e w none {})) ∧
      (k = 2 → exec (.mov e) s = .next ((regs { x.r with isr := v, isrCnt := 0 }).ended e w none {})) ∧
      (k = 3 → exec (.mov e) s = .next ((regs { x.r with osr := v, osrCnt := 0 }).ended e w none {})) ∧
      (k = 4 → exec (.mov e) s = .next (s.ended e w none (s.outWindow e v.toNat false))) ∧
      (k = 5 → exec (.mov e) s = .next (s.ended e w none (s.outWindow e v.toNat true))) ∧
      (k = 6 → exec (.mov e) s = .next (s.ended e w (some (v.toNat % 1024)) {})) ∧
      (k = 7 → exec (.mov e) s = .next ((s.setEng e { x with cmp := v, cmpLatch := false }).ended e w none {}))) ∧
    (isOp 7 w = true →
      let b := s.o 0x6005 5 e
      let n := s.o 0x6005 6 e
      (k = 0 → exec (.setImm e) s = .next ((regs { x.r with x := BitVec.ofNat 24 (fld w 11 0) }).ended e w none {})) ∧
      (k = 1 → exec (.setImm e) s = .next ((regs { x.r with y := BitVec.ofNat 24 (fld w 11 0) }).ended e w none {})) ∧
      (k = 2 → exec (.setImm e) s = .next (s.ended e w none { vMask := winMask b n, v := winBits b n (fld w 11 0) })) ∧
      (k = 3 → exec (.setImm e) s = .next (s.ended e w none { dMask := winMask b n, d := winBits b n (fld w 11 0) }))) ∧
    (isOp 8 w = true → ∃ a b : W24,
      a = (if k = 0 then x.r.x else if k = 1 then x.r.y else if k = 2 then x.r.isr else if k = 3 then x.r.osr
        else if k = 4 then x.cnt else x.item.setWidth 24) ∧
      b = (if fld w 11 10 = 0 then x.r.y else if fld w 11 10 = 1 then x.cmp
        else if fld w 7 7 = 1 then (BitVec.ofNat 7 (fld w 6 0)).signExtend 24 else (BitVec.ofNat 7 (fld w 6 0)).setWidth 24) ∧
      exec (.cmp e) s = .next ((s.setEng e { x with f := cmpRel a b (fld w 9 8) (fld w 7 7 = 1) }).ended e w none {}))

/-- The engine instructions that meet channels, events, flags and other engines (R214–R216, R219–R222, R226, R227, R230): IN and OUT with a
push or a pull, PULL, PUSH, STAMP, WAIT, SYNC and IRQ, the arm of a group packet, the wait of an engine that speculates, and the park of an
undefined word. Where it rests on the model's own readings: log entries 43 and 44. -/
def Obligations.EngineChannelAndEventInstructions : Prop :=
  ∀ (s : State) (e : Fin 256) (w : Nat), s.fetches e w →
    let x := s.eng e
    let c := s.cluster (e.val / 16)
    let idx := fld w 5 0
    let pol := decide (fld w 11 11 = 1)
    (isOp 4 w = true →
      (∀ t d i, s.engPull e (fld w 14 14 = 1) = .got t d i →
        exec (.pull (clOf e) (engPlace e)) s = .next (s.ends (t.setEng e (osrLoad (t.eng e) d i)) e w none {})) ∧
      (∀ t, s.engPull e (fld w 14 14 = 1) = .wait t → exec (.pull (clOf e) (engPlace e)) s = .next (t.stalled e))) ∧
    (engSpec x = true →
      (isOp 2 w = true → exec (.inp (clOf e) (engPlace e)) s = .next (s.stalled e)) ∧
      (isOp 5 w = true → exec (.push (clOf e) (engPlace e)) s = .next (s.stalled e)) ∧
      (isOp 10 w = true → exec (.stamp (clOf e) (engPlace e)) s = .next (s.stalled e)) ∧
      (isOp 1 w = true → fld w 14 12 ≤ 1 → exec (.wait (clOf e) (engPlace e)) s = .next (s.stalled e)) ∧
      (isIrq 0 w = true → exec (.irqSet e) s = .next (s.stalled e)) ∧
      (isIrq 1 w = true → exec (.irqClear e) s = .next (s.stalled e)) ∧
      (isIrq 2 w = true → exec (.irqToggle e) s = .next (s.stalled e))) ∧
    (∀ (k : Ckpt) (inst : Nat), isSync 1 w = true → x.ckpt = some k → k.grp = some (fld w 6 0, inst) → x.gotEop = true →
      exec (.syncArm e) s = .next (s.ends { s.setEng e { x with sh := if x.sh = .calendarHeld then .calendarHeld else .groupHeld } with
        shutter := { s.shutter with groups := s.shutter.groups.map (fun r : GroupRun =>
          if r.inst = inst then { r with armed := e.val :: r.armed.filter (· ≠ e.val) } else r) } } e w none {}).groupTryRelease) ∧
    (engSpec x = false → x.sh = .direct →
      (isOp 3 w = true → fld w 5 5 = 1 → s.o 0x6006 2 e ≤ x.r.osrCnt → fld w 14 12 = 0 →
        (∀ t d i, s.engPull e false = .got t d i → exec (.outp (clOf e) (engPlace e)) s = .next (s.ends (t.setEng e { osrLoad (t.eng e) d i with
          r := { (t.eng e).r with
            x := (osrShift d (fld w 11 7) (fld w 6 6 = 1)).1,
            osr := (osrShift d (fld w 11 7) (fld w 6 6 = 1)).2,
            osrCnt := min (fld w 11 7) 24 } }) e w none {})) ∧
        (∀ t, s.engPull e false = .wait t → exec (.outp (clOf e) (engPlace e)) s = .next (t.stalled e))) ∧
      (isOp 2 w = true → fld w 5 5 = 1 → s.o 0x6006 1 e ≤ min (x.r.isrCnt + fld w 11 7) 24 →
        let isr := isrShift x.r.isr (s.engSource e (fld w 14 12)) (fld w 11 7) (fld w 6 6 = 1)
        let r := s.engPush e [{ kind := s.o 0x6006 3 e, data := packBits isr (s.o 0x6006 1 e) (fld w 6 6 = 1) (s.o 0x6006 4 e = 1) }]
        (∀ t, r.1 = some t → exec (.inp (clOf e) (engPlace e)) s =
          .next ((t.setEng e { x with r := { x.r with isr := 0, isrCnt := 0 } }).ended e w none {})) ∧
        (r.1 = none → exec (.inp (clOf e) (engPlace e)) s = .next (r.2.stalled e))) ∧
      (isOp 5 w = true →
        let d := if fld w 8 7 = 0 then x.r.isr else if fld w 8 7 = 1 then x.r.x else x.r.y
        let r := s.engPush e [{ kind := fld w 14 11, sop := fld w 10 10 = 1, eop := fld w 9 9 = 1, data := d }]
        (∀ t, r.1 = some t → fld w 8 7 ≠ 0 → exec (.push (clOf e) (engPlace e)) s = .next (t.ended e w none {})) ∧
        (∀ t, r.1 = some t → fld w 8 7 = 0 → exec (.push (clOf e) (engPlace e)) s =
          .next ((t.setEng e { t.eng e with r := { x.r with isr := 0, isrCnt := 0 } }).ended e w none {})) ∧
        (r.1 = none → exec (.push (clOf e) (engPlace e)) s = .next (r.2.stalled e))) ∧
      (isOp 10 w = true →
        let v := if fld w 14 14 = 1 then x.edge else s.st32
        let r := s.engPush e [{ kind := 1, sop := fld w 13 13 = 1, data := BitVec.ofNat 24 (v % 65536) },
          { kind := 2, eop := fld w 12 12 = 1, data := BitVec.ofNat 24 (v / 65536 % 65536) }]
        (∀ t, r.1 = some t → exec (.stamp (clOf e) (engPlace e)) s = .next (t.ended e w none {})) ∧
        (r.1 = none → exec (.stamp (clOf e) (engPlace e)) s = .next (r.2.stalled e))) ∧
      (isOp 1 w = true →
        let delay := (8 + s.filtDelay (pinBank e idx) (pinIn idx)) % 2 ^ 32
        (fld w 14 12 = 0 → x.capture = none → s.engPin e idx = pol → exec (.wait (clOf e) (engPlace e)) s = .next ((s.setEng e { x with
          edge := serialDist 32 s.st32 delay, cap := x.cnt, capture := none }).ended e w none {})) ∧
        (fld w 14 12 = 0 → x.capture = none → s.engPin e idx = !pol →
          exec (.wait (clOf e) (engPlace e)) s = .next ((s.setEng e { x with capture := some (idx, pol, none) }).stalled e)) ∧
        (∀ (i : Nat) (l : Bool) (st : Nat), fld w 14 12 = 0 → x.capture = some (i, l, some st) → exec (.wait (clOf e) (engPlace e)) s =
          .next ((s.setEng e { x with edge := serialDist 32 st delay, cap := x.cnt, capture := none }).ended e w none {})) ∧
        (fld w 14 12 = 1 → c.flags.getLsbD idx = pol →
          exec (.wait (clOf e) (engPlace e)) s = .next ((if fld w 10 10 = 1 then s.flagClear (e.val / 16) idx else s).ended e w none {})) ∧
        (fld w 14 12 = 1 → c.flags.getLsbD idx = !pol → exec (.wait (clOf e) (engPlace e)) s = .next (s.stalled e)) ∧
        (fld w 14 12 = 2 → x.cmpLatch = true →
          exec (.wait (clOf e) (engPlace e)) s = .next ((s.setEng e { x with cmpLatch := false }).ended e w none {})) ∧
        (fld w 14 12 = 2 → x.cmpLatch = false → exec (.wait (clOf e) (engPlace e)) s = .next (s.stalled e)) ∧
        (fld w 14 12 = 3 → x.cals.getLsbD idx = true →
          exec (.wait (clOf e) (engPlace e)) s = .next ((s.setEng e { x with cals := x.cals &&& ~~~(1#32 <<< idx) }).ended e w none {})) ∧
        (fld w 14 12 = 3 → x.cals.getLsbD idx = false → exec (.wait (clOf e) (engPlace e)) s = .next (s.stalled e)) ∧
        (fld w 14 12 = 4 → x.strobes.getLsbD idx = true →
          exec (.wait (clOf e) (engPlace e)) s = .next ((s.setEng e { x with strobes := x.strobes &&& ~~~(1#8 <<< idx) }).ended e w none {})) ∧
        (fld w 14 12 = 4 → x.strobes.getLsbD idx = false → exec (.wait (clOf e) (engPlace e)) s = .next (s.stalled e))) ∧
      (isSync 0 w = true →
        let t := s.setEng e { x with barrier := true }
        (s.engLock e = none → exec (.syncBarrier e) s = .next (t.stalled e)) ∧
        (∀ g, s.engLock e = some g → exec (.syncBarrier e) s = .next (
          (if t.barrierFull g && !(t.lock g).starting
            then t.setLock g { t.lock g with starting := true, barrier := true, since := s.clock } else t).stalled e))) ∧
      (isSync 1 w = true → exec (.syncArm e) s = .next (((s.bump 0x6021 3 e).ended e w none {}).groupTryRelease)) ∧
      (isSync 2 w = true →
        (x.syncAt = none → exec (.syncRestart e) s = .next ((s.setEng e { x with syncAt := some s.clock }).stalled e)) ∧
        (∀ a, x.syncAt = some a → s.clock < 4 + a → exec (.syncRestart e) s = .next (s.stalled e)) ∧
        (∀ a, x.syncAt = some a → 4 + a ≤ s.clock →
          let t := (s.setEng e { x with syncAt := none }).ended e w none {}
          exec (.syncRestart e) s = .next (t.setEng e (engClockRestart (t.eng e))))) ∧
      (let wakes := fun t : State => if fld w 12 12 = 1 then t.wake else t
       (isIrq 0 w = true → exec (.irqSet e) s = .next ((wakes (s.flagSet (e.val / 16) (fld w 2 0))).ended e w none {})) ∧
       (isIrq 1 w = true → exec (.irqClear e) s = .next ((wakes (s.flagClear (e.val / 16) (fld w 2 0))).ended e w none {})) ∧
       (isIrq 2 w = true → exec (.irqToggle e) s = .next ((wakes (s.flagToggle (e.val / 16) (fld w 2 0))).ended e w none {})))) ∧
    (∀ (t : State) (f : Fin 256) (k : Nat), (t.eng f).st = .running → t.enginesRun f = true → t.wordLost f = false →
      t.wordBad f (t.engWord f) = some k → exec (.undefinedInstruction f) t = .next ((t.enginePark f k).report
        { source := 0x30, syndrome := f + k * 2 ^ 24, address := (t.eng f).r.pc * 2 ^ 24 + t.engWord f }))

/-- Commands about engines, clusters, lock groups and banks (R172, R195, R210, R227, R229, R231, R232, R235, R239–R244): compare matches,
group time-outs, park and restart, wraps, flags, the stall count, readback failures, group starts, the supply of a bank and the glitch
filter. Where it rests on the model's own readings: log entries 43 and 47. -/
def Obligations.EnginesLocksAndBanks : Prop :=
  ∀ s : State,
    (∀ e : Fin 256, (s.eng e).st = .running ∨ (s.eng e).st = .groupIdle → (s.eng e).cnt = (s.eng e).cmp → (s.eng e).matched = false →
      let y := { s.eng e with cmpLatch := true, matched := true }
      let p := s.o 0x600C 1 e
      let l := if s.o 0x600C 2 e = 1 then true else if s.o 0x600C 2 e = 2 then false else !engLatest y p
      (s.o 0x600C 2 e = 0 → exec (.compareMatch e) s = .next (s.setEng e y)) ∧
      (s.o 0x600C 2 e ≠ 0 → p < 48 → (s.driveMask e).getLsbD p = true → (s.eng e).sh = .direct → exec (.compareMatch e) s =
        .next (s.setEng e (pinApply y { vMask := 1#48 <<< p, v := if l then 1#48 <<< p else 0 })))) ∧
    (∀ (g : Fin 128) (r : GroupRun),
      s.shutter.groups.find? (fun r => r.g = g.val && r.th + 10000 * s.o 0x2602 0 < s.now10) = some r →
      exec (.groupArmTimeout g) s = .next (s.groupFail r .timeout)) ∧
    (∀ e : Fin 256, exec (.engineParkCmd e) s = .next (s.enginePark e 3)) ∧
    (∀ e : Fin 256, s.restartBar e = none → exec (.engineRestart e) s =
      .next ((if (s.eng e).st = .running then s.enginePark e 3 else s).engineStart e)) ∧
    (∀ (e : Fin 256) (v : W32), (s.eng e).st ≠ .retired → exec (.peWrapWrite e v) s =
      .next ((if v &&& 0x7C00FC00 = 0 then s else s.bump 0xA0F0 0).setEng e { s.eng e with
        r := { (s.eng e).r with wrapPend := some (v.toNat % 1024, v.toNat / 65536 % 1024) } })) ∧
    (∀ (c : Fin 16) (flags : BitVec 8), (∀ f < 8, s.setNow (W1c.toggled c f) = false) →
      (∃ t : State, exec (.peClFlagSet c flags) s = .next t ∧ (t.cluster c).flags = (s.cluster c).flags ||| flags ∧
        ∀ e : Fin 256, t.eng e = s.eng e) ∧
      ((∀ f < 8, s.setNow (W1c.flag c f) = false) → exec (.peClFlagClear c flags) s =
        .next (s.setCluster c { s.cluster c with flags := (s.cluster c).flags &&& ~~~flags }))) ∧
    (∀ (x : Ctx) (c : Fin 16), s.reaches x = true → exec (.peClStallRead x c) s =
      .next ((s.setCluster c { s.cluster c with stall := 0 }).reply x 4 (s.cluster c).stall)) ∧
    (∀ (e : Fin 256) (pin : Fin 48), s.o 0x600A 2 e ≤ tget 0 (s.eng e).rbFails pin → exec (.readbackFail e pin) s =
      .next (((s.setEng e { s.eng e with rbFails := tdel (s.eng e).rbFails pin }).bump 0x6021 2 e).report
        { source := 0x31, syndrome := e + (pin + 64 * b2n ((s.eng e).rb1.2.getLsbD pin)) * 2 ^ 24 })) ∧
    (∀ g : Fin 64, exec (.lockCmd g) s = .next (s.setLock g { s.lock g with
      starting := true, barrier := false, since := if (s.lock g).starting then (s.lock g).since else s.clock })) ∧
    (∀ g : Fin 64, (s.lock g).starting = true → (s.lock g).barrier = false → 4 + (s.lock g).since ≤ s.clock →
      let ms := s.lockMembers g
      let full := s.barrierFull g && ms.any (fun m => (s.eng m).barrier)
      let spec := ms.any (fun m => (s.eng m).ckpt.isSome && (s.eng m).st = .running)
      exec (.lockStartEdge g) s = .next ((ms.foldl (fun u m => u.lockMemberEdge (full && !spec) m) s).setLock g {
        running := true, starting := full && spec, barrier := full && spec, since := s.clock,
        parkedStarts := min ((s.lock g).parkedStarts + b2n (ms.any (fun m => (s.eng m).st = .parked))) 0xFFFFFF })) ∧
    (∀ (b : Fin 16) (mv : Nat), supplyClass mv = s.bankWants b → exec (.bankSupplySample b mv) s = .next (s.setBank b { s.bank b with
      seen := supplyClass mv, mismatches := 0, matchSince := some ((s.bank b).matchSince.getD s.clock) })) ∧
    (∀ (b : Fin 16) (mv : Nat), supplyClass mv ≠ s.bankWants b → (s.bank b).mismatches = 0 → exec (.bankSupplySample b mv) s =
      .next (s.setBank b { s.bank b with seen := supplyClass mv, mismatches := 1, matchSince := none })) ∧
    (∀ (b : Fin 16) (mv : Nat), supplyClass mv ≠ s.bankWants b → 1 ≤ (s.bank b).mismatches → (s.bank b).unpowered = false →
      exec (.bankSupplySample b mv) s = .next (((((s.setBank b { s.bank b with
        seen := supplyClass mv, mismatches := 2, matchSince := none, unpowered := true }).bump 0x6821 (b + 1)).levelSet 0x34 b true).report
          { source := 0x34, syndrome := b + supplyClass mv * 2 ^ 24 }))) ∧
    (∀ (b : Fin 16) (t : Nat), (s.bank b).matchSince = some t → (s.bank b).unpowered = true → ticksMs 10 + t ≤ s.clock →
      exec (.bankSupplyRestore b) s = .next (((s.setBank b { s.bank b with
        unpowered := false, pad := 0, sync1 := 0, sync2 := 0, filt := 0, since := s.clock, runs := [] }).levelSet 0x34 b false).report
          { source := 0x35, syndrome := b })) ∧
    (∀ (b : Fin 16) (pin : Fin 24) (level : Bool),
      let x := s.bank b
      x.unpowered = false → 0 < s.filtDelay b pin / 4 → x.sync2.getLsbD pin = level →
      s.filtDelay b pin / 4 + max x.since (tget 0 x.runs pin) ≤ s.clock →
      exec (.filterRunComplete b pin level) s = .next (s.setBank b { x with
        filt := if level then x.filt ||| 1#24 <<< pin.val else x.filt &&& ~~~(1#24 <<< pin.val) }))

/-- Ring time (R250, R254–R257, R262, R263): link delay is measured and its answers judged, the best dataset is announced, taken and
forgotten, SYNC is sent by the root and heard on the sync port, a silent port or reference is given up. Where it rests on the model's own
readings: log entries 48 and 49. -/
def Obligations.RingTimeIsKept : Prop :=
  ∀ (s t : State) (p : Port) (f : Frame),
    let x := s.port p
    (s.ringOn = true → s.linkLive p = true → (∀ a, x.pdelayAt = some a → s.pdelayEvery + a ≤ s.clock) →
      let u := if x.pdelay.any (fun r => ticksMs 1 + r.2.2 ≤ s.clock) then s.pdelayBad p else s
      exec (.pdelayTimer p) s = .next (State.timeFrame (u.setPort p { u.port p with pdelayAt := some s.clock }) p
        [1, portCode p, 0, 0, 0, 0, 0, 0] [])) ∧
    (∀ ago frac, s.takeLink p (isTime 1) = some (f, t) → exec (.pdelayReqReceived p ago frac) s = .next (t.timeFrame p
      [2, portCode p, f.hdr.seq / 256, f.hdr.seq, 0, 0, 0, 0] (wtBytes (t.time.wt - agoOf ago frac) ++ List.replicate 14 0))) ∧
    (∀ ago t1 at_ t2 t3, s.takeLink p (isTime 2) = some (f, t) → (t.port p).pdelay = some (specField f.hdr 22 2, t1, at_) →
      wtRead (f.payload.take 14) = some t2 → wtRead ((f.payload.drop 14).take 14) = some t3 →
      let d : Int := divNear (((t.time.wt - ago : Nat) : Int) - t1 - ((t3 : Int) - t2)) 2
      let l := (toQ8 d :: (t.port p).delays).take 8
      (d < 0 ∨ 100000 * (nsU : Int) < d ∨ ticksMs 1 + at_ + edgesOf ago < t.clock →
        exec (.pdelayRespReceived p ago) s = .next (t.pdelayBad p)) ∧
      (0 ≤ d → d ≤ 100000 * (nsU : Int) → t.clock ≤ ticksMs 1 + at_ + edgesOf ago →
        exec (.pdelayRespReceived p ago) s = .next ((t.setPort p { t.port p with
          delays := l, delayMeas := (t.port p).delayMeas + 1, pdelay := none }).setO 0x3032 (p.toNat + 1) 0 (ofSigned 32 (median l))))) ∧
    (∀ n t1 at_, x.pdelay = some (n, t1, at_) → ticksMs 1 + at_ ≤ s.clock →
      exec (.pdelayResponseTimeout p) s = .next ((s.setPort p { x with pdelay := none }).bump 0x3070 3)) ∧
    (s.ringOn = true → s.due s.ring.timeAnnAt (ticksMs 250) = true →
      let u := State.updateRoot { s with ring := { s.ring with timeAnnAt := some s.clock } }
      let d := u.bestData
      let st := if d.root = u.node then 0 else d.steps
      exec .timeAnnounceTimer s = .next (if st > u.o 0x2003 0 then u else [Port.a, Port.b].foldl (fun v q =>
        if v.linkLive q then v.timeFrame q [3, portCode q, st + 1, d.root, 0, 0, 0, 0] (dataBytes d) else v) u)) ∧
    (s.takeLink p (isTime 3) = some (f, t) → (dataOf f).root ≠ t.node → exec (.timeAnnounceReceived p) s =
      .next (t.setPort p { t.port p with
        rxData := (t.port p).rxData.filter (fun e => e.1.root ≠ (dataOf f).root) ++ [(dataOf f, t.clock)] }).updateRoot.rootHoldover) ∧
    exec (.datasetAgeOut p) s =
      .next (s.setPort p { x with rxData := x.rxData.filter (fun e => s.dataFresh e.1) }).updateRoot.rootHoldover ∧
    (s.ringOn = true → s.time.root = s.node → (∀ a, s.time.syncAt = some a → s.syncEvery + a ≤ s.clock) →
      exec .syncTimer s = .next ([Port.a, Port.b].foldl (fun v q =>
        if v.linkLive q then v.timeFrame q [0, portCode q, 0, v.node, 0, 0, 0, 0] (wtBytes v.time.wt) else v)
          { s with time := { s.time with syncAt := some s.clock } })) ∧
    (∀ ago frac origin, s.takeLink p (isTime 0) = some (f, t) → specField f.hdr 23 1 ≠ t.time.root → wtRead (f.payload.take 14) = some origin →
      exec (.syncReceived p ago frac) s = .next (t.bump 0x3070 2)) ∧
    (∀ origin ago frac, s.takeLink p (isTime 0) = some (f, t) → specField f.hdr 23 1 = t.time.root → t.time.root ≠ t.node →
      wtRead (f.payload.take 14) = some origin →
      let st := specField f.hdr 22 1
      let u := (t.setPort p { t.port p with lastSync := some (st, t.clock) }).updateSync
      let v := if u.ready p.other && st < u.o 0x2003 0 then u.timeFrame p.other
        [0, portCode p.other, st + 1, specField f.hdr 23 1, 0, 0, 0, 0] (f.payload.take 14) (some (f.hdr.residence, u.time.wt - agoOf ago frac)) else u
      exec (.syncReceived p ago frac) s = .next (if v.time.syncPort ≠ some p ∨ f.hdr.residence = 0x80000000 ∨ v.useOwn = true then v
        else (v.bump 0x3070 1).sample (((origin : Int) + (toSigned 32 f.hdr.residence + toSigned 32 (u.linkDelay p)) * 2 ^ 24)
          - ((u.time.wt - agoOf ago frac : Nat) : Int)) v.time.rootCls false)) ∧
    (∀ st at_, s.time.syncPort = some p → x.lastSync = some (st, at_) → at_ + s.syncPatience ≤ s.clock →
      exec .syncPortTimeout s = .next (s.setPort p { x with lastSync := none }).updateSync) ∧
    ((∀ a, s.time.lastSample = some a → s.samplePatience + a ≤ s.clock) →
      (s.time.status = .locked → exec .timeReferenceTimeout s = .next s.enterHoldover) ∧
      (s.time.status = .acquiring → exec .timeReferenceTimeout s = .next (s.setStatus .free))) ∧
    (s.time.status = .holdover → s.o 0x3022 3 < s.inaccuracy → exec .holdoverExpiry s = .next (s.setStatus .free))

/-- Time from outside and time outputs (R250, R251, R258, R260, R265, R269–R272, R275): TOD_SET steps a free hub, PPS and IRIG-B give
samples or are lost, a leap second changes UTC_OFFSET, station PTP messages are judged, PPS_OUT and the strobes follow their schedules,
targets freeze, markers enter every queue and TM_WT_SEC_LO latches its fields. Where it rests on the model's own readings: log entries 50,
51, 52, 107 and 109. -/
def Obligations.TimeSourcesAndOutputs : Prop :=
  ∀ s : State,
    (∀ (n : Fin 32) (sec : BitVec 48) (ns frac : W32), s.mayWrite n 4 0x3010 0 → ns.toNat < 1000000000 → s.time.status = .free →
      s.o 0x3020 1 = 0 → exec (.todSet n sec ns frac) s = .next (s.act n (.ok (s.stepTo (wtOf sec.toNat ns.toNat frac.toNat))))) ∧
    (∀ (n : Fin 32) (sec : BitVec 48), s.mayWrite n 6 0x3011 0 → s.o 0x3020 1 = 2 →
      exec (.ppsTod n sec) s = .next (s.act n (.ok { s with time := { s.time with tod := some (sec.toNat, s.clock) } }))) ∧
    (∀ ago w : Nat, s.o 0x3020 1 = 2 → s.o 0x3050 1 = 0 → s.time.status = .locked → s.time.pps = some w →
      let cap : Int := nsU * (((s.time.wt - ago) / nsU : Nat) - s.oi 0x3050 2)
      (100000 * nsU < (cap - w - (1000000000 * nsU : Nat)).natAbs → exec (.ppsInEdge true ago) s = .next (s.bump 0x3070 6)) ∧
      (∀ l, (cap - w - (1000000000 * nsU : Nat)).natAbs ≤ 100000 * nsU → s.time.tod = none → s.time.ppsLabel = some l →
        s.time.root = s.node → exec (.ppsInEdge true ago) s = .next (State.sample { s with time := { s.time with
          pps := some cap.toNat, ppsCap := cap.toNat / nsU % 2 ^ 32, ppsLabel := some (l + 1), ppsOkAt := some s.clock } }
          (((nsU * (1000000000 * (l + 1)) : Nat) : Int) - cap.toNat) 6 true))) ∧
    (750000000 + s.time.ppsOkAt.getD s.modes.resetEndAt ≤ s.clock → s.o 0x3020 1 = 1 ∨ s.o 0x3020 1 = 2 →
      exec .ppsSourceLoss s = .next (State.sourceLost { s with time := { s.time with pps := none, ppsLabel := none } })) ∧
    (s.o 0x3052 1 ≠ 0xFFFF → exec .irigFrameDecode s = .next (
      let t := s.irigGather 1024
      match irigFrame t.time.irig with
      | some (f, l) => State.irigJudge { t with time := { t.time with irig := l } } f
      | none => t)) ∧
    (750000000 + s.time.irigAt.getD s.modes.resetEndAt ≤ s.clock → s.o 0x3020 1 = 1 ∨ s.o 0x3020 1 = 3 →
      exec .irigSourceLoss s = .next (State.sourceLost { s with time := { s.time with irigPrev := none } })) ∧
    (∀ at_, s.time.leapAt = some at_ → at_ ≤ s.time.wt / nsU / 1000000000 → ∃ t : State, exec .leapSecond s = .next t ∧
      t.time = { s.time with leap := 0, leapAt := none } ∧ t.o 0x3013 0 = 0 ∧
      t.o 0x3012 0 = ofSigned 16 (s.oi 0x3012 0 + (if s.time.leap % 2 = 1 then 1 else -1))) ∧
    (∀ (port : Fin 2) (m : PtpMsg) (ago : Nat), s.o 0x3040 1 ≠ 0 → bitOf (s.o 0x3040 5) port = true → m.domain = s.o 0x3040 3 →
      let x := s.ptp port
      let t := s.time.wt - ago
      let corr : Int := m.correction * 2 ^ 16
      let origin : Int := (wtOf m.sec m.ns 0 : Nat)
      (m.kind = .delayReq ∨ 1000000000 ≤ m.ns → exec (.stationPtpMessage port m ago) s = .next (s.bump 0x3070 8)) ∧
      (m.ns < 1000000000 →
        (m.kind = .pdelayReq → exec (.stationPtpMessage port m ago) s = .next (s.ptpSend port 3 m.seq [t])) ∧
        (∀ l at_, m.kind = .sync → x.state = 9 → x.foreign = some (l, m.sender, at_) →
          exec (.stationPtpMessage port m ago) s = .next (if m.twoStep then s.setPtp port { x with sync := some (m.seq, t, corr) }
            else s.ptpSample (origin + corr + x.delay - t))) ∧
        (∀ t1, m.kind = .pdelayResp → x.pdelay = some (m.seq, t1) → exec (.stationPtpMessage port m ago) s =
          .next (if m.twoStep then s.setPtp port { x with resp := some (t, origin.toNat, corr) }
            else s.setPtp port { x with pdelay := none, delay := divNear ((t : Int) - t1 - corr) 2 })))) ∧
    (∀ port : Fin 2, s.o 0x3040 1 ≠ 0 → bitOf (s.o 0x3040 5) port = true →
      let x := s.ptp port
      let q := (x.seq + 1) % 65536
      let old := match x.foreign with | some (_, _, a) => decide (ticksMs 3000 + a ≤ s.clock) | none => false
      let t := s.setPtp port { x with seq := q, foreign := if old then none else x.foreign, data := if old then none else x.data }
      let u := (t.ptpSend port 2 q []).ptpDecide
      exec (.ptpMessageInterval port) s = .next (if (u.ptp port).state = 6
        then (u.ptpTlvs.1.ptpSend port 0xB q (u.ptpTlvs.1.ptpOwn ++ u.ptpTlvs.2)).ptpSend port 0 q [] else u)) ∧
    (ticksUs (s.o 0x3051 2) + s.time.ppsRise ≤ s.clock →
      exec (.ppsOutEdge false) s = .next { s with time := { s.time with ppsOut := false } }) ∧
    (s.ppsDueNow = true → ∃ t : State, exec (.ppsOutEdge true) s = .next t ∧
      t.time = { s.time with ppsOut := s.ppsMay, ppsOdd := s.time.ppsOdd && !s.ppsMay, ppsFrozen := none, ppsDue := false,
                             ppsRise := s.clock, ppsIdx := s.ppsCount (s.nsCount + 100000) } ∧
      ((s.time.ppsOdd && s.ppsMay) = false → t.od = s.od)) ∧
    (∀ k : Fin 8, s.o 0x3060 (k + 1) ≠ 0 →
      (∀ e l, tget [] s.time.strobeFrozen k = e :: l → e ≤ s.time.ltb → exec (.sampleStrobe k) s = .next (State.strobeFire
        { s with time := { s.time with strobeFrozen := tset [] s.time.strobeFrozen k l } } k)) ∧
      (tget [] s.time.strobeFrozen k = [] → s.time.wt ≤ 50 * nsU + s.strobeNext k → s.gridNear (s.strobeNext k) ≤ s.time.ltb →
        exec (.sampleStrobe k) s = .next (State.strobeFire
          { s with time := { s.time with strobeFrom := tset 0 s.time.strobeFrom k (s.strobeNext k + 1) } } k))) ∧
    (∀ (c : PendingCommit) (w : Nat), s.dict.pendingCommit = some c → c.at_ = .wt w → c.frozen = none → s.nearFreeze (s.gridAt w) = true →
      exec (.wtTargetFreeze .commit) s =
        .next { s with dict := { s.dict with pendingCommit := some { c with frozen := some (s.gridAt w) } } }) ∧
    (let e := s.gridAt (nsU * (1000000000 * (max s.time.ppsIdx (s.ppsCount s.nsCount) + 1) + s.oi 0x3051 1)).toNat
     s.time.ppsFrozen = none → s.nearFreeze e = true →
       exec (.wtTargetFreeze .ppsOut) s = .next { s with time := { s.time with ppsFrozen := some e } }) ∧
    (∀ k : Fin 8, s.o 0x3060 (k + 1) ≠ 0 → s.time.wt ≤ s.strobeNext k → s.nearFreeze (s.gridNear (s.strobeNext k)) = true →
      exec (.wtTargetFreeze (.strobe k)) s = .next { s with time := { s.time with
        strobeFrozen := tset [] s.time.strobeFrozen k (tget [] s.time.strobeFrozen k ++ [s.gridNear (s.strobeNext k)]),
        strobeFrom := tset 0 s.time.strobeFrom k (s.strobeNext k + 1) } }) ∧
    (s.nsCount / 2 ^ 31 ≠ s.time.markAt → exec .wrapMarker s = .next (State.markQueues
      { s with time := { s.time with markAt := s.nsCount / 2 ^ 31 } } false (2 ^ 31 * (s.nsCount / 2 ^ 31)))) ∧
    (∀ c : Ctx, s.reaches c = true → exec (.tmWtSecLoRead c) s = .next (State.reply (s.setCtx c { s.ctx c with
      wtSecHi := s.time.wt / nsU / 1000000000 % 2 ^ 48 / 2 ^ 32, wtNs := s.time.wt / nsU % 1000000000, wtFrac := s.time.wt % nsU }) c 4
      (s.time.wt / nsU / 1000000000 % 2 ^ 48 % 2 ^ 32)))

/-- Phase trackers and the calendar (R277, R280, R284–R288, R290, R291, R295, R297): an input without a stamp is ignored and counted, a
locked tracker without input is lost, crossings are reported, PH_TRK_PA latches its cycle; fields are written, entries armed, cancelled,
frozen and fired. Where it rests on the model's own readings: log entries 54 and 56. -/
def Obligations.TrackersAndCalendar : Prop :=
  ∀ s : State,
    (∀ (k : Fin 4) (i : TrkInput) (m : Nat) (rest : List Item), s.o (0x3400 + k) 1 ≠ 0 →
      tapNext (s.o (0x3400 + k) 1) (s.trk k).seen = some (none, m, rest) → exec (.trackerInput k i) s =
      .next ((s.setTrk k { s.trk k with seen := rest }).bump (0x3420 + k) 9)) ∧
    (∀ (k : Fin 4) (i : TrkInput) (st m : Nat) (rest : List Item), s.o (0x3400 + k) 1 = 2 →
      tapNext 2 (s.trk k).seen = some (some st, m, rest) → (s.trk k).lastIn = none → (s.trk k).st = 1 →
      s.trkGood k i = false → ∃ t : State, exec (.trackerInput k i) s = .next t ∧ (t.trk k).st = 1 ∧ (t.trk k).amp = i.amp.toNat ∧
        (t.trk k).seen = rest ∧ (t.trk k).goodSince = none ∧ (t.trk k).lastIn = some (s.inputAt k st) ∧ t = { s with phase := t.phase }) ∧
    (∀ k : Fin 4, s.trkPatience k ≤ s.ltbNs - (s.trk k).lastAt →
      exec (.trackerInputTimeout k) s = .next ((s.setTrk k { s.trk k with goodSince := none, goodN := 0 }).trkLose k 1)) ∧
    (∀ (k : Fin 4) (c : Nat),
      let x := s.trk k
      let m := (s.phaseNow k + s.angleOff k) / turn
      let t := s.setTrk k { x with crossed := m }
      s.trkState k = 2 → x.crossed < m → t.telemetryChan (0x20 + k) = some c →
      exec (.trackerCrossingTelemetry k) s = .next (t.telemetryPut c (withEop (stampItems
        (s.stOfEdge (edgeSearch x 0 (m * turn - s.angleOff k) 49 (x.tn.toNat / 4))) ++
        [dataItem (m % 2 ^ 24).toNat, dataItem ((x.f : Int) + x.r * (s.ltbNs - x.tn) * 32 / 1000000000).toNat,
          dataItem (ofSigned 24 x.r)])))) ∧
    (∀ (c : Ctx) (k : Fin 4), s.reaches c = true → exec (.phTrkPaRead c k) s =
      .next (State.reply (s.setCtx c { s.ctx c with trkCy := tset 0 (s.ctx c).trkCy k (s.cy24 k) }) c 4 (s.pa24 k))) ∧
    (∀ (n : Fin 32) (st32 : Bool), exec (.convTargetRead n st32) s = .next (s.answerRead n (match s.convTarget n with
      | .ok e => .ok (if st32 then beBytes 4 (s.stOfEdge e) else wtBytes (s.wtOfEdge e))
      | .error c => .abort c))) ∧
    (∀ (c : Ctx) (field : Fin 8) (v : W32), s.reaches c = true → (∀ n, c = .session n → s.mayWrite n 6 0x3601 (field + 1)) →
      ((∀ n, c ≠ .session n) → v.toNat < 2 ^ (calFieldPlace field).1) →
      let i := s.calSelected c
      (s.calService i = false → calLive (s.cal i) = false → calBadValue field v.toNat = false →
        exec (.calFieldWrite c field v) s = .next (s.calReply c (.ok (s.setCal i (calPut (s.cal i) field v.toNat))))) ∧
      (s.calService i = false → calLive (s.cal i) = true → calBadValue field v.toNat = false →
        exec (.calFieldWrite c field v) s = .next (s.calReply c (.error Abort.busyRetry)))) ∧
    (∀ c : Ctx, s.reaches c = true → (∀ n, c = .session n → s.mayWrite n 6 0x3602 0) →
      let i := s.calSelected c
      let x := s.cal i
      let p := s.phiTarget x.trk x.cycle x.angle
      (s.calService i = false → s.calRefused i x p false = none →
        exec (.calArm c) s = .next ((s.calSetArmed i x p).calReply c (.ok ((s.calSetArmed i x p).calMirror i true)))) ∧
      (∀ e, s.calService i = false → s.calRefused i x p false = some e →
        exec (.calArm c) s = .next ((s.bump 0x3501 5).calReply c (.error e))) ∧
      (s.calService i = false → calLive x = true → s.time.ltb < x.fire →
        exec (.calCancel c) s = .next (s.calReply c (.ok ((s.calEnd 5 5 i).calMirror i false)))) ∧
      (s.calService i = false → x.fire ≤ s.time.ltb → exec (.calCancel c) s = .next (s.calReply c (.error Abort.busyRetry)))) ∧
    (∀ i : Fin 1024,
      let x := s.cal i
      (x.st = 1 → x.fire ≤ s.time.ltb + s.horizon → s.trkState x.trk = 2 →
        exec (.calFreeze i) s = .next (s.setCal i { x with st := 2 })) ∧
      (x.st = 1 → x.fire ≤ s.time.ltb + s.horizon → s.trkState x.trk ≠ 2 → exec (.calFreeze i) s = .next (s.calEnd 4 1 i)) ∧
      (x.st = 2 → x.fire ≤ s.time.ltb → x.action = 1 → exec (.calFire i) s = .next (s.calRelease i x)) ∧
      (x.st = 2 → x.fire ≤ s.time.ltb → x.action = 3 → x.repeat_ = 0 → exec (.calFire i) s =
        .next (((s.emit (.event .calendar x.fireSt [i, x.tag, x.operand])).setCal i { x with st := 3 }).bump 0x3501 2)) ∧
      (x.st = 2 → x.fire ≤ s.time.ltb + 4 → x.action = 2 → x.repeat_ = 0 → exec (.calFire i) s =
        .next (((s.lockStart (x.operand % 64)).setCal i { x with st := 3 }).bump 0x3501 2)))

/-- Sampled values and GOOSE (R302–R310, R312): sample packets enter blocks, whole blocks go out, frames are judged by every subscription
they match, silent subscriptions expire, repeats are sent and signal updates applied. Where it rests on the model's own readings: log
entries 57, 58 and 59. -/
def Obligations.StationStreams : Prop :=
  ∀ s : State, s.stationRuns = true →
    (∀ (n : Fin 32) (c : Nat) (l : List Item) (t : State), s.svcUp (0x100 + n) = true → s.epIn n = some c → s.epPacket c = some (l, t) →
      stampPair l = none → exec (.svSamplePacket n) s = .next (t.bump 0x3813 2 n)) ∧
    (∀ (n : Fin 32) (c g st : Nat) (l r : List Item) (t : State), s.svcUp (0x100 + n) = true → s.epIn n = some c →
      s.epPacket c = some (l, t) → stampPair l = some (st, r) → t.svMatch n (rebuildCount st t.nsCount) = some g →
      let vals := ((r.filter (fun i => i.kind = 0)).take (t.o 0x3811 9 n)).map (fun i => i.data.toInt)
      t.o 0x3811 9 n ≤ vals.length → exec (.svSamplePacket n) s = .next (t.svEnter n g (some vals))) ∧
    (∀ (n : Fin 32) (g : Nat), s.svcUp (0x100 + n) = true → s.svGap n = some g → 50000 + s.svInstant n g ≤ s.nsCount →
      exec (.svSampleMissing n) s = .next (s.svEnter n g none)) ∧
    (∀ (n : Fin 32) (b : Nat), s.svcUp (0x100 + n) = true → s.svGap n = none → (s.svPub n).block = some b → s.stationSends = false →
      exec (.svFrameSend n) s = .next (s.setSvPub n { s.svPub n with
        block := some (b + 1), got := (s.svPub n).got.filter (fun p => p.1 ≥ (b + 1) * s.svAsdus n) })) ∧
    (∀ (n : Fin 32) (b : Nat), s.svcUp (0x100 + n) = true → s.svGap n = none → (s.svPub n).block = some b → s.stationSends = true →
      let a := s.svAsdus n
      let gs := (List.range a).map (fun k => b * a + k)
      let y := { s.svPub n with block := some (b + 1), got := (s.svPub n).got.filter (fun p => p.1 ≥ (b + 1) * a) }
      let r := (s.setSvPub n { y with keyFault := false }).streamSign 0x3811 12 n
      (s.streamKey 0x3811 12 n = true → exec (.svFrameSend n) s = .next (((r.1.stationOut 0x88BA (r.1.o 0x3811 2 n) n (r.1.o 0x3811 5 n)
        (gs.flatMap (fun g => r.1.svAsdu n g (tget none (s.svPub n).got g)) ++ r.2)).bump 0x3813 1 n).bumpBy 0x3813 4 n
          ((gs.filter (fun g => (tget none (s.svPub n).got g).isNone)).length))) ∧
      (s.streamKey 0x3811 12 n = false → (s.svPub n).keyFault = false → exec (.svFrameSend n) s =
        .next ((s.setSvPub n { y with keyFault := true }).report { source := 0x74, syndrome := streamName 0x3811 n }))) ∧
    (∀ (port : Fin 2) (f : SvFrame), s.o 0x7840 (port + 1) ≠ 0 → exec (.svFrameReceived port f) s = .next ((List.range 64).foldl (fun t n =>
      if t.svcUp (0x140 + n) && bitOf (t.o 0x3821 2 n) port && f.dest = t.o 0x3821 3 n && f.appid = t.o 0x3821 4 n
        && f.svid = t.ob 0x3821 6 n then t.svJudge f n else t) s)) ∧
    (∀ n : Fin 64, (s.svSub n).state = 1 → s.svcUp (0x140 + n) = true →
      250000000 * (3 * s.o 0x3821 8 n) ≤ (s.clock - (s.svSub n).last) * s.o 0x3821 7 n → exec (.svSubscriptionExpiry n) s =
      .next (((s.setSvSub n { s.svSub n with state := 2, expected := none }).bump 0x3823 5 n).event .sv [n, 2])) ∧
    (∀ (n : Fin 32) (c st : Nat) (l r : List Item) (t : State), s.svcUp 0 = true → s.epIn (0x60 + n) = some c → s.epPacket c = some (l, t) →
      stampPair l = some (st, r) →
      let u := (sigParse r).1
      let k := (t.bumpBy 0x3862 1 0 (sigParse r).2).bumpBy 0x3862 2 0 (u.filter (fun x => t.sigSubscribed x.n)).length
      exec (.signalUpdatePacket n) s = .next (k.sigApply st (u.filter (fun x => !k.sigSubscribed x.n)))) ∧
    (∀ n : Fin 128, s.svcUp (0x200 + n) = true →
      let x := s.goosePub n
      let iv := min (2 * x.interval) (s.o 0x3841 11 n)
      (x.stNum = 0 → exec (.gooseRepeat n) s = .next (s.gooseNew n s.nsCount)) ∧
      (x.stNum ≠ 0 → x.nextAt ≤ s.clock → exec (.gooseRepeat n) s = .next ((s.setGoosePub n { x with
        sqNum := gooseNext x.sqNum, interval := iv, nextAt := ticksMs iv + s.clock }).gooseSend n))) ∧
    (∀ (port : Fin 2) (f : GooseFrame), s.o 0x7840 (port + 1) ≠ 0 → exec (.gooseFrameReceived port f) s = .next ((List.range 256).foldl (fun t n =>
      if t.svcUp (0x300 + n) && bitOf (t.o 0x3851 2 n) port && f.dest = t.o 0x3851 3 n && f.appid = t.o 0x3851 4 n
        && f.gocbRef = t.ob 0x3851 6 n then t.gooseJudge f n else t) s)) ∧
    (∀ n : Fin 256, (s.gooseSub n).state = 1 → s.svcUp (0x300 + n) = true → ticksMs (s.gooseSub n).tal + (s.gooseSub n).since ≤ s.clock →
      let t := ((s.setGooseSub n { s.gooseSub n with state := 2 }).bump 0x3853 4 n).event .goose [n, 2]
      exec (.gooseTalExpiry n) s = .next (t.sigApply t.st32 (((t.gooseMembers 0x3851 n).filter (fun m => !bitOf m 12)).map
        (fun m => { n := m % 4096, value := (t.sigOf (m % 4096)).value, quality := 1 }))))

/-- The log and controlled switching (R313–R323): a stamped code is judged, a stamp without its code gives a provisional record, chatter
ends, LOG_READ advances; a breaker takes a close, an open or an abort, contacts are recorded and a missing one ends the operation. Where it
rests on the model's own readings: log entries 60, 61, 62 and 63. -/
def Obligations.LogAndSwitching : Prop :=
  ∀ s : State,
    (∀ (n : Fin 48) (c st : Nat) (a : Item) (l : List Item), s.soeEnters = true → s.epIn (0xA0 + n) = some c →
      (s.soeStamp n c).epItems c = a :: l → ((s.soeStamp n c).soeIn n).stamp = some st → a.kind = 3 → a.eop = true →
      let t := s.soeStamp n c
      let u := (((t.epTake c [a]).setSoeIn n {}).soeRead n 1).setSoeOld n false
      exec (.soePacket n) s = .next (u.soeJudge n c st a.data.toNat (t.soeIn n).provisional (t.soeOld n)).logHoldEnd) ∧
    (∀ (n : Fin 48) (c st : Nat), s.soeEnters = true → s.epIn (0xA0 + n) = some c →
      let t := s.soeStamp n c
      (t.soeIn n).stamp = some st → (t.soeIn n).provisional = none → 900000000 ≤ serialDist 32 t.st32 st →
      t.station.log.hold = none ∨ t.soeOld n = true → ∃ r : LogRec, r.typ = 2 ∧ r.edge = st ∧ r.chan = c ∧
        exec (.soeProvisional n) s = .next ((((t.drew.logPut (t.soeOld n) r).setSoeIn n { t.soeIn n with
          provisional := some (match t.station.log.replay with | q :: _ => q | [] => t.station.log.next) }).bump 0x3905 2).setSoeOld
            n false).logHoldEnd) ∧
    (∀ p : Fin 4096, s.soeEnters = true → (s.chatter p).on = true → ticksMs (s.o 0x3901 2) + (s.chatter p).winStart ≤ s.clock →
      s.o 0x3901 1 ≤ 2 * (s.chatter p).winCount →
      exec (.soeChatterEnd p) s = .next (s.setChatter p { s.chatter p with winStart := s.clock, winCount := 0 })) ∧
    (∀ p : Fin 4096, s.soeEnters = true → (s.chatter p).on = true → ticksMs (s.o 0x3901 2) + (s.chatter p).winStart ≤ s.clock →
      2 * (s.chatter p).winCount < s.o 0x3901 1 → ∃ r : LogRec, r.typ = 5 ∧ r.point = p ∧
        exec (.soeChatterEnd p) s = .next ((s.drew.logEnter r).setChatter p { fall := (s.chatter p).fall })) ∧
    (∀ n : Fin 32, (s.session n).isOpen = true →
      exec (.logRead n) s = .next ((s.logReadOut n).2.answerRead n (.ok (s.logReadOut n).1))) ∧
    (∀ n : Fin 32, s.mayWrite n 6 0x3A06 1 →
      let b := s.cswSel n
      (s.cswMay b = true → (s.brk b).kind = 0 →
        exec (.cswClose n) s = .next ((s.cswBegin b 1).answer n (.ok [])) ∧ exec (.cswOpen n) s = .next ((s.cswBegin b 2).answer n (.ok []))) ∧
      (s.cswMay b = true → (s.brk b).kind ≠ 0 → exec (.cswClose n) s = .next (s.answer n (.abort Abort.busyRetry)) ∧
        exec (.cswOpen n) s = .next (s.answer n (.abort Abort.busyRetry))) ∧
      (s.cswMay b = false → exec (.cswClose n) s = .next (s.answer n (.abort Abort.notInThisMode)) ∧
        exec (.cswOpen n) s = .next (s.answer n (.abort Abort.notInThisMode))) ∧
      exec (.cswAbort n) s = .next ((s.cswAbort b).answer n (.ok []))) ∧
    (∀ (b : Fin 8) (p : Fin 3) (c st : Nat) (l : List Item) (i : Item) (t : State), s.svcUp (0x480 + b) = true →
      s.epIn (0xE8 + 3 * b + p) = some c → s.epPacket c = some (l, t) → stampPair l = some (st, [i]) → (s.brk b).kind ≠ 0 →
      i.kind = 3 → i.data.toNat = 0xC0 + (s.brk b).kind → exec (.cswContact b p) s = .next (t.cswContact b p st)) ∧
    (∀ b : Fin 8, (s.brk b).kind ≠ 0 → (s.brk b).poles.any (fun q => match q.fired, q.contact with
        | some (f, _), none => (((s.clock - f) * 4 : Nat) : Int) > 2 * q.t
        | _, _ => false) = true →
      exec (.cswNoContact b) s = .next (((s.cswCancel b).setBrk b { (s.cswCancel b).brk b with result := 6 }).cswFinish b))

/-- The cores and the trace (R331, R336, R337, R339–R348, R351): load windows, hinge points and their copies, traps and restarts; trace
messages enter, drain and are counted when dropped. Where it rests on the model's own readings: log entries 67, 68 and 69. -/
def Obligations.CoresAndTrace : Prop :=
  ∀ s : State,
    (∀ (k : Fin 16) (load load1s : Nat), (s.coreSt k).state = 0 → (∀ a, (s.coreSt k).winAt = some a → ticksMs 10 + a ≤ s.clock) →
      load ≤ 1000 →
      (load ≤ s.o 0x4004 0 → exec (.coreLoadWindow k load load1s []) s = .next (s.setCoreSt k { s.coreSt k with
        load10 := load, load1s := min load1s 1000, peak := max (s.coreSt k).peak load, winAt := some s.clock })) ∧
      (s.o 0x4004 0 < load → ∃ t : State, exec (.coreLoadWindow k load load1s []) s =
        .next (t.report { source := 0x51, syndrome := load / 4 * 2 ^ 24 + k }))) ∧
    (∀ svc : Fin 1282, s.svcUp svc = true → s.modes.mode ≠ .standby → s.modes.mode ≠ .handover →
      exec (.hingePoint svc) s = .next (s.hingeMove svc)) ∧
    (∀ svc : Fin 1282, s.svcUp svc = true → s.modes.mode = .standby → exec (.hingePoint svc) s = .next ((s.adopt svc).hinge svc)) ∧
    (∀ (svc : Fin 1282) (w : Swap), s.svcUp svc = true → s.modes.mode = .handover → s.pair.swap = some w → exec (.hingePoint svc) s =
      .next (if w.mine && w.released.isNone then s.swapQuiesce svc w else if w.mine then s.hinge svc else (s.adopt svc).hinge svc)) ∧
    (∀ (svc : Fin 1282) (h : Hinge), (s.svc svc).tcm = some h →
      exec (.hingeCopyDone svc) s = .next ((s.hingeCopy svc).mirror (.hinge svc h))) ∧
    (∀ (k : Fin 16) (cause : Fin 9) (svc : Fin 1282) (pc : W24), cause.val ≠ 0 → (s.coreSt k).state = 0 →
      let t := (State.setCoreSt (s.coSquash k) k { (s.coSquash k).coreSt k with cause := cause }).bump 0x4001 7 k
      let l := if cause.val = 3 then t.lockstep k else (t, false)
      let r := l.1.svcRestarts (l.1.trapped k cause svc) cause (cause.val = 4 || l.2)
      let q := if l.2 then (r.1.candidate { macro_ := 0x500 + k }).coreRetire k 2 else (r.1, [])
      exec (.coreTrap k cause svc pc) s = .next ((q.1.report
        { source := 0x50, syndrome := cause * 2 ^ 24 + svc, address := k * 2 ^ 32 + pc.toNat }).reports (r.2 ++ q.2))) ∧
    (∀ svc : Fin 1282, s.svcUp svc = true → ticksUs (4 * hingeMaxOf svc) + (s.svc svc).hingeAt ≤ s.clock →
      exec (.hingeOverdue svc) s = .next (s.coreTrap (s.svc svc).core 7 svc (s.freeNat 24)).drew) ∧
    (∀ svc : Fin 1282, (s.svc svc).state = 3 → exec (.instanceRestartDone svc) s = .next (s.svcResume svc)) ∧
    (∀ n : Fin 32, s.mayWrite n 6 0x4011 9 →
      exec (.svcRestartCmd n) s = .next ((s.svcCmdRestart (s.svcSel n)).answer n (.ok [])) ∧
      exec (.svcClearCounters n) s = .next ((s.setO 0x4011 7 (s.svcSel n) 0).answer n (.ok []))) ∧
    (∀ (typ k : Fin 16) (stamp : W32) (payload : List W32), coreTrace typ = true → (s.coreSt k).state = 0 →
      (2 ^ 32 + s.st32 - stamp.toNat) % 2 ^ 32 ≤ 1000000000 →
      let p := (payload.take 255).map (fun w : W32 => w.toNat)
      let level := match p with | w :: _ => w / 2 ^ 14 % 4 | [] => 0
      let code := match p with | w :: _ => w % 2 ^ 14 | [] => 0
      (typ.val = 0 → level > s.o 0x4020 4 ∨ code = 0 ∨ (9 < code ∧ code ≤ 0xFF) →
        exec (.traceMessage typ k stamp payload) s = .next s) ∧
      (typ.val = 0 → level ≤ s.o 0x4020 4 → (1 ≤ code ∧ code ≤ 9) ∨ 0xFF < code →
        exec (.traceMessage typ k stamp payload) s = .next (s.traceIn typ k stamp.toNat p)) ∧
      (typ.val ≠ 0 → (typ.val = 4 ∨ typ.val = 5 → s.o 0x4020 2 ≠ 0) →
        exec (.traceMessage typ k stamp payload) s = .next (s.traceIn typ k stamp.toNat p))) ∧
    (∀ (m : TraceMsg) (l : List TraceMsg), s.cores.buf = m :: l → s.o 0x4020 1 ≠ 0 → s.modes.mode ≠ .doze →
      let t : State := { s with cores := { s.cores with buf := l } }
      let u := if bitOf (s.o 0x4020 1) 0 then (traceWords m).foldl State.traceWord t else t
      exec .traceDrain s = .next (if bitOf (s.o 0x4020 1) 1 then (traceWords m).foldl State.portWord u else u)) ∧
    (∀ c : Ctx, s.reaches c = true → exec (.scTraceDropRead c) s = .next (State.reply { s with cores := { s.cores with rcMsg := 0, rcFlow := 0 } } c 4
      (s.cores.rcMsg * 2 ^ 16 + s.cores.rcFlow)))


/-- CAN frames (R353, R358–R365, R370, R377): a packet becomes a frame, the head completes or loses the bus, an abort is judged, a received
frame goes to its session, its filter's channel or nowhere, waiting frames drain, and the hit registers are read. Where it rests on the
model's own readings: log entries 66, 67 and 106. -/
def Obligations.CanFramesPass : Prop :=
  ∀ (s : State) (k : Fin 8),
    let x := s.ctl k
    (∀ (c : Nat) (i : Item) (p : List Item), s.canEnabled k = true → canBusMode s.modes.mode = true → x.queue.length < s.o 0x7002 1 k →
      s.canTxChan k = some c → packetItems (s.epItems c) = i :: p → ((i :: p).getLast?.any (·.eop)) = true →
      exec (.canTxPacket k) s = .next (((i :: p).foldl (fun u j => u.chanPop c j) s).canPlace k (i :: p))) ∧
    (s.canOn k = true →
      let y := { x with tec := x.tec - 1, state := canErrState (x.tec - 1) x.rec_ }
      (∀ (tdcv : Option (Fin 128)) (e : CanEntry) (q : List CanEntry), x.ref = none → x.exclusive = none → x.queue = e :: q →
        x.aborting = false → s.headOffered k = true → s.tdcMeasured k e.frame tdcv = none →
        exec (.canTxComplete k tdcv) s = .next ((((s.setCtl k { y with queue := q }).emit
          (.can k (beBytes 4 e.frame.id.toNat ++ e.frame.data))).canCount k 1).canDone k)) ∧
      (∀ (tdcv : Option (Fin 128)) (f : CanFrame), x.ref = none → x.exclusive = some f → s.tdcMeasured k f tdcv = none →
        exec (.canTxComplete k tdcv) s = .next ((((s.setCtl k { y with exclusive := none }).emit
          (.can k (beBytes 4 f.id.toNat ++ f.data))).canEnded k).canCount k 1)) ∧
      (∀ (tdcv : Option (Fin 128)) (f : CanFrame) (v : Nat), s.canSending k = some f → s.tdcMeasured k f tdcv = some v →
        v + s.o 0x7001 12 k ≤ 127 → exec (.canTxComplete k tdcv) s =
        .next (((if tdcv.isNone then s.drew else s).setCtl k { x with tdcv := v }).canSent k)) ∧
      (∀ (tdcv : Option (Fin 128)) (c m : Nat) (b : List Byte), x.ref = some (c, m, b) → exec (.canTxComplete k tdcv) s =
        .next ((((s.setCtl k (newMark { y with
          ref := none, master := true, prio := refPrio (s.o 0x7030 2 k), disc := false, tt := 3 } c m)).emit
          (.can k b)).canEnded k).canCount k 1)) ∧
      (∀ (e : CanEntry) (q : List CanEntry), x.ref = none → x.exclusive = none → x.queue = e :: q →
        (x.aborting = false → exec (.canTxLost k) s = .next (s.canDone k)) ∧
        (x.aborting = true → exec (.canTxLost k) s =
          .next (((s.setCtl k (canOutcome { x with queue := q } x.abortOne 2 e.seq)).noteAbort k x.abortOne).canDone k))) ∧
      (∀ f : CanFrame, x.ref = none → x.exclusive = some f →
        exec (.canTxLost k) s = .next (((s.setCtl k { x with exclusive := none }).canEnded k).canCount k 13)) ∧
      (∀ r, x.ref = some r → exec (.canTxLost k) s = .next (s.setCtl k { x with ref := none, master := false }))) ∧
    (∀ onBus : Bool, exec (.canAbortAll k onBus) s = .next (s.canAbort k false onBus (fun _ => true))) ∧
    (∀ (seq : Byte) (onBus : Bool), exec (.canAbortSeq k seq onBus) s = .next (s.canAbort k true onBus (fun e => e.seq = seq.toNat))) ∧
    (s.setNow (W1c.abort k) = false →
      exec (.canAbortClear k) s = .next (s.setCtl k { x with abortValid := false, abort := (0, 0) })) ∧
    (∀ (f : CanFrame) (ago : Nat), s.canOn k = true → canBusMode s.modes.mode = true →
      let r := if x.rec_ > 127 then 119 + s.freeNat 4 % 9 else x.rec_ - 1
      let t := ((s.drew.setCtl k { x with rec_ := r, state := canErrState x.tec r }).canEnded k).canCount k 2
      (∀ base n, t.canNode k f = some (base, n) → exec (.canFrameReceived k f ago) s = .next (t.canSessionIn k base n f)) ∧
      (t.canNode k f = none → (List.range 32).find? (t.canMatches k f) = none →
        exec (.canFrameReceived k f ago) s = .next (t.canCount k 3)) ∧
      (∀ i, t.canNode k f = none → (List.range 32).find? (t.canMatches k f) = some i →
        (t.o 0x7020 (i + 1) k / 2 ^ 62 = 2 → exec (.canFrameReceived k f ago) s = .next (t.canCount k 3)) ∧
        (t.o 0x7020 (i + 1) k / 2 ^ 62 ≠ 2 →
          let u := t.setCtl k { t.ctl k with
            hits := tset 0 (t.ctl k).hits i (tget 0 (t.ctl k).hits i + 1)
            seen := (List.range 64).foldl (fun m j => tset false m (j * 32 + i) true) (t.ctl k).seen }
          exec (.canFrameReceived k f ago) s = .next (u.canDeliver k i (canPacket f i (u.canStamp ago)))))) ∧
    (∀ (i c : Nat) (l : List Item), s.canDrainable k [] x.rx = some (i, l) → s.canRxChan k i = some c →
      exec (.canRxBufferDrain k) s = .next ((s.setCtl k { x with rx := x.rx.eraseP (fun r => r.1 = i) }).chanWriteAll c l).1) ∧
    (∀ (c : Ctx) (f : Fin 32), s.reaches c = true →
      let y := s.ctl (s.ctx c).canSel
      exec (.canFhitRead c f) s = .next ((s.setCtl (s.ctx c).canSel { y with hits := tset 0 y.hits f 0 }).reply c 4 (tget 0 y.hits f)))

/-- CAN errors, wake and the schedule (R366, R368–R370, R372–R375): an error raises its counter and may take the controller off the bus,
bus-off ends, detectors wake a dozing hub, 11 recessive bits join the bus; references, triggers and the guard move the schedule. Where it
rests on the model's own readings: log entries 64, 65 and 105. -/
def Obligations.CanErrorsWakeAndSchedule : Prop :=
  ∀ (s : State) (k : Fin 8),
    let x := s.ctl k
    (∀ dom : Bool, s.canOn k = true → x.rec_ + 8 ≤ 127 → x.tec ≤ 127 → exec (.canBusError k false dom) s =
      .next (((s.setCtl k { x with rec_ := x.rec_ + (if dom then 8 else 1), state := 2 }).canCount k 8).canEnded k)) ∧
    (∀ dom : Bool, s.canOn k = true → x.tec + 8 ≤ 127 → x.rec_ ≤ 127 → exec (.canBusError k true dom) s =
      .next (((s.setCtl k { x with tec := x.tec + 8, state := 2 }).canCount k 8).canNotSent k 3)) ∧
    (∀ dom : Bool, s.canOn k = true → 255 < x.tec + 8 → ∃ t : State, exec (.canBusError k true dom) s =
      .next ((t.canCount k 9).report { source := 0x61, syndrome := k }) ∧ (t.ctl k).state = 4) ∧
    (x.state = 4 → canBusMode s.modes.mode = true → s.o 0x7002 2 k = 1 ∨ x.restart = true → exec (.canBusoffRecovery k) s =
      .next (s.setCtl k { x with state := 2, tec := 0, rec_ := 0, restart := false })) ∧
    (x.state = 4 → exec (.canBusoffRestart k) s = .next (s.setCtl k { x with restart := true })) ∧
    (x.tt = 4 → exec (.canLeaveHalted k) s = .next (s.setCtl k { x with tt := 1, level := 0, lastRef := none })) ∧
    (s.modes.mode = .doze → bitOf (s.o 0x1131 0) k = true → s.canEnabled k = true →
      (∀ ns, s.o 0x7003 1 k = 0 → exec (.canWake k (.low ns)) s = .next (if ns ≥ s.o 0x7003 2 k then s.canWoken k 1 0 else s)) ∧
      (∀ d1 r d2 total, s.o 0x7003 1 k = 1 → s.o 0x7003 2 k ≤ d1 → s.o 0x7003 2 k ≤ r → s.o 0x7003 2 k ≤ d2 →
        total ≤ 1000 * s.o 0x7003 3 k → exec (.canWake k (.pattern d1 r d2 total)) s = .next (s.canWoken k 2 0)) ∧
      (∀ f : CanFrame, s.o 0x7003 1 k = 2 → f.fdf = false → f.rtr = false → s.o 0x7003 7 k = 0 → f.dlc.val = 0 →
        (f.id.toNat ^^^ s.o 0x7003 4 k) &&& s.o 0x7003 5 k = 0 → f.ide = decide (s.o 0x7003 6 k = 1) →
        exec (.canWake k (.frame f true)) s =
          .next ((s.setCtl k { x with wufErrors := x.wufErrors - 1 }).canWoken k 3 f.id.toNat))) ∧
    (x.state = 1 → canBusMode s.modes.mode = true → exec (.canIntegrationDone k) s =
      .next (s.setCtl k { x with state := canErrState x.tec x.rec_, wufErrors := 0 })) ∧
    (∀ n c, s.ttMode k = 2 → canSendMode s.modes.mode = true → s.ttOn k = true → s.ttInstant k = some (n, c) → x.refIdx ≠ n + 1 →
      exec (.ttReferenceSend k) s = .next (s.drew.setCtl k { x with
        ref := some (c, s.clock, refBytes (s.o 0x7030 2 k) c x.disc (s.freeNat 16) s.st32), refIdx := n + 1 })) ∧
    (∀ (r : TtRef) (ago : Nat), s.ttOn k = true →
      let mark := s.clock - ago / 2 ^ 34
      let y := { x with master := false, ref := none, prio := r.prio, refSt := match r.st with | some w => w.toNat | none => x.refSt, cycle := r.cycle.val,
                        markAt := mark, acted := [] }
      (r.disc = true → exec (.ttReferenceReceived k r ago) s = .next (s.setCtl k { y with tt := 1, lastRef := none })) ∧
      (r.disc = false → x.lastRef = none → x.tt ≠ 3 → exec (.ttReferenceReceived k r ago) s =
        .next (s.setCtl k { y with tt := 2, lastRef := some (r.cycle, mark, r.mark) })) ∧
      (∀ c m g, r.disc = false → x.lastRef = some (c, m, g) → r.cycle.val = (c + 1) % max 1 (s.o 0x7030 5 k) → m < mark →
        exec (.ttReferenceReceived k r ago) s = .next (s.setCtl k { y with
          tt := 3, lastRef := some (r.cycle, mark, r.mark)
          tur := (65536 + r.mark - g % 65536) % 65536 * s.o 0x7030 3 k * 2 ^ 24 / ((mark - m) * 4) % 2 ^ 32 }))) ∧
    (∀ t : Fin 64, s.ttOn k = true →
      let v := s.o 0x7031 (t + 1) k
      let n := (s.ttTime k).1
      let y := { x with window := none, begun := x.begun || s.canWindow k, acted := (n, t.val) :: x.acted }
      ttActive v ((x.cycle + n) % max 1 (s.o 0x7030 5 k)) = true → (s.ttTime k).2 = v % 65536 → (n, t.val) ∉ x.acted →
      (v / 2 ^ 29 = 1 → x.tt = 3 → canSendMode s.modes.mode = true → x.bufs.find? (fun b => b.1 = v / 2 ^ 25 % 16) = none →
        exec (.ttTrigger k t) s = .next ((s.setCtl k y).canCount k 13)) ∧
      (∀ i f, v / 2 ^ 29 = 1 → x.tt = 3 → canSendMode s.modes.mode = true → x.bufs.find? (fun b => b.1 = v / 2 ^ 25 % 16) = some (i, f) →
        exec (.ttTrigger k t) s = .next ((s.setCtl k y).setCtl k { y with exclusive := some f })) ∧
      (v / 2 ^ 29 = 2 → 2 ≤ x.tt → exec (.ttTrigger k t) s = .next ((s.setCtl k y).setCtl k { y with window := some s.clock })) ∧
      (v / 2 ^ 29 = 3 → x.tt = 3 → tget false x.seen (t.val * 32 + v / 2 ^ 25 % 16) = false → exec (.ttTrigger k t) s =
        .next (State.ttError ((s.setCtl k y).setCtl k { y with seen := tset false x.seen (t.val * 32 + v / 2 ^ 25 % 16) false }) k))) ∧
    (s.ttMode k ≠ 0 → x.master = false → 2 ≤ x.tt → x.tt ≠ 4 → s.ttDrifts k (s.o 0x7030 7 k - 1) = true →
      exec (.ttGuardExceeded k) s = .next (s.setCtl k { x with tt := 1, lastRef := none }))


/-- The host's windows (R381, R382, R386–R391, R393, R394, R396, R398): an access in no window fails, reads and writes are mapped and
served, lines are filled, expire and are invalidated, deadlines and hold limits end what waits, an atomic of the general region reads and
writes at once. The host reaches the hub while its endpoint is ready (R73). Where it rests on the model's own readings: log entries 71, 72,
73, 77, 78 and 79. -/
def Obligations.HostWindows : Prop :=
  ∀ s : State, s.reaches .pcie = true →
    (∀ (addr : W32) (len : Nat), s.windowOf addr.toNat len = none →
      exec (.windowRead addr len) s = .next (s.drew.hostReadFail len Abort.addressError (s.freeNat 48))) ∧
    (∀ (addr : W32) (len : Nat) (x : Window), s.windowOf addr.toNat len = some x →
      let want := x.bytes addr.toNat len
      (s.readBehind (want.min?.getD 0 / 2 ^ 40) = false →
        exec (.windowRead addr len) s = .next (s.hostRead x want (want.min?.getD 0) (want.max?.getD 0 + 1))) ∧
      (s.readBehind (want.min?.getD 0 / 2 ^ 40) = true → exec (.windowRead addr len) s = .next s)) ∧
    (∀ (addr : W32) (data : List Byte), s.windowOf addr.toNat data.length = none →
      exec (.windowWrite addr data) s = .next (s.drew.hostFail Abort.addressError (s.freeNat 48))) ∧
    (∀ (addr : W32) (data : List Byte) (x : Window), s.windowOf addr.toNat data.length = some x →
      let cells : Tab Byte := ((x.bytes addr.toNat data.length).zip data).foldl (fun t p => tput p.1 p.2 t) []
      exec (.windowWrite addr data) s = .next ((runsOf cells).foldl (fun u r => u.hostWrite r.1 r.2) s)) ∧
    (∀ (w : Fin 64) (r : Fin 4) (v : W32), exec (.windowRegisterWrite w r v) s =
      .next (s.regWrite .pcie (0x121000 + 16 * w + 4 * r) v.toNat).1) ∧
    (∀ (id : Nat) (f : PfFill) (r : Remote), s.bridge.fills.find? (fun f => f.id = id) = some f → s.remote id = some r → r.done = true →
      let t := s.remoteDrop id
      let u : State := { t with bridge := { t.bridge with fills := t.bridge.fills.filter (fun x => x.id ≠ id) } }
      let line : PfLine := { node := f.node, addr := f.addr, data := r.data, filled := s.clock }
      (∀ c, r.code = some c → exec (.prefetchFillDone id) s = .next (u.hostReadsEnd id r.fabAddr (.error c))) ∧
      (r.code = none → exec (.prefetchFillDone id) s = .next (State.hostReadsEnd
        (if f.spoiled then u else { u with bridge := { u.bridge with lines := (line :: u.bridge.lines).take 16 } })
          id r.fabAddr (.ok r.data)))) ∧
    (∀ (i : Fin 16) (l : PfLine), s.bridge.lines[i.val]? = some l → ticksUs (s.o 0x7802 4) + l.filled ≤ s.clock →
      exec (.prefetchLineExpiry i) s = .next { s with bridge := { s.bridge with lines := s.bridge.lines.eraseIdx i } }) ∧
    exec .prefetchInvalidate s = .next { s with bridge := { s.bridge with
      lines := [], fills := s.bridge.fills.map (fun f : PfFill => { f with spoiled := true }) } } ∧
    (∀ id : Nat, s.bridge.reads.filter (fun h => h.id = id && s.clock ≥ ticksUs (s.o 0x7802 1) + h.since) = [] →
      exec (.readDeadlineExpiry id) s = .next s) ∧
    (∀ (id : Nat) (h : HostRead), s.bridge.reads = [h] → h.id = id → ticksUs (s.o 0x7802 1) + h.since ≤ s.clock →
      let t := State.hostReadFail { s with bridge := { s.bridge with reads := [] } } h.want.length Abort.remoteNodeSilent
        (h.want.min?.getD 0)
      exec (.readDeadlineExpiry id) s = .next { t.remoteDrop id with
        bridge := { t.bridge with fills := t.bridge.fills.filter (fun f => f.id ≠ id) } }) ∧
    (∀ d : HeldDel, s.heldDel.find? (fun d => d.cls = 8 && d.who ≠ Waiter.none) = some d → ticksUs (s.o 0x7802 2) + d.since ≤ s.clock →
      let t : State := { s with heldDel := s.heldDel.eraseP (fun d => d.cls = 8 && d.who ≠ Waiter.none) }
      (∀ a, d.who = .host a → exec .hostWriteHoldExpiry s = .next (t.hostFail Abort.busyRetry a)) ∧
      ((∀ a, d.who ≠ .host a) → exec .hostWriteHoldExpiry s = .next ((t.bump 0x7803 5).heldEnd d.who (some Abort.busyRetry)))) ∧
    (∀ (addr : W32) (op : AtomicOp), s.windowOf addr.toNat (atomicSize op) = none →
      exec (.atomicOp addr op) s = .next ((s.bump 0x7803 8).emit (.failed .pcie 0))) ∧
    (∀ (addr : W32) (op : AtomicOp) (x : Window), s.windowOf addr.toNat (atomicSize op) = some x →
      (atomicSize op = 4 ∨ atomicSize op = 8) → addr.toNat % atomicSize op = 0 → s.atomicOk (x.bytes addr.toNat (atomicSize op)) = true →
      let at_ := (x.bytes addr.toNat (atomicSize op)).map (fun a => a % 2 ^ 40 - dramBase)
      let old := ofLe (at_.map (fun a => s.dramByte a))
      at_.any s.dramWaits = false → s.dramBadIn (at_.min?.getD 0) (atomicSize op) = none →
      exec (.atomicOp addr op) s = .next (State.reply (State.bump ((at_.zip (leBytes (atomicSize op) (atomicNew op old).2)).foldl
        (fun u p => u.setDram p.1 p.2) s) 0x7803 7) .pcie (atomicSize op) old))

/-- The bridge's registers, interrupts, mailbox and semaphores complete (R381, R383–R385, R389, R394, R397): BR_PF_CTRL returns and clears
its hits; BR_FENCE waits for the writes posted before it, then answers; BR_ERR.VALID, pending bits and mask bits are cleared; a doorbell
takes the request or is counted; an acknowledged response makes room for the next; a semaphore is taken, freed by its holder and timed out.
Where it rests on the model's own readings: log entries 80 and 83. -/
def Obligations.BridgeRegistersAndSemaphores : Prop :=
  ∀ s : State,
    let b := s.bridge
    (∀ c : Ctx, s.reaches c = true → exec (.brPfHitsRead c) s =
      .next (State.reply { s with bridge := { b with hits := 0 } } c 4 (b.hits % 2 ^ 16 * 2 ^ 16))) ∧
    (s.reaches .pcie = true →
      (b.fence = none → b.posted ≠ [] →
        exec .brFenceRead s = .next { s with bridge := { b with fence := some (s.clock, s.ring.nextId) } }) ∧
      (b.fence = none → b.posted = [] → exec .brFenceRead s = .next (State.reply { s with bridge := { b with
          fence := none, fenceFails := b.fenceFails.filter (fun e => s.ring.nextId ≤ e.1) } } .pcie 4
        (match b.fenceFails.find? (fun e => e.1 < s.ring.nextId) with | some e => e.2 | none => 0))) ∧
      (∀ t n, b.fence = some (t, n) → (∀ i ∈ b.posted, n ≤ i) → exec .brFenceRead s = .next (State.reply { s with bridge := { b with
          fence := none, fenceFails := b.fenceFails.filter (fun e => n ≤ e.1) } } .pcie 4
        (match b.fenceFails.find? (fun e => e.1 < n) with | some e => e.2 | none => 0))) ∧
      (∀ t n i, b.fence = some (t, n) → i ∈ b.posted → i < n →
        (s.clock < ticksUs (s.o 0x7802 1) + t → exec .brFenceRead s = .next s) ∧
        (ticksUs (s.o 0x7802 1) + t ≤ s.clock → exec .brFenceRead s =
          .next (State.reply { s with bridge := { b with fence := none } } .pcie 4 Abort.busyRetry)))) ∧
    (s.setNow W1c.brErr = false →
      exec .brErrClear s = .next { s with bridge := { b with errValid := false, errCode := 0, errAddr := 0 } }) ∧
    (∀ v : BitVec 21, ∃ t : State, exec (.brIntPendClear v) s = .next t ∧
      (∀ i < 21, t.bridge.pend.getLsbD i = (b.pend.getLsbD i && (!v.getLsbD i || s.sourceSet i || s.setNow (W1c.pend i)))) ∧
      (∀ i < 64, t.bridge.pba.getLsbD i = (b.pba.getLsbD i && (!v.getLsbD i || s.sourceSet i || s.setNow (W1c.pend i)))) ∧
      t = { s with bridge := { b with pend := t.bridge.pend, pba := t.bridge.pba } }) ∧
    (∀ v : Fin 64, s.reaches .pcie = true →
      let t : State := { s with bridge := { b with
        msixMask := b.msixMask &&& ~~~(1#64 <<< v.val), pba := b.pba &&& ~~~(1#64 <<< v.val) } }
      exec (.msixUnmask v) s = .next (if b.pba.getLsbD v && b.pend.getLsbD v && Config.msixEnabled then t.emit (.msix v) else t)) ∧
    (∀ len : W32, s.reaches .pcie = true → len.toNat < 2 ^ 13 →
      (b.mbBusy = false → s.mbReady = true → 16 ≤ len.toNat → len.toNat ≤ 4096 → exec (.mbDoorbell len) s = .next { s with bridge := { b with
        mbBusy := true, mbTaken := b.mbTaken ++ [(List.range len.toNat).map (fun i => tget 0 b.mbReq i)] } }) ∧
      (b.mbBusy = true ∨ s.mbReady = false ∨ len.toNat < 16 ∨ 4096 < len.toNat → exec (.mbDoorbell len) s = .next (s.bump 0x1209 2))) ∧
    (s.reaches .pcie = true →
      (b.mbResp = none → exec .mbRespAck s = .next s) ∧
      (∀ r, b.mbResp = some r → s.setNow W1c.resp = false → b.mbOut = [] →
        exec .mbRespAck s = .next { s with bridge := { b with mbResp := none } }) ∧
      (∀ r q l, b.mbResp = some r → s.setNow W1c.resp = false → b.mbOut = q :: l → exec .mbRespAck s =
        .next ((State.noteSet { s with bridge := { b with mbResp := some q, mbOut := l } } W1c.resp).hostInt 0))) ∧
    (∀ (c : Ctx) (n : Fin 64), s.reaches c = true →
      (tget none b.sems n = none → exec (.brSemRead c n) s = .next (State.reply { s with bridge := { b with
        sems := tset none b.sems n (some (ctxKey c, s.clock)) } } c 4 (2 ^ 31 + 2 ^ 8 + ctxKey c % 256))) ∧
      (∀ h a, tget none b.sems n = some (h, a) → exec (.brSemRead c n) s = .next (s.reply c 4 (2 ^ 8 + h % 256))) ∧
      (∀ a, tget none b.sems n = some (ctxKey c, a) →
        exec (.semFree c n) s = .next { s with bridge := { b with sems := tset none b.sems n none } }) ∧
      (∀ h a, tget none b.sems n = some (h, a) → h ≠ ctxKey c → exec (.semFree c n) s = .next (s.bump 0x7803 1)) ∧
      (tget none b.sems n = none → exec (.semFree c n) s = .next (s.bump 0x7803 1))) ∧
    (∀ (n : Fin 64) (h t : Nat), tget none b.sems n = some (h, t) → ticksMs (s.o 0x7802 3) + t < s.clock →
      exec (.semTimeout n) s = .next (((State.bump { s with bridge := { b with sems := tset none b.sems n none } } 0x7803 6).report
        { source := 0xE0, syndrome := h }).hostInt 20))

/-- Tunnels and station ports complete (R399–R401): a tunnel out of service drops what waits, one in service sends its packet or frame, a
delivered tunnel frame comes out at its local end or is refused; a received station frame is filtered, judged under PRP and steered in the
modes that serve it; PRP's own frames go out at their period and its nodes are forgotten after 60 s. Where it rests on the model's own
readings: log entries 81, 82 and 115. -/
def Obligations.TunnelsAndStationPorts : Prop :=
  ∀ s : State,
    (∀ t : Fin 64, s.o 0x7831 1 t = 0 → exec (.tunnelIngress t) s = .next (State.bumpBy { s with bridge := { s.bridge with
      tunIn := s.bridge.tunIn.filter (fun x => x.1 ≠ t.val) } } 0x7832 4 t ((s.bridge.tunIn.filter (fun x => x.1 = t.val)).length))) ∧
    (∀ (t : Fin 64) (c : Nat) (l : List Item), s.o 0x7831 1 t ≠ 0 → s.o 0x7831 2 t = 0 → s.tunnelChan 0x5002 t = some c →
      s.tunnelPacket c = some l →
      let whole := l.flatMap (fun i => beBytes 4 (itemWord i))
      exec (.tunnelIngress t) s = .next ((s.takePacket c l false).tunnelSend t 1 s.st32 whole (whole.take 2048))) ∧
    (∀ (t : Fin 64) (n st : Nat) (b : List Byte), s.o 0x7831 1 t ≠ 0 → s.o 0x7831 2 t ≠ 0 →
      s.bridge.tunIn.find? (fun x => x.1 = t.val) = some (n, st, b) → exec (.tunnelIngress t) s = .next (State.tunnelSend
        { s with bridge := { s.bridge with tunIn := s.bridge.tunIn.eraseP (fun x => x.1 = t.val) } } t 0 st b (b.take 2048))) ∧
    (∀ f : Frame, s.ring.delivered.find? (fun f => f.hdr.typ = 7 && !s.tunnelWaits f) = some f →
      let u : State := { s with ring := { s.ring with delivered := s.ring.delivered.eraseP (fun g => decide (g = f)) } }
      let n := f.hdr.destCh
      (u.tunnelRefuses f.hdr = true → exec .tunnelFrameDelivered s = .next (if n < 64 then u.bump 0x7832 3 n else u)) ∧
      (u.tunnelRefuses f.hdr = false → specField f.hdr 20 1 = 0 → exec .tunnelFrameDelivered s =
        .next ((u.bump 0x7832 2 n).stationSend 4 (u.o 0x7831 2 n - 1) f.payload)) ∧
      (u.tunnelRefuses f.hdr = false → specField f.hdr 20 1 ≠ 0 → exec .tunnelFrameDelivered s = .next (u.tunnelOut f))) ∧
    (∀ (port : Fin 2) (b : List Byte), s.o 0x7840 (port + 1) ≠ 0 → s.stationMay (stationUse b) = true →
      (s.stationBad port b = true → exec (.stationFrameReceived port b) s =
        .next ((if 2048 < b.length then s.bump 0x2180 6 else s).bump 0x7846 (port + 1))) ∧
      (s.stationBad port b = false → s.prpOn = false ∨ etherType b = 0x88F7 →
        exec (.stationFrameReceived port b) s = .next (s.steer port b)) ∧
      (s.stationBad port b = false → s.prpOn = true → etherType b ≠ 0x88F7 →
        (∀ t, s.prpIn port b = (t, none) → exec (.stationFrameReceived port b) s = .next t) ∧
        (∀ t d, s.prpIn port b = (t, some d) →
          exec (.stationFrameReceived port b) s = .next (if isPrpSup d then t.bump 0x7845 8 else t.steer port d)))) ∧
    (s.prpOn = true → s.stationMay .prp = true → s.due s.bridge.prpAt (ticksMs (s.o 0x7841 3)) = true →
      exec .prpSupervisionSend s = .next (State.stationSend { s with bridge := { s.bridge with
        prpSup := (s.bridge.prpSup + 1) % 65536, prpAt := some s.clock } } 6 0 s.prpSupFrame)) ∧
    (∀ mac : BitVec 48, exec (.prpNodeForget mac) s = .next { s with bridge := { s.bridge with
      prp := s.bridge.prp.filter (fun x => x.mac ≠ mac.toNat || s.clock < ticksMs 60000 + x.last) } })
end

