-- ==== Sys2Proof/Laws/Tables.lean ====
section
/-!
SUPPORT. Sparse tables: reading after writing, and the canonical form is kept by every table operation.
-/

namespace Sys2Proof.Machine

variable {α : Type}

/-! ### Reading after writing -/

@[simp] theorem tgetF_tput_self (d : Nat → α) (k : Nat) (v : α) (t : Tab α) : tgetF d (tput k v t) k = v := by
  induction t with
  | nil => simp [tput, tgetF]
  | cons p t ih =>
    obtain ⟨j, w⟩ := p
    unfold tput; split
    · simp [tgetF]
    · split
      · simp [tgetF]
      · rename_i h; simp [tgetF, Ne.symm h, ih]

theorem tgetF_tput_ne (d : Nat → α) {k j : Nat} (v : α) (h : j ≠ k) (t : Tab α) : tgetF d (tput k v t) j = tgetF d t j := by
  induction t with
  | nil => simp [tput, tgetF, Ne.symm h]
  | cons p t ih =>
    obtain ⟨i, w⟩ := p
    unfold tput; split
    · simp [tgetF, Ne.symm h]
    · split
      · rename_i e; subst e; simp [tgetF, Ne.symm h]
      · simp [tgetF, ih]

@[simp] theorem tgetF_tdel_self (d : Nat → α) (t : Tab α) (k : Nat) : tgetF d (tdel t k) k = d k := by
  induction t with
  | nil => simp [tdel, tgetF]
  | cons p t ih =>
    obtain ⟨j, w⟩ := p
    simp only [tdel] at ih ⊢
    rw [List.filter_cons]; split
    · rename_i h; simp only [decide_eq_true_eq] at h; rw [tgetF, if_neg h]; exact ih
    · exact ih

theorem tgetF_tdel_ne (d : Nat → α) {k j : Nat} (h : j ≠ k) (t : Tab α) : tgetF d (tdel t k) j = tgetF d t j := by
  induction t with
  | nil => simp [tdel]
  | cons p t ih =>
    obtain ⟨i, w⟩ := p
    simp only [tdel] at ih ⊢
    rw [List.filter_cons]; split
    · rw [tgetF, tgetF, ih]
    · rename_i e; simp only [decide_eq_true_eq, not_not] at e; subst e; rw [tgetF, if_neg (Ne.symm h)]; exact ih

@[simp] theorem tgetF_tsetF_self [DecidableEq α] (d : Nat → α) (t : Tab α) (k : Nat) (v : α) : tgetF d (tsetF d t k v) k = v := by
  unfold tsetF; split
  · rename_i h; rw [tgetF_tdel_self, h]
  · exact tgetF_tput_self d k v t

theorem tgetF_tsetF_ne [DecidableEq α] (d : Nat → α) {k j : Nat} (h : j ≠ k) (t : Tab α) (v : α) :
    tgetF d (tsetF d t k v) j = tgetF d t j := by
  unfold tsetF; split
  · exact tgetF_tdel_ne d h t
  · exact tgetF_tput_ne d v h t

/-- Reading any key after writing one. -/
theorem tgetF_tsetF [DecidableEq α] (d : Nat → α) (t : Tab α) (k j : Nat) (v : α) :
    tgetF d (tsetF d t k v) j = if j = k then v else tgetF d t j := by
  split
  · rename_i h; rw [h, tgetF_tsetF_self]
  · rename_i h; exact tgetF_tsetF_ne d h t v

@[simp] theorem tget_tset_self [DecidableEq α] (d : α) (t : Tab α) (k : Nat) (v : α) : tget d (tset d t k v) k = v :=
  tgetF_tsetF_self _ t k v

theorem tget_tset_ne [DecidableEq α] (d : α) {k j : Nat} (h : j ≠ k) (t : Tab α) (v : α) :
    tget d (tset d t k v) j = tget d t j := tgetF_tsetF_ne _ h t v

theorem tget_tset [DecidableEq α] (d : α) (t : Tab α) (k j : Nat) (v : α) :
    tget d (tset d t k v) j = if j = k then v else tget d t j := tgetF_tsetF _ t k j v

/-! ### The canonical form -/

/-- Every key of a table is at least `k` (used with `k` one above a smaller key). -/
def keysFrom (k : Nat) (t : Tab α) : Prop := ∀ p ∈ t, k ≤ p.1

theorem keysRise_cons {j : Nat} {w : α} {t : Tab α} : keysRise ((j, w) :: t) = true ↔ keysFrom (j + 1) t ∧ keysRise t = true := by
  induction t generalizing j w with
  | nil => simp [keysRise, keysFrom]
  | cons p t ih =>
    obtain ⟨k, v⟩ := p
    simp only [keysRise, Bool.and_eq_true, decide_eq_true_eq]
    constructor
    · rintro ⟨h, g⟩
      refine ⟨?_, g⟩
      intro q hq
      rcases List.mem_cons.1 hq with rfl | hq
      · simpa using h
      · have := (ih.1 g).1 q hq; omega
    · rintro ⟨h, g⟩
      exact ⟨by simpa using h (k, v) (List.mem_cons_self ..), g⟩

theorem keysRise_filter {t : Tab α} (f : Nat × α → Bool) (h : keysRise t = true) : keysRise (t.filter f) = true := by
  induction t with
  | nil => simpa using h
  | cons p t ih =>
    obtain ⟨j, w⟩ := p
    rw [keysRise_cons] at h
    rw [List.filter_cons]; split
    · rw [keysRise_cons]; exact ⟨fun q hq => h.1 q (List.mem_of_mem_filter hq), ih h.2⟩
    · exact ih h.2

theorem keysRise_tdel {t : Tab α} (k : Nat) (h : keysRise t = true) : keysRise (tdel t k) = true := keysRise_filter _ h

theorem mem_tput {k : Nat} {v : α} {t : Tab α} {p : Nat × α} (h : p ∈ tput k v t) : p = (k, v) ∨ p ∈ t := by
  induction t with
  | nil => simpa [tput] using h
  | cons q t ih =>
    obtain ⟨j, w⟩ := q
    unfold tput at h; split at h
    · simpa using h
    · split at h
      · simp only [List.mem_cons] at h ⊢; tauto
      · simp only [List.mem_cons] at h ⊢
        rcases h with h | h
        · tauto
        · have := ih h; tauto

theorem keysRise_tput {t : Tab α} (k : Nat) (v : α) (h : keysRise t = true) : keysRise (tput k v t) = true := by
  induction t with
  | nil => simp [tput, keysRise]
  | cons p t ih =>
    obtain ⟨j, w⟩ := p
    have g := keysRise_cons.1 h
    unfold tput; split
    · rename_i c; rw [keysRise_cons]
      refine ⟨?_, h⟩
      intro q hq
      rcases List.mem_cons.1 hq with rfl | hq
      · simpa using c
      · have := g.1 q hq; omega
    · split
      · rename_i c; subst c; rw [keysRise_cons]; exact g
      · rw [keysRise_cons]
        refine ⟨?_, ih g.2⟩
        intro q hq
        rcases mem_tput hq with rfl | hq
        · simp; omega
        · exact g.1 q hq

variable [DecidableEq α] {d : Nat → α} {t : Tab α}

theorem wfWith_nil (d : Nat → α) : Tab.wfWith d ([] : Tab α) = true := rfl

theorem wfWith_tdel (k : Nat) (h : Tab.wfWith d t = true) : Tab.wfWith d (tdel t k) = true := by
  simp only [Tab.wfWith, Bool.and_eq_true, List.all_eq_true] at h ⊢
  exact ⟨keysRise_tdel k h.1, fun p hp => h.2 p (List.mem_of_mem_filter hp)⟩

theorem wfWith_filter (f : Nat × α → Bool) (h : Tab.wfWith d t = true) : Tab.wfWith d (t.filter f) = true := by
  simp only [Tab.wfWith, Bool.and_eq_true, List.all_eq_true] at h ⊢
  exact ⟨keysRise_filter f h.1, fun p hp => h.2 p (List.mem_of_mem_filter hp)⟩

theorem wfWith_tput {k : Nat} {v : α} (hv : v ≠ d k) (h : Tab.wfWith d t = true) : Tab.wfWith d (tput k v t) = true := by
  simp only [Tab.wfWith, Bool.and_eq_true, List.all_eq_true] at h ⊢
  refine ⟨keysRise_tput k v h.1, fun p hp => ?_⟩
  rcases mem_tput hp with rfl | hp
  · simpa using hv
  · exact h.2 p hp

/-- A table write keeps the canonical form. -/
theorem wfWith_tsetF (k : Nat) (v : α) (h : Tab.wfWith d t = true) : Tab.wfWith d (tsetF d t k v) = true := by
  unfold tsetF; split
  · exact wfWith_tdel k h
  · rename_i hv; exact wfWith_tput hv h

end Sys2Proof.Machine
end

