-- ==== Sys2Proof/Laws/Keeps.lean ====
section
/-!
SUPPORT. What the operations shared by every unit keep: memory, the dictionary and the store stay canonical. One lemma an
operation: where it is given a state in that form it answers one; a caller's lemma cites its callees' and unfolds only itself.
-/

namespace Sys2Proof.Machine

open Sys2Proof

set_option Elab.async false

/-- What a meaning answers keeps the canonical form. -/
def outInv : Host.Outcome State Fault Refusal → Prop
  | .next t => t.Inv
  | _ => True

/-- What may be answered has a property. -/
def someAll {α : Type} (P : α → Prop) : Option α → Prop
  | some x => P x
  | none => True

/-- What is answered without an error has a property. -/
def okAll {α : Type} (P : α → Prop) : Except Nat α → Prop
  | .ok x => P x
  | .error _ => True

/-- An engine instruction's outcome keeps the canonical form. -/
def engResInv : EngRes → Prop
  | .stall t => t.Inv
  | .done t _ _ => t.Inv
  | .over t => t.Inv

/-- A pull's outcome keeps it. -/
def pullInv : PullRes → Prop
  | .wait t => t.Inv
  | .got t _ _ => t.Inv

theorem State.Inv.dramWf {s : State} (h : s.Inv) : Memory.wf s.dram = true := h.1
theorem State.Inv.odWf {s : State} (h : s.Inv) : Tab.objWf s.od = true := h.2.1
theorem State.Inv.storeWf {s : State} (h : s.Inv) : Tab.objWf s.store = true := h.2.2

theorem foldl_inv {α : Type} (g : State → α → State) (l : List α) (s : State) (hg : ∀ t a, t.Inv → (g t a).Inv) (h : s.Inv) :
    (l.foldl g s).Inv := by
  induction l generalizing s with
  | nil => exact h
  | cons a l ih => exact ih _ (hg _ _ h)

theorem State.setVal_inv (s : State) (i j k : Nat) (v : Val) (h : s.Inv) : (s.setVal i j k v).Inv :=
  ⟨h.1, wfWith_tsetF _ _ h.2.1, h.2.2⟩

theorem State.setDram_inv (s : State) (a : Nat) (b : Byte) (h : s.Inv) : (s.setDram a b).Inv :=
  ⟨wfWith_tsetF _ _ h.1, h.2.1, h.2.2⟩

theorem foldl_fst_inv {α β : Type} (g : State × β → α → State × β) (l : List α) (p : State × β) (hg : ∀ q a, q.1.Inv → (g q a).1.Inv)
    (h : p.1.Inv) : (l.foldl g p).1.Inv := by
  induction l generalizing p with
  | nil => exact h
  | cons a l ih => exact ih _ (hg _ _ h)

/-- Setting entries one after another keeps a table canonical. -/
theorem foldl_tsetF_wf {β : Type} (d : Nat → Val) (k : β → Nat) (v : β → Val) (l : List β) (t : Tab Val) (h : Tab.wfWith d t = true) :
    Tab.wfWith d (l.foldl (fun t e => tsetF d t (k e) (v e)) t) = true := by
  induction l generalizing t with
  | nil => exact h
  | cons a l ih => exact ih _ (wfWith_tsetF _ _ h)

theorem foldl_tdel_wf {β : Type} (d : Nat → Val) (k : β → Nat) (l : List β) (t : Tab Val) (h : Tab.wfWith d t = true) :
    Tab.wfWith d (l.foldl (fun t e => tdel t (k e)) t) = true := by
  induction l generalizing t with
  | nil => exact h
  | cons a l ih => exact ih _ (wfWith_tdel _ h)

/-- So does putting entries that are not at their default. -/
theorem foldl_tput_wf (d : Nat → Val) (l : List (Nat × Val)) (t : Tab Val) (hl : ∀ e ∈ l, e.2 ≠ d e.1) (h : Tab.wfWith d t = true) :
    Tab.wfWith d (l.foldl (fun t e => tput e.1 e.2 t) t) = true := by
  induction l generalizing t with
  | nil => exact h
  | cons a l ih => exact ih _ (fun e he => hl e (List.mem_cons_of_mem _ he)) (wfWith_tput (hl a List.mem_cons_self) h)

theorem ite_fst_inv {α : Type} {c : Prop} [Decidable c] {x y : State × α} (hx : x.1.Inv) (hy : y.1.Inv) : (if c then x else y).1.Inv := by
  split <;> assumption

theorem State.setCtl_inv (s : State) (k : Nat) (v : CanCtl) (h : s.Inv) : (State.setCtl s k v).Inv := by
  unfold State.setCtl
  grind -ring -linarith -lia -ac [State.Inv]

theorem State.noteSet_inv (s : State) (k : Nat) (h : s.Inv) : (State.noteSet s k).Inv := by
  unfold State.noteSet
  grind -ring -linarith -lia -ac [State.Inv]

theorem State.emit_inv (s : State) (o : Output) (h : s.Inv) : (State.emit s o).Inv := by
  unfold State.emit
  grind -ring -linarith -lia -ac [State.Inv]

theorem State.hostInt_inv (s : State) (v : Nat) (h : s.Inv) : (State.hostInt s v).Inv := by
  unfold State.hostInt
  grind -ring -linarith -lia -ac [State.Inv, State.noteSet_inv, State.emit_inv]

theorem State.mbPut_inv (s : State) (b : List Byte) (h : s.Inv) : (State.mbPut s b).Inv := by
  unfold State.mbPut
  grind -ring -linarith -lia -ac [State.Inv, State.hostInt_inv, State.noteSet_inv]

theorem State.canFill_inv (s : State) (k : Nat) (h : s.Inv) : (State.canFill s k).Inv := by
  unfold State.canFill
  grind -ring -linarith -lia -ac [State.Inv]

theorem State.canSession_inv (s : State) (k : Nat) (base : Nat) (node : Nat) (b : List Byte) (h : s.Inv) : (State.canSession s k base node
    b).Inv := by
  unfold State.canSession
  grind -ring -linarith -lia -ac [State.Inv, State.canFill_inv]

theorem State.setO_inv (s : State) (index : Nat) (sub : Nat) (item : Nat) (n : Nat) (h : s.Inv) : (State.setO s index sub item n).Inv := by
  unfold State.setO
  grind -ring -linarith -lia -ac [State.Inv, State.setVal_inv]

theorem State.bumpBy_inv (s : State) (index : Nat) (sub : Nat) (item : Nat) (by_ : Nat) (h : s.Inv) : (State.bumpBy s index sub item
    by_).Inv := by
  unfold State.bumpBy
  grind -ring -linarith -lia -ac [State.Inv, State.setO_inv]

theorem State.bump_inv (s : State) (index : Nat) (sub : Nat) (item : Nat) (h : s.Inv) : (State.bump s index sub item).Inv := by
  unfold State.bump
  grind -ring -linarith -lia -ac [State.Inv, State.bumpBy_inv]

theorem State.prpSent_inv (s : State) (h : s.Inv) : (State.prpSent s).Inv := by
  unfold State.prpSent
  grind -ring -linarith -lia -ac [State.Inv, State.bump_inv]

theorem State.respondSeg_inv (s : State) (t : Txn) (b : List Byte) (h : s.Inv) : (State.respondSeg s t b).Inv := by
  unfold State.respondSeg
  grind -ring -linarith -lia -ac [State.Inv, State.mbPut_inv, State.canSession_inv, State.prpSent_inv, State.emit_inv]

theorem State.respond_inv (s : State) (t : Txn) (r : Resp) (h : s.Inv) : (State.respond s t r).Inv := by
  unfold State.respond
  grind -ring -linarith -lia -ac [State.Inv, foldl_inv, State.respondSeg_inv, State.emit_inv]

theorem State.setSession_inv (s : State) (n : Nat) (v : Session) (h : s.Inv) : (State.setSession s n v).Inv := by
  unfold State.setSession
  grind -ring -linarith -lia -ac [State.Inv]

theorem State.answerAs_inv (s : State) (n : Nat) (cmd : Nat) (r : Resp) (h : s.Inv) : (State.answerAs s n cmd r).Inv := by
  unfold State.answerAs
  grind -ring -linarith -lia -ac [State.Inv, State.respond_inv, State.setSession_inv]

theorem State.answer_inv (s : State) (n : Nat) (r : Resp) (h : s.Inv) : (State.answer s n r).Inv := by
  unfold State.answer
  grind -ring -linarith -lia -ac [State.Inv, State.answerAs_inv]

theorem State.act_inv (s : State) (n : Nat) (r : Act) (h0 : s.Inv) (h2 : okAll State.Inv r) : (State.act s n r).Inv := by
  unfold State.act
  grind -ring -linarith -lia -ac [State.Inv, okAll, State.answer_inv]

theorem State.actQuiet_inv (s : State) (r : Act) (h0 : s.Inv) (h1 : okAll State.Inv r) : (State.actQuiet s r).Inv := by
  unfold State.actQuiet
  grind -ring -linarith -lia -ac [State.Inv, okAll]

theorem State.eraseKick_inv (s : State) (h : s.Inv) : (State.eraseKick s).Inv := by
  unfold State.eraseKick
  grind -ring -linarith -lia -ac [State.Inv]

theorem State.eraseQueue_inv (s : State) (l : List Nat) (h : s.Inv) : (State.eraseQueue s l).Inv := by
  unfold State.eraseQueue
  grind -ring -linarith -lia -ac [State.Inv, State.eraseKick_inv]

theorem State.anchorUpdate_inv (s : State) (h : s.Inv) : (State.anchorUpdate s).Inv := by
  unfold State.anchorUpdate
  grind -ring -linarith -lia -ac [State.Inv, State.eraseQueue_inv]

theorem State.journalWrite_inv (s : State) (l : List JRec) (h : s.Inv) : (State.journalWrite s l).Inv := by
  unfold State.journalWrite
  grind -ring -linarith -lia -ac [State.Inv, State.eraseQueue_inv, State.anchorUpdate_inv]

theorem State.setImgSlot_inv (s : State) (i : Nat) (v : Slot) (h : s.Inv) : (State.setImgSlot s i v).Inv := by
  unfold State.setImgSlot
  grind -ring -linarith -lia -ac [State.Inv]

theorem State.setSlotSt_inv (s : State) (i : Nat) (st : Nat) (h : s.Inv) : (State.setSlotSt s i st).Inv := by
  unfold State.setSlotSt
  grind -ring -linarith -lia -ac [State.Inv, State.anchorUpdate_inv, State.journalWrite_inv, State.setImgSlot_inv]

theorem State.setChan_inv (s : State) (c : Nat) (v : Chan) (h : s.Inv) : (State.setChan s c v).Inv := by
  unfold State.setChan
  grind -ring -linarith -lia -ac [State.Inv]

theorem State.setTrk_inv (s : State) (k : Nat) (v : Tracker) (h : s.Inv) : (State.setTrk s k v).Inv := by
  unfold State.setTrk
  grind -ring -linarith -lia -ac [State.Inv]

theorem State.event_inv (s : State) (e : Event) (args : List Nat) (h : s.Inv) : (State.event s e args).Inv := by
  unfold State.event
  grind -ring -linarith -lia -ac [State.Inv, State.emit_inv]

theorem State.trkLose_inv (s : State) (k : Nat) (cause : Nat) (h : s.Inv) : (State.trkLose s k cause).Inv := by
  unfold State.trkLose
  grind -ring -linarith -lia -ac [State.Inv, State.setTrk_inv, State.event_inv, State.setO_inv]

theorem State.tapLost_inv (s : State) (c : Nat) (h : s.Inv) : (State.tapLost s c).Inv := by
  unfold State.tapLost
  grind -ring -linarith -lia -ac [State.Inv, State.trkLose_inv]

theorem State.chanRemove_inv (s : State) (c : Nat) (p : Item → Bool) (h : s.Inv) : (State.chanRemove s c p).Inv := by
  unfold State.chanRemove
  grind -ring -linarith -lia -ac [State.Inv, State.setChan_inv]

theorem State.setEng_inv (s : State) (e : Nat) (v : Engine) (h : s.Inv) : (State.setEng s e v).Inv := by
  unfold State.setEng
  grind -ring -linarith -lia -ac [State.Inv]

theorem State.engRestore_inv (s : State) (e : Nat) (h : s.Inv) : (State.engRestore s e).Inv := by
  unfold State.engRestore
  grind -ring -linarith -lia -ac [State.Inv, State.setChan_inv, State.setEng_inv]

theorem State.restoreAll_inv (s : State) (p : Ckpt → Bool) (h : s.Inv) : (State.restoreAll s p).Inv := by
  unfold State.restoreAll
  grind -ring -linarith -lia -ac [State.Inv, foldl_inv, State.engRestore_inv]

theorem State.promote_inv (s : State) (before : List HeldDel) (h : s.Inv) : (State.promote s before).Inv := by
  unfold State.promote
  grind -ring -linarith -lia -ac [State.Inv]

theorem State.heldDrop_inv (s : State) (p : Item → Bool) (h : s.Inv) : (State.heldDrop s p).Inv := by
  unfold State.heldDrop
  grind -ring -linarith -lia -ac [State.Inv, State.promote_inv]

theorem State.setCal_inv (s : State) (i : Nat) (v : CalEntry) (h : s.Inv) : (State.setCal s i v).Inv := by
  unfold State.setCal
  grind -ring -linarith -lia -ac [State.Inv]

theorem State.chanOrphan_inv (s : State) (c : Nat) (h : s.Inv) : (State.chanOrphan s c).Inv := by
  unfold State.chanOrphan
  grind -ring -linarith -lia -ac [State.Inv, State.setChan_inv]

theorem State.mute_inv (s : State) (e : Nat) (h : s.Inv) : (State.mute s e).Inv := by
  unfold State.mute
  grind -ring -linarith -lia -ac [State.Inv, State.chanOrphan_inv, State.setEng_inv]

theorem State.calEndOne_inv (s : State) (st : Nat) (reason : Nat) (i : Nat) (h : s.Inv) : (State.calEndOne s st reason i).Inv := by
  unfold State.calEndOne
  grind -ring -linarith -lia -ac [State.Inv, foldl_inv, State.bump_inv, State.setCal_inv, State.event_inv, State.mute_inv]

theorem State.cswCancel_inv (s : State) (b : Nat) (h : s.Inv) : (State.cswCancel s b).Inv := by
  unfold State.cswCancel
  grind -ring -linarith -lia -ac [State.Inv, foldl_inv, State.calEndOne_inv]

theorem State.tapSee_inv (s : State) (c : Nat) (l : List Item) (h : s.Inv) : (State.tapSee s c l).Inv := by
  unfold State.tapSee
  grind -ring -linarith -lia -ac [State.Inv, State.setTrk_inv]

theorem State.chanWrite_inv (s : State) (c : Nat) (i : Item) (h : s.Inv) : someAll State.Inv (State.chanWrite s c i) := by
  unfold State.chanWrite
  grind -ring -linarith -lia -ac [State.Inv, someAll, State.bump_inv, State.setChan_inv, State.tapSee_inv]

theorem State.chanWriteAll_inv (s0 : State) (a1 : Nat) (a2 : List Item) (h0 : s0.Inv) : (State.chanWriteAll s0 a1 a2).1.Inv := by
  induction a2 generalizing s0 <;> unfold State.chanWriteAll <;> grind -ring -linarith -lia -ac [State.Inv, outInv, someAll, okAll,
    engResInv, pullInv, foldl_inv, State.chanWrite_inv]

theorem State.deliverItems_inv (s : State) (cls : Nat) (c : Nat) (l : List Item) (h : s.Inv) : (State.deliverItems s cls c l).Inv := by
  unfold State.deliverItems
  grind -ring -linarith -lia -ac [State.Inv, State.chanWriteAll_inv]

theorem State.epWrite_inv (s : State) (ep : Nat) (l : List Item) (h : s.Inv) : (State.epWrite s ep l).Inv := by
  unfold State.epWrite
  grind -ring -linarith -lia -ac [State.Inv, State.deliverItems_inv]

theorem State.cswItem_inv (s : State) (b : Nat) (p : Nat) (kind : Nat) (h : s.Inv) : (State.cswItem s b p kind).Inv := by
  unfold State.cswItem
  grind -ring -linarith -lia -ac [State.Inv, State.epWrite_inv]

theorem State.setBrk_inv (s : State) (b : Nat) (v : Breaker) (h : s.Inv) : (State.setBrk s b v).Inv := by
  unfold State.setBrk
  grind -ring -linarith -lia -ac [State.Inv]

theorem State.cswAtOnce_inv (s : State) (b : Nat) (h : s.Inv) : (State.cswAtOnce s b).Inv := by
  unfold State.cswAtOnce
  grind -ring -linarith -lia -ac [State.Inv, foldl_inv, State.cswItem_inv, State.setBrk_inv]

theorem State.cswLearn_inv (s : State) (b : Nat) (p : Nat) (h : s.Inv) : (State.cswLearn s b p).Inv := by
  unfold State.cswLearn
  grind -ring -linarith -lia -ac [State.Inv, State.setO_inv]

theorem State.drew_inv (s : State) (h : s.Inv) : (State.drew s).Inv := by
  unfold State.drew
  grind -ring -linarith -lia -ac [State.Inv]

theorem State.cswFinish_inv (s : State) (b : Nat) (h : s.Inv) : (State.cswFinish s b).Inv := by
  unfold State.cswFinish
  grind -ring -linarith -lia -ac [State.Inv, foldl_inv, State.cswLearn_inv, State.setBrk_inv, State.drew_inv, State.bump_inv,
    State.event_inv]

theorem State.cswFallback_inv (s : State) (b : Nat) (h : s.Inv) : (State.cswFallback s b).Inv := by
  unfold State.cswFallback
  grind -ring -linarith -lia -ac [State.Inv, State.bump_inv, State.cswFinish_inv, State.setBrk_inv, State.cswAtOnce_inv]

theorem State.cswPoleFailed_inv (s : State) (b : Nat) (h : s.Inv) : (State.cswPoleFailed s b).Inv := by
  unfold State.cswPoleFailed
  grind -ring -linarith -lia -ac [State.Inv, State.cswCancel_inv, State.cswAtOnce_inv, State.setBrk_inv, State.cswFallback_inv]

theorem State.cswSettle_inv (s : State) (b : Nat) (h : s.Inv) : (State.cswSettle s b).Inv := by
  unfold State.cswSettle
  grind -ring -linarith -lia -ac [State.Inv, State.cswFinish_inv]

theorem State.calEnd_inv (s : State) (st : Nat) (reason : Nat) (i : Nat) (h : s.Inv) : (State.calEnd s st reason i).Inv := by
  unfold State.calEnd
  grind -ring -linarith -lia -ac [State.Inv, State.calEndOne_inv, State.cswPoleFailed_inv, State.cswSettle_inv, State.setBrk_inv]

theorem State.calEndAll_inv (s : State) (st : Nat) (reason : Nat) (p : CalEntry → Bool) (h : s.Inv) : (State.calEndAll s st reason p).Inv
    := by
  unfold State.calEndAll
  grind -ring -linarith -lia -ac [State.Inv, foldl_inv, State.calEnd_inv]

theorem State.groupFail_inv (s : State) (r : GroupRun) (why : GFail) (h : s.Inv) : (State.groupFail s r why).Inv := by
  unfold State.groupFail
  grind -ring -linarith -lia -ac [State.Inv, foldl_inv, State.chanRemove_inv, State.restoreAll_inv, State.heldDrop_inv, State.bump_inv,
    State.noteSet_inv, State.calEndAll_inv, State.event_inv]

theorem State.groupFailAll_inv (s : State) (p : GroupRun → Bool) (why : GFail) (h : s.Inv) : (State.groupFailAll s p why).Inv := by
  unfold State.groupFailAll
  grind -ring -linarith -lia -ac [State.Inv, foldl_inv, State.groupFail_inv]

theorem State.chanEmpty_inv (s : State) (c : Nat) (h : s.Inv) : (State.chanEmpty s c).Inv := by
  unfold State.chanEmpty
  grind -ring -linarith -lia -ac [State.Inv, State.engRestore_inv, State.setChan_inv, State.bumpBy_inv]

theorem State.quarantine_inv (s : State) (c : Nat) (h : s.Inv) : (State.quarantine s c).Inv := by
  unfold State.quarantine
  grind -ring -linarith -lia -ac [State.Inv, State.tapLost_inv, State.setChan_inv, State.groupFailAll_inv, State.chanEmpty_inv,
    State.bumpBy_inv, State.promote_inv]

theorem State.setQueue_inv (s : State) (q : Nat) (v : Queue) (h : s.Inv) : (State.setQueue s q v).Inv := by
  unfold State.setQueue
  grind -ring -linarith -lia -ac [State.Inv]

theorem State.wake_inv (s : State) (h : s.Inv) : (State.wake s).Inv := by
  unfold State.wake
  grind -ring -linarith -lia -ac [State.Inv]

theorem State.faultState_inv (s : State) (r : Report) (h : s.Inv) : (State.faultState s r).Inv := by
  unfold State.faultState
  grind -ring -linarith -lia -ac [State.Inv, State.wake_inv]

theorem State.faultPut_inv (s : State) (r : FaultRec) (h : s.Inv) : (State.faultPut s r).Inv := by
  unfold State.faultPut
  grind -ring -linarith -lia -ac [State.Inv]

theorem State.faultPush_inv (s : State) (r : FaultRec) (h : s.Inv) : (State.faultPush s r).Inv := by
  unfold State.faultPush
  grind -ring -linarith -lia -ac [State.Inv, State.faultPut_inv, State.bumpBy_inv]

theorem State.recordReport_inv (s : State) (r : Report) (h : s.Inv) : (State.recordReport s r).Inv := by
  unfold State.recordReport
  grind -ring -linarith -lia -ac [State.Inv, State.noteSet_inv, State.bump_inv, State.faultPush_inv, State.hostInt_inv]

theorem State.engDropSpec_inv (s : State) (e : Nat) (h : s.Inv) : (State.engDropSpec s e).Inv := by
  unfold State.engDropSpec
  grind -ring -linarith -lia -ac [State.Inv, State.chanOrphan_inv, State.setEng_inv]

theorem State.engHalt_inv (s : State) (e : Nat) (h : s.Inv) : (State.engHalt s e).Inv := by
  unfold State.engHalt
  grind -ring -linarith -lia -ac [State.Inv, State.engDropSpec_inv, State.setEng_inv]

theorem State.enginePark_inv (s : State) (e : Nat) (cause : Nat) (h : s.Inv) : (State.enginePark s e cause).Inv := by
  unfold State.enginePark
  grind -ring -linarith -lia -ac [State.Inv, State.setEng_inv, State.groupFailAll_inv, State.engHalt_inv, State.calEndAll_inv,
    State.tapLost_inv]

theorem State.setSvc_inv (s : State) (n : Nat) (v : Svc) (h : s.Inv) : (State.setSvc s n v).Inv := by
  unfold State.setSvc
  grind -ring -linarith -lia -ac [State.Inv]

theorem State.cswRestart_inv (s : State) (n : Nat) (h : s.Inv) : (State.cswRestart s n).Inv := by
  unfold State.cswRestart
  grind -ring -linarith -lia -ac [State.Inv, State.cswPoleFailed_inv, State.cswCancel_inv, State.cswFinish_inv, State.setBrk_inv]

theorem State.traceBehind_inv (s : State) (typ : Nat) (core : Nat) (stamp : Nat) (payload : List Nat) (h : s.Inv) : (State.traceBehind s
    typ core stamp payload).Inv := by
  unfold State.traceBehind
  grind -ring -linarith -lia -ac [State.Inv]

theorem State.traceDrop_inv (s : State) (flow : Bool) (h : s.Inv) : (State.traceDrop s flow).Inv := by
  unfold State.traceDrop
  grind -ring -linarith -lia -ac [State.Inv, State.bump_inv]

theorem State.tracePut_inv (s : State) (typ : Nat) (core : Nat) (stamp : Nat) (payload : List Nat) (h : s.Inv) : (State.tracePut s typ core
    stamp payload).Inv := by
  unfold State.tracePut
  grind -ring -linarith -lia -ac [State.Inv, State.traceDrop_inv]

theorem State.traceIn_inv (s : State) (typ : Nat) (core : Nat) (stamp : Nat) (payload : List Nat) (h : s.Inv) : (State.traceIn s typ core
    stamp payload).Inv := by
  unfold State.traceIn
  grind -ring -linarith -lia -ac [State.Inv, State.traceBehind_inv, State.tracePut_inv]

theorem State.traceSvc_inv (s : State) (n : Nat) (level : Nat) (code : Nat) (args : List Nat) (h : s.Inv) : (State.traceSvc s n level code
    args).Inv := by
  unfold State.traceSvc
  grind -ring -linarith -lia -ac [State.Inv, State.traceIn_inv]

theorem State.handBegin_inv (s : State) (during : Bool) (h : s.Inv) : (State.handBegin s during).Inv := by
  unfold State.handBegin
  grind -ring -linarith -lia -ac [State.Inv]

theorem State.clearSubs_inv (s : State) (index : Nat) (lo : Nat) (hi : Nat) (item : Nat) (h : s.Inv) : (State.clearSubs s index lo hi
    item).Inv := by
  unfold State.clearSubs
  grind -ring -linarith -lia -ac [State.Inv, foldl_inv, State.setO_inv]

theorem State.clearPermits_inv (s : State) (h : s.Inv) : (State.clearPermits s).Inv := by
  unfold State.clearPermits
  grind -ring -linarith -lia -ac [State.Inv, State.clearSubs_inv]

theorem State.commitResult_inv (s : State) (code : Nat) (index : Nat) (sub : Nat) (h : s.Inv) : (State.commitResult s code index sub).Inv
    := by
  unfold State.commitResult
  grind -ring -linarith -lia -ac [State.Inv, State.event_inv, State.setO_inv]

theorem State.commitDrop_inv (s : State) (code : Nat) (h : s.Inv) : (State.commitDrop s code).Inv := by
  unfold State.commitDrop
  grind -ring -linarith -lia -ac [State.Inv, State.commitResult_inv]

theorem State.commitCancelMode_inv (s : State) (h : s.Inv) : (State.commitCancelMode s).Inv := by
  unfold State.commitCancelMode
  grind -ring -linarith -lia -ac [State.Inv, State.commitDrop_inv, State.commitResult_inv, State.answer_inv]

theorem State.modeShutter_inv (s : State) (old : Mode) (h : s.Inv) : (State.modeShutter s old).Inv := by
  unfold State.modeShutter
  grind -ring -linarith -lia -ac [State.Inv, foldl_inv, State.engDropSpec_inv, State.groupFailAll_inv]

theorem State.engineStart_inv (s : State) (e : Nat) (h : s.Inv) : (State.engineStart s e).Inv := by
  unfold State.engineStart
  grind -ring -linarith -lia -ac [State.Inv, State.setEng_inv]

theorem State.engineStop_inv (s : State) (e : Nat) (h : s.Inv) : (State.engineStop s e).Inv := by
  unfold State.engineStop
  grind -ring -linarith -lia -ac [State.Inv, State.engHalt_inv, State.setEng_inv]

theorem State.dozePark_inv (s : State) (h : s.Inv) : (State.dozePark s).Inv := by
  unfold State.dozePark
  grind -ring -linarith -lia -ac [State.Inv, foldl_inv, State.enginePark_inv]

theorem State.modeEngines_inv (s : State) (old : Mode) (h : s.Inv) : (State.modeEngines s old).Inv := by
  unfold State.modeEngines
  grind -ring -linarith -lia -ac [State.Inv, foldl_inv, State.engineStart_inv, State.engineStop_inv, State.dozePark_inv]

theorem State.holdLatch_inv (s : State) (before : State) (all : Bool) (h : s.Inv) : (State.holdLatch s before all).Inv := by
  unfold State.holdLatch
  grind -ring -linarith -lia -ac [State.Inv, foldl_inv, State.setEng_inv]

theorem State.noteAbort_inv (s : State) (k : Nat) (one : Bool) (h : s.Inv) : (State.noteAbort s k one).Inv := by
  unfold State.noteAbort
  grind -ring -linarith -lia -ac [State.Inv, State.noteSet_inv]

theorem State.canAbort_inv (s : State) (k : Nat) (one : Bool) (onBus : Bool) (p : CanEntry → Bool) (h : s.Inv) : (State.canAbort s k one
    onBus p).Inv := by
  unfold State.canAbort
  grind -ring -linarith -lia -ac [State.Inv, foldl_inv, State.canFill_inv, State.bumpBy_inv, State.noteAbort_inv, State.setCtl_inv]

theorem State.canLeave_inv (s : State) (k : Nat) (onBus : Bool) (h : s.Inv) : (State.canLeave s k onBus).Inv := by
  unfold State.canLeave
  grind -ring -linarith -lia -ac [State.Inv, State.setCtl_inv]

theorem State.canModeOne_inv (s : State) (old : Mode) (k : Nat) (h : s.Inv) : (State.canModeOne s old k).Inv := by
  unfold State.canModeOne
  grind -ring -linarith -lia -ac [State.Inv, State.drew_inv, State.canAbort_inv, State.setCtl_inv, State.canLeave_inv]

theorem State.canModes_inv (s : State) (old : Mode) (h : s.Inv) : (State.canModes s old).Inv := by
  unfold State.canModes
  grind -ring -linarith -lia -ac [State.Inv, foldl_inv, State.canModeOne_inv]

theorem State.setField_inv (s : State) (c : Nat) (v : Field) (h : s.Inv) : (State.setField s c v).Inv := by
  unfold State.setField
  grind -ring -linarith -lia -ac [State.Inv]

theorem State.fieldStart_inv (s : State) (c : Nat) (h : s.Inv) : (State.fieldStart s c).Inv := by
  unfold State.fieldStart
  grind -ring -linarith -lia -ac [State.Inv, State.setField_inv]

theorem State.fieldOn_inv (s : State) (c : Nat) (h : s.Inv) : (State.fieldOn s c).Inv := by
  unfold State.fieldOn
  grind -ring -linarith -lia -ac [State.Inv, State.setField_inv, State.fieldStart_inv]

theorem State.fieldsPowerOn_inv (s : State) (h : s.Inv) : (State.fieldsPowerOn s).Inv := by
  unfold State.fieldsPowerOn
  grind -ring -linarith -lia -ac [State.Inv, foldl_inv, State.fieldOn_inv]

theorem State.fieldOff_inv (s : State) (c : Nat) (h : s.Inv) : (State.fieldOff s c).Inv := by
  unfold State.fieldOff
  grind -ring -linarith -lia -ac [State.Inv, State.setField_inv]

theorem State.fieldsSafe_inv (s : State) (h : s.Inv) : (State.fieldsSafe s).Inv := by
  unfold State.fieldsSafe
  grind -ring -linarith -lia -ac [State.Inv, foldl_inv, State.fieldOff_inv]

theorem State.fieldsPermit_inv (s : State) (h : s.Inv) : (State.fieldsPermit s).Inv := by
  unfold State.fieldsPermit
  grind -ring -linarith -lia -ac [State.Inv, foldl_inv, State.fieldOff_inv]

theorem State.modeFields_inv (s : State) (old : Mode) (h : s.Inv) : (State.modeFields s old).Inv := by
  unfold State.modeFields
  grind -ring -linarith -lia -ac [State.Inv, State.fieldsPowerOn_inv, State.fieldsSafe_inv, State.fieldsPermit_inv]

theorem State.writeDram_inv (s0 : State) (a1 : Nat) (a2 : List Byte) (h0 : s0.Inv) : (State.writeDram s0 a1 a2).Inv := by
  induction a2 generalizing s0 a1 <;> unfold State.writeDram <;> grind -ring -linarith -lia -ac [State.Inv, outInv, someAll, okAll,
    engResInv, pullInv, foldl_inv, State.setDram_inv]

theorem State.dramStore_inv (s : State) (a : Nat) (l : List Byte) (h : s.Inv) : (State.dramStore s a l).Inv := by
  unfold State.dramStore
  grind -ring -linarith -lia -ac [State.Inv, State.writeDram_inv]

theorem State.logWrite_inv (s : State) (r : LogRec) (h : s.Inv) : (State.logWrite s r).Inv := by
  unfold State.logWrite
  grind -ring -linarith -lia -ac [State.Inv, State.dramStore_inv, State.bump_inv]

theorem State.logPut_inv (s : State) (old : Bool) (r : LogRec) (h : s.Inv) : (State.logPut s old r).Inv := by
  unfold State.logPut
  grind -ring -linarith -lia -ac [State.Inv, State.logWrite_inv]

theorem State.logEnter_inv (s : State) (r : LogRec) (h : s.Inv) : (State.logEnter s r).Inv := by
  unfold State.logEnter
  grind -ring -linarith -lia -ac [State.Inv, State.logPut_inv]

theorem State.logMarker_inv (s : State) (step : Bool) (count : Nat) (h : s.Inv) : (State.logMarker s step count).Inv := by
  unfold State.logMarker
  grind -ring -linarith -lia -ac [State.Inv, State.logEnter_inv, State.drew_inv]

theorem State.markerPut_inv (s : State) (step : Bool) (start : Bool) (count : Nat) (h : s.Inv) : (State.markerPut s step start count).Inv
    := by
  unfold State.markerPut
  grind -ring -linarith -lia -ac [State.Inv, State.bump_inv, State.tracePut_inv]

theorem State.traceMarker_inv (s : State) (step : Bool) (start : Bool) (count : Nat) (h : s.Inv) : (State.traceMarker s step start
    count).Inv := by
  unfold State.traceMarker
  grind -ring -linarith -lia -ac [State.Inv, State.traceBehind_inv, State.markerPut_inv]

theorem State.trialClock_inv (s : State) (h : s.Inv) : (State.trialClock s).Inv := by
  unfold State.trialClock
  grind -ring -linarith -lia -ac [State.Inv]

theorem State.setMode_inv (s : State) (m : Mode) (h : s.Inv) : (State.setMode s m).Inv := by
  unfold State.setMode
  grind -ring -linarith -lia -ac [State.Inv, State.clearPermits_inv, State.calEndAll_inv, State.commitCancelMode_inv,
    State.modeShutter_inv, State.modeEngines_inv, State.holdLatch_inv, State.canModes_inv, State.modeFields_inv, State.logMarker_inv, State.traceMarker_inv, State.event_inv, State.hostInt_inv, State.trialClock_inv]

theorem State.trialFail_inv (s : State) (h : s.Inv) : (State.trialFail s).1.Inv := by
  unfold State.trialFail
  grind -ring -linarith -lia -ac [State.Inv, State.event_inv, State.setSlotSt_inv, State.handBegin_inv, State.setMode_inv]

theorem State.eraseResume_inv (s : State) (h : s.Inv) : (State.eraseResume s).Inv := by
  unfold State.eraseResume
  grind -ring -linarith -lia -ac [State.Inv]

theorem State.setCoreSt_inv (s : State) (k : Nat) (v : CoreSt) (h : s.Inv) : (State.setCoreSt s k v).Inv := by
  unfold State.setCoreSt
  grind -ring -linarith -lia -ac [State.Inv]

theorem State.dozeOut_inv (s : State) (h : s.Inv) : (State.dozeOut s).Inv := by
  unfold State.dozeOut
  grind -ring -linarith -lia -ac [State.Inv, foldl_inv, State.eraseResume_inv, State.traceIn_inv, State.setCoreSt_inv, State.drew_inv]

theorem State.swapDrop_inv (s : State) (h : s.Inv) : (State.swapDrop s).Inv := by
  unfold State.swapDrop
  grind -ring -linarith -lia -ac [State.Inv, State.answer_inv]

theorem State.failsafe_inv (s : State) (h : s.Inv) : (State.failsafe s).1.Inv := by
  unfold State.failsafe
  grind -ring -linarith -lia -ac [State.Inv, State.trialFail_inv, State.setMode_inv, State.dozeOut_inv, State.swapDrop_inv]

theorem State.svcBegin_inv (s : State) (n : Nat) (cause : Nat) (fromDram : Bool) (h : s.Inv) : (State.svcBegin s n cause fromDram).Inv := by
  unfold State.svcBegin
  grind -ring -linarith -lia -ac [State.Inv, State.setSvc_inv, State.setO_inv, State.cswRestart_inv, State.bump_inv]

theorem State.svcRestart_inv (s : State) (n : Nat) (cause : Nat) (fromDram : Bool) (h : s.Inv) : (State.svcRestart s n cause
    fromDram).1.Inv := by
  unfold State.svcRestart
  grind -ring -linarith -lia -ac [State.Inv, State.setSvc_inv, State.setO_inv, State.cswRestart_inv, State.traceSvc_inv,
    State.failsafe_inv, State.svcBegin_inv]

theorem State.hold_inv (s : State) (h : s.Inv) : (State.hold s).1.Inv := by
  unfold State.hold
  grind -ring -linarith -lia -ac [State.Inv, State.failsafe_inv]

/-- What reset keeps of the dictionary is canonical. -/
theorem State.odAfter_wf (s : State) (warm : Bool) (h : s.Inv) : Tab.objWf (s.odAfter warm) = true :=
  foldl_tsetF_wf _ (fun c => objKey (0xB830 + c) 5 0) _ _ _ (wfWith_filter _ h.2.1)

theorem State.rebuild_inv (s0 : State) (a1 : Bool) (a2 : Bool) (h0 : s0.Inv) : (State.rebuild s0 a1 a2).Inv := by
  refine ⟨?_, State.odAfter_wf s0 a1 h0, h0.2.2⟩
  show Memory.wf (if a1 then s0.dram else []) = true
  split
  · exact h0.1
  · rfl

theorem State.beginReset_inv (s : State) (cause : Nat) (h : s.Inv) : (State.beginReset s cause).Inv := by
  unfold State.beginReset
  grind -ring -linarith -lia -ac [State.Inv, State.event_inv, State.commitCancelMode_inv, State.rebuild_inv, State.bump_inv]

theorem State.claimRelease_inv (s : State) (h : s.Inv) : (State.claimRelease s).Inv := by
  unfold State.claimRelease
  grind -ring -linarith -lia -ac [State.Inv, foldl_inv, State.setField_inv]

theorem State.applyReaction_inv (s : State) (source : Nat) (code : Nat) (res : Nat) (h : s.Inv) : (State.applyReaction s source code
    res).1.Inv := by
  unfold State.applyReaction
  grind -ring -linarith -lia -ac [State.Inv, State.quarantine_inv, State.enginePark_inv, State.svcRestart_inv, State.hold_inv,
    State.beginReset_inv, State.claimRelease_inv, State.failsafe_inv]

theorem State.react_inv (s : State) (r : Report) (h : s.Inv) : (State.react s r).1.Inv := by
  unfold State.react
  grind -ring -linarith -lia -ac [State.Inv, State.faultState_inv, State.recordReport_inv, State.applyReaction_inv]

theorem State.reportFuel_inv (a0 : Nat) (s1 : State) (a2 : Report) (h1 : s1.Inv) : (State.reportFuel a0 s1 a2).Inv := by
  induction a0 generalizing s1 a2 <;> unfold State.reportFuel <;> grind -ring -linarith -lia -ac [State.Inv, outInv, someAll, okAll,
    engResInv, pullInv, foldl_inv, State.faultState_inv, State.recordReport_inv, State.react_inv]

theorem State.report_inv (s : State) (r : Report) (h : s.Inv) : (State.report s r).Inv := by
  unfold State.report
  grind -ring -linarith -lia -ac [State.Inv, State.reportFuel_inv]

theorem State.hingeLoad_inv (s : State) (n : Nat) (b : HingeBody) (h : s.Inv) : (State.hingeLoad s n b).Inv := by
  unfold State.hingeLoad
  grind -ring -linarith -lia -ac [State.Inv]

theorem State.degradeSettle_inv (s : State) (h : s.Inv) : (State.degradeSettle s).Inv := by
  unfold State.degradeSettle
  grind -ring -linarith -lia -ac [State.Inv, State.setMode_inv]

theorem State.degrade_inv (s : State) (cause : Nat) (on : Bool) (h : s.Inv) : (State.degrade s cause on).Inv := by
  unfold State.degrade
  grind -ring -linarith -lia -ac [State.Inv, State.degradeSettle_inv]

theorem State.answerRead_inv (s : State) (n : Nat) (r : Resp) (h : s.Inv) : (State.answerRead s n r).Inv := by
  unfold State.answerRead
  grind -ring -linarith -lia -ac [State.Inv, State.answerAs_inv]

theorem State.setBank_inv (s : State) (b : Nat) (v : Bank) (h : s.Inv) : (State.setBank s b v).Inv := by
  unfold State.setBank
  grind -ring -linarith -lia -ac [State.Inv]

theorem State.levelSet_inv (s : State) (source : Nat) (res : Nat) (on : Bool) (h : s.Inv) : (State.levelSet s source res on).Inv := by
  unfold State.levelSet
  grind -ring -linarith -lia -ac [State.Inv]

theorem State.setCluster_inv (s : State) (c : Nat) (v : Cluster) (h : s.Inv) : (State.setCluster s c v).Inv := by
  unfold State.setCluster
  grind -ring -linarith -lia -ac [State.Inv]

theorem State.setLock_inv (s : State) (g : Nat) (v : Lock) (h : s.Inv) : (State.setLock s g v).Inv := by
  unfold State.setLock
  grind -ring -linarith -lia -ac [State.Inv]

theorem State.svcStop_inv (s : State) (n : Nat) (h : s.Inv) : (State.svcStop s n).Inv := by
  unfold State.svcStop
  grind -ring -linarith -lia -ac [State.Inv, State.cswRestart_inv, State.traceSvc_inv, State.setSvc_inv]

theorem State.svcStart_inv (s : State) (n : Nat) (k : Nat) (h : s.Inv) : (State.svcStart s n k).Inv := by
  unfold State.svcStart
  grind -ring -linarith -lia -ac [State.Inv, State.setSvc_inv, State.traceSvc_inv, State.hingeLoad_inv]

theorem State.hingeCopy_inv (s : State) (n : Nat) (h : s.Inv) : (State.hingeCopy s n).Inv := by
  unfold State.hingeCopy
  grind -ring -linarith -lia -ac [State.Inv, foldl_inv, State.setSvc_inv, State.setChan_inv]

theorem State.hinge_inv (s : State) (n : Nat) (h : s.Inv) : (State.hinge s n).Inv := by
  unfold State.hinge
  grind -ring -linarith -lia -ac [State.Inv, foldl_inv, State.setSvc_inv, State.setChan_inv]

theorem State.svcMove_inv (s : State) (n : Nat) (k : Nat) (h : s.Inv) : (State.svcMove s n k).Inv := by
  unfold State.svcMove
  grind -ring -linarith -lia -ac [State.Inv, State.hingeCopy_inv, State.hinge_inv, State.traceSvc_inv, State.setSvc_inv]

theorem State.applyPlacement_inv (s : State) (p : List (Nat × Nat)) (h : s.Inv) : (State.applyPlacement s p).Inv := by
  unfold State.applyPlacement
  grind -ring -linarith -lia -ac [State.Inv, foldl_inv, State.svcStop_inv, State.svcStart_inv, State.svcMove_inv]

theorem State.placeNow_inv (s : State) (h : s.Inv) : (State.placeNow s).Inv := by
  unfold State.placeNow
  grind -ring -linarith -lia -ac [State.Inv, State.applyPlacement_inv]

theorem State.logStep_inv (s : State) (count : Nat) (h : s.Inv) : (State.logStep s count).Inv := by
  unfold State.logStep
  grind -ring -linarith -lia -ac [State.Inv, foldl_inv, State.logMarker_inv]

theorem State.updDrop_inv (s : State) (h : s.Inv) : (State.updDrop s).Inv := by
  unfold State.updDrop
  grind -ring -linarith -lia -ac [State.Inv, State.setSlotSt_inv]

theorem State.linkBlock_inv (s : State) (kind : Nat) (b : Nat → List Byte) (h : s.Inv) : (State.linkBlock s kind b).Inv := by
  unfold State.linkBlock
  grind -ring -linarith -lia -ac [State.Inv, State.emit_inv]

theorem State.mirrorSegs_inv (s0 : State) (a1 : Nat) (a2 : Nat) (a3 : Nat) (a4 : Nat) (a5 : List Byte) (h0 : s0.Inv) : (State.mirrorSegs s0
    a1 a2 a3 a4 a5).Inv := by
  induction a4 generalizing s0 a3 a5 <;> unfold State.mirrorSegs <;> grind -ring -linarith -lia -ac [State.Inv, outInv, someAll, okAll,
    engResInv, pullInv, foldl_inv, State.linkBlock_inv]

theorem State.mirrorOut_inv (s : State) (seq : Nat) (r : MirrorRec) (h : s.Inv) : (State.mirrorOut s seq r).Inv := by
  unfold State.mirrorOut
  grind -ring -linarith -lia -ac [State.Inv, State.mirrorSegs_inv, State.bump_inv]

theorem State.mirror_inv (s : State) (r : MirrorRec) (h : s.Inv) : (State.mirror s r).Inv := by
  unfold State.mirror
  grind -ring -linarith -lia -ac [State.Inv, State.mirrorOut_inv]

theorem State.goActive_inv (s : State) (h : s.Inv) : (State.goActive s).Inv := by
  unfold State.goActive
  grind -ring -linarith -lia -ac [State.Inv, State.setMode_inv]

theorem State.claimSeek_inv (s : State) (h : s.Inv) : (State.claimSeek s).Inv := by
  unfold State.claimSeek
  grind -ring -linarith -lia -ac [State.Inv]

theorem State.returnService_inv (s : State) (h : s.Inv) : (State.returnService s).Inv := by
  unfold State.returnService
  grind -ring -linarith -lia -ac [State.Inv, State.setMode_inv, State.goActive_inv, State.claimSeek_inv]

theorem State.reports_inv (s : State) (l : List Report) (h : s.Inv) : (State.reports s l).Inv := by
  unfold State.reports
  grind -ring -linarith -lia -ac [State.Inv, foldl_inv, State.report_inv]

theorem State.withReports_inv (x : State × List Report) (h : x.1.Inv) : (State.withReports x).Inv := by
  unfold State.withReports
  grind -ring -linarith -lia -ac [State.Inv, State.reports_inv]

theorem State.dozeDram_inv (s : State) (h : s.Inv) : (State.dozeDram s).Inv := by
  unfold State.dozeDram
  grind -ring -linarith -lia -ac [State.Inv, State.bump_inv]

theorem State.dozeCores_inv (s : State) (h : s.Inv) : (State.dozeCores s).Inv := by
  unfold State.dozeCores
  grind -ring -linarith -lia -ac [State.Inv, foldl_inv, State.hinge_inv, State.setSvc_inv, State.setCoreSt_inv, State.traceIn_inv]

theorem State.fieldsOff_inv (s : State) (h : s.Inv) : (State.fieldsOff s).Inv := by
  unfold State.fieldsOff
  grind -ring -linarith -lia -ac [State.Inv, foldl_inv, State.fieldOff_inv]

theorem State.svcsQuiesce_inv (s : State) (h : s.Inv) : (State.svcsQuiesce s).Inv := by
  unfold State.svcsQuiesce
  grind -ring -linarith -lia -ac [State.Inv, foldl_inv, State.hinge_inv, State.setSvc_inv]

theorem State.shutdownBegin_inv (s : State) (warned : Bool) (h : s.Inv) : (State.shutdownBegin s warned).Inv := by
  unfold State.shutdownBegin
  grind -ring -linarith -lia -ac [State.Inv, State.setMode_inv, State.updDrop_inv, State.claimRelease_inv, State.dozeOut_inv,
    State.swapDrop_inv, State.fieldsOff_inv, State.svcsQuiesce_inv]

theorem State.ownSet_inv (s : State) (n : Nat) (index : Nat) (sub : Nat) (v : Nat) (h : s.Inv) : (State.ownSet s n index sub v).Inv := by
  unfold State.ownSet
  grind -ring -linarith -lia -ac [State.Inv, State.setSession_inv]

theorem State.setCtx_inv (s : State) (c : Ctx) (v : RegCtx) (h : s.Inv) : (State.setCtx s c v).Inv := by
  unfold State.setCtx
  grind -ring -linarith -lia -ac [State.Inv]

theorem State.chanPop_inv (s : State) (c : Nat) (a2 : Item) (h : s.Inv) : (State.chanPop s c a2).Inv := by
  unfold State.chanPop
  grind -ring -linarith -lia -ac [State.Inv, State.setChan_inv]

theorem State.chanIdle_inv (s : State) (c : Nat) (waits : Bool) (h : s.Inv) : (State.chanIdle s c waits).Inv := by
  unfold State.chanIdle
  grind -ring -linarith -lia -ac [State.Inv, State.bump_inv, State.setChan_inv]

theorem State.arrived_inv (s : State) (a : Arrival) (h : s.Inv) : (State.arrived s a).Inv := by
  unfold State.arrived
  grind -ring -linarith -lia -ac [State.Inv]

theorem State.asWrite_inv (s : State) (n : Nat) (mask : Nat) (index : Nat) (sub : Nat) (run : State → State) (h0 : s.Inv) (h5 : ∀ x0,
    x0.Inv → (run x0).Inv) : (State.asWrite s n mask index sub run).Inv := by
  unfold State.asWrite
  grind -ring -linarith -lia -ac [State.Inv, State.answer_inv]

theorem State.portCount_inv (s : State) (p : Port) (sub : Nat) (h : s.Inv) : (State.portCount s p sub).Inv := by
  unfold State.portCount
  grind -ring -linarith -lia -ac [State.Inv, State.bump_inv]

theorem State.setPort_inv (s : State) (p : Port) (v : RingPort) (h : s.Inv) : (State.setPort s p v).Inv := by
  unfold State.setPort
  grind -ring -linarith -lia -ac [State.Inv]

theorem State.setSpecTag_inv (s : State) (g : Nat) (v : Option SpecTag) (h : s.Inv) : (State.setSpecTag s g v).Inv := by
  unfold State.setSpecTag
  grind -ring -linarith -lia -ac [State.Inv]

theorem State.revokeTag_inv (s : State) (g : Nat) (h : s.Inv) : (State.revokeTag s g).Inv := by
  unfold State.revokeTag
  grind -ring -linarith -lia -ac [State.Inv, foldl_inv, State.setSpecTag_inv, State.groupFailAll_inv, State.chanRemove_inv,
    State.heldDrop_inv, State.restoreAll_inv, State.bumpBy_inv, State.bump_inv]

theorem State.hostFail_inv (s : State) (code : Nat) (addr : Nat) (h : s.Inv) : (State.hostFail s code addr).Inv := by
  unfold State.hostFail
  grind -ring -linarith -lia -ac [State.Inv, State.bump_inv, State.hostInt_inv, State.noteSet_inv]

theorem State.refuseAccess_inv (s : State) (c : Ctx) (code : Nat) (addr : Nat) (h : s.Inv) : (State.refuseAccess s c code addr).Inv := by
  unfold State.refuseAccess
  grind -ring -linarith -lia -ac [State.Inv, State.hostFail_inv, State.emit_inv]

theorem State.cswFired_inv (s : State) (i : Nat) (st : Nat) (h : s.Inv) : (State.cswFired s i st).Inv := by
  unfold State.cswFired
  grind -ring -linarith -lia -ac [State.Inv, State.setBrk_inv]

theorem State.canCount_inv (s : State) (k : Nat) (sub : Nat) (h : s.Inv) : (State.canCount s k sub).Inv := by
  unfold State.canCount
  grind -ring -linarith -lia -ac [State.Inv, State.bump_inv]

theorem State.canEnded_inv (s : State) (k : Nat) (h : s.Inv) : (State.canEnded s k).Inv := by
  unfold State.canEnded
  grind -ring -linarith -lia -ac [State.Inv, State.setCtl_inv]

theorem State.chanConsume_inv (s : State) (c : Nat) (h : s.Inv) : (State.chanConsume s c).Inv := by
  unfold State.chanConsume
  grind -ring -linarith -lia -ac [State.Inv, State.setChan_inv]

theorem State.chanHold_inv (s : State) (c : Nat) (a2 : Item) (h : s.Inv) : (State.chanHold s c a2).Inv := by
  unfold State.chanHold
  grind -ring -linarith -lia -ac [State.Inv, State.setChan_inv]

theorem State.claimTake_inv (s : State) (cause : Nat) (h : s.Inv) : (State.claimTake s cause).Inv := by
  unfold State.claimTake
  grind -ring -linarith -lia -ac [State.Inv, foldl_inv, State.setO_inv, State.bump_inv, State.setField_inv, State.fieldStart_inv]

theorem State.shutIfWaiting_inv (s : State) (h : s.Inv) : (State.shutIfWaiting s).Inv := by
  unfold State.shutIfWaiting
  grind -ring -linarith -lia -ac [State.Inv, State.shutdownBegin_inv]

theorem State.coEdge_inv (s : State) (h : s.Inv) : (State.coEdge s).Inv := by
  unfold State.coEdge
  grind -ring -linarith -lia -ac [State.Inv, foldl_inv, State.setCoreSt_inv]

theorem State.coSquash_inv (s : State) (k : Nat) (h : s.Inv) : (State.coSquash s k).Inv := by
  unfold State.coSquash
  grind -ring -linarith -lia -ac [State.Inv, State.setCoreSt_inv]

theorem State.engConfirm_inv (s : State) (e : Nat) (h : s.Inv) : (State.engConfirm s e).Inv := by
  unfold State.engConfirm
  grind -ring -linarith -lia -ac [State.Inv, State.chanConsume_inv, State.setEng_inv]

theorem State.takenSettle_inv (s : State) (c : Nat) (h : s.Inv) : (State.takenSettle s c).Inv := by
  unfold State.takenSettle
  grind -ring -linarith -lia -ac [State.Inv, State.setChan_inv]

theorem State.groupTryRelease_inv (s : State) (h : s.Inv) : (State.groupTryRelease s).Inv := by
  unfold State.groupTryRelease
  grind -ring -linarith -lia -ac [State.Inv, foldl_inv, State.engConfirm_inv, State.bump_inv]

theorem State.confirmTag_inv (s : State) (g : Nat) (h : s.Inv) : (State.confirmTag s g).Inv := by
  unfold State.confirmTag
  grind -ring -linarith -lia -ac [State.Inv, foldl_inv, State.setSpecTag_inv, State.tapSee_inv, State.setChan_inv, State.engConfirm_inv,
    State.setEng_inv, State.takenSettle_inv, State.groupTryRelease_inv, State.bump_inv]

theorem State.coreRail_inv (s : State) (bad : Bool) (h : s.Inv) : (State.coreRail s bad).Inv := by
  unfold State.coreRail
  grind -ring -linarith -lia -ac [State.Inv]

theorem State.coreRetire_inv (s0 : State) (a1 : Nat) (a2 : Nat) (h0 : s0.Inv) : (State.coreRetire s0 a1 a2).1.Inv := by
  unfold State.coreRetire
  extract_lets src t l order
  have ht : t.Inv := State.setCoreSt_inv _ _ _ h0
  apply State.degrade_inv
  split
  · exact foldl_inv _ _ _ (fun _ _ h => State.svcMove_inv _ _ _ h) ht
  · refine foldl_fst_inv _ _ _ (fun q n h => ?_) ht
    split
    · exact State.svcMove_inv _ _ _ h
    · exact State.setSvc_inv _ _ _ h

theorem State.svcRestarts_inv (s0 : State) (a1 : List Nat) (a2 : Nat) (a3 : Bool) (h0 : s0.Inv) : (State.svcRestarts s0 a1 a2 a3).1.Inv :=
    foldl_fst_inv _ _ _ (fun _ _ h => State.svcRestart_inv _ _ _ _ h) h0

theorem State.datagramIn_inv (s : State) (b : List Byte) (h : s.Inv) : (State.datagramIn s b).Inv := by
  unfold State.datagramIn
  grind -ring -linarith -lia -ac [State.Inv, State.arrived_inv]

theorem State.hostReadFail_inv (s : State) (n : Nat) (code : Nat) (addr : Nat) (h : s.Inv) : (State.hostReadFail s n code addr).Inv := by
  unfold State.hostReadFail
  grind -ring -linarith -lia -ac [State.Inv, State.hostFail_inv, State.emit_inv]

theorem State.fabricAnswer_inv (s : State) (node : Nat) (seq : Nat) (status : Nat) (part : Nat) (count : Nat) (typ : Nat) (payload : List
    Byte) (h : s.Inv) : (State.fabricAnswer s node seq status part count typ payload).Inv := by
  unfold State.fabricAnswer
  grind -ring -linarith -lia -ac [State.Inv]

theorem State.heldEnd_inv (s : State) (w : Waiter) (err : Option Nat) (h : s.Inv) : (State.heldEnd s w err).Inv := by
  unfold State.heldEnd
  grind -ring -linarith -lia -ac [State.Inv, State.answer_inv, State.fabricAnswer_inv]

theorem State.epTake_inv (s : State) (c : Nat) (l : List Item) (h : s.Inv) : (State.epTake s c l).Inv := by
  unfold State.epTake
  grind -ring -linarith -lia -ac [State.Inv, foldl_inv, State.chanHold_inv]

theorem State.epPacket_inv (s : State) (c : Nat) (h : s.Inv) : someAll (fun x => x.2.Inv) (State.epPacket s c) := by
  unfold State.epPacket
  grind -ring -linarith -lia -ac [State.Inv, someAll, State.epTake_inv]

theorem State.logRelease_inv (s : State) (h : s.Inv) : (State.logRelease s).Inv := by
  unfold State.logRelease
  grind -ring -linarith -lia -ac [State.Inv, foldl_inv, State.logWrite_inv, State.logMarker_inv]

theorem State.logHoldEnd_inv (s : State) (h : s.Inv) : (State.logHoldEnd s).Inv := by
  unfold State.logHoldEnd
  grind -ring -linarith -lia -ac [State.Inv, State.logRelease_inv]

theorem State.readBack_inv (s : State) (fromDram : Bool) (c : Nat) (h : s.Inv) : (State.readBack s fromDram c).Inv := by
  unfold State.readBack
  grind -ring -linarith -lia -ac [State.Inv, State.setChan_inv]

theorem State.recoveryNote_inv (s : State) (h : s.Inv) : (State.recoveryNote s).Inv := by
  unfold State.recoveryNote
  grind -ring -linarith -lia -ac [State.Inv]

theorem State.refuseRead_inv (s : State) (c : Ctx) (n : Nat) (code : Nat) (addr : Nat) (h : s.Inv) : (State.refuseRead s c n code addr).Inv
    := by
  unfold State.refuseRead
  grind -ring -linarith -lia -ac [State.Inv, State.hostReadFail_inv, State.emit_inv]

theorem State.reply_inv (s : State) (c : Ctx) (n : Nat) (v : Nat) (h : s.Inv) : (State.reply s c n v).Inv := by
  unfold State.reply
  grind -ring -linarith -lia -ac [State.Inv, State.emit_inv]

theorem State.shadowEdge_inv (s : State) (h : s.Inv) : (State.shadowEdge s).Inv := by
  unfold State.shadowEdge
  grind -ring -linarith -lia -ac [State.Inv, foldl_inv]

theorem State.svcResume_inv (s : State) (n : Nat) (h : s.Inv) : (State.svcResume s n).Inv := by
  unfold State.svcResume
  grind -ring -linarith -lia -ac [State.Inv, foldl_inv, State.setSvc_inv, State.readBack_inv, State.hingeLoad_inv, State.traceSvc_inv]

theorem State.traceAfter_inv (s : State) (m : TraceMsg) (h : s.Inv) : (State.traceAfter s m).Inv := by
  unfold State.traceAfter
  grind -ring -linarith -lia -ac [State.Inv, State.markerPut_inv, State.tracePut_inv]

theorem State.traceHoldEnd_inv (s : State) (h : s.Inv) : (State.traceHoldEnd s).Inv := by
  unfold State.traceHoldEnd
  grind -ring -linarith -lia -ac [State.Inv, foldl_inv, State.traceAfter_inv, State.markerPut_inv]

end Sys2Proof.Machine
end

