-- ==== Sys2Proof/Laws/KeepsRing.lean ====
section
/-!
SUPPORT. What the engines, channels, ring and switch keep: memory, the dictionary and the store stay canonical.
-/

namespace Sys2Proof.Machine

open Sys2Proof

set_option Elab.async false

theorem State.moved_inv (s : State) (i : Nat) (h : s.Inv) : (State.moved s i).Inv := by
  unfold State.moved
  grind -ring -linarith -lia -ac [State.Inv, State.bump_inv]

theorem State.setCell_inv (s : State) (i : Nat) (v : Cell) (h : s.Inv) : (State.setCell s i v).Inv := by
  unfold State.setCell
  grind -ring -linarith -lia -ac [State.Inv]

theorem State.passCell_inv (s : State) (q : Nat) (i : Nat) (h : s.Inv) : (State.passCell s q i).Inv := by
  unfold State.passCell
  grind -ring -linarith -lia -ac [State.Inv, State.moved_inv, State.setCell_inv]

theorem State.kennelCheck_inv (s : State) (h : s.Inv) : (State.kennelCheck s).Inv := by
  unfold State.kennelCheck
  grind -ring -linarith -lia -ac [State.Inv]

theorem State.freeCellList_inv (s : State) (l : List Nat) (h : s.Inv) : (State.freeCellList s l).Inv := by
  unfold State.freeCellList
  grind -ring -linarith -lia -ac [State.Inv, foldl_inv, State.passCell_inv, State.kennelCheck_inv]

theorem State.dropIn_inv (s : State) (f : InFrame) (sub : Nat) (h : s.Inv) : (State.dropIn s f sub).Inv := by
  unfold State.dropIn
  grind -ring -linarith -lia -ac [State.Inv, State.freeCellList_inv, State.bump_inv]

theorem State.evict_inv (s : State) (q : Nat) (h : s.Inv) : (State.evict s q).Inv := by
  unfold State.evict
  grind -ring -linarith -lia -ac [State.Inv, State.bump_inv, State.freeCellList_inv, State.setQueue_inv]

theorem State.evictFor_inv (s0 : State) (a1 : Nat) (a2 : Nat) (a3 : Nat) (a4 : Nat) (a5 : Nat) (h0 : s0.Inv) : (State.evictFor s0 a1 a2 a3
    a4 a5).1.Inv := by
  induction a5 generalizing s0 <;> unfold State.evictFor <;> grind -ring -linarith -lia -ac [State.Inv, outInv, someAll, okAll, engResInv,
    pullInv, foldl_inv, State.evict_inv]

theorem State.ownCell_inv (s : State) (q : Nat) (i : Nat) (h : s.Inv) : (State.ownCell s q i).Inv := by
  unfold State.ownCell
  grind -ring -linarith -lia -ac [State.Inv, State.moved_inv, State.setCell_inv]

theorem State.takeCells_inv (s0 : State) (a1 : Nat) (a2 : Nat) (h0 : s0.Inv) : (State.takeCells s0 a1 a2).1.Inv := by
  induction a2 generalizing s0 <;> unfold State.takeCells <;> grind -ring -linarith -lia -ac [State.Inv, outInv, someAll, okAll, engResInv,
    pullInv, foldl_inv, State.ownCell_inv]

theorem State.appendOn_inv (s : State) (q : Nat) (f : InFrame) (h : s.Inv) : (State.appendOn s q f).Inv := by
  unfold State.appendOn
  grind -ring -linarith -lia -ac [State.Inv, foldl_inv, State.passCell_inv, State.takeCells_inv, State.freeCellList_inv, State.setQueue_inv]

theorem State.takeSpill_inv (s0 : State) (a1 : Nat) (a2 : Nat) (h0 : s0.Inv) : (State.takeSpill s0 a1 a2).1.Inv := by
  induction a2 generalizing s0 <;> unfold State.takeSpill <;> grind -ring -linarith -lia -ac [State.Inv, outInv, someAll, okAll, engResInv,
    pullInv, foldl_inv, State.ownCell_inv]

theorem State.appendKennel_inv (s : State) (q : Nat) (f : InFrame) (h : s.Inv) : (State.appendKennel s q f).Inv := by
  unfold State.appendKennel
  grind -ring -linarith -lia -ac [State.Inv, State.takeSpill_inv, State.freeCellList_inv, State.setQueue_inv, State.kennelCheck_inv,
    State.setO_inv, State.bump_inv, State.report_inv]

theorem State.place_inv (s : State) (q : Nat) (f : InFrame) (a3 : Fit) (h : s.Inv) : (State.place s q f a3).Inv := by
  unfold State.place
  grind -ring -linarith -lia -ac [State.Inv, State.appendOn_inv, State.appendKennel_inv]

theorem State.takeIn_inv (s : State) (q : Nat) (f : InFrame) (h : s.Inv) : (State.takeIn s q f).1.Inv := by
  unfold State.takeIn
  grind -ring -linarith -lia -ac [State.Inv, State.dropIn_inv, State.evictFor_inv, State.report_inv, State.place_inv, State.wake_inv,
    State.appendKennel_inv, State.appendOn_inv]

theorem State.originate_inv (s : State) (o : Orig) (h : s.Inv) : (State.originate s o).Inv := by
  unfold State.originate
  grind -ring -linarith -lia -ac [State.Inv]

theorem State.supervise_inv (s : State) (p : Port) (fields : List Nat) (payload : List Byte) (h : s.Inv) : (State.supervise s p fields
    payload).Inv := by
  unfold State.supervise
  grind -ring -linarith -lia -ac [State.Inv, State.originate_inv]

theorem State.announce_inv (s : State) (p : Port) (h : s.Inv) : (State.announce s p).Inv := by
  unfold State.announce
  grind -ring -linarith -lia -ac [State.Inv, State.supervise_inv]

theorem State.wrapWrite_inv (s : State) (e : Nat) (bottom : Nat) (top : Nat) (h : s.Inv) : (State.wrapWrite s e bottom top).Inv := by
  unfold State.wrapWrite
  grind -ring -linarith -lia -ac [State.Inv, State.setEng_inv]

theorem State.setPtp_inv (s : State) (p : Fin 2) (x : PtpPort) (h : s.Inv) : (State.setPtp s p x).Inv := by
  unfold State.setPtp
  grind -ring -linarith -lia -ac [State.Inv, State.setO_inv]

theorem State.sfgUpdate_inv (s : State) (h : s.Inv) : (State.sfgUpdate s).Inv := by
  unfold State.sfgUpdate
  grind -ring -linarith -lia -ac [State.Inv, State.setO_inv, State.report_inv]

theorem State.ringClear_inv (s : State) (h : s.Inv) : (State.ringClear s).Inv := by
  unfold State.ringClear
  grind -ring -linarith -lia -ac [State.Inv, State.clearSubs_inv]

theorem State.switchClear_inv (s : State) (h : s.Inv) : (State.switchClear s).Inv := by
  unfold State.switchClear
  grind -ring -linarith -lia -ac [State.Inv, State.clearSubs_inv]

theorem State.setSvPub_inv (s : State) (n : Nat) (v : SvPub) (h : s.Inv) : (State.setSvPub s n v).Inv := by
  unfold State.setSvPub
  grind -ring -linarith -lia -ac [State.Inv]

theorem State.svStep_inv (s : State) (n : Nat) (h : s.Inv) : (State.svStep s n).Inv := by
  unfold State.svStep
  grind -ring -linarith -lia -ac [State.Inv, State.bump_inv, State.setSvPub_inv]

theorem State.markQueues_inv (s : State) (step : Bool) (count : Nat) (h : s.Inv) : (State.markQueues s step count).Inv := by
  unfold State.markQueues
  grind -ring -linarith -lia -ac [State.Inv, foldl_inv, State.faultPush_inv, State.logStep_inv, State.logMarker_inv, State.traceMarker_inv,
    State.event_inv, State.svStep_inv]

theorem State.chanFlush_inv (s : State) (c : Nat) (h : s.Inv) : (State.chanFlush s c).Inv := by
  unfold State.chanFlush
  grind -ring -linarith -lia -ac [State.Inv, State.setChan_inv]

theorem State.quarRelease_inv (s : State) (c : Nat) (h : s.Inv) : (State.quarRelease s c).Inv := by
  unfold State.quarRelease
  grind -ring -linarith -lia -ac [State.Inv, State.setChan_inv]

theorem State.chanClear_inv (s : State) (c : Nat) (h : s.Inv) : (State.chanClear s c).Inv := by
  unfold State.chanClear
  grind -ring -linarith -lia -ac [State.Inv, State.clearSubs_inv]

theorem State.lockStart_inv (s : State) (g : Nat) (h : s.Inv) : (State.lockStart s g).Inv := by
  unfold State.lockStart
  grind -ring -linarith -lia -ac [State.Inv, State.setLock_inv]

theorem State.engineRestart_inv (s : State) (e : Nat) (h : s.Inv) : (State.engineRestart s e).Inv := by
  unfold State.engineRestart
  grind -ring -linarith -lia -ac [State.Inv, State.enginePark_inv, State.engineStart_inv]

theorem State.engineClear_inv (s : State) (e : Nat) (h : s.Inv) : (State.engineClear s e).Inv := by
  unfold State.engineClear
  grind -ring -linarith -lia -ac [State.Inv, State.clearSubs_inv]

theorem State.arbitrate_inv (s : State) (now : Nat) (h : s.Inv) : (State.arbitrate s now).Inv := by
  unfold State.arbitrate
  grind -ring -linarith -lia -ac [State.Inv, State.bump_inv]

theorem State.setSlot_inv (s : State) (n : Nat) (v : KeySlot) (h : s.Inv) : (State.setSlot s n v).Inv := by
  unfold State.setSlot
  grind -ring -linarith -lia -ac [State.Inv]

theorem State.useKey_inv (s : State) (n : Nat) (h : s.Inv) : (State.useKey s n).Inv := by
  unfold State.useKey
  grind -ring -linarith -lia -ac [State.Inv, State.setSlot_inv, State.report_inv]

theorem State.readChIn_inv (s : State) (c : Ctx) (h : s.Inv) : (State.readChIn s c).1.Inv := by
  unfold State.readChIn
  grind -ring -linarith -lia -ac [State.Inv, State.setCtx_inv]

theorem State.readChOut_inv (s : State) (c : Ctx) (h : s.Inv) : (State.readChOut s c).1.Inv := by
  unfold State.readChOut
  grind -ring -linarith -lia -ac [State.Inv, State.setCtx_inv]

theorem State.readChHwm_inv (s : State) (c : Ctx) (h : s.Inv) : (State.readChHwm s c).1.Inv := by
  unfold State.readChHwm
  grind -ring -linarith -lia -ac [State.Inv, State.setChan_inv]

theorem State.readStall_inv (s : State) (c : Nat) (h : s.Inv) : (State.readStall s c).1.Inv := by
  unfold State.readStall
  grind -ring -linarith -lia -ac [State.Inv, State.setCluster_inv]

theorem State.readSwAudit_inv (s : State) (h : s.Inv) : (State.readSwAudit s).1.Inv := by
  unfold State.readSwAudit
  grind -ring -linarith -lia -ac [State.Inv]

theorem State.windowItems_inv (s0 : State) (a1 : Nat) (a2 : Nat) (h0 : s0.Inv) : someAll (fun x => x.1.Inv) (State.windowItems s0 a1 a2) :=
    by
  have hm : ∀ (o : Option (State × List Nat)) (f : List Nat → List Nat), someAll (fun x => x.1.Inv) o →
      someAll (fun x : State × List Nat => x.1.Inv) (o.map (fun x => (x.1, f x.2))) := fun o f h => by cases o <;> simp_all [someAll]
  induction a2 generalizing s0 with
  | zero => exact h0
  | succ n ih =>
    unfold State.windowItems
    repeat' split
    · trivial
    · exact hm _ _ (ih _ (State.chanPop_inv _ _ _ h0))
    · exact hm _ _ (ih _ (State.chanIdle_inv _ _ _ h0))

theorem State.readWindow_inv (s0 : State) (a1 : Nat) (a2 : Nat) (a3 : Nat) (h0 : s0.Inv) : okAll (fun x => someAll (fun y => y.1.Inv) x)
    (State.readWindow s0 a1 a2 a3) := by
  unfold State.readWindow
  repeat' split
  · trivial
  · exact h0
  · have := State.windowItems_inv s0 a1 (a3 / 4) h0
    cases hw : s0.windowItems a1 (a3 / 4) <;> simp_all [okAll, someAll]
  · trivial

theorem State.dramBad_inv (s : State) (a : Nat) (h : s.Inv) : (State.dramBad s a).Inv := by
  unfold State.dramBad
  grind -ring -linarith -lia -ac [State.Inv, State.noteSet_inv, State.bump_inv]

theorem State.remoteStart_inv (s : State) (who : Asker) (node : Nat) (addr : Nat) (len : Nat) (data : Option (List Byte)) (pre : Tab
    (Option Nat)) (h : s.Inv) : (State.remoteStart s who node addr len data pre).Inv := by
  unfold State.remoteStart
  grind -ring -linarith -lia -ac [State.Inv]

theorem State.flagRaised_inv (s : State) (c : Nat) (f : Nat) (h : s.Inv) : (State.flagRaised s c f).Inv := by
  unfold State.flagRaised
  grind -ring -linarith -lia -ac [State.Inv, State.hostInt_inv, State.emit_inv]

theorem State.flagPut_inv (s : State) (c : Nat) (f : Nat) (v : Bool) (h : s.Inv) : (State.flagPut s c f v).Inv := by
  unfold State.flagPut
  grind -ring -linarith -lia -ac [State.Inv, State.flagRaised_inv, State.setCluster_inv]

theorem State.flagSet_inv (s : State) (c : Nat) (f : Nat) (h : s.Inv) : (State.flagSet s c f).Inv := by
  unfold State.flagSet
  grind -ring -linarith -lia -ac [State.Inv, State.flagPut_inv, State.noteSet_inv]

theorem State.flagClear_inv (s : State) (c : Nat) (f : Nat) (h : s.Inv) : (State.flagClear s c f).Inv := by
  unfold State.flagClear
  grind -ring -linarith -lia -ac [State.Inv, State.flagPut_inv]

theorem State.flagWrite_inv (s : State) (c : Nat) (f : Nat) (v : Bool) (h : s.Inv) : (State.flagWrite s c f v).Inv := by
  unfold State.flagWrite
  grind -ring -linarith -lia -ac [State.Inv, State.flagPut_inv, State.noteSet_inv, State.flagSet_inv, State.flagClear_inv]

theorem State.eccClear_inv (s : State) (h : s.Inv) : (State.eccClear s).Inv := by
  unfold State.eccClear
  grind -ring -linarith -lia -ac [State.Inv]

theorem State.writeWindow_inv (s : State) (w : Waiter) (ch : Nat) (off : Nat) (data : List Byte) (h : s.Inv) : okAll (fun x => x.1.Inv)
    (State.writeWindow s w ch off data) := by
  unfold State.writeWindow
  grind -ring -linarith -lia -ac [State.Inv, okAll, State.chanWriteAll_inv]

theorem State.auditCell_inv (s : State) (c : Nat) (h : s.Inv) : (State.auditCell s c).Inv := by
  unfold State.auditCell
  grind -ring -linarith -lia -ac [State.Inv, State.setCell_inv, State.report_inv, State.bump_inv, State.freeCellList_inv]

theorem State.auditEnd_inv (s : State) (h : s.Inv) : (State.auditEnd s).Inv := by
  unfold State.auditEnd
  grind -ring -linarith -lia -ac [State.Inv, foldl_inv, State.bump_inv, State.auditCell_inv]

theorem State.authFail_inv (s : State) (a1 : Hdr) (h : s.Inv) : (State.authFail s a1).Inv := by
  unfold State.authFail
  grind -ring -linarith -lia -ac [State.Inv, State.bump_inv, State.report_inv]

theorem State.bankEdge_inv (s : State) (b : Nat) (h : s.Inv) : (State.bankEdge s b).Inv := by
  unfold State.bankEdge
  grind -ring -linarith -lia -ac [State.Inv, foldl_inv, State.setBank_inv]

theorem State.bankEdges_inv (s : State) (h : s.Inv) : (State.bankEdges s).Inv := by
  unfold State.bankEdges
  grind -ring -linarith -lia -ac [State.Inv, foldl_inv, State.bankEdge_inv]

theorem State.bucketTake_inv (s : State) (w : Nat) (h : s.Inv) : (State.bucketTake s w).Inv := by
  unfold State.bucketTake
  grind -ring -linarith -lia -ac [State.Inv]

theorem State.endCut_inv (s : State) (q : Port) (a2 : Hdr) (trailer : W32) (h : s.Inv) : (State.endCut s q a2 trailer).Inv := by
  unfold State.endCut
  grind -ring -linarith -lia -ac [State.Inv, State.emit_inv, State.setPort_inv]

theorem State.popQueue_inv (s : State) (q : Nat) (h : s.Inv) : (State.popQueue s q).Inv := by
  unfold State.popQueue
  grind -ring -linarith -lia -ac [State.Inv, State.freeCellList_inv, State.setQueue_inv]

theorem State.dupEnter_inv (s : State) (a1 : Hdr) (h : s.Inv) : (State.dupEnter s a1).2.Inv := by
  unfold State.dupEnter
  grind -ring -linarith -lia -ac [State.Inv, State.bump_inv]

theorem State.writeFrame_inv (s : State) (f : Frame) (ts : List (Nat × List Item)) (tag : Option Nat) (th : Nat) (h : s.Inv) :
    (State.writeFrame s f ts tag th).Inv := by
  unfold State.writeFrame
  grind -ring -linarith -lia -ac [State.Inv, foldl_inv, State.deliverItems_inv]

theorem State.deliverNow_inv (s : State) (f : Frame) (th : Nat) (h : s.Inv) : (State.deliverNow s f th).Inv := by
  unfold State.deliverNow
  grind -ring -linarith -lia -ac [State.Inv, State.writeFrame_inv, State.bump_inv, State.canSession_inv, State.arrived_inv]

theorem State.deliver_inv (s : State) (p : Port) (r : RxFrame) (h : s.Inv) : (State.deliver s p r).1.Inv := by
  unfold State.deliver
  grind -ring -linarith -lia -ac [State.Inv, State.deliverNow_inv]

theorem State.deliverGood_inv (s : State) (p : Port) (r : RxFrame) (h : s.Inv) : (State.deliverGood s p r).1.Inv := by
  unfold State.deliverGood
  grind -ring -linarith -lia -ac [State.Inv, State.authFail_inv, State.dupEnter_inv, State.portCount_inv, State.bump_inv, State.deliver_inv]

theorem State.deliverEnd_inv (s : State) (p : Port) (r : RxFrame) (h : s.Inv) : (State.deliverEnd s p r).Inv := by
  unfold State.deliverEnd
  grind -ring -linarith -lia -ac [State.Inv, State.deliverGood_inv, State.freeCellList_inv]

theorem State.resolveCopies_inv (s : State) (a1 : Hdr) (h : s.Inv) : (State.resolveCopies s a1).Inv := by
  unfold State.resolveCopies
  grind -ring -linarith -lia -ac [State.Inv, foldl_inv, State.deliverEnd_inv]

theorem State.cellLost_inv (s : State) (q : Nat) (h : s.Inv) : (State.cellLost s q).Inv := by
  unfold State.cellLost
  grind -ring -linarith -lia -ac [State.Inv, State.portCount_inv, State.endCut_inv, State.drew_inv, State.popQueue_inv, State.emit_inv,
    State.setPort_inv, State.resolveCopies_inv, State.revokeTag_inv]

theorem State.rewriteBad_inv (s : State) (p : Port) (h : s.Inv) : (State.rewriteBad s p).Inv := by
  unfold State.rewriteBad
  grind -ring -linarith -lia -ac [State.Inv, foldl_inv, State.setPort_inv, State.portCount_inv, State.endCut_inv, State.drew_inv]

theorem State.police_inv (s : State) (p : Nat) (b : Nat) (h : s.Inv) : (State.police s p b).1.Inv := by
  unfold State.police
  grind -ring -linarith -lia -ac [State.Inv]

theorem State.colour_inv (s : State) (src : Nat) (cls : Nat) (b : Nat) (h : s.Inv) : (State.colour s src cls b).1.Inv := by
  unfold State.colour
  grind -ring -linarith -lia -ac [State.Inv, State.police_inv]

theorem State.suspend_inv (s : State) (p : Port) (a2 : Hdr) (off : Nat) (h : s.Inv) : (State.suspend s p a2 off).Inv := by
  unfold State.suspend
  grind -ring -linarith -lia -ac [State.Inv, State.portCount_inv, State.emit_inv, State.setPort_inv]

theorem State.suspendFree_inv (s : State) (p : Port) (a2 : Hdr) (h : s.Inv) : (State.suspendFree s p a2).Inv := by
  unfold State.suspendFree
  grind -ring -linarith -lia -ac [State.Inv, State.drew_inv, State.suspend_inv, State.setPort_inv]

theorem State.cutIn_inv (s : State) (q : Port) (a2 : Hdr) (h : s.Inv) : (State.cutIn s q a2).Inv := by
  unfold State.cutIn
  grind -ring -linarith -lia -ac [State.Inv, State.suspendFree_inv, State.portCount_inv, State.emit_inv, State.setPort_inv]

theorem State.drr_inv (s0 : State) (a1 : Nat) (a2 : Nat) (h0 : s0.Inv) : (State.drr s0 a1 a2).1.Inv := by
  induction a2 generalizing s0 <;> unfold State.drr <;> grind -ring -linarith -lia -ac [State.Inv, outInv, someAll, okAll, engResInv,
    pullInv, foldl_inv, State.setQueue_inv]

theorem State.pick_inv (s : State) (p : Nat) (only7 : Bool) (h : s.Inv) : (State.pick s p only7).1.Inv := by
  unfold State.pick
  grind -ring -linarith -lia -ac [State.Inv, State.drr_inv]

theorem State.timeOut_inv (s : State) (p : Port) (f : Frame) (h : s.Inv) : (State.timeOut s p f).1.Inv := by
  unfold State.timeOut
  grind -ring -linarith -lia -ac [State.Inv, State.setPort_inv]

theorem State.tagFrame_inv (s0 : State) (a1 : Hdr) (a2 : List Byte) (h0 : s0.Inv) : (State.tagFrame s0 a1 a2).1.Inv := by
  unfold State.tagFrame
  extract_lets n k count
  repeat' split
  · exact State.report_inv _ _ (State.bump_inv _ _ _ _ h0)
  · exact State.bump_inv _ _ _ _ h0
  · exact State.bump_inv _ _ _ _ (State.useKey_inv _ _ (State.setSlot_inv _ _ _ h0))

theorem State.remoteDrop_inv (s : State) (id : Nat) (h : s.Inv) : (State.remoteDrop s id).Inv := by
  unfold State.remoteDrop
  grind -ring -linarith -lia -ac [State.Inv]

theorem State.postedEnd_inv (s : State) (r : Remote) (h : s.Inv) : (State.postedEnd s r).Inv := by
  unfold State.postedEnd
  grind -ring -linarith -lia -ac [State.Inv, State.hostFail_inv]

theorem State.hostReadsEnd_inv (s : State) (id : Nat) (start : Nat) (data : Except Nat (List Byte)) (h : s.Inv) : (State.hostReadsEnd s id
    start data).Inv := by
  unfold State.hostReadsEnd
  grind -ring -linarith -lia -ac [State.Inv, foldl_inv, State.emit_inv, State.hostReadFail_inv]

theorem State.remoteEnd_inv (s : State) (r : Remote) (h : s.Inv) : (State.remoteEnd s r).Inv := by
  unfold State.remoteEnd
  grind -ring -linarith -lia -ac [State.Inv, State.remoteDrop_inv, State.answerAs_inv, State.postedEnd_inv, State.hostReadsEnd_inv]

theorem State.remoteSettle_inv (s : State) (id : Nat) (h : s.Inv) : (State.remoteSettle s id).Inv := by
  unfold State.remoteSettle
  grind -ring -linarith -lia -ac [State.Inv, State.remoteEnd_inv]

theorem State.partLeft_inv (s : State) (a1 : Hdr) (h : s.Inv) : (State.partLeft s a1).Inv := by
  unfold State.partLeft
  grind -ring -linarith -lia -ac [State.Inv, State.remoteSettle_inv]

theorem State.stampOut_inv (s : State) (f : Frame) (h : s.Inv) : (State.stampOut s f).1.Inv := by
  unfold State.stampOut
  grind -ring -linarith -lia -ac [State.Inv, State.tagFrame_inv, State.partLeft_inv]

theorem State.frameOut_inv (s : State) (f : Frame) (rx : Option (Nat × Port)) (h : s.Inv) : (State.frameOut s f rx).1.Inv := by
  unfold State.frameOut
  grind -ring -linarith -lia -ac [State.Inv, State.stampOut_inv, State.drew_inv]

theorem State.ringOut_inv (s : State) (p : Port) (f : Frame) (rx : Option (Nat × Port)) (h : s.Inv) : (State.ringOut s p f rx).Inv := by
  unfold State.ringOut
  grind -ring -linarith -lia -ac [State.Inv, State.timeOut_inv, State.frameOut_inv, State.portCount_inv, State.emit_inv, State.setPort_inv]

theorem State.ptpOut_inv (s : State) (p : Fin 2) (kind : Nat) (body : List Nat) (h : s.Inv) : (State.ptpOut s p kind body).Inv := by
  unfold State.ptpOut
  grind -ring -linarith -lia -ac [State.Inv, State.emit_inv, State.setPtp_inv]

theorem State.firmOut_inv (s : State) (p : Fin 2) (what : Nat) (n : Nat) (body : List Nat) (h : s.Inv) : (State.firmOut s p what n
    body).Inv := by
  unfold State.firmOut
  grind -ring -linarith -lia -ac [State.Inv, State.ptpOut_inv, State.emit_inv]

theorem State.egress_inv (s : State) (p : Nat) (f : QFrame) (h : s.Inv) : (State.egress s p f).Inv := by
  unfold State.egress
  grind -ring -linarith -lia -ac [State.Inv, State.ringOut_inv, State.emit_inv, State.firmOut_inv, State.datagramIn_inv,
    State.deliverNow_inv]

theorem State.resume_inv (s : State) (p : Port) (a2 : Hdr) (h : s.Inv) : (State.resume s p a2).Inv := by
  unfold State.resume
  grind -ring -linarith -lia -ac [State.Inv, State.emit_inv, State.setPort_inv]

theorem State.dequeueRing_inv (s : State) (p : Port) (h : s.Inv) : (State.dequeueRing s p).Inv := by
  unfold State.dequeueRing
  grind -ring -linarith -lia -ac [State.Inv, State.pick_inv, State.egress_inv, State.popQueue_inv, State.setPort_inv, State.resume_inv]

theorem State.downAdd_inv (s : State) (node : Nat) (port : Nat) (h : s.Inv) : (State.downAdd s node port).Inv := by
  unfold State.downAdd
  grind -ring -linarith -lia -ac [State.Inv]

theorem State.downDel_inv (s : State) (node : Nat) (port : Nat) (h : s.Inv) : (State.downDel s node port).Inv := by
  unfold State.downDel
  grind -ring -linarith -lia -ac [State.Inv]

theorem State.dupNodeSeen_inv (s : State) (serial : Nat) (h : s.Inv) : (State.dupNodeSeen s serial).Inv := by
  unfold State.dupNodeSeen
  grind -ring -linarith -lia -ac [State.Inv, State.report_inv]

theorem State.engFinish_inv (s0 : State) (a1 : Nat) (a2 : Nat) (a3 : Option Nat) (a4 : PinWrite) (h0 : s0.Inv) : someAll State.Inv
    (State.engFinish s0 a1 a2 a3 a4) := by
  unfold State.engFinish
  extract_lets x t
  cases engWrite x t with
  | none => trivial
  | some x => exact State.setEng_inv _ _ _ h0

theorem State.engIdleTick_inv (s : State) (e : Nat) (h : s.Inv) : (State.engIdleTick s e).Inv := by
  unfold State.engIdleTick
  grind -ring -linarith -lia -ac [State.Inv, State.setEng_inv]

theorem State.grant_inv (s : State) (e : Nat) (n : Nat) (h : s.Inv) : (State.grant s e n).1.Inv := by
  unfold State.grant
  grind -ring -linarith -lia -ac [State.Inv, State.setCluster_inv, State.bump_inv]

theorem State.engPull_inv (s : State) (e : Nat) (nb : Bool) (h : s.Inv) : pullInv (State.engPull s e nb) := by
  unfold State.engPull
  grind -ring -linarith -lia -ac [State.Inv, pullInv, State.chanIdle_inv, State.grant_inv, State.chanHold_inv, State.setEng_inv,
    State.chanPop_inv]

theorem State.engPush_inv (s : State) (e : Nat) (l : List Item) (h : s.Inv) : someAll State.Inv (State.engPush s e l).1 ∧ (State.engPush s
    e l).2.Inv := by
  unfold State.engPush
  grind -ring -linarith -lia -ac [State.Inv, someAll, State.bumpBy_inv, State.grant_inv, State.chanWriteAll_inv]

theorem State.engRun_inv (s : State) (e : Nat) (sel : Nat → Bool) (op : Nat → State → EngRes) (h0 : s.Inv) (h3 : ∀ x0 x1, x1.Inv →
    engResInv (op x0 x1)) : (State.engRun s e sel op).Inv := by
  unfold State.engRun
  grind -ring -linarith -lia -ac [State.Inv, someAll, engResInv, State.engIdleTick_inv, State.setEng_inv, State.engFinish_inv]

theorem State.readbackTick_inv (s : State) (e : Nat) (h : s.Inv) : (State.readbackTick s e).Inv := by
  unfold State.readbackTick
  grind -ring -linarith -lia -ac [State.Inv, foldl_inv, State.setEng_inv]

theorem State.engineEdge_inv (s : State) (h : s.Inv) : (State.engineEdge s).Inv := by
  unfold State.engineEdge
  grind -ring -linarith -lia -ac [State.Inv, foldl_inv, State.setEng_inv, State.readbackTick_inv]

theorem State.red_inv (s : State) (q : Nat) (f : InFrame) (h : s.Inv) : (State.red s q f).1.Inv := by
  unfold State.red
  grind -ring -linarith -lia -ac [State.Inv, State.setQueue_inv, State.drew_inv]

theorem State.redCount_inv (s : State) (q : Nat) (f : InFrame) (dropped : Bool) (h : s.Inv) : (State.redCount s q f dropped).Inv := by
  unfold State.redCount
  grind -ring -linarith -lia -ac [State.Inv, State.setQueue_inv]

theorem State.enqueue_inv (s : State) (f : InFrame) (h : s.Inv) : (State.enqueue s f).1.Inv := by
  unfold State.enqueue
  grind -ring -linarith -lia -ac [State.Inv, State.kennelCheck_inv, State.red_inv, State.redCount_inv, State.dropIn_inv,
    State.appendOn_inv, State.takeIn_inv]

theorem State.errNote_inv (s : State) (p : Port) (h : s.Inv) : (State.errNote s p).Inv := by
  unfold State.errNote
  grind -ring -linarith -lia -ac [State.Inv, State.setPort_inv]

theorem State.firmIn_inv (s : State) (p : Nat) (what : Nat) (n : Nat) (vlan : Nat) (body : List Nat) (h : s.Inv) : (State.firmIn s p what n
    vlan body).Inv := by
  unfold State.firmIn
  grind -ring -linarith -lia -ac [State.Inv, State.colour_inv]

theorem State.flagToggle_inv (s : State) (c : Nat) (f : Nat) (h : s.Inv) : (State.flagToggle s c f).Inv := by
  unfold State.flagToggle
  grind -ring -linarith -lia -ac [State.Inv, State.noteSet_inv, State.flagPut_inv]

theorem State.stationOut_inv (s : State) (what : Nat) (mask : Nat) (n : Nat) (vlan : Nat) (body : List Nat) (h : s.Inv) : (State.stationOut
    s what mask n vlan body).Inv := by
  unfold State.stationOut
  grind -ring -linarith -lia -ac [State.Inv, foldl_inv, State.firmIn_inv, State.prpSent_inv]

theorem State.localHeader_inv (s : State) (p : Port) (f : Frame) (th : Nat) (h : s.Inv) : (State.localHeader s p f th).1.Inv := by
  unfold State.localHeader
  grind -ring -linarith -lia -ac [State.Inv, State.wake_inv, State.writeFrame_inv, State.setSpecTag_inv, State.bump_inv]

theorem State.pushRx_inv (s : State) (p : Port) (r : RxFrame) (h : s.Inv) : (State.pushRx s p r).Inv := by
  unfold State.pushRx
  grind -ring -linarith -lia -ac [State.Inv, State.takeCells_inv, State.setPort_inv]

theorem State.route_inv (s0 : State) (a1 : Hdr) (h0 : s0.Inv) : (State.route s0 a1).1.Inv := by
  unfold State.route
  split
  · exact h0
  extract_lets q
  split
  · exact h0
  split
  · exact h0
  split
  · exact State.portCount_inv _ _ _ h0
  · exact State.portCount_inv _ _ _ h0

theorem State.headerIn_inv (s : State) (p : Port) (f : Frame) (th : Nat) (h : s.Inv) : (State.headerIn s p f th).Inv := by
  unfold State.headerIn
  grind -ring -linarith -lia -ac [State.Inv, State.portCount_inv, State.localHeader_inv, State.pushRx_inv, State.route_inv, State.drew_inv,
    State.cutIn_inv]

theorem State.hello_inv (s : State) (p : Port) (h : s.Inv) : (State.hello s p).Inv := by
  unfold State.hello
  grind -ring -linarith -lia -ac [State.Inv, State.supervise_inv]

theorem State.postLater_inv (s : State) (a : Nat) (data : List Byte) (h : s.Inv) : (State.postLater s a data).Inv := by
  unfold State.postLater
  grind -ring -linarith -lia -ac [State.Inv]

theorem State.irqRun_inv (s : State) (e : Nat) (m : Nat) (act : State → Nat → State) (h0 : s.Inv) (h3 : ∀ x0 x1, x0.Inv → (act x0 x1).Inv)
    : (State.irqRun s e m act).Inv := by
  unfold State.irqRun
  grind -ring -linarith -lia -ac [State.Inv, engResInv, State.engRun_inv, State.wake_inv]

theorem State.settleLink_inv (s : State) (p : Port) (f : Frame) (h : s.Inv) : (State.settleLink s p f).Inv := by
  unfold State.settleLink
  grind -ring -linarith -lia -ac [State.Inv, State.portCount_inv, State.bump_inv, State.authFail_inv]

theorem State.specLate_inv (s : State) (g : Nat) (t : SpecTag) (h : s.Inv) : (State.specLate s g t).Inv := by
  unfold State.specLate
  grind -ring -linarith -lia -ac [State.Inv, State.setPort_inv, State.resolveCopies_inv, State.bump_inv, State.revokeTag_inv]

theorem State.sessionBad_inv (s : State) (a1 : Hdr) (h : s.Inv) : (State.sessionBad s a1).Inv := by
  unfold State.sessionBad
  grind -ring -linarith -lia -ac [State.Inv, State.bump_inv]

theorem State.settleCells_inv (s : State) (p : Port) (r : RxFrame) (good : Bool) (h : s.Inv) : (State.settleCells s p r good).1.Inv := by
  unfold State.settleCells
  grind -ring -linarith -lia -ac [State.Inv, State.settleLink_inv, State.specLate_inv, State.resolveCopies_inv, State.dupEnter_inv,
    State.confirmTag_inv, State.revokeTag_inv, State.authFail_inv, State.deliverGood_inv, State.sessionBad_inv]

theorem State.settle_inv (s : State) (p : Port) (r : RxFrame) (good : Bool) (h : s.Inv) : (State.settle s p r good).Inv := by
  unfold State.settle
  grind -ring -linarith -lia -ac [State.Inv, State.settleCells_inv, State.freeCellList_inv]

theorem State.rxAbort_inv (s : State) (p : Port) (got : Nat) (h : s.Inv) : (State.rxAbort s p got).Inv := by
  unfold State.rxAbort
  grind -ring -linarith -lia -ac [State.Inv, State.errNote_inv, State.portCount_inv, State.setPort_inv, State.endCut_inv, State.settle_inv]

theorem State.rxAbortAll_inv (s : State) (p : Port) (h : s.Inv) : (State.rxAbortAll s p).Inv := by
  unfold State.rxAbortAll
  grind -ring -linarith -lia -ac [State.Inv, foldl_inv, State.drew_inv, State.rxAbort_inv]

theorem State.requeue_inv (s : State) (q : Port) (f : QFrame) (h : s.Inv) : (State.requeue s q f).Inv := by
  unfold State.requeue
  grind -ring -linarith -lia -ac [State.Inv, State.freeCellList_inv, State.dropIn_inv, State.place_inv]

theorem State.moveQueue_inv (s : State) (p : Port) (k : Nat) (h : s.Inv) : (State.moveQueue s p k).Inv := by
  unfold State.moveQueue
  grind -ring -linarith -lia -ac [State.Inv, foldl_inv, State.setQueue_inv, State.freeCellList_inv, State.requeue_inv]

theorem State.leaveService_inv (s : State) (p : Port) (h : s.Inv) : (State.leaveService s p).Inv := by
  unfold State.leaveService
  grind -ring -linarith -lia -ac [State.Inv, foldl_inv, State.rxAbortAll_inv, State.setPort_inv, State.moveQueue_inv]

theorem State.ringUpdate_inv (s : State) (h : s.Inv) : (State.ringUpdate s).Inv := by
  unfold State.ringUpdate
  grind -ring -linarith -lia -ac [State.Inv, State.sfgUpdate_inv, State.degrade_inv]

theorem State.topology_inv (s : State) (ev : Nat) (p : Port) (skip : Option Port) (h : s.Inv) : (State.topology s ev p skip).Inv := by
  unfold State.topology
  grind -ring -linarith -lia -ac [State.Inv, foldl_inv, State.supervise_inv]

theorem State.unplannedDown_inv (s : State) (p : Port) (h : s.Inv) : (State.unplannedDown s p).Inv := by
  unfold State.unplannedDown
  grind -ring -linarith -lia -ac [State.Inv, State.report_inv, State.topology_inv, State.ringUpdate_inv, State.event_inv, State.downAdd_inv]

theorem State.linkDown_inv (s : State) (p : Port) (h : s.Inv) : (State.linkDown s p).Inv := by
  unfold State.linkDown
  grind -ring -linarith -lia -ac [State.Inv, State.rxAbortAll_inv, State.setPort_inv, State.ringUpdate_inv, State.unplannedDown_inv]

theorem State.lockMemberEdge_inv (s : State) (fin : Bool) (m : Nat) (h : s.Inv) : (State.lockMemberEdge s fin m).Inv := by
  unfold State.lockMemberEdge
  grind -ring -linarith -lia -ac [State.Inv, someAll, State.setEng_inv, State.engFinish_inv]

theorem State.loseCell_inv (s : State) (c : Nat) (h : s.Inv) : (State.loseCell s c).Inv := by
  unfold State.loseCell
  grind -ring -linarith -lia -ac [State.Inv]

theorem State.markReq_inv (s : State) (now : Nat) (a : ArbReq) (h : s.Inv) : (State.markReq s now a).1.Inv := by
  unfold State.markReq
  grind -ring -linarith -lia -ac [State.Inv, State.bump_inv]

theorem State.outageTry_inv (s : State) (p : Port) (o : Outage) (h : s.Inv) : (State.outageTry s p o).Inv := by
  unfold State.outageTry
  grind -ring -linarith -lia -ac [State.Inv, State.setPort_inv, State.topology_inv, State.supervise_inv]

theorem State.partSent_inv (s : State) (part : Option (Nat × Nat)) (seq : Nat) (h : s.Inv) : (State.partSent s part seq).Inv := by
  unfold State.partSent
  grind -ring -linarith -lia -ac [State.Inv]

theorem State.plannedEnd_inv (s : State) (src : Nat) (h : s.Inv) : (State.plannedEnd s src).Inv := by
  unfold State.plannedEnd
  grind -ring -linarith -lia -ac [State.Inv]

theorem State.plannedMark_inv (s : State) (p : Port) (m : Planned) (h : s.Inv) : (State.plannedMark s p m).Inv := by
  unfold State.plannedMark
  grind -ring -linarith -lia -ac [State.Inv, State.ringUpdate_inv, State.setPort_inv]

theorem State.retrainTry_inv (s : State) (p : Port) (h : s.Inv) : (State.retrainTry s p).Inv := by
  unfold State.retrainTry
  grind -ring -linarith -lia -ac [State.Inv, State.report_inv, State.setPort_inv, State.outageTry_inv]

theorem State.takeSeq_inv (s : State) (cls : Nat) (h : s.Inv) : (State.takeSeq s cls).2.Inv := by
  unfold State.takeSeq
  grind -ring -linarith -lia -ac [State.Inv]

theorem State.toSwitch_inv (s : State) (f : Frame) (src : Nat) (p : Port) (h : s.Inv) : (State.toSwitch s f src p).Inv := by
  unfold State.toSwitch
  grind -ring -linarith -lia -ac [State.Inv]

theorem State.send_inv (s : State) (o : Orig) (h : s.Inv) : (State.send s o).Inv := by
  unfold State.send
  grind -ring -linarith -lia -ac [State.Inv, foldl_inv, State.takeSeq_inv, State.partSent_inv, State.report_inv, State.bump_inv,
    State.colour_inv, State.bucketTake_inv, State.toSwitch_inv]

theorem State.storeForward_inv (s : State) (p : Port) (q : Port) (r : RxFrame) (h : s.Inv) : (State.storeForward s p q r).Inv := by
  unfold State.storeForward
  grind -ring -linarith -lia -ac [State.Inv]

theorem State.synthLock_inv (s : State) (p : Port) (h : s.Inv) : (State.synthLock s p).Inv := by
  unfold State.synthLock
  grind -ring -linarith -lia -ac [State.Inv, State.setPort_inv]

theorem State.takeDelivered_inv (s : State) (f : Hdr → Bool) (h : s.Inv) : someAll (fun x => x.2.Inv) (State.takeDelivered s f) := by
  unfold State.takeDelivered
  grind -ring -linarith -lia -ac [State.Inv, someAll]

theorem State.takeLink_inv (s : State) (p : Port) (f : Hdr → Bool) (h : s.Inv) : someAll (fun x => x.2.Inv) (State.takeLink s p f) := by
  unfold State.takeLink
  grind -ring -linarith -lia -ac [State.Inv, someAll]

theorem State.takePacket_inv (s : State) (c : Nat) (l : List Item) (odd : Bool) (h : s.Inv) : (State.takePacket s c l odd).Inv := by
  unfold State.takePacket
  grind -ring -linarith -lia -ac [State.Inv, State.setChan_inv, State.bump_inv]

theorem State.telemetryPut_inv (s : State) (ch : Nat) (l : List Item) (h : s.Inv) : (State.telemetryPut s ch l).Inv := by
  unfold State.telemetryPut
  grind -ring -linarith -lia -ac [State.Inv, State.bump_inv, State.chanWriteAll_inv, State.setChan_inv]

theorem State.telemetryResume_inv (s : State) (ch : Nat) (h : s.Inv) : (State.telemetryResume s ch).Inv := by
  unfold State.telemetryResume
  grind -ring -linarith -lia -ac [State.Inv, State.chanWriteAll_inv, State.setChan_inv]

theorem State.yieldOutage_inv (s : State) (src : Nat) (h : s.Inv) : (State.yieldOutage s src).Inv := by
  unfold State.yieldOutage
  grind -ring -linarith -lia -ac [State.Inv]

end Sys2Proof.Machine
end

