-- ==== Sys2Proof/Laws/KeepsTime.lean ====
section
/-!
SUPPORT. What time, phase, the station services and the cores keep: memory, the dictionary and the store stay canonical.
-/

namespace Sys2Proof.Machine

open Sys2Proof

set_option Elab.async false

theorem State.abortClear_inv (s : State) (k : Nat) (h : s.Inv) : (State.abortClear s k).Inv := by
  unfold State.abortClear
  grind -ring -linarith -lia -ac [State.Inv, State.setCtl_inv]

theorem State.adopt_inv (s : State) (n : Nat) (h : s.Inv) : (State.adopt s n).Inv := by
  unfold State.adopt
  grind -ring -linarith -lia -ac [State.Inv, State.hingeLoad_inv]

theorem State.masterChange_inv (s : State) (root : Nat) (port : Nat) (newPort : Nat) (fresh : Bool) (h : s.Inv) : (State.masterChange s
    root port newPort fresh).Inv := by
  unfold State.masterChange
  grind -ring -linarith -lia -ac [State.Inv, State.event_inv]

theorem State.updateRoot_inv (s : State) (h : s.Inv) : (State.updateRoot s).Inv := by
  unfold State.updateRoot
  grind -ring -linarith -lia -ac [State.Inv, State.masterChange_inv]

theorem State.ptpDecide_inv (s : State) (h : s.Inv) : (State.ptpDecide s).Inv := by
  unfold State.ptpDecide
  grind -ring -linarith -lia -ac [State.Inv, State.setPtp_inv, State.setO_inv, State.updateRoot_inv, State.masterChange_inv]

theorem State.shutterClear_inv (s : State) (h : s.Inv) : (State.shutterClear s).Inv := by
  unfold State.shutterClear
  grind -ring -linarith -lia -ac [State.Inv, State.clearSubs_inv]

theorem State.calRestamp_inv (s : State) (h : s.Inv) : (State.calRestamp s).Inv := by
  unfold State.calRestamp
  grind -ring -linarith -lia -ac [State.Inv]

theorem State.newSeg_inv (s : State) (h : s.Inv) : (State.newSeg s).Inv := by
  unfold State.newSeg
  grind -ring -linarith -lia -ac [State.Inv]

theorem State.stepTo_inv (s : State) (w : Nat) (h : s.Inv) : (State.stepTo s w).Inv := by
  unfold State.stepTo
  grind -ring -linarith -lia -ac [State.Inv, foldl_inv, State.calRestamp_inv, State.newSeg_inv, State.drew_inv, State.setO_inv,
    State.bump_inv, State.markQueues_inv, State.event_inv]

theorem State.todSet_inv (s : State) (sec : Nat) (ns : Nat) (frac : Nat) (h : s.Inv) : okAll State.Inv (State.todSet s sec ns frac) := by
  unfold State.todSet
  grind -ring -linarith -lia -ac [State.Inv, okAll, State.stepTo_inv]

theorem State.ppsTod_inv (s : State) (sec : Nat) (h : s.Inv) : okAll State.Inv (State.ppsTod s sec) := by
  unfold State.ppsTod
  grind -ring -linarith -lia -ac [State.Inv, okAll]

theorem State.timeClear_inv (s : State) (h : s.Inv) : (State.timeClear s).Inv := by
  unfold State.timeClear
  grind -ring -linarith -lia -ac [State.Inv, State.clearSubs_inv]

theorem State.phaseClear_inv (s : State) (h : s.Inv) : (State.phaseClear s).Inv := by
  unfold State.phaseClear
  grind -ring -linarith -lia -ac [State.Inv, foldl_inv, State.setO_inv, State.clearSubs_inv]

theorem State.calWriteAt_inv (s : State) (i : Nat) (field : Nat) (v : Nat) (h : s.Inv) : okAll State.Inv (State.calWriteAt s i field v) :=
    by
  unfold State.calWriteAt
  grind -ring -linarith -lia -ac [State.Inv, okAll, State.setCal_inv]

theorem State.stationClear_inv (s : State) (h : s.Inv) : (State.stationClear s).Inv := by
  unfold State.stationClear
  grind -ring -linarith -lia -ac [State.Inv, foldl_inv, State.clearSubs_inv]

theorem State.cswAbort_inv (s : State) (b : Nat) (h : s.Inv) : (State.cswAbort s b).Inv := by
  unfold State.cswAbort
  grind -ring -linarith -lia -ac [State.Inv, State.cswCancel_inv, State.cswSettle_inv, State.setBrk_inv]

theorem State.calHold_inv (s : State) (x : CalEntry) (h : s.Inv) : (State.calHold s x).Inv := by
  unfold State.calHold
  grind -ring -linarith -lia -ac [State.Inv, foldl_inv, State.setEng_inv]

theorem State.calSetArmed_inv (s : State) (i : Nat) (x : CalEntry) (phiT : Int) (h : s.Inv) : (State.calSetArmed s i x phiT).Inv := by
  unfold State.calSetArmed
  grind -ring -linarith -lia -ac [State.Inv, State.bump_inv, State.calHold_inv, State.setCal_inv]

theorem State.calArmAt_inv (s : State) (i : Nat) (h : s.Inv) : (State.calArmAt s i).1.Inv := by
  unfold State.calArmAt
  grind -ring -linarith -lia -ac [State.Inv, State.bump_inv, State.calSetArmed_inv]

theorem State.cswArmPole_inv (s : State) (b : Nat) (p : Nat) (cy : Nat) (h : s.Inv) : someAll State.Inv (State.cswArmPole s b p cy) := by
  unfold State.cswArmPole
  grind -ring -linarith -lia -ac [State.Inv, someAll, State.setCal_inv, State.calArmAt_inv, State.setBrk_inv]

theorem State.cswArm_inv (s0 : State) (a1 : Nat) (a2 : Nat) (a3 : List Nat) (h0 : s0.Inv) : (State.cswArm s0 a1 a2 a3).1.Inv := by
  induction a3 generalizing s0 <;> unfold State.cswArm <;> grind -ring -linarith -lia -ac [State.Inv, outInv, someAll, okAll, engResInv,
    pullInv, foldl_inv, State.cswArmPole_inv, State.bump_inv]

theorem State.cswBegin_inv (s : State) (b : Nat) (kind : Nat) (h : s.Inv) : (State.cswBegin s b kind).Inv := by
  unfold State.cswBegin
  grind -ring -linarith -lia -ac [State.Inv, foldl_inv, State.setBrk_inv, State.drew_inv, State.cswFallback_inv, State.cswPoleFailed_inv,
    State.cswArm_inv, State.cswItem_inv]

theorem State.cswCommand_inv (s : State) (b : Nat) (kind : Nat) (h : s.Inv) : okAll State.Inv (State.cswCommand s b kind) := by
  unfold State.cswCommand
  grind -ring -linarith -lia -ac [State.Inv, okAll, State.cswBegin_inv]

theorem State.svcCmdRestart_inv (s : State) (m : Nat) (h : s.Inv) : (State.svcCmdRestart s m).Inv := by
  unfold State.svcCmdRestart
  grind -ring -linarith -lia -ac [State.Inv, State.svcBegin_inv]

theorem State.svcClear_inv (s : State) (m : Nat) (h : s.Inv) : (State.svcClear s m).Inv := by
  unfold State.svcClear
  grind -ring -linarith -lia -ac [State.Inv, State.setO_inv]

theorem State.canRestart_inv (s : State) (k : Nat) (h : s.Inv) : (State.canRestart s k).Inv := by
  unfold State.canRestart
  grind -ring -linarith -lia -ac [State.Inv, State.setCtl_inv]

theorem State.canClear_inv (s : State) (k : Nat) (h : s.Inv) : (State.canClear s k).Inv := by
  unfold State.canClear
  grind -ring -linarith -lia -ac [State.Inv, State.clearSubs_inv]

theorem State.canUnhalt_inv (s : State) (k : Nat) (h : s.Inv) : (State.canUnhalt s k).Inv := by
  unfold State.canUnhalt
  grind -ring -linarith -lia -ac [State.Inv, State.setCtl_inv]

theorem State.firstEmpty_inv (s : State) (h : s.Inv) : (State.firstEmpty s).Inv := by
  unfold State.firstEmpty
  grind -ring -linarith -lia -ac [State.Inv]

theorem State.firstClear_inv (s : State) (h : s.Inv) : (State.firstClear s).Inv := by
  unfold State.firstClear
  grind -ring -linarith -lia -ac [State.Inv, State.firstEmpty_inv]

theorem State.logReadOut_inv (s0 : State) (a1 : Nat) (h0 : s0.Inv) : (State.logReadOut s0 a1).2.Inv := by
  unfold State.logReadOut
  exact State.setSession_inv _ _ _ h0

theorem State.faultReadOut_inv (s : State) (n : Nat) (h : s.Inv) : (State.faultReadOut s n).2.Inv := by
  unfold State.faultReadOut
  grind -ring -linarith -lia -ac [State.Inv, State.setSession_inv]

theorem State.traceWord_inv (s : State) (w : Nat) (h : s.Inv) : (State.traceWord s w).Inv := by
  unfold State.traceWord
  grind -ring -linarith -lia -ac [State.Inv, State.dramStore_inv]

theorem State.portWord_inv (s : State) (w : Nat) (h : s.Inv) : (State.portWord s w).Inv := by
  unfold State.portWord
  grind -ring -linarith -lia -ac [State.Inv, State.emit_inv]

theorem State.traceDrainOne_inv (s : State) (h : s.Inv) : (State.traceDrainOne s).Inv := by
  unfold State.traceDrainOne
  grind -ring -linarith -lia -ac [State.Inv, foldl_inv, State.traceWord_inv, State.portWord_inv]

theorem State.traceDrainAll_inv (s : State) (h : s.Inv) : (State.traceDrainAll s).Inv := by
  unfold State.traceDrainAll
  grind -ring -linarith -lia -ac [State.Inv, foldl_inv, State.traceDrainOne_inv]

theorem State.calReply_inv (s : State) (c : Ctx) (r : Act) (h0 : s.Inv) (h2 : okAll State.Inv r) : (State.calReply s c r).Inv := by
  unfold State.calReply
  grind -ring -linarith -lia -ac [State.Inv, okAll, State.act_inv, State.setCtx_inv]

theorem State.calMirror_inv (s : State) (i : Nat) (arm : Bool) (h : s.Inv) : (State.calMirror s i arm).Inv := by
  unfold State.calMirror
  grind -ring -linarith -lia -ac [State.Inv, State.mirror_inv]

theorem State.calArm_inv (s : State) (c : Ctx) (h : s.Inv) : (State.calArm s c).Inv := by
  unfold State.calArm
  grind -ring -linarith -lia -ac [State.Inv, okAll, State.calReply_inv, State.calArmAt_inv, State.calMirror_inv]

theorem State.calCancel_inv (s : State) (c : Ctx) (h : s.Inv) : (State.calCancel s c).Inv := by
  unfold State.calCancel
  grind -ring -linarith -lia -ac [State.Inv, okAll, State.calReply_inv, State.calMirror_inv, State.calEnd_inv]

theorem State.readWtSecLo_inv (s : State) (c : Ctx) (h : s.Inv) : (State.readWtSecLo s c).1.Inv := by
  unfold State.readWtSecLo
  grind -ring -linarith -lia -ac [State.Inv, State.setCtx_inv]

theorem State.readTrkPa_inv (s : State) (c : Ctx) (k : Nat) (h : s.Inv) : (State.readTrkPa s c k).1.Inv := by
  unfold State.readTrkPa
  grind -ring -linarith -lia -ac [State.Inv, State.setCtx_inv]

theorem State.readTraceDrop_inv (s : State) (h : s.Inv) : (State.readTraceDrop s).1.Inv := by
  unfold State.readTraceDrop
  grind -ring -linarith -lia -ac [State.Inv]

theorem State.readFhit_inv (s : State) (c : Ctx) (f : Nat) (h : s.Inv) : (State.readFhit s c f).1.Inv := by
  unfold State.readFhit
  grind -ring -linarith -lia -ac [State.Inv, State.setCtl_inv]

theorem State.readFcCount_inv (s : State) (h : s.Inv) : (State.readFcCount s).1.Inv := by
  unfold State.readFcCount
  grind -ring -linarith -lia -ac [State.Inv]

theorem State.gfailClear_inv (s : State) (h : s.Inv) : (State.gfailClear s).Inv := by
  unfold State.gfailClear
  grind -ring -linarith -lia -ac [State.Inv]

theorem State.calWrite_inv (s : State) (c : Ctx) (field : Nat) (v : Nat) (h : s.Inv) : okAll State.Inv (State.calWrite s c field v) := by
  unfold State.calWrite
  grind -ring -linarith -lia -ac [State.Inv, okAll, State.calWriteAt_inv]

theorem State.badWt_inv (s : State) (h : s.Inv) : (State.badWt s).Inv := by
  unfold State.badWt
  grind -ring -linarith -lia -ac [State.Inv, State.bump_inv]

theorem State.fetchPark_inv (s : State) (e : Nat) (h : s.Inv) : (State.fetchPark s e).Inv := by
  unfold State.fetchPark
  grind -ring -linarith -lia -ac [State.Inv, foldl_inv, State.enginePark_inv]

theorem State.wordBroken_inv (s : State) (c : Nat) (a : Nat) (h : s.Inv) : (State.wordBroken s c a).Inv := by
  unfold State.wordBroken
  grind -ring -linarith -lia -ac [State.Inv, State.setCluster_inv]

theorem State.builtIn_inv (s : State) (r : Report) (h : s.Inv) : (State.builtIn s r).Inv := by
  unfold State.builtIn
  grind -ring -linarith -lia -ac [State.Inv, State.bump_inv, State.dramBad_inv, State.quarantine_inv, State.cellLost_inv,
    State.fetchPark_inv, State.wordBroken_inv, State.rewriteBad_inv, State.anchorUpdate_inv, State.setSlot_inv]

theorem State.calLine_inv (s : State) (k : Nat) (h : s.Inv) : (State.calLine s k).Inv := by
  unfold State.calLine
  grind -ring -linarith -lia -ac [State.Inv, foldl_inv, State.bump_inv, State.setEng_inv]

theorem State.calAct_inv (s : State) (i : Nat) (x : CalEntry) (h : s.Inv) : (State.calAct s i x).Inv := by
  unfold State.calAct
  grind -ring -linarith -lia -ac [State.Inv, State.calLine_inv, State.lockStart_inv, State.emit_inv]

theorem State.calFieldReg_inv (s : State) (c : Ctx) (field : Nat) (v : Nat) (h : s.Inv) : (State.calFieldReg s c field v).Inv := by
  unfold State.calFieldReg
  grind -ring -linarith -lia -ac [State.Inv, okAll, State.bump_inv, State.refuseAccess_inv, State.calReply_inv, State.calWrite_inv]

theorem State.calLate_inv (s : State) (i : Nat) (g : Nat) (x : CalEntry) (h : s.Inv) : (State.calLate s i g x).Inv := by
  unfold State.calLate
  grind -ring -linarith -lia -ac [State.Inv, State.calEnd_inv, State.bump_inv, State.event_inv]

theorem State.calRelease_inv (s : State) (i : Nat) (x : CalEntry) (h : s.Inv) : (State.calRelease s i x).Inv := by
  unfold State.calRelease
  grind -ring -linarith -lia -ac [State.Inv, foldl_inv, State.groupFail_inv, State.calLate_inv, State.setEng_inv, State.bump_inv,
    State.cswFired_inv, State.setCal_inv]

theorem State.calRetarget_inv (s : State) (i : Nat) (h : s.Inv) : (State.calRetarget s i).Inv := by
  unfold State.calRetarget
  grind -ring -linarith -lia -ac [State.Inv, State.setCal_inv, State.calEnd_inv]

theorem State.canDeliver_inv (s0 : State) (a1 : Nat) (a2 : Nat) (a3 : List Item) (h0 : s0.Inv) : (State.canDeliver s0 a1 a2 a3).Inv := by
  have hr : ∀ (x : CanCtl) (r : Report), ((s0.setCtl a1 x).report r).Inv := fun x r => State.report_inv _ _ (State.setCtl_inv _ _ _ h0)
  unfold State.canDeliver
  split
  · exact State.canCount_inv _ _ _ h0
  · extract_lets x t
    have ht : t.Inv := State.canCount_inv _ _ _ h0
    have hr : ∀ (x : CanCtl) (r : Report), ((t.setCtl a1 x).report r).Inv := fun x r => State.report_inv _ _ (State.setCtl_inv _ _ _ ht)
    repeat' split
    all_goals first | exact ht | exact hr _ _ | exact State.setCtl_inv _ _ _ h0 | exact State.chanWriteAll_inv _ _ _ h0

theorem State.canDone_inv (s : State) (k : Nat) (h : s.Inv) : (State.canDone s k).Inv := by
  unfold State.canDone
  grind -ring -linarith -lia -ac [State.Inv, State.canFill_inv, State.canEnded_inv, State.setCtl_inv, State.canLeave_inv]

theorem State.canEnqueue_inv (s : State) (k : Nat) (f : CanFrame) (h : s.Inv) : (State.canEnqueue s k f).Inv := by
  unfold State.canEnqueue
  grind -ring -linarith -lia -ac [State.Inv, State.setCtl_inv]

theorem State.canNotSent_inv (s : State) (k : Nat) (code : Nat) (h : s.Inv) : (State.canNotSent s k code).Inv := by
  unfold State.canNotSent
  grind -ring -linarith -lia -ac [State.Inv, State.setCtl_inv, State.canCount_inv, State.canEnded_inv, State.canDone_inv,
    State.noteAbort_inv]

theorem State.canErr_inv (s : State) (k : Nat) (tx : Bool) (dominant : Bool) (h : s.Inv) : (State.canErr s k tx dominant).Inv := by
  unfold State.canErr
  grind -ring -linarith -lia -ac [State.Inv, State.canCount_inv, State.setCtl_inv, State.canNotSent_inv, State.canEnded_inv,
    State.report_inv]

theorem State.canPlace_inv (s : State) (k : Nat) (l : List Item) (h : s.Inv) : (State.canPlace s k l).Inv := by
  unfold State.canPlace
  grind -ring -linarith -lia -ac [State.Inv, State.canCount_inv, State.canEnqueue_inv, State.setCtl_inv]

theorem State.canSent_inv (s : State) (k : Nat) (h : s.Inv) : (State.canSent s k).Inv := by
  unfold State.canSent
  grind -ring -linarith -lia -ac [State.Inv, State.canCount_inv, State.canEnded_inv, State.emit_inv, State.setCtl_inv, State.noteAbort_inv,
    State.canDone_inv]

theorem State.canSessionIn_inv (s : State) (k : Nat) (base : Nat) (n : Nat) (f : CanFrame) (h : s.Inv) : (State.canSessionIn s k base n
    f).Inv := by
  unfold State.canSessionIn
  grind -ring -linarith -lia -ac [State.Inv, State.bump_inv, State.arrived_inv, State.originate_inv]

theorem State.canWoken_inv (s : State) (k : Nat) (cause : Nat) (id : Nat) (h : s.Inv) : (State.canWoken s k cause id).Inv := by
  unfold State.canWoken
  grind -ring -linarith -lia -ac [State.Inv, State.wake_inv, State.canCount_inv, State.setCtl_inv]

theorem State.candidate_inv (s : State) (f : Finding) (h : s.Inv) : (State.candidate s f).Inv := by
  unfold State.candidate
  grind -ring -linarith -lia -ac [State.Inv, State.bump_inv]

theorem State.commitRetarget_inv (s : State) (k : Nat) (h : s.Inv) : (State.commitRetarget s k).Inv := by
  unfold State.commitRetarget
  grind -ring -linarith -lia -ac [State.Inv, State.commitDrop_inv]

theorem State.lockstep_inv (s : State) (k : Nat) (h : s.Inv) : (State.lockstep s k).1.Inv := by
  unfold State.lockstep
  grind -ring -linarith -lia -ac [State.Inv, State.bump_inv, State.setCoreSt_inv]

theorem State.coreTrap_inv (s : State) (k : Nat) (cause : Nat) (n : Nat) (pc : Nat) (h : s.Inv) : (State.coreTrap s k cause n pc).Inv := by
  unfold State.coreTrap
  grind -ring -linarith -lia -ac [State.Inv, State.bump_inv, State.setCoreSt_inv, State.coSquash_inv, State.lockstep_inv,
    State.svcRestarts_inv, State.coreRetire_inv, State.candidate_inv, State.reports_inv, State.report_inv]

theorem State.cswContact_inv (s : State) (b : Nat) (p : Nat) (st : Nat) (h : s.Inv) : (State.cswContact s b p st).Inv := by
  unfold State.cswContact
  grind -ring -linarith -lia -ac [State.Inv, State.setBrk_inv, State.bump_inv, State.report_inv, State.cswSettle_inv]

theorem State.setIncr_inv (s : State) (h : s.Inv) : (State.setIncr s).Inv := by
  unfold State.setIncr
  grind -ring -linarith -lia -ac [State.Inv, State.drew_inv, State.newSeg_inv]

theorem State.setStatus_inv (s : State) (t : TimeStatus) (h : s.Inv) : (State.setStatus s t).Inv := by
  unfold State.setStatus
  grind -ring -linarith -lia -ac [State.Inv, State.hostInt_inv, State.event_inv, State.drew_inv]

theorem State.enterHoldover_inv (s : State) (h : s.Inv) : (State.enterHoldover s).Inv := by
  unfold State.enterHoldover
  grind -ring -linarith -lia -ac [State.Inv, State.setIncr_inv, State.setStatus_inv]

theorem State.streamFail_inv (s : State) (index : Nat) (n : Nat) (counter : Nat) (run : Nat) (h : s.Inv) : (State.streamFail s index n
    counter run).Inv := by
  unfold State.streamFail
  grind -ring -linarith -lia -ac [State.Inv, State.report_inv, State.bump_inv]

theorem State.setGooseSub_inv (s : State) (n : Nat) (v : GooseSub) (h : s.Inv) : (State.setGooseSub s n v).Inv := by
  unfold State.setGooseSub
  grind -ring -linarith -lia -ac [State.Inv]

theorem State.sigOutput_inv (s : State) (st : Nat) (l : List SigUpdate) (o : Nat) (h : s.Inv) : (State.sigOutput s st l o).Inv := by
  unfold State.sigOutput
  grind -ring -linarith -lia -ac [State.Inv, State.epWrite_inv]

theorem State.setGoosePub_inv (s : State) (n : Nat) (v : GoosePub) (h : s.Inv) : (State.setGoosePub s n v).Inv := by
  unfold State.setGoosePub
  grind -ring -linarith -lia -ac [State.Inv]

theorem State.streamSign_inv (s : State) (index : Nat) (sub : Nat) (n : Nat) (h : s.Inv) : (State.streamSign s index sub n).1.Inv := by
  unfold State.streamSign
  grind -ring -linarith -lia -ac [State.Inv, State.useKey_inv, State.drew_inv]

theorem State.gooseSend_inv (s : State) (n : Nat) (h : s.Inv) : (State.gooseSend s n).Inv := by
  unfold State.gooseSend
  grind -ring -linarith -lia -ac [State.Inv, State.report_inv, State.setGoosePub_inv, State.streamSign_inv, State.stationOut_inv,
    State.bump_inv]

theorem State.gooseNew_inv (s : State) (n : Nat) (t : Int) (h : s.Inv) : (State.gooseNew s n t).Inv := by
  unfold State.gooseNew
  grind -ring -linarith -lia -ac [State.Inv, State.gooseSend_inv, State.setGoosePub_inv]

theorem State.sigCommand_inv (s : State) (b : Nat) (l : List SigUpdate) (h : s.Inv) : (State.sigCommand s b l).Inv := by
  unfold State.sigCommand
  grind -ring -linarith -lia -ac [State.Inv, okAll, State.actQuiet_inv, State.cswCommand_inv]

theorem State.sigApply_inv (s0 : State) (a1 : Nat) (a2 : List SigUpdate) (h0 : s0.Inv) : (State.sigApply s0 a1 a2).Inv := by
  have hf : (a2.foldl (fun (a : State × List SigUpdate × List SigUpdate) u =>
      let x := a.1.sigOf u.n
      if x.value = u.value && x.quality = u.quality then a
      else
        let t := { a.1 with station := { a.1.station with sig := tset {} a.1.station.sig u.n (sigPut x u a1 a.1.clock) } }
        (t, a.2.1 ++ [u], if x.value = u.value then a.2.2 else a.2.2 ++ [u])) (s0, [], [])).1.Inv := by
    refine foldl_fst_inv _ _ _ (fun q u h => ?_) h0
    extract_lets x t
    split <;> exact h
  unfold State.sigApply
  split
  rename_i p t ch cmd hp
  have ht : t.Inv := by rw [hp] at hf; exact hf
  refine foldl_inv _ _ _ (fun _ _ h => State.sigCommand_inv _ _ _ h) (foldl_inv _ _ _ (fun _ _ h => ?_)
    (foldl_inv _ _ _ (fun _ _ h => State.sigOutput_inv _ _ _ _ h) ht))
  split
  · exact State.gooseNew_inv _ _ _ h
  · exact h

theorem State.gooseJudge_inv (s : State) (f : GooseFrame) (n : Nat) (h : s.Inv) : (State.gooseJudge s f n).Inv := by
  unfold State.gooseJudge
  grind -ring -linarith -lia -ac [State.Inv, State.bump_inv, State.streamFail_inv, State.setGooseSub_inv, State.sigApply_inv,
    State.drew_inv]

theorem State.handoverMove_inv (s : State) (n : Nat) (t : Nat) (h : s.Inv) : (State.handoverMove s n t).Inv := by
  unfold State.handoverMove
  grind -ring -linarith -lia -ac [State.Inv, foldl_inv, State.hinge_inv, State.traceSvc_inv, State.setSvc_inv]

theorem State.hingeMove_inv (s : State) (n : Nat) (h : s.Inv) : (State.hingeMove s n).Inv := by
  unfold State.hingeMove
  grind -ring -linarith -lia -ac [State.Inv, State.handoverMove_inv, State.hinge_inv]

theorem State.hingeOut_inv (s : State) (n : Nat) (h : s.Inv) : (State.hingeOut s n).Inv := by
  unfold State.hingeOut
  grind -ring -linarith -lia -ac [State.Inv, State.mirror_inv, State.hingeCopy_inv]

theorem State.irigGather_inv (s0 : State) (a1 : Nat) (h0 : s0.Inv) : (State.irigGather s0 a1).Inv := by
  induction a1 generalizing s0 <;> unfold State.irigGather <;> grind -ring -linarith -lia -ac [State.Inv, outInv, someAll, okAll,
    engResInv, pullInv, foldl_inv, State.chanHold_inv]

theorem State.leapNote_inv (s : State) (pending : Bool) (del : Bool) (ptp : Nat) (h : s.Inv) : (State.leapNote s pending del ptp).Inv := by
  unfold State.leapNote
  grind -ring -linarith -lia -ac [State.Inv, State.setO_inv]

theorem State.sourceLost_inv (s : State) (h : s.Inv) : (State.sourceLost s).Inv := by
  unfold State.sourceLost
  grind -ring -linarith -lia -ac [State.Inv, State.enterHoldover_inv, State.setStatus_inv]

theorem State.servo_inv (s : State) (t : Rat) (h : s.Inv) : (State.servo s t).Inv := by
  unfold State.servo
  grind -ring -linarith -lia -ac [State.Inv, State.setIncr_inv]

theorem State.sampleStatus_inv (s : State) (cls : Nat) (own : Bool) (first : Bool) (h : s.Inv) : (State.sampleStatus s cls own first).Inv
    := by
  unfold State.sampleStatus
  grind -ring -linarith -lia -ac [State.Inv, State.setStatus_inv, State.drew_inv]

theorem State.sample_inv (s : State) (theta : Int) (cls : Nat) (own : Bool) (h : s.Inv) : (State.sample s theta cls own).Inv := by
  unfold State.sample
  grind -ring -linarith -lia -ac [State.Inv, State.setO_inv, State.stepTo_inv, State.setIncr_inv, State.setStatus_inv, State.bump_inv,
    State.servo_inv, State.sampleStatus_inv]

theorem State.irigJudge_inv (s : State) (f : List (Nat × Nat)) (h : s.Inv) : (State.irigJudge s f).Inv := by
  unfold State.irigJudge
  grind -ring -linarith -lia -ac [State.Inv, State.setO_inv, State.bump_inv, State.leapNote_inv, State.sourceLost_inv, State.sample_inv]

theorem State.pdelayBad_inv (s : State) (p : Port) (h : s.Inv) : (State.pdelayBad s p).Inv := by
  unfold State.pdelayBad
  grind -ring -linarith -lia -ac [State.Inv, State.bump_inv, State.setPort_inv]

theorem State.ppsLabel_inv (s0 : State) (h0 : s0.Inv) : (State.ppsLabel s0).1.Inv := by
  unfold State.ppsLabel
  repeat' split
  all_goals exact h0

theorem State.ptpSample_inv (s : State) (theta : Int) (h : s.Inv) : (State.ptpSample s theta).Inv := by
  unfold State.ptpSample
  grind -ring -linarith -lia -ac [State.Inv, State.sample_inv]

theorem State.ptpSend_inv (s : State) (p : Fin 2) (kind : Nat) (seq : Nat) (args : List Nat) (h : s.Inv) : (State.ptpSend s p kind seq
    args).Inv := by
  unfold State.ptpSend
  grind -ring -linarith -lia -ac [State.Inv, State.firmIn_inv]

theorem State.ptpTlvs_inv (s : State) (h : s.Inv) : (State.ptpTlvs s).1.Inv := by
  unfold State.ptpTlvs
  grind -ring -linarith -lia -ac [State.Inv, State.drew_inv]

theorem State.retarget_inv (s : State) (k : Nat) (h : s.Inv) : (State.retarget s k).Inv := by
  unfold State.retarget
  grind -ring -linarith -lia -ac [State.Inv, foldl_inv, State.commitRetarget_inv, State.calRetarget_inv]

theorem State.rootHoldover_inv (s : State) (h : s.Inv) : (State.rootHoldover s).Inv := by
  unfold State.rootHoldover
  grind -ring -linarith -lia -ac [State.Inv, State.enterHoldover_inv]

theorem State.scrubOne_inv (s : State) (dram : Bool) (before : List (List Nat)) (a : Nat) (h : s.Inv) : (State.scrubOne s dram before
    a).Inv := by
  unfold State.scrubOne
  grind -ring -linarith -lia -ac [State.Inv, State.bump_inv, State.candidate_inv, State.report_inv]

theorem State.setChatter_inv (s : State) (p : Nat) (v : Chatter) (h : s.Inv) : (State.setChatter s p v).Inv := by
  unfold State.setChatter
  grind -ring -linarith -lia -ac [State.Inv]

theorem State.setSoeIn_inv (s : State) (n : Nat) (v : SoeIn) (h : s.Inv) : (State.setSoeIn s n v).Inv := by
  unfold State.setSoeIn
  grind -ring -linarith -lia -ac [State.Inv]

theorem State.setSoeOld_inv (s : State) (n : Nat) (b : Bool) (h : s.Inv) : (State.setSoeOld s n b).Inv := by
  unfold State.setSoeOld
  grind -ring -linarith -lia -ac [State.Inv]

theorem State.setSvSub_inv (s : State) (n : Nat) (v : SvSub) (h : s.Inv) : (State.setSvSub s n v).Inv := by
  unfold State.setSvSub
  grind -ring -linarith -lia -ac [State.Inv]

theorem State.soeJudge_inv (s : State) (n : Nat) (c : Nat) (st : Nat) (d : Nat) (prov : Option Nat) (old : Bool) (h : s.Inv) :
    (State.soeJudge s n c st d prov old).Inv := by
  unfold State.soeJudge
  grind -ring -linarith -lia -ac [State.Inv, State.bump_inv, State.logPut_inv, State.setChatter_inv]

theorem State.soeRead_inv (s : State) (n : Nat) (k : Nat) (h : s.Inv) : (State.soeRead s n k).Inv := by
  unfold State.soeRead
  grind -ring -linarith -lia -ac [State.Inv]

theorem State.soeStamp_inv (s : State) (n : Nat) (c : Nat) (h : s.Inv) : (State.soeStamp s n c).Inv := by
  unfold State.soeStamp
  grind -ring -linarith -lia -ac [State.Inv, State.setSoeOld_inv, State.soeRead_inv, State.setSoeIn_inv, State.epTake_inv]

theorem State.strobeEngines_inv (s : State) (k : Nat) (h : s.Inv) : (State.strobeEngines s k).Inv := by
  unfold State.strobeEngines
  grind -ring -linarith -lia -ac [State.Inv, foldl_inv, State.bump_inv, State.setEng_inv]

theorem State.strobeFire_inv (s : State) (k : Fin 8) (h : s.Inv) : (State.strobeFire s k).Inv := by
  unfold State.strobeFire
  grind -ring -linarith -lia -ac [State.Inv, State.strobeEngines_inv, State.bump_inv]

theorem State.svEnter_inv (s : State) (n : Nat) (g : Nat) (v : SvSample) (h : s.Inv) : (State.svEnter s n g v).Inv := by
  unfold State.svEnter
  grind -ring -linarith -lia -ac [State.Inv, State.setSvPub_inv]

theorem State.svMissing_inv (s : State) (n : Nat) (synch : Nat) (first : Nat) (gap : Nat) (asdus : Nat) (h : s.Inv) : (State.svMissing s n
    synch first gap asdus).Inv := by
  unfold State.svMissing
  grind -ring -linarith -lia -ac [State.Inv, foldl_inv, State.epWrite_inv, State.bumpBy_inv]

theorem State.svWrite_inv (s : State) (n : Nat) (d : Asdu) (back : Int) (h : s.Inv) : (State.svWrite s n d back).Inv := by
  unfold State.svWrite
  grind -ring -linarith -lia -ac [State.Inv, foldl_inv, State.epWrite_inv]

theorem State.svWriteAll_inv (s0 : State) (a1 : Nat) (a2 : List Asdu) (h0 : s0.Inv) : (State.svWriteAll s0 a1 a2).Inv := by
  induction a2 generalizing s0 <;> unfold State.svWriteAll <;> grind -ring -linarith -lia -ac [State.Inv, outInv, someAll, okAll,
    engResInv, pullInv, foldl_inv, State.svWrite_inv]

theorem State.svJudge_inv (s : State) (f : SvFrame) (n : Nat) (h : s.Inv) : (State.svJudge s f n).Inv := by
  unfold State.svJudge
  grind -ring -linarith -lia -ac [State.Inv, State.bump_inv, State.streamFail_inv, State.setSvSub_inv, State.svMissing_inv,
    State.svWriteAll_inv]

theorem State.swapQuiesce_inv (s : State) (n : Nat) (w : Swap) (h : s.Inv) : (State.swapQuiesce s n w).Inv := by
  unfold State.swapQuiesce
  grind -ring -linarith -lia -ac [State.Inv, State.hingeOut_inv, State.hinge_inv, State.setSvc_inv, State.claimRelease_inv]

theorem State.timeFrame_inv (s : State) (p : Port) (fields : List Nat) (payload : List Byte) (relay : optParam (Option (Nat × Nat)) none)
    (h : s.Inv) : (State.timeFrame s p fields payload relay).Inv := by
  unfold State.timeFrame
  grind -ring -linarith -lia -ac [State.Inv, State.originate_inv]

theorem State.trkIgnore_inv (s : State) (k : Nat) (h : s.Inv) : (State.trkIgnore s k).Inv := by
  unfold State.trkIgnore
  grind -ring -linarith -lia -ac [State.Inv, State.bump_inv]

theorem State.trkLock_inv (s : State) (k : Nat) (x : Tracker) (t : Int) (i : TrkInput) (h : s.Inv) : (State.trkLock s k x t i).Inv := by
  unfold State.trkLock
  grind -ring -linarith -lia -ac [State.Inv, State.setTrk_inv, State.retarget_inv, State.event_inv, State.bump_inv, State.calEndAll_inv,
    State.commitDrop_inv]

theorem State.ttError_inv (s : State) (k : Nat) (h : s.Inv) : (State.ttError s k).Inv := by
  unfold State.ttError
  grind -ring -linarith -lia -ac [State.Inv, State.canCount_inv, State.setCtl_inv, State.report_inv]

theorem State.ttAct_inv (s : State) (k : Nat) (t : Fin 64) (n : Nat) (h : s.Inv) : (State.ttAct s k t n).Inv := by
  unfold State.ttAct
  grind -ring -linarith -lia -ac [State.Inv, State.setCtl_inv, State.canCount_inv, State.ttError_inv]

theorem State.updateSync_inv (s : State) (h : s.Inv) : (State.updateSync s).Inv := by
  unfold State.updateSync
  grind -ring -linarith -lia -ac [State.Inv, State.masterChange_inv]

end Sys2Proof.Machine
end

