-- ==== Sys2Proof/Laws/KeepsPair.lean ====
section
/-!
SUPPORT. What power, the pair, security, self-test, store and modes keep: memory, the dictionary and the store stay canonical.
-/

namespace Sys2Proof.Machine

open Sys2Proof

set_option Elab.async false

theorem State.actLater_inv (s : State) (n : Nat) (r : Act) (h0 : s.Inv) (h2 : okAll State.Inv r) : (State.actLater s n r).Inv := by
  unfold State.actLater
  grind -ring -linarith -lia -ac [State.Inv, okAll, State.answer_inv]

theorem State.activateHandover_inv (s : State) (h : s.Inv) : okAll State.Inv (State.activateHandover s) := by
  unfold State.activateHandover
  grind -ring -linarith -lia -ac [State.Inv, okAll]

theorem State.activateReset_inv (s : State) (h : s.Inv) : okAll State.Inv (State.activateReset s) := by
  unfold State.activateReset
  grind -ring -linarith -lia -ac [State.Inv, okAll, State.setSlotSt_inv]

theorem State.chansRetired_inv (s : State) (h : s.Inv) : (State.chansRetired s).Inv := by
  unfold State.chansRetired
  grind -ring -linarith -lia -ac [State.Inv, foldl_inv, State.setChan_inv]

theorem State.remapNote_inv (s : State) (index : Nat) (sub : Nat) (group : Nat) (h : s.Inv) : (State.remapNote s index sub group).Inv := by
  unfold State.remapNote
  grind -ring -linarith -lia -ac [State.Inv]

theorem State.moveEngine_inv (s0 : State) (a1 : Nat) (a2 : Nat) (h0 : s0.Inv) : (State.moveEngine s0 a1 a2).Inv := by
  have hb : ∀ (s : State) (k : Nat) (v : Val) (i j c : Nat), s.Inv →
      ({ s with od := tsetF objDefaultKey (tdel s.od (k + a1)) (k + a2) v }.remapNote i j c : State).Inv := fun s k v i j c h =>
    State.remapNote_inv _ _ _ _ ⟨h.1, wfWith_tsetF _ _ (wfWith_tdel _ h.2.1), h.2.2⟩
  have hk : ∀ (f : State → Nat → State) (s : State), (∀ s i, s.Inv → (f s i).Inv) → s.Inv → (f (f s 0x5001) 0x5002).Inv :=
    fun f s hf h => hf _ _ (hf _ _ h)
  unfold State.moveEngine
  extract_lets l t bind
  have ht : t.Inv := foldl_inv _ _ _ (fun s x h => hb s _ _ _ _ _ h) h0
  clear_value t
  refine hk bind t (fun s i h => ?_) ht
  simp only [bind]
  split
  · exact State.remapNote_inv _ _ _ _ (State.setO_inv _ _ _ _ _ h)
  · exact h

theorem State.copySpan_inv (s : State) (c : Nat) (d : Nat) (lo : Nat) (hi : Nat) (h : s.Inv) : (State.copySpan s c d lo hi).Inv := by
  unfold State.copySpan
  grind -ring -linarith -lia -ac [State.Inv, State.setVal_inv]

theorem State.remapCluster_inv (s : State) (c : Nat) (h : s.Inv) : (State.remapCluster s c).Inv := by
  unfold State.remapCluster
  grind -ring -linarith -lia -ac [State.Inv, foldl_inv, State.moveEngine_inv, State.remapNote_inv, State.copySpan_inv]

theorem State.chanLose_inv (s : State) (c : Nat) (h : s.Inv) : (State.chanLose s c).Inv := by
  unfold State.chanLose
  grind -ring -linarith -lia -ac [State.Inv, foldl_inv, State.setO_inv, State.remapNote_inv, State.setChan_inv]

theorem State.fitChannels_inv (s0 : State) (h0 : s0.Inv) : (State.fitChannels s0).Inv := by
  refine foldl_inv _ _ _ (fun _ _ h => ?_) h0
  split
  · exact h
  · exact State.chanLose_inv _ _ h

theorem State.fitReserves_inv (s : State) (h : s.Inv) : (State.fitReserves s).Inv := by
  unfold State.fitReserves
  grind -ring -linarith -lia -ac [State.Inv, foldl_inv, State.remapNote_inv, State.setO_inv]

theorem State.quarRetired_inv (s : State) (h : s.Inv) : (State.quarRetired s).Inv := by
  unfold State.quarRetired
  grind -ring -linarith -lia -ac [State.Inv, foldl_inv, State.quarantine_inv]

theorem State.storeConfig_inv (s0 : State) (h0 : s0.Inv) : (State.storeConfig s0).Inv := by
  refine ⟨h0.1, h0.2.1, foldl_tput_wf _ _ _ ?_ (wfWith_filter _ h0.2.1)⟩
  intro e he
  have := (List.all_eq_true.mp (Bool.and_eq_true_iff.mp h0.2.2).2) e (List.mem_of_mem_filter he)
  simpa using this

theorem State.ownCommit_inv (s : State) (h : s.Inv) : (State.ownCommit s).Inv := by
  unfold State.ownCommit
  grind -ring -linarith -lia -ac [State.Inv, foldl_inv, State.setO_inv, State.journalWrite_inv, State.storeConfig_inv]

theorem State.adaptRetired_inv (s0 : State) (h0 : s0.Inv) : (State.adaptRetired s0).Inv := by
  unfold State.adaptRetired
  extract_lets b src t c u src2 v
  have ht : t.Inv := State.chansRetired_inv _ h0
  have hu : u.Inv := foldl_inv _ _ _ (fun _ _ h => State.remapCluster_inv _ _ h) (State.fitChannels_inv _ (State.fitReserves_inv _ ht))
  clear_value u
  have hv : v.Inv := State.quarRetired_inv _ hu
  clear_value v
  split
  · have hb : ∀ (s : State) (b : Bist), s.Inv → ({ s with bist := b } : State).Inv := fun _ _ h => h
    exact hb v _ hv
  · exact State.ownCommit_inv _ hv

theorem State.writeProtect_inv (s : State) (h : s.Inv) : (State.writeProtect s).1.Inv := by
  unfold State.writeProtect
  grind -ring -linarith -lia -ac [State.Inv, State.degrade_inv, State.anchorUpdate_inv]

theorem State.anchorLost_inv (s : State) (p : Nat) (h : s.Inv) : (State.anchorLost s p).1.Inv := by
  unfold State.anchorLost
  grind -ring -linarith -lia -ac [State.Inv, State.writeProtect_inv]

theorem State.answerOwner_inv (s : State) (t : State) (r : Resp) (h : t.Inv) : (State.answerOwner s t r).Inv := by
  unfold State.answerOwner
  grind -ring -linarith -lia -ac [State.Inv, State.answer_inv]

theorem State.applyFilters_inv (s : State) (before : State) (keys : List Nat) (h : s.Inv) : (State.applyFilters s before keys).Inv := by
  unfold State.applyFilters
  grind -ring -linarith -lia -ac [State.Inv, foldl_inv, State.setBank_inv]

theorem State.applyBanks_inv (s : State) (before : State) (keys : List Nat) (h : s.Inv) : (State.applyBanks s before keys).Inv := by
  unfold State.applyBanks
  grind -ring -linarith -lia -ac [State.Inv, foldl_inv, State.applyFilters_inv, State.setBank_inv, State.report_inv, State.levelSet_inv,
    State.bump_inv]

theorem State.applyCan_inv (s : State) (keys : List Nat) (h : s.Inv) : (State.applyCan s keys).Inv := by
  unfold State.applyCan
  grind -ring -linarith -lia -ac [State.Inv, foldl_inv, State.canLeave_inv, State.drew_inv, State.setCtl_inv, State.canFill_inv]

theorem State.applyEngines_inv (s : State) (keys : List Nat) (h : s.Inv) : (State.applyEngines s keys).Inv := by
  unfold State.applyEngines
  grind -ring -linarith -lia -ac [State.Inv, foldl_inv, State.wrapWrite_inv, State.setCluster_inv, State.engineStop_inv,
    State.engineStart_inv, State.enginePark_inv]

theorem State.applyLocks_inv (s : State) (before : State) (h : s.Inv) : (State.applyLocks s before).Inv := by
  unfold State.applyLocks
  grind -ring -linarith -lia -ac [State.Inv, foldl_inv, State.setLock_inv, State.engHalt_inv, State.setEng_inv, State.engineStart_inv]

theorem State.applyQuarantine_inv (s : State) (keys : List Nat) (h : s.Inv) : (State.applyQuarantine s keys).Inv := by
  unfold State.applyQuarantine
  grind -ring -linarith -lia -ac [State.Inv, foldl_inv, State.setChan_inv]

theorem State.applyTime_inv (s : State) (keys : List Nat) (h : s.Inv) : (State.applyTime s keys).Inv := by
  unfold State.applyTime
  grind -ring -linarith -lia -ac [State.Inv, foldl_inv, State.masterChange_inv, State.ptpDecide_inv, State.updateRoot_inv]

theorem State.applyTrackers_inv (s : State) (before : State) (keys : List Nat) (h : s.Inv) : (State.applyTrackers s before keys).Inv := by
  unfold State.applyTrackers
  grind -ring -linarith -lia -ac [State.Inv, foldl_inv, State.setTrk_inv, State.calEndAll_inv, State.event_inv]

theorem State.pfClear_inv (s : State) (h : s.Inv) : (State.pfClear s).Inv := by
  unfold State.pfClear
  grind -ring -linarith -lia -ac [State.Inv]

theorem State.loadWindows_inv (s : State) (l : List Nat) (h : s.Inv) : (State.loadWindows s l).Inv := by
  unfold State.loadWindows
  grind -ring -linarith -lia -ac [State.Inv, foldl_inv, State.pfClear_inv]

theorem State.applyPlaces_inv (s : State) (keys : List Nat) (h : s.Inv) : (State.applyPlaces s keys).Inv := by
  unfold State.applyPlaces
  grind -ring -linarith -lia -ac [State.Inv, State.placeNow_inv]

theorem State.applyChanges_inv (s0 : State) (s1 : State) (a2 : List Nat) (h0 : s0.Inv) : (State.applyChanges s0 s1 a2).Inv := by
  unfold State.applyChanges
  extract_lets t u v ring w cores x y
  have ht : t.Inv := State.applyEngines_inv _ _ (State.applyLocks_inv _ _ (State.applyQuarantine_inv _ _ h0))
  clear_value t
  have hu : u.Inv := State.applyTime_inv _ _ (State.applyBanks_inv _ _ _ (State.applyTrackers_inv _ _ _ ht))
  clear_value u
  have hv : v.Inv := State.loadWindows_inv _ _ (State.applyCan_inv _ _ hu)
  clear_value v
  have hw : w.Inv := by dsimp only [w]; split; exact hv; split <;> exact hv
  clear_value w
  have hx : x.Inv := by dsimp only [x]; split <;> exact hw
  clear_value x
  have hy : y.Inv := by
    dsimp only [y]
    split
    · exact hx
    · exact State.pfClear_inv _ hx
  exact State.sfgUpdate_inv _ (State.applyPlaces_inv _ _ hy)

theorem State.applyEmpty_inv (s : State) (keys : List Nat) (h : s.Inv) : (State.applyEmpty s keys).Inv := by
  unfold State.applyEmpty
  grind -ring -linarith -lia -ac [State.Inv, foldl_inv, State.groupFailAll_inv, State.chanEmpty_inv, State.setChan_inv]

theorem State.withSet_inv (s : State) (l : List Staged) (h : s.Inv) : (State.withSet s l).Inv := by
  unfold State.withSet
  grind -ring -linarith -lia -ac [State.Inv, foldl_inv, State.setVal_inv]

theorem State.repairClearAct_inv (s : State) (h : s.Inv) : okAll State.Inv (State.repairClearAct s) := by
  unfold State.repairClearAct
  grind -ring -linarith -lia -ac [State.Inv, okAll]

theorem State.setFeed_inv (s : State) (f : Nat) (v : Feed) (h : s.Inv) : (State.setFeed s f v).Inv := by
  unfold State.setFeed
  grind -ring -linarith -lia -ac [State.Inv]

theorem State.feedClose_inv (s : State) (f : Nat) (h : s.Inv) : (State.feedClose s f).Inv := by
  unfold State.feedClose
  grind -ring -linarith -lia -ac [State.Inv]

theorem State.feedChange_inv (s : State) (f : Nat) (h : s.Inv) : (State.feedChange s f).Inv := by
  unfold State.feedChange
  grind -ring -linarith -lia -ac [State.Inv]

theorem State.feedSelect_inv (s : State) (off : Bool) (h : s.Inv) : (State.feedSelect s off).Inv := by
  unfold State.feedSelect
  grind -ring -linarith -lia -ac [State.Inv, State.feedClose_inv, State.feedChange_inv]

theorem State.feedSet_inv (s : State) (f : Nat) (v : Feed) (off : Bool) (h : s.Inv) : (State.feedSet s f v off).Inv := by
  unfold State.feedSet
  grind -ring -linarith -lia -ac [State.Inv, State.setFeed_inv, State.feedSelect_inv]

theorem State.efOn_inv (s : State) (ch : Nat) (h : s.Inv) : okAll State.Inv (State.efOn s ch) := by
  unfold State.efOn
  grind -ring -linarith -lia -ac [State.Inv, okAll, State.feedSet_inv, State.fieldOn_inv]

theorem State.efOff_inv (s : State) (ch : Nat) (h : s.Inv) : okAll State.Inv (State.efOff s ch) := by
  unfold State.efOff
  grind -ring -linarith -lia -ac [State.Inv, okAll, State.feedSet_inv, State.setField_inv, State.fieldOff_inv]

theorem State.applySet_inv (s : State) (l : List Staged) (h : s.Inv) : (State.applySet s l).Inv := by
  unfold State.applySet
  grind -ring -linarith -lia -ac [State.Inv, foldl_inv, State.journalWrite_inv, State.applyEmpty_inv, State.setO_inv, State.withSet_inv,
    State.applyChanges_inv, State.commitResult_inv]

theorem State.closeSession_inv (s : State) (n : Nat) (h : s.Inv) : (State.closeSession s n).Inv := by
  unfold State.closeSession
  grind -ring -linarith -lia -ac [State.Inv, State.bumpBy_inv, State.updDrop_inv, State.setSession_inv]

theorem State.segmentPut_inv (s : State) (data : List Byte) (last : Bool) (h : s.Inv) : (State.segmentPut s data last).Inv := by
  unfold State.segmentPut
  grind -ring -linarith -lia -ac [State.Inv, State.setO_inv, State.setImgSlot_inv]

theorem State.updFail_inv (s : State) (code : Nat) (h : s.Inv) : (State.updFail s code).Inv := by
  unfold State.updFail
  grind -ring -linarith -lia -ac [State.Inv, State.setSlotSt_inv, State.setO_inv]

theorem State.imageSegment_inv (s : State) (n : Nat) (off : Nat) (data : List Byte) (last : Bool) (h : s.Inv) : (State.imageSegment s n off
    data last).Inv := by
  unfold State.imageSegment
  grind -ring -linarith -lia -ac [State.Inv, State.answer_inv, State.segmentPut_inv, State.updFail_inv]

theorem State.keyPut_inv (s : State) (n : Nat) (attr : Nat) (uses : Nat) (key : List Byte) (h : s.Inv) : (State.keyPut s n attr uses
    key).Inv := by
  unfold State.keyPut
  grind -ring -linarith -lia -ac [State.Inv, State.setSlot_inv]

theorem State.keyPlain_inv (s : State) (n : Nat) (key : List Byte) (h : s.Inv) : okAll State.Inv (State.keyPlain s n key) := by
  unfold State.keyPlain
  grind -ring -linarith -lia -ac [State.Inv, okAll, State.keyPut_inv]

theorem State.keyWrapped_inv (s : State) (n : Nat) (w : List Byte) (h : s.Inv) : okAll State.Inv (State.keyWrapped s n w) := by
  unfold State.keyWrapped
  grind -ring -linarith -lia -ac [State.Inv, okAll, State.keyPut_inv, State.useKey_inv]

theorem State.modeReq_inv (s : State) (n : Nat) (f : State → State × Option Nat) (h0 : s.Inv) (h2 : ∀ x0, x0.Inv → (f x0).1.Inv) :
    (State.modeReq s n f).Inv := by
  unfold State.modeReq
  grind -ring -linarith -lia -ac [State.Inv, State.answer_inv]

theorem State.heldBack_inv (s : State) (h : s.Inv) : (State.heldBack s).Inv := by
  unfold State.heldBack
  grind -ring -linarith -lia -ac [State.Inv]

theorem State.leaveFailsafe_inv (s : State) (h : s.Inv) : (State.leaveFailsafe s).Inv := by
  unfold State.leaveFailsafe
  grind -ring -linarith -lia -ac [State.Inv, State.returnService_inv]

theorem State.modeReturn_inv (s : State) (h : s.Inv) : (State.modeReturn s).1.Inv := by
  unfold State.modeReturn
  grind -ring -linarith -lia -ac [State.Inv, State.setMode_inv, State.returnService_inv, State.heldBack_inv, State.leaveFailsafe_inv,
    State.wake_inv]

theorem State.modeMaintenance_inv (s : State) (h : s.Inv) : (State.modeMaintenance s).1.Inv := by
  unfold State.modeMaintenance
  grind -ring -linarith -lia -ac [State.Inv, State.wake_inv, State.setMode_inv, State.claimRelease_inv]

theorem State.modeFailsafe_inv (s : State) (h : s.Inv) : (State.modeFailsafe s).1.Inv := by
  unfold State.modeFailsafe
  grind -ring -linarith -lia -ac [State.Inv, State.withReports_inv, State.failsafe_inv]

theorem State.modeDoze_inv (s : State) (h : s.Inv) : (State.modeDoze s).1.Inv := by
  unfold State.modeDoze
  grind -ring -linarith -lia -ac [State.Inv, State.wake_inv, State.setMode_inv, State.dozeDram_inv, State.traceDrainAll_inv,
    State.dozeCores_inv, State.dozePark_inv]

theorem State.modeShutdown_inv (s : State) (h : s.Inv) : (State.modeShutdown s).1.Inv := by
  unfold State.modeShutdown
  grind -ring -linarith -lia -ac [State.Inv, State.shutdownBegin_inv, State.wake_inv]

theorem State.commitFail_inv (s : State) (n : Nat) (code : Nat) (off : Nat) (h : s.Inv) : (State.commitFail s n code off).Inv := by
  unfold State.commitFail
  grind -ring -linarith -lia -ac [State.Inv, State.answer_inv, State.commitResult_inv]

theorem State.closePaths_inv (s : State) (h : s.Inv) : (State.closePaths s).Inv := by
  unfold State.closePaths
  grind -ring -linarith -lia -ac [State.Inv, foldl_inv, State.closeSession_inv]

theorem State.commitNow_inv (s : State) (n : Nat) (h : s.Inv) : (State.commitNow s n).Inv := by
  unfold State.commitNow
  grind -ring -linarith -lia -ac [State.Inv, State.commitFail_inv, State.setSession_inv, State.mirror_inv, State.closePaths_inv,
    State.answer_inv, State.applySet_inv]

theorem State.discardSet_inv (s : State) (n : Nat) (h : s.Inv) : (State.discardSet s n).Inv := by
  unfold State.discardSet
  grind -ring -linarith -lia -ac [State.Inv, State.setSession_inv]

theorem State.cancelOwn_inv (s : State) (n : Nat) (h : s.Inv) : okAll State.Inv (State.cancelOwn s n) := by
  unfold State.cancelOwn
  grind -ring -linarith -lia -ac [State.Inv, okAll, State.setSession_inv]

theorem State.cancelAny_inv (s : State) (h : s.Inv) : okAll State.Inv (State.cancelAny s) := by
  unfold State.cancelAny
  grind -ring -linarith -lia -ac [State.Inv, okAll, State.commitDrop_inv]

theorem State.keyDestroyAt_inv (s : State) (k : Nat) (h : s.Inv) : (State.keyDestroyAt s k).Inv := by
  unfold State.keyDestroyAt
  grind -ring -linarith -lia -ac [State.Inv, State.setSlot_inv]

theorem State.keyDerived_inv (s : State) (n : Nat) (h : s.Inv) : okAll State.Inv (State.keyDerived s n) := by
  unfold State.keyDerived
  grind -ring -linarith -lia -ac [State.Inv, okAll, State.keyPut_inv, State.useKey_inv]

theorem State.revoke_inv (s : State) (v : Nat) (h : s.Inv) : okAll State.Inv (State.revoke s v) := by
  unfold State.revoke
  grind -ring -linarith -lia -ac [State.Inv, okAll, State.setO_inv]

theorem State.lcRequest_inv (s : State) (v : Nat) (h : s.Inv) : okAll State.Inv (State.lcRequest s v) := by
  unfold State.lcRequest
  grind -ring -linarith -lia -ac [State.Inv, okAll]

theorem State.keysGone_inv (s : State) (h : s.Inv) : (State.keysGone s).Inv := by
  unfold State.keysGone
  grind -ring -linarith -lia -ac [State.Inv]

theorem State.lcRun_inv (s : State) (target : Nat) (verified : Bool) (h : s.Inv) : (State.lcRun s target verified).1.Inv := by
  unfold State.lcRun
  grind -ring -linarith -lia -ac [State.Inv, State.keysGone_inv, State.report_inv, State.setO_inv]

theorem State.updPrepare_inv (s : State) (n : Nat) (h : s.Inv) : okAll State.Inv (State.updPrepare s n) := by
  unfold State.updPrepare
  grind -ring -linarith -lia -ac [State.Inv, okAll, State.setO_inv, State.eraseQueue_inv, State.anchorUpdate_inv, State.journalWrite_inv,
    State.setImgSlot_inv]

theorem State.updAbandon_inv (s : State) (h : s.Inv) : okAll State.Inv (State.updAbandon s) := by
  unfold State.updAbandon
  grind -ring -linarith -lia -ac [State.Inv, okAll, State.updDrop_inv]

theorem State.floorRaise_inv (s : State) (h : s.Inv) : okAll State.Inv (State.floorRaise s) := by
  unfold State.floorRaise
  grind -ring -linarith -lia -ac [State.Inv, okAll, State.setO_inv]

theorem State.swapBegin_inv (s : State) (kind : Nat) (session : Option Nat) (h : s.Inv) : (State.swapBegin s kind session).Inv := by
  unfold State.swapBegin
  grind -ring -linarith -lia -ac [State.Inv, State.setMode_inv]

theorem State.switchover_inv (s : State) (kind : Nat) (n : Nat) (h : s.Inv) : okAll State.Inv (State.switchover s kind n) := by
  unfold State.switchover
  grind -ring -linarith -lia -ac [State.Inv, okAll, State.swapBegin_inv]

theorem State.heelAct_inv (s : State) (n : Nat) (h : s.Inv) : someAll (okAll State.Inv) (State.heelAct s n) := by
  unfold State.heelAct
  grind -ring -linarith -lia -ac [State.Inv, someAll, okAll, State.switchover_inv]

theorem State.readPaLink_inv (s : State) (h : s.Inv) : (State.readPaLink s).1.Inv := by
  unfold State.readPaLink
  grind -ring -linarith -lia -ac [State.Inv]

theorem State.readEfElo_inv (s : State) (c : Ctx) (ch : Nat) (h : s.Inv) : (State.readEfElo s c ch).1.Inv := by
  unfold State.readEfElo
  grind -ring -linarith -lia -ac [State.Inv, State.setCtx_inv]

theorem State.shadowClear_inv (s : State) (h : s.Inv) : (State.shadowClear s).Inv := by
  unfold State.shadowClear
  grind -ring -linarith -lia -ac [State.Inv]

theorem State.bistRecord_inv (s : State) (k : Nat) (outcome : Nat) (f : Finding) (h : s.Inv) : (State.bistRecord s k outcome f).Inv := by
  unfold State.bistRecord
  grind -ring -linarith -lia -ac [State.Inv]

theorem State.bistRetire_inv (s : State) (k : Nat) (f : Finding) (h : s.Inv) : (State.bistRetire s k f).Inv := by
  unfold State.bistRetire
  grind -ring -linarith -lia -ac [State.Inv, State.bistRecord_inv]

theorem State.sliceAdvance_inv (s : State) (h : s.Inv) : (State.sliceAdvance s).Inv := by
  unfold State.sliceAdvance
  grind -ring -linarith -lia -ac [State.Inv]

theorem State.slicePass_inv (a0 : Nat) (s1 : State) (h1 : s1.Inv) : (State.slicePass a0 s1).Inv := by
  induction a0 generalizing s1 <;> unfold State.slicePass <;> grind -ring -linarith -lia -ac [State.Inv, outInv, someAll, okAll, engResInv,
    pullInv, foldl_inv, State.sliceAdvance_inv]

theorem State.sliceNext_inv (s : State) (h : s.Inv) : (State.sliceNext s).Inv := by
  unfold State.sliceNext
  grind -ring -linarith -lia -ac [State.Inv, State.slicePass_inv]

theorem State.bistStart_inv (s : State) (h : s.Inv) : (State.bistStart s).Inv := by
  unfold State.bistStart
  grind -ring -linarith -lia -ac [State.Inv, State.sliceNext_inv]

theorem State.bootRefuse_inv (s : State) (i : Nat) (code : Nat) (h : s.Inv) : (State.bootRefuse s i code).Inv := by
  unfold State.bootRefuse
  grind -ring -linarith -lia -ac [State.Inv, State.report_inv]

theorem State.spare_inv (s : State) (m : Nat) (kind : Nat) (loc : Nat) (h : s.Inv) : (State.spare s m kind loc).Inv := by
  unfold State.spare
  grind -ring -linarith -lia -ac [State.Inv]

theorem State.candPass_inv (s : State) (k : Nat) (f : Finding) (h : s.Inv) : (State.candPass s k f).Inv := by
  unfold State.candPass
  grind -ring -linarith -lia -ac [State.Inv, State.bistRecord_inv, State.spare_inv]

theorem State.cfgTaken_inv (s : State) (h : s.Inv) : (State.cfgTaken s).Inv := by
  unfold State.cfgTaken
  grind -ring -linarith -lia -ac [State.Inv]

theorem State.swapDone_inv (s : State) (h : s.Inv) : (State.swapDone s).Inv := by
  unfold State.swapDone
  grind -ring -linarith -lia -ac [State.Inv, State.answer_inv]

theorem State.svcsResume_inv (s : State) (h : s.Inv) : (State.svcsResume s).Inv := by
  unfold State.svcsResume
  grind -ring -linarith -lia -ac [State.Inv]

theorem State.watchNew_inv (s : State) (h : s.Inv) : (State.watchNew s).Inv := by
  unfold State.watchNew
  grind -ring -linarith -lia -ac [State.Inv]

theorem State.claimSettle_inv (s0 : State) (h0 : s0.Inv) : (State.claimSettle s0).Inv := by
  unfold State.claimSettle
  extract_lets cause t lost src u
  have ht : t.Inv := State.claimTake_inv _ _ h0
  clear_value t
  have hu : u.Inv := ht
  have hd : ∀ (v : State) k f, v.Inv → ((v.degrade k f).goActive).Inv := fun v k f h => State.goActive_inv _ (State.degrade_inv _ _ _ h)
  have hf : ∀ v : State, v.Inv → v.sfgUpdate.Inv := fun v h => State.sfgUpdate_inv _ h
  clear_value u lost
  split
  · exact hf _ (State.swapDone_inv _ (hd _ _ _ hu))
  · split
    · rename_i v _ _ _ _ _
      have hv : v.Inv := State.swapDone_inv _ (hd _ _ _ (State.svcsResume_inv _ hu))
      clear_value v
      refine State.shutIfWaiting_inv _ (hf _ ?_)
      split
      · exact hv
      · exact State.watchNew_inv _ hv
    · exact hf _ (State.degrade_inv _ _ _ hu)
  iterate 3
    split
    · exact hf _ (hd _ _ _ hu)
    · exact hf _ hu
  · exact hu

theorem State.leashFault_inv (s : State) (why : Nat) (h : s.Inv) : (State.leashFault s why).Inv := by
  unfold State.leashFault
  grind -ring -linarith -lia -ac [State.Inv, State.report_inv, State.levelSet_inv]

theorem State.claimTry_inv (s : State) (h : s.Inv) : (State.claimTry s).Inv := by
  unfold State.claimTry
  grind -ring -linarith -lia -ac [State.Inv, State.levelSet_inv, State.claimSeek_inv, State.leashFault_inv]

theorem State.commitStored_inv (s : State) (l : List Staged) (h : s.Inv) : (State.commitStored s l).Inv := by
  unfold State.commitStored
  grind -ring -linarith -lia -ac [State.Inv, foldl_inv, State.storeConfig_inv]

theorem State.dramRelease_inv (s : State) (h : s.Inv) : (State.dramRelease s).Inv := by
  unfold State.dramRelease
  grind -ring -linarith -lia -ac [State.Inv, foldl_inv, State.heldEnd_inv, State.dramStore_inv]

theorem State.efAsk_inv (s : State) (n : Option (Fin 32)) (ch : Nat) (run : State → Act) (h0 : s.Inv) (h3 : ∀ x0, x0.Inv → okAll State.Inv
    (run x0)) : (State.efAsk s n ch run).Inv := by
  unfold State.efAsk
  grind -ring -linarith -lia -ac [State.Inv, okAll, State.asWrite_inv, State.act_inv, State.actQuiet_inv]

theorem State.efShort_inv (s : State) (ch : Nat) (h : s.Inv) : (State.efShort s ch).Inv := by
  unfold State.efShort
  grind -ring -linarith -lia -ac [State.Inv, State.report_inv, State.levelSet_inv, State.setO_inv]

theorem State.efTrip_inv (s : State) (ch : Nat) (cause : Nat) (lt : Nat) (h : s.Inv) : (State.efTrip s ch cause lt).Inv := by
  unfold State.efTrip
  grind -ring -linarith -lia -ac [State.Inv, State.bump_inv, State.setO_inv, State.feedSet_inv, State.setField_inv, State.report_inv]

theorem State.energyStore_inv (s0 : State) (h0 : s0.Inv) : (State.energyStore s0).Inv := foldl_inv _ _ _ (fun _ _ h => ⟨h.1, h.2.1,
    wfWith_tsetF _ _ h.2.2⟩) h0

theorem State.eraseAgain_inv (s : State) (h : s.Inv) : (State.eraseAgain s).Inv := by
  unfold State.eraseAgain
  grind -ring -linarith -lia -ac [State.Inv, State.eraseQueue_inv, State.bumpBy_inv]

theorem State.remapTo_inv (s : State) (k : Nat) (p : Nat) (h : s.Inv) : (State.remapTo s k p).Inv := by
  unfold State.remapTo
  grind -ring -linarith -lia -ac [State.Inv, State.anchorUpdate_inv, State.journalWrite_inv]

theorem State.logForget_inv (s : State) (i : Nat) (h : s.Inv) : (State.logForget s i).1.Inv := by
  unfold State.logForget
  grind -ring -linarith -lia -ac [State.Inv]

theorem State.logLoss_inv (s : State) (n : Nat) (h : s.Inv) : (State.logLoss s n).Inv := by
  unfold State.logLoss
  grind -ring -linarith -lia -ac [State.Inv, State.drew_inv, State.bumpBy_inv, State.logEnter_inv]

theorem State.logGiveUp_inv (s : State) (i : Nat) (h : s.Inv) : (State.logGiveUp s i).Inv := by
  unfold State.logGiveUp
  grind -ring -linarith -lia -ac [State.Inv, State.logForget_inv, State.logLoss_inv, State.bump_inv]

theorem State.imageLost_inv (s : State) (area : Nat) (h : s.Inv) : (State.imageLost s area).Inv := by
  unfold State.imageLost
  grind -ring -linarith -lia -ac [State.Inv, State.setSlotSt_inv]

theorem State.sectorWear_inv (s : State) (p : Nat) (h : s.Inv) : (State.sectorWear s p).1.Inv := by
  unfold State.sectorWear
  grind -ring -linarith -lia -ac [State.Inv, State.anchorLost_inv, State.writeProtect_inv, State.remapTo_inv, State.logGiveUp_inv,
    State.journalWrite_inv, State.imageLost_inv]

theorem State.eraseCounted_inv (s : State) (p : Nat) (ok : Bool) (h : s.Inv) : (State.eraseCounted s p ok).1.Inv := by
  unfold State.eraseCounted
  grind -ring -linarith -lia -ac [State.Inv, State.journalWrite_inv, State.bump_inv, State.sectorWear_inv]

theorem State.eraseSuspend_inv (s : State) (e : Erase) (h : s.Inv) : (State.eraseSuspend s e).Inv := by
  unfold State.eraseSuspend
  grind -ring -linarith -lia -ac [State.Inv, State.bump_inv]

theorem State.feedMeasure_inv (s : State) (h : s.Inv) : (State.feedMeasure s).Inv := by
  unfold State.feedMeasure
  grind -ring -linarith -lia -ac [State.Inv, State.drew_inv]

theorem State.migrateGroup_inv (s0 : State) (a1 : Nat) (a2 : Nat) (a3 : Nat) (a4 : Nat) (h0 : s0.Inv) : (State.migrateGroup s0 a1 a2 a3
    a4).1.Inv := by
  unfold State.migrateGroup
  extract_lets l src t reset
  have ht : t.Inv := h0
  split
  · exact foldl_inv _ _ _ (fun _ _ h => ⟨h.1, wfWith_tsetF _ _ h.2.1, h.2.2⟩) ht
  · exact ⟨ht.1, foldl_tdel_wf _ _ _ _ ht.2.1, ht.2.2⟩

theorem State.firstStart_inv (s0 : State) (a1 : Nat) (h0 : s0.Inv) : (State.firstStart s0 a1).Inv := by
  unfold State.firstStart
  extract_lets b gs
  split
  · exact h0
  · have hf : ∀ p : State × List Byte × Nat, p = gs.foldl (fun (a : State × List Byte × Nat) g =>
        let (t, r, m) := a.1.migrateGroup (imgField b 32 4) g (tget 0 a.1.flash.formats g) (imgFormat b g)
        (t, a.2.1 ++ r, a.2.2 + m)) (s0, [], 0) → p.1.Inv := by
      rintro p rfl
      exact foldl_fst_inv _ _ _ (fun q g h => State.migrateGroup_inv _ _ _ _ _ h) h0
    split
    rename_i p t rep n hp
    have ht : t.Inv := hf _ hp.symm
    grind -ring -linarith -lia -ac [State.Inv, outInv, someAll, okAll, engResInv, pullInv, foldl_inv, State.migrateGroup_inv,
    State.setVal_inv, State.setO_inv, State.ownCommit_inv, State.anchorUpdate_inv]

theorem State.logTurn_inv (a0 : Nat) (s1 : State) (a2 : Option Nat) (h1 : s1.Inv) : (State.logTurn a0 s1 a2).1.Inv := by
  induction a0 generalizing s1 a2 <;> unfold State.logTurn <;> grind -ring -linarith -lia -ac [State.Inv, outInv, someAll, okAll,
    engResInv, pullInv, foldl_inv, State.logForget_inv, State.eraseCounted_inv]

theorem State.logRoom_inv (s : State) (h : s.Inv) : (State.logRoom s).1.Inv := by
  unfold State.logRoom
  grind -ring -linarith -lia -ac [State.Inv, State.logTurn_inv]

theorem State.logProgram_inv (a : State × List Report) (h : a.1.Inv) : (State.logProgram a).1.Inv := by
  unfold State.logProgram
  grind -ring -linarith -lia -ac [State.Inv, State.logRoom_inv, State.bump_inv]

theorem State.logPage_inv (s0 : State) (h0 : s0.Inv) : (State.logPage s0).1.Inv := foldl_fst_inv _ _ _ (fun _ _ h => State.logProgram_inv _
    h) h0

theorem State.logFlush_inv (a0 : Nat) (s1 : State) (h1 : s1.Inv) : (State.logFlush a0 s1).Inv := by
  induction a0 generalizing s1 <;> unfold State.logFlush <;> grind -ring -linarith -lia -ac [State.Inv, outInv, someAll, okAll, engResInv,
    pullInv, foldl_inv, State.withReports_inv, State.logPage_inv]

theorem State.flushAll_inv (s : State) (h : s.Inv) : (State.flushAll s).Inv := by
  unfold State.flushAll
  grind -ring -linarith -lia -ac [State.Inv, State.logFlush_inv, State.energyStore_inv, State.commitStored_inv, State.anchorUpdate_inv]

theorem State.followSwap_inv (s : State) (h : s.Inv) : (State.followSwap s).Inv := by
  unfold State.followSwap
  grind -ring -linarith -lia -ac [State.Inv, State.setMode_inv]

theorem State.handoverLeave_inv (s : State) (h : s.Inv) : (State.handoverLeave s).Inv := by
  unfold State.handoverLeave
  grind -ring -linarith -lia -ac [State.Inv, State.shutIfWaiting_inv, State.setMode_inv, State.goActive_inv]

theorem State.handBackEnd_inv (s : State) (h : s.Inv) : (State.handBackEnd s).Inv := by
  unfold State.handBackEnd
  grind -ring -linarith -lia -ac [State.Inv, State.handoverLeave_inv]

theorem State.handoverBegin_inv (s : State) (h : s.Inv) : (State.handoverBegin s).Inv := by
  unfold State.handoverBegin
  grind -ring -linarith -lia -ac [State.Inv, State.setSlotSt_inv, State.setMode_inv]

theorem State.handoverEnd_inv (s : State) (h : s.Inv) : (State.handoverEnd s).Inv := by
  unfold State.handoverEnd
  grind -ring -linarith -lia -ac [State.Inv, State.sfgUpdate_inv, State.handoverLeave_inv, State.firstStart_inv]

theorem State.islandSense_inv (s : State) (mv : Nat) (h : s.Inv) : (State.islandSense s mv).Inv := by
  unfold State.islandSense
  grind -ring -linarith -lia -ac [State.Inv, State.setO_inv, State.report_inv]

theorem State.startDone_inv (s : State) (h : s.Inv) : (State.startDone s).Inv := by
  unfold State.startDone
  grind -ring -linarith -lia -ac [State.Inv, State.loadWindows_inv, State.hostInt_inv]

theorem State.joinEnd_inv (s : State) (late : Bool) (h : s.Inv) : (State.joinEnd s late).Inv := by
  unfold State.joinEnd
  grind -ring -linarith -lia -ac [State.Inv, State.startDone_inv, State.withReports_inv, State.failsafe_inv, State.degrade_inv,
    State.setMode_inv, State.returnService_inv]

theorem State.leashSettle_inv (s : State) (h : s.Inv) : (State.leashSettle s).Inv := by
  unfold State.leashSettle
  grind -ring -linarith -lia -ac [State.Inv, State.shutIfWaiting_inv, State.swapDone_inv, State.degrade_inv, State.setMode_inv,
    State.svcsResume_inv]

theorem State.loadStored_inv (s0 : State) (h0 : s0.Inv) : (State.loadStored s0).Inv := ⟨h0.1, foldl_tsetF_wf _ _ _ _ _ h0.2.1, h0.2.2⟩

theorem State.partnerSet_inv (s : State) (lost : Bool) (h : s.Inv) : (State.partnerSet s lost).Inv := by
  unfold State.partnerSet
  grind -ring -linarith -lia -ac [State.Inv, State.sfgUpdate_inv, State.degrade_inv]

theorem State.recoveryDone_inv (s : State) (b : List Byte) (h : s.Inv) : (State.recoveryDone s b).Inv := by
  unfold State.recoveryDone
  grind -ring -linarith -lia -ac [State.Inv, State.setSlotSt_inv, State.setImgSlot_inv, State.beginReset_inv]

theorem State.recoveryPut_inv (s : State) (b : List Byte) (st : Nat) (h : s.Inv) : (State.recoveryPut s b st).Inv := by
  unfold State.recoveryPut
  grind -ring -linarith -lia -ac [State.Inv, State.setImgSlot_inv]

theorem State.recoveryStatus_inv (s : State) (path : Path) (code : Nat) (h : s.Inv) : (State.recoveryStatus s path code).Inv := by
  unfold State.recoveryStatus
  grind -ring -linarith -lia -ac [State.Inv, State.mbPut_inv, State.emit_inv]

theorem State.repairReset_inv (s : State) (h : s.Inv) : (State.repairReset s).Inv := by
  unfold State.repairReset
  grind -ring -linarith -lia -ac [State.Inv]

theorem State.retireState_inv (s : State) (h : s.Inv) : (State.retireState s).Inv := by
  unfold State.retireState
  grind -ring -linarith -lia -ac [State.Inv, foldl_inv, State.setCoreSt_inv, State.setO_inv, State.setEng_inv, State.degrade_inv]

theorem State.repairApply_inv (s : State) (h : s.Inv) : (State.repairApply s).Inv := by
  unfold State.repairApply
  grind -ring -linarith -lia -ac [State.Inv, foldl_inv, State.repairReset_inv, State.retireState_inv, State.report_inv]

theorem State.repairBit_inv (s : State) (k : Nat) (since : Nat) (all : List Finding) (f : Finding) (h : s.Inv) : (State.repairBit s k since
    all f).Inv := by
  unfold State.repairBit
  grind -ring -linarith -lia -ac [State.Inv, State.bistRetire_inv, State.bistRecord_inv, State.spare_inv]

theorem State.resetPulse_inv (s : State) (least : Nat) (sure : Nat) (lowNs : Nat) (cause : Nat) (h : s.Inv) : (State.resetPulse s least
    sure lowNs cause).Inv := by
  unfold State.resetPulse
  grind -ring -linarith -lia -ac [State.Inv, State.beginReset_inv, State.drew_inv]

theorem State.ringIdle_inv (s : State) (h : s.Inv) : (State.ringIdle s).Inv := by
  unfold State.ringIdle
  grind -ring -linarith -lia -ac [State.Inv, foldl_inv, State.setPort_inv]

theorem State.shutCut_inv (s : State) (h : s.Inv) : (State.shutCut s).Inv := by
  unfold State.shutCut
  grind -ring -linarith -lia -ac [State.Inv, State.fieldsOff_inv]

theorem State.sliceEnd_inv (s : State) (k : Nat) (early : Bool) (h : s.Inv) : (State.sliceEnd s k early).Inv := by
  unfold State.sliceEnd
  grind -ring -linarith -lia -ac [State.Inv, State.sliceNext_inv, State.sliceAdvance_inv]

theorem State.sliceStop_inv (s : State) (k : Nat) (h : s.Inv) : (State.sliceStop s k).Inv := by
  unfold State.sliceStop
  grind -ring -linarith -lia -ac [State.Inv, State.sliceEnd_inv, State.bistRecord_inv]

theorem State.statusGood_inv (s : State) (b : StatusBlock) (h : s.Inv) : (State.statusGood s b).Inv := by
  unfold State.statusGood
  grind -ring -linarith -lia -ac [State.Inv]

theorem State.trialCommit_inv (s : State) (slot : Nat) (h : s.Inv) : (State.trialCommit s slot).Inv := by
  unfold State.trialCommit
  grind -ring -linarith -lia -ac [State.Inv, State.setSlotSt_inv, State.event_inv]

theorem State.trialOver_inv (s0 : State) (h0 : s0.Inv) : (State.trialOver s0).Inv := by
  unfold State.trialOver
  repeat' split
  all_goals first | exact h0 | exact State.withReports_inv _ (State.trialFail_inv _ h0)

theorem State.wakeUp_inv (s : State) (h : s.Inv) : (State.wakeUp s).Inv := by
  unfold State.wakeUp
  grind -ring -linarith -lia -ac [State.Inv, State.dozeOut_inv, State.degradeSettle_inv, State.setMode_inv]

theorem State.warnSet_inv (s : State) (mv : Nat) (h : s.Inv) : (State.warnSet s mv).Inv := by
  unfold State.warnSet
  grind -ring -linarith -lia -ac [State.Inv, State.setO_inv]

end Sys2Proof.Machine
end

