-- ==== Sys2Proof/Laws/KeepsHost.lean ====
section
/-!
SUPPORT. What registers, the bridge, object writes and sessions keep: memory, the dictionary and the store stay canonical.
-/

namespace Sys2Proof.Machine

open Sys2Proof

set_option Elab.async false

theorem State.outOfStep_inv (s : State) (h : s.Inv) : (State.outOfStep s).Inv := by
  unfold State.outOfStep
  grind -ring -linarith -lia -ac [State.Inv]

theorem State.mirroredSet_inv (s : State) (l : List MirrorEntry) (ns : Nat) (h : s.Inv) : (State.mirroredSet s l ns).Inv := by
  unfold State.mirroredSet
  grind -ring -linarith -lia -ac [State.Inv, State.outOfStep_inv, State.withSet_inv]

theorem State.mirrored_inv (s : State) (a1 : Act) (h0 : s.Inv) (h1 : okAll State.Inv a1) : (State.mirrored s a1).Inv := by
  unfold State.mirrored
  grind -ring -linarith -lia -ac [State.Inv, okAll, State.outOfStep_inv]

theorem State.ifOne_inv (s : State) (v : Nat) (t : State) (h0 : s.Inv) (h2 : t.Inv) : okAll State.Inv (State.ifOne s v t) := by
  unfold State.ifOne
  grind -ring -linarith -lia -ac [State.Inv, okAll]

theorem State.todAct_inv (s : State) (v : Nat) (h : s.Inv) : okAll State.Inv (State.todAct s v) := by
  unfold State.todAct
  grind -ring -linarith -lia -ac [State.Inv, okAll, State.todSet_inv]

theorem State.cswAct_inv (s : State) (b : Nat) (v : Nat) (h : s.Inv) : okAll State.Inv (State.cswAct s b v) := by
  unfold State.cswAct
  grind -ring -linarith -lia -ac [State.Inv, okAll, State.cswAbort_inv, State.cswBegin_inv, State.cswCommand_inv]

theorem State.chAct_inv (s : State) (c : Nat) (v : Nat) (h : s.Inv) : okAll State.Inv (State.chAct s c v) := by
  unfold State.chAct
  grind -ring -linarith -lia -ac [State.Inv, okAll, State.chanFlush_inv, State.quarRelease_inv, State.chanClear_inv]

theorem State.engAct_inv (s : State) (e : Nat) (v : Nat) (h : s.Inv) : okAll State.Inv (State.engAct s e v) := by
  unfold State.engAct
  grind -ring -linarith -lia -ac [State.Inv, okAll, State.enginePark_inv, State.engineRestart_inv, State.engineClear_inv]

theorem State.canAct_inv (s : State) (k : Nat) (v : Nat) (h : s.Inv) : (State.canAct s k v).Inv := by
  unfold State.canAct
  grind -ring -linarith -lia -ac [State.Inv, State.canAbort_inv, State.drew_inv, State.canRestart_inv, State.canClear_inv,
    State.canUnhalt_inv]

theorem State.reservedClear_inv (s : State) (h : s.Inv) : (State.reservedClear s).Inv := by
  unfold State.reservedClear
  grind -ring -linarith -lia -ac [State.Inv, State.setO_inv]

theorem State.itemAct_inv (s : State) (index : Nat) (sub : Nat) (item : Nat) (v : Nat) (h : s.Inv) : okAll State.Inv (State.itemAct s index
    sub item v) := by
  unfold State.itemAct
  grind -ring -linarith -lia -ac [State.Inv, okAll, State.ifOne_inv, State.ringClear_inv, State.switchClear_inv, State.shutterClear_inv,
    State.todAct_inv, State.ppsTod_inv, State.timeClear_inv, State.phaseClear_inv, State.calWriteAt_inv, State.stationClear_inv, State.cswAct_inv, State.svcCmdRestart_inv, State.svcClear_inv, State.chAct_inv, State.lockStart_inv, State.engAct_inv, State.canAct_inv, State.firstClear_inv, State.reservedClear_inv, State.repairClearAct_inv, State.efOn_inv, State.efOff_inv]

theorem State.mirroredWrite_inv (s : State) (e : MirrorEntry) (h : s.Inv) : (State.mirroredWrite s e).Inv := by
  unfold State.mirroredWrite
  grind -ring -linarith -lia -ac [State.Inv, okAll, State.outOfStep_inv, State.mirrored_inv, State.itemAct_inv]

theorem State.mirroredCal_inv (s : State) (i : Nat) (fields : List Nat) (arm : Bool) (h : s.Inv) : (State.mirroredCal s i fields arm).Inv
    := by
  unfold State.mirroredCal
  grind -ring -linarith -lia -ac [State.Inv, State.outOfStep_inv, State.calArmAt_inv, State.setCal_inv, State.calEnd_inv]

theorem State.transfer_inv (s : State) (l : List MirrorEntry) (h : s.Inv) : (State.transfer s l).Inv := by
  unfold State.transfer
  grind -ring -linarith -lia -ac [State.Inv, State.applySet_inv]

theorem State.applyRecord_inv (s : State) (a1 : MirrorRec) (h : s.Inv) : (State.applyRecord s a1).Inv := by
  unfold State.applyRecord
  grind -ring -linarith -lia -ac [State.Inv, State.mirroredSet_inv, State.mirroredWrite_inv, State.mirroredCal_inv, State.transfer_inv]

theorem State.closeAnswer_inv (s : State) (n : Nat) (h : s.Inv) : (State.closeAnswer s n).Inv := by
  unfold State.closeAnswer
  grind -ring -linarith -lia -ac [State.Inv, foldl_inv, State.respond_inv, State.closeSession_inv]

theorem State.objRead_inv (s : State) (n : Nat) (index : Nat) (sub : Nat) (staged : Bool) (h : s.Inv) : (State.objRead s n index sub
    staged).1.Inv := by
  unfold State.objRead
  grind -ring -linarith -lia -ac [State.Inv, State.logReadOut_inv, State.faultReadOut_inv]

theorem State.imageWrite_inv (s : State) (n : Nat) (off : Nat) (data : List Byte) (last : Bool) (h : s.Inv) : (State.imageWrite s n off
    data last).Inv := by
  unfold State.imageWrite
  grind -ring -linarith -lia -ac [State.Inv, State.answer_inv, State.imageSegment_inv]

theorem State.imageTxn_inv (s : State) (n : Nat) (t : Txn) (data : List Byte) (h : s.Inv) : (State.imageTxn s n t data).Inv := by
  unfold State.imageTxn
  grind -ring -linarith -lia -ac [State.Inv, State.setSession_inv, State.imageWrite_inv]

theorem State.gather_inv (s : State) (n : Nat) (t : Txn) (data : List Byte) (run : State → List Byte → State) (h0 : s.Inv) (h4 : ∀ x0 x1,
    x0.Inv → (run x0 x1).Inv) : (State.gather s n t data run).Inv := by
  unfold State.gather
  grind -ring -linarith -lia -ac [State.Inv, State.setSession_inv, State.answerAs_inv]

theorem State.stage_inv (s : State) (n : Nat) (e : Staged) (h : s.Inv) : okAll State.Inv (State.stage s n e) := by
  unfold State.stage
  grind -ring -linarith -lia -ac [State.Inv, okAll, State.setSession_inv]

theorem State.bytesWrite_inv (s : State) (n : Nat) (index : Nat) (sub : Nat) (b : List Byte) (h : s.Inv) : (State.bytesWrite s n index sub
    b).Inv := by
  unfold State.bytesWrite
  grind -ring -linarith -lia -ac [State.Inv, okAll, State.act_inv, State.setSession_inv, State.keyPlain_inv, State.keyWrapped_inv]

theorem State.itemWrite_inv (s : State) (n : Nat) (index : Nat) (sub : Nat) (item : Nat) (v : Nat) (h : s.Inv) : (State.itemWrite s n index
    sub item v).Inv := by
  unfold State.itemWrite
  grind -ring -linarith -lia -ac [State.Inv, okAll, State.clearSubs_inv, State.itemAct_inv, State.answer_inv, State.mirror_inv]

theorem State.modeWrite_inv (s : State) (n : Nat) (v : Nat) (h : s.Inv) : (State.modeWrite s n v).Inv := by
  unfold State.modeWrite
  grind -ring -linarith -lia -ac [State.Inv, State.modeReq_inv, State.modeReturn_inv, State.modeMaintenance_inv, State.modeFailsafe_inv,
    State.modeDoze_inv, State.modeShutdown_inv]

theorem State.resetWrite_inv (s : State) (n : Nat) (v : Nat) (h : s.Inv) : (State.resetWrite s n v).Inv := by
  unfold State.resetWrite
  grind -ring -linarith -lia -ac [State.Inv, State.beginReset_inv, State.answer_inv]

theorem State.permitWrite_inv (s : State) (sub : Nat) (v : Nat) (h : s.Inv) : (State.permitWrite s sub v).Inv := by
  unfold State.permitWrite
  grind -ring -linarith -lia -ac [State.Inv, State.holdLatch_inv, State.setO_inv, State.fieldsPermit_inv]

theorem State.commitWrite_inv (s : State) (n : Nat) (v : Nat) (h : s.Inv) : (State.commitWrite s n v).Inv := by
  unfold State.commitWrite
  grind -ring -linarith -lia -ac [State.Inv, okAll, State.commitNow_inv, State.act_inv, State.discardSet_inv, State.cancelOwn_inv,
    State.cancelAny_inv]

theorem State.calCmd_inv (s : State) (n : Nat) (v : Nat) (h : s.Inv) : (State.calCmd s n v).Inv := by
  unfold State.calCmd
  grind -ring -linarith -lia -ac [State.Inv, State.calArm_inv, State.calCancel_inv]

theorem State.keyCmd_inv (s : State) (n : Nat) (v : Nat) (h : s.Inv) : okAll State.Inv (State.keyCmd s n v) := by
  unfold State.keyCmd
  grind -ring -linarith -lia -ac [State.Inv, okAll, State.keyDestroyAt_inv, State.keyDerived_inv]

theorem State.lcWrite_inv (s : State) (n : Nat) (v : Nat) (h : s.Inv) : (State.lcWrite s n v).Inv := by
  unfold State.lcWrite
  grind -ring -linarith -lia -ac [State.Inv, okAll, State.lcRequest_inv, State.answer_inv, State.lcRun_inv, State.drew_inv,
    State.beginReset_inv]

theorem State.updCmd_inv (s : State) (n : Nat) (v : Nat) (h : s.Inv) : okAll State.Inv (State.updCmd s n v) := by
  unfold State.updCmd
  grind -ring -linarith -lia -ac [State.Inv, okAll, State.updPrepare_inv, State.activateHandover_inv, State.activateReset_inv,
    State.updAbandon_inv]

theorem State.swapWrite_inv (s0 : State) (a1 : Nat) (a2 : Nat) (h0 : s0.Inv) : (State.swapWrite s0 a1 a2).Inv := by
  have hh := State.heelAct_inv s0 a1 h0
  unfold State.swapWrite
  grind -ring -linarith -lia -ac [State.Inv, outInv, someAll, okAll, engResInv, pullInv, foldl_inv, State.act_inv, State.actLater_inv,
    State.switchover_inv]

theorem State.sessWrite_inv (s : State) (n : Nat) (index : Nat) (sub : Nat) (v : Nat) (h : s.Inv) : (State.sessWrite s n index sub v).Inv
    := by
  unfold State.sessWrite
  grind -ring -linarith -lia -ac [State.Inv, okAll, State.modeWrite_inv, State.resetWrite_inv, State.act_inv, State.permitWrite_inv,
    State.commitWrite_inv, State.ownSet_inv, State.calCmd_inv, State.keyCmd_inv, State.revoke_inv, State.lcWrite_inv, State.updCmd_inv, State.floorRaise_inv, State.swapWrite_inv]

theorem State.objWrite_inv (s : State) (n : Nat) (index : Nat) (sub : Nat) (data : List Byte) (h : s.Inv) : (State.objWrite s n index sub
    data).Inv := by
  unfold State.objWrite
  grind -ring -linarith -lia -ac [State.Inv, okAll, State.answer_inv, State.act_inv, State.stage_inv, State.bytesWrite_inv,
    State.itemWrite_inv, State.sessWrite_inv]

theorem State.fenceWaits_inv (s : State) (h : s.Inv) : (State.fenceWaits s).1.Inv := by
  unfold State.fenceWaits
  grind -ring -linarith -lia -ac [State.Inv]

theorem State.readImData_inv (s : State) (k : Nat) (h : s.Inv) : (State.readImData s k).1.Inv := by
  unfold State.readImData
  grind -ring -linarith -lia -ac [State.Inv, State.report_inv]

theorem State.readFence_inv (s : State) (h : s.Inv) : (State.readFence s).1.Inv := by
  unfold State.readFence
  grind -ring -linarith -lia -ac [State.Inv]

theorem State.readHits_inv (s : State) (h : s.Inv) : (State.readHits s).1.Inv := by
  unfold State.readHits
  grind -ring -linarith -lia -ac [State.Inv]

theorem State.readSem_inv (s : State) (c : Ctx) (n : Nat) (h : s.Inv) : (State.readSem s c n).1.Inv := by
  unfold State.readSem
  grind -ring -linarith -lia -ac [State.Inv]

theorem State.regRead_inv (s0 : State) (a1 : Ctx) (a2 : Nat) (h0 : s0.Inv) : (State.regRead s0 a1 a2).1.Inv := by
  unfold State.regRead
  exact ite_fst_inv (State.readChIn_inv _ _ h0)
    (ite_fst_inv (State.readChOut_inv _ _ h0)
    (ite_fst_inv (State.readChHwm_inv _ _ h0)
    (ite_fst_inv (State.readStall_inv _ _ h0)
    (ite_fst_inv (State.readImData_inv _ _ h0)
    (ite_fst_inv (State.readWtSecLo_inv _ _ h0)
    (ite_fst_inv (State.readTrkPa_inv _ _ _ h0)
    (ite_fst_inv (State.readTraceDrop_inv _ h0)
    (ite_fst_inv (State.readFhit_inv _ _ _ h0)
    (ite_fst_inv (State.readSwAudit_inv _ h0)
    (ite_fst_inv (State.readFence_inv _ h0)
    (ite_fst_inv (State.readHits_inv _ h0)
    (ite_fst_inv (State.readSem_inv _ _ _ h0)
    (ite_fst_inv (State.readFcCount_inv _ h0)
    (ite_fst_inv (State.readPaLink_inv _ h0)
    (ite_fst_inv (State.readEfElo_inv _ _ _ h0)
    (h0))))))))))))))))

theorem State.readRegs_inv (s0 : State) (a1 : Ctx) (a2 : Nat) (a3 : Nat) (h0 : s0.Inv) : (State.readRegs s0 a1 a2 a3).1.Inv := by
  induction a3 generalizing s0 a2 <;> unfold State.readRegs <;> grind -ring -linarith -lia -ac [State.Inv, outInv, someAll, okAll,
    engResInv, pullInv, foldl_inv, State.regRead_inv]

theorem State.localRead_inv (s : State) (c : Ctx) (a : Nat) (len : Nat) (h : s.Inv) : okAll (fun x => x.1.Inv) (State.localRead s c a len)
    := by
  unfold State.localRead
  grind -ring -linarith -lia -ac [State.Inv, someAll, okAll, State.fenceWaits_inv, State.readRegs_inv, State.readWindow_inv]

theorem State.readFault_inv (s : State) (a : Nat) (len : Nat) (code : Nat) (h : s.Inv) : (State.readFault s a len code).Inv := by
  unfold State.readFault
  grind -ring -linarith -lia -ac [State.Inv, State.report_inv, State.dramBad_inv]

theorem State.putBack_inv (s : State) (n : Nat) (t : Txn) (data : List Byte) (h : s.Inv) : (State.putBack s n t data).Inv := by
  unfold State.putBack
  grind -ring -linarith -lia -ac [State.Inv, State.setSession_inv]

theorem State.sessRead_inv (s : State) (n : Nat) (t : Txn) (addr : Nat) (len : Nat) (raw : List Byte) (h : s.Inv) : (State.sessRead s n t
    addr len raw).Inv := by
  unfold State.sessRead
  grind -ring -linarith -lia -ac [State.Inv, okAll, State.localRead_inv, State.answerAs_inv, State.readFault_inv, State.putBack_inv,
    State.remoteStart_inv]

theorem State.chanRegWrite_inv (s : State) (c : Ctx) (a : Nat) (v : Nat) (h : s.Inv) : (State.chanRegWrite s c a v).Inv := by
  unfold State.chanRegWrite
  grind -ring -linarith -lia -ac [State.Inv, State.setCtx_inv, State.chanFlush_inv, State.quarRelease_inv]

theorem State.clusterWrite_inv (s : State) (k : Nat) (a : Nat) (v : Nat) (h : s.Inv) : (State.clusterWrite s k a v).Inv := by
  unfold State.clusterWrite
  grind -ring -linarith -lia -ac [State.Inv, foldl_inv, State.flagWrite_inv, State.setCluster_inv]

theorem State.engRegWrite_inv (s : State) (c : Ctx) (a : Nat) (v : Nat) (h : s.Inv) : (State.engRegWrite s c a v).Inv := by
  unfold State.engRegWrite
  grind -ring -linarith -lia -ac [State.Inv, State.setCtx_inv, State.enginePark_inv, State.engineRestart_inv, State.wrapWrite_inv]

theorem State.calRegWrite_inv (s : State) (c : Ctx) (a : Nat) (v : Nat) (h : s.Inv) : (State.calRegWrite s c a v).Inv := by
  unfold State.calRegWrite
  grind -ring -linarith -lia -ac [State.Inv, okAll, State.calWrite_inv, State.calReply_inv, State.calArm_inv, State.calCancel_inv]

theorem State.canRegWrite_inv (s : State) (k : Nat) (a : Nat) (v : Nat) (h : s.Inv) : (State.canRegWrite s k a v).Inv := by
  unfold State.canRegWrite
  grind -ring -linarith -lia -ac [State.Inv, State.canAbort_inv, State.drew_inv, State.canRestart_inv, State.abortClear_inv]

theorem State.winWrite_inv (s : State) (w : Nat) (r : Nat) (v : Nat) (h : s.Inv) : (State.winWrite s w r v).Inv := by
  unfold State.winWrite
  grind -ring -linarith -lia -ac [State.Inv, State.pfClear_inv]

theorem State.semFree_inv (s : State) (c : Ctx) (n : Nat) (h : s.Inv) : (State.semFree s c n).Inv := by
  unfold State.semFree
  grind -ring -linarith -lia -ac [State.Inv, State.bump_inv]

theorem State.unmask_inv (s : State) (v : Nat) (h : s.Inv) : (State.unmask s v).Inv := by
  unfold State.unmask
  grind -ring -linarith -lia -ac [State.Inv, State.emit_inv]

theorem State.msixWrite_inv (s : State) (i : Nat) (v : Nat) (h : s.Inv) : (State.msixWrite s i v).Inv := by
  unfold State.msixWrite
  grind -ring -linarith -lia -ac [State.Inv, State.unmask_inv]

theorem State.errClear_inv (s : State) (h : s.Inv) : (State.errClear s).Inv := by
  unfold State.errClear
  grind -ring -linarith -lia -ac [State.Inv]

theorem State.pendClear_inv (s : State) (v : BitVec 21) (h : s.Inv) : (State.pendClear s v).Inv := by
  unfold State.pendClear
  grind -ring -linarith -lia -ac [State.Inv]

theorem State.bridgeWrite_inv (s : State) (c : Ctx) (a : Nat) (v : Nat) (h : s.Inv) : (State.bridgeWrite s c a v).Inv := by
  unfold State.bridgeWrite
  grind -ring -linarith -lia -ac [State.Inv, State.winWrite_inv, State.semFree_inv, State.msixWrite_inv, State.errClear_inv,
    State.pendClear_inv, State.pfClear_inv]

theorem State.efCtrl_inv (s : State) (v : Nat) (h : s.Inv) : (State.efCtrl s v).Inv := by
  unfold State.efCtrl
  grind -ring -linarith -lia -ac [State.Inv, okAll, foldl_inv, State.actQuiet_inv, State.efOff_inv, State.efOn_inv]

theorem State.mbWrite_inv (s : State) (off : Nat) (v : Nat) (h : s.Inv) : (State.mbWrite s off v).Inv := by
  unfold State.mbWrite
  grind -ring -linarith -lia -ac [State.Inv, foldl_inv]

theorem State.doorbell_inv (s : State) (len : Nat) (h : s.Inv) : (State.doorbell s len).Inv := by
  unfold State.doorbell
  grind -ring -linarith -lia -ac [State.Inv, State.bump_inv]

theorem State.mbAck_inv (s : State) (h : s.Inv) : (State.mbAck s).Inv := by
  unfold State.mbAck
  grind -ring -linarith -lia -ac [State.Inv, State.hostInt_inv, State.noteSet_inv]

theorem State.regApply_inv (s : State) (c : Ctx) (a : Nat) (v : Nat) (h : s.Inv) : (State.regApply s c a v).Inv := by
  unfold State.regApply
  grind -ring -linarith -lia -ac [State.Inv, State.beginReset_inv, State.gfailClear_inv, State.chanRegWrite_inv, State.clusterWrite_inv,
    State.engRegWrite_inv, State.setCtx_inv, State.calRegWrite_inv, State.canRegWrite_inv, State.bridgeWrite_inv, State.firstClear_inv, State.shadowClear_inv, State.efCtrl_inv, State.eccClear_inv, State.mbWrite_inv, State.doorbell_inv, State.mbAck_inv]

theorem State.regWrite_inv (s : State) (c : Ctx) (a : Nat) (v : Nat) (h : s.Inv) : (State.regWrite s c a v).1.Inv := by
  unfold State.regWrite
  grind -ring -linarith -lia -ac [State.Inv, State.bump_inv, State.regApply_inv]

theorem State.writeRegs_inv (s0 : State) (a1 : Ctx) (a2 : Nat) (a3 : Option Nat) (a4 : List Nat) (h0 : s0.Inv) : (State.writeRegs s0 a1 a2
    a3 a4).1.Inv := by
  induction a4 generalizing s0 a2 a3 <;> unfold State.writeRegs <;> grind -ring -linarith -lia -ac [State.Inv, outInv, someAll, okAll,
    engResInv, pullInv, foldl_inv, State.regWrite_inv]

theorem State.localWrite_inv (s : State) (c : Ctx) (w : Waiter) (a : Nat) (data : List Byte) (h : s.Inv) : (State.localWrite s c w a
    data).1.Inv := by
  unfold State.localWrite
  grind -ring -linarith -lia -ac [State.Inv, okAll, State.writeRegs_inv, State.writeWindow_inv, State.dramStore_inv]

theorem State.broadcastHere_inv (s0 : State) (a1 : Ctx) (a2 : Nat) (a3 : List Byte) (a4 : Nat) (a5 : List (Nat × Nat)) (h0 : s0.Inv) :
    (State.broadcastHere s0 a1 a2 a3 a4 a5).1.Inv := by
  induction a5 generalizing s0 a4 <;> unfold State.broadcastHere <;> grind -ring -linarith -lia -ac [State.Inv, outInv, someAll, okAll,
    engResInv, pullInv, foldl_inv, State.localWrite_inv]

theorem State.pfWrite_inv (s : State) (node : Nat) (a : Nat) (len : Nat) (h : s.Inv) : (State.pfWrite s node a len).Inv := by
  unfold State.pfWrite
  grind -ring -linarith -lia -ac [State.Inv]

theorem State.sessWriteFab_inv (s : State) (n : Nat) (addr : Nat) (data : List Byte) (h : s.Inv) : (State.sessWriteFab s n addr data).Inv
    := by
  unfold State.sessWriteFab
  grind -ring -linarith -lia -ac [State.Inv, State.localWrite_inv, State.answerAs_inv, State.broadcastHere_inv, State.remoteStart_inv,
    State.pfWrite_inv]

theorem State.runTxn_inv (s : State) (n : Nat) (t : Txn) (data : List Byte) (h : s.Inv) : (State.runTxn s n t data).Inv := by
  unfold State.runTxn
  grind -ring -linarith -lia -ac [State.Inv, State.closeAnswer_inv, State.answerAs_inv, State.objRead_inv, State.imageTxn_inv,
    State.gather_inv, State.objWrite_inv, State.sessRead_inv, State.sessWriteFab_inv]

theorem State.serveNext_inv (s : State) (n : Nat) (h : s.Inv) : (State.serveNext s n).Inv := by
  unfold State.serveNext
  grind -ring -linarith -lia -ac [State.Inv, State.runTxn_inv, State.setSession_inv]

theorem State.arrive_inv (s : State) (t : Txn) (data : List Byte) (h : s.Inv) : (State.arrive s t data).Inv := by
  unfold State.arrive
  grind -ring -linarith -lia -ac [State.Inv, State.respond_inv, State.setSession_inv, State.serveNext_inv]

theorem State.setPathAuth_inv (s : State) (p : Path) (v : PathAuth) (h : s.Inv) : (State.setPathAuth s p v).Inv := by
  unfold State.setPathAuth
  grind -ring -linarith -lia -ac [State.Inv]

theorem State.openFailed_inv (s : State) (p : Path) (h : s.Inv) : (State.openFailed s p).Inv := by
  unfold State.openFailed
  grind -ring -linarith -lia -ac [State.Inv, State.setPathAuth_inv]

theorem State.confirmTxn_inv (s : State) (t : Txn) (resp : List Byte) (h : s.Inv) : (State.confirmTxn s t resp).Inv := by
  unfold State.confirmTxn
  grind -ring -linarith -lia -ac [State.Inv, State.respond_inv, State.setSession_inv, State.useKey_inv, State.openFailed_inv]

theorem State.confirm_inv (s : State) (t : Txn) (resp : List Byte) (h : s.Inv) : (State.confirm s t resp).Inv := by
  unfold State.confirm
  grind -ring -linarith -lia -ac [State.Inv, State.confirmTxn_inv, State.respond_inv]

theorem State.edgeTime_inv (s : State) (h : s.Inv) : (State.edgeTime s).Inv := by
  unfold State.edgeTime
  grind -ring -linarith -lia -ac [State.Inv]

theorem State.frameServed_inv (s : State) (f : Frame) (h : s.Inv) : (State.frameServed s f).Inv := by
  unfold State.frameServed
  grind -ring -linarith -lia -ac [State.Inv]

theorem State.hostLocal_inv (s : State) (a : Nat) (data : List Byte) (h : s.Inv) : (State.hostLocal s a data).Inv := by
  unfold State.hostLocal
  grind -ring -linarith -lia -ac [State.Inv, State.localWrite_inv, State.hostFail_inv]

theorem State.pfFetch_inv (s : State) (node : Nat) (la : Nat) (h : s.Inv) : (State.pfFetch s node la).Inv := by
  unfold State.pfFetch
  grind -ring -linarith -lia -ac [State.Inv, State.remoteStart_inv]

theorem State.pfRead_inv (s : State) (node : Nat) (lo : Nat) (want : List Nat) (e : Nat) (h : s.Inv) : (State.pfRead s node lo want e).Inv
    := by
  unfold State.pfRead
  grind -ring -linarith -lia -ac [State.Inv, State.emit_inv, State.pfFetch_inv]

theorem State.hostRead_inv (s : State) (x : Window) (want : List Nat) (lo : Nat) (hi : Nat) (h : s.Inv) : (State.hostRead s x want lo
    hi).Inv := by
  unfold State.hostRead
  grind -ring -linarith -lia -ac [State.Inv, okAll, State.localRead_inv, State.hostReadFail_inv, State.readFault_inv, State.emit_inv,
    State.pfRead_inv, State.remoteStart_inv]

theorem State.hostWriteNow_inv (s : State) (a : Nat) (data : List Byte) (h : s.Inv) : (State.hostWriteNow s a data).Inv := by
  unfold State.hostWriteNow
  grind -ring -linarith -lia -ac [State.Inv, State.pfWrite_inv, State.remoteStart_inv, State.hostLocal_inv, State.hostFail_inv]

theorem State.hostWrite_inv (s : State) (a : Nat) (data : List Byte) (h : s.Inv) : (State.hostWrite s a data).Inv := by
  unfold State.hostWrite
  grind -ring -linarith -lia -ac [State.Inv, State.postLater_inv, State.hostWriteNow_inv]

theorem State.malformed_inv (s : State) (t : Txn) (h : s.Inv) : (State.malformed s t).Inv := by
  unfold State.malformed
  grind -ring -linarith -lia -ac [State.Inv, State.respond_inv, State.bump_inv]

theorem State.mbServe_inv (s : State) (p : Path) (h : s.Inv) : (State.mbServe s p).Inv := by
  unfold State.mbServe
  grind -ring -linarith -lia -ac [State.Inv]

theorem State.mirroredApply_inv (s : State) (l : List Staged) (h : s.Inv) : (State.mirroredApply s l).Inv := by
  unfold State.mirroredApply
  grind -ring -linarith -lia -ac [State.Inv, State.applySet_inv, State.answer_inv, State.sfgUpdate_inv, State.closePaths_inv]

theorem State.nextArrival_inv (s : State) (h : s.Inv) : someAll (fun x => x.2.Inv) (State.nextArrival s) := by
  unfold State.nextArrival
  grind -ring -linarith -lia -ac [State.Inv, someAll]

theorem State.noWindow_inv (s : State) (h : s.Inv) : (State.noWindow s).2.Inv := by
  unfold State.noWindow
  grind -ring -linarith -lia -ac [State.Inv, State.drew_inv]

theorem State.openTxn_inv (s : State) (t : Txn) (role : Nat) (h : s.Inv) : (State.openTxn s t role).Inv := by
  unfold State.openTxn
  grind -ring -linarith -lia -ac [State.Inv, State.respond_inv, State.setSession_inv, State.drew_inv]

theorem State.postEdge_inv (s : State) (h : s.Inv) : (State.postEdge s).Inv := by
  unfold State.postEdge
  grind -ring -linarith -lia -ac [State.Inv, State.hostWriteNow_inv]

theorem State.prpEnter_inv (s : State) (mac : Nat) (seq : Nat) (h : s.Inv) : (State.prpEnter s mac seq).Inv := by
  unfold State.prpEnter
  grind -ring -linarith -lia -ac [State.Inv]

theorem State.prpIn_inv (s : State) (port : Nat) (b : List Byte) (h : s.Inv) : (State.prpIn s port b).1.Inv := by
  unfold State.prpIn
  grind -ring -linarith -lia -ac [State.Inv, State.bump_inv, State.prpEnter_inv]

theorem State.request_inv (s : State) (t : Txn) (cmd : Nat) (data : List Byte) (run : State → State) (h0 : s.Inv) (h4 : ∀ x0, x0.Inv → (run
    x0).Inv) : (State.request s t cmd data run).Inv := by
  unfold State.request
  grind -ring -linarith -lia -ac [State.Inv, State.mbServe_inv, State.bump_inv, State.malformed_inv]

theorem State.serveBytes_inv (s : State) (a : Arrival) (h : s.Inv) : (State.serveBytes s a).Inv := by
  unfold State.serveBytes
  grind -ring -linarith -lia -ac [State.Inv, State.bump_inv, State.mbServe_inv, State.request_inv, State.openTxn_inv, State.respond_inv,
    State.confirm_inv, State.arrive_inv]

theorem State.stationDrop_inv (s : State) (port : Nat) (b : List Byte) (h : s.Inv) : (State.stationDrop s port b).Inv := by
  unfold State.stationDrop
  grind -ring -linarith -lia -ac [State.Inv, State.bump_inv]

theorem State.stationIn_inv (s : State) (port : Nat) (dst : Nat) (tunnel : Option (Nat × Nat)) (b : List Byte) (h : s.Inv) :
    (State.stationIn s port dst tunnel b).Inv := by
  unfold State.stationIn
  grind -ring -linarith -lia -ac [State.Inv, State.colour_inv]

theorem State.toStation_inv (s : State) (src : Nat) (port : Nat) (b : List Byte) (h : s.Inv) : (State.toStation s src port b).Inv := by
  unfold State.toStation
  grind -ring -linarith -lia -ac [State.Inv, State.colour_inv]

theorem State.stationSend_inv (s : State) (src : Nat) (port : Nat) (b : List Byte) (h : s.Inv) : (State.stationSend s src port b).Inv := by
  unfold State.stationSend
  grind -ring -linarith -lia -ac [State.Inv, State.prpSent_inv, State.toStation_inv]

theorem State.steer_inv (s : State) (port : Nat) (b : List Byte) (h : s.Inv) : (State.steer s port b).Inv := by
  unfold State.steer
  grind -ring -linarith -lia -ac [State.Inv, State.emit_inv, State.bump_inv, State.stationIn_inv]

theorem State.takeRecord_inv (s : State) (seq : Nat) (r : MirrorRec) (h : s.Inv) : (State.takeRecord s seq r).Inv := by
  unfold State.takeRecord
  grind -ring -linarith -lia -ac [State.Inv, State.sfgUpdate_inv, State.applyRecord_inv]

theorem State.tick_inv (s : State) (h : s.Inv) : (State.tick s).Inv := by
  unfold State.tick
  grind -ring -linarith -lia -ac [State.Inv, someAll, State.postEdge_inv, State.traceHoldEnd_inv, State.logHoldEnd_inv, State.coEdge_inv,
    State.engineEdge_inv, State.shadowEdge_inv, State.bankEdges_inv, State.edgeTime_inv, State.nextArrival_inv, State.serveBytes_inv, State.serveNext_inv]

theorem State.tunnelOut_inv (s : State) (f : Frame) (h : s.Inv) : (State.tunnelOut s f).Inv := by
  unfold State.tunnelOut
  grind -ring -linarith -lia -ac [State.Inv, State.stationSend_inv, State.bump_inv, State.chanWriteAll_inv]

theorem State.tunnelSend_inv (s : State) (t : Nat) (kind : Nat) (st : Nat) (whole : List Byte) (data : List Byte) (h : s.Inv) :
    (State.tunnelSend s t kind st whole data).Inv := by
  unfold State.tunnelSend
  grind -ring -linarith -lia -ac [State.Inv, State.bump_inv, State.originate_inv]

end Sys2Proof.Machine
end

