-- ==== Sys2Proof/Laws/State.lean ====
section
/-!
SUPPORT. What each plain update of the state leaves as it was, field by field.
-/

namespace Sys2Proof.Machine

variable (s : State)

/-- noteSet writes setAt alone. -/
@[simp] theorem State.noteSet_frame (k : Nat) :
    (s.noteSet k).clock = s.clock ∧ (s.noteSet k).free = s.free ∧ (s.noteSet k).pending = s.pending ∧ (s.noteSet k).sent = s.sent ∧
    (s.noteSet k).od = s.od ∧ (s.noteSet k).store = s.store ∧ (s.noteSet k).dict = s.dict ∧ (s.noteSet k).ctxs = s.ctxs ∧
    (s.noteSet k).fc = s.fc ∧ (s.noteSet k).modes = s.modes ∧ (s.noteSet k).ring = s.ring ∧ (s.noteSet k).sw = s.sw ∧
    (s.noteSet k).shutter = s.shutter ∧ (s.noteSet k).chans = s.chans ∧ (s.noteSet k).heldDel = s.heldDel ∧
    (s.noteSet k).locks = s.locks ∧ (s.noteSet k).engines = s.engines ∧ (s.noteSet k).clusters = s.clusters ∧
    (s.noteSet k).banks = s.banks ∧ (s.noteSet k).dram = s.dram ∧ (s.noteSet k).dramWait = s.dramWait ∧ (s.noteSet k).time = s.time ∧
    (s.noteSet k).phase = s.phase ∧ (s.noteSet k).pair = s.pair ∧ (s.noteSet k).sec = s.sec ∧ (s.noteSet k).station = s.station ∧
    (s.noteSet k).cores = s.cores ∧ (s.noteSet k).can = s.can ∧ (s.noteSet k).bridge = s.bridge ∧ (s.noteSet k).flash = s.flash ∧
    (s.noteSet k).bist = s.bist ∧ (s.noteSet k).power = s.power :=
  ⟨rfl, rfl, rfl, rfl, rfl, rfl, rfl, rfl, rfl, rfl, rfl, rfl, rfl, rfl, rfl, rfl, rfl, rfl, rfl, rfl, rfl, rfl, rfl, rfl, rfl, rfl, rfl, rfl, rfl, rfl, rfl, rfl⟩

/-- emit writes sent alone. -/
@[simp] theorem State.emit_frame (o : Output) :
    (s.emit o).clock = s.clock ∧ (s.emit o).free = s.free ∧ (s.emit o).pending = s.pending ∧ (s.emit o).setAt = s.setAt ∧
    (s.emit o).od = s.od ∧ (s.emit o).store = s.store ∧ (s.emit o).dict = s.dict ∧ (s.emit o).ctxs = s.ctxs ∧ (s.emit o).fc = s.fc ∧
    (s.emit o).modes = s.modes ∧ (s.emit o).ring = s.ring ∧ (s.emit o).sw = s.sw ∧ (s.emit o).shutter = s.shutter ∧
    (s.emit o).chans = s.chans ∧ (s.emit o).heldDel = s.heldDel ∧ (s.emit o).locks = s.locks ∧ (s.emit o).engines = s.engines ∧
    (s.emit o).clusters = s.clusters ∧ (s.emit o).banks = s.banks ∧ (s.emit o).dram = s.dram ∧ (s.emit o).dramWait = s.dramWait ∧
    (s.emit o).time = s.time ∧ (s.emit o).phase = s.phase ∧ (s.emit o).pair = s.pair ∧ (s.emit o).sec = s.sec ∧
    (s.emit o).station = s.station ∧ (s.emit o).cores = s.cores ∧ (s.emit o).can = s.can ∧ (s.emit o).bridge = s.bridge ∧
    (s.emit o).flash = s.flash ∧ (s.emit o).bist = s.bist ∧ (s.emit o).power = s.power :=
  ⟨rfl, rfl, rfl, rfl, rfl, rfl, rfl, rfl, rfl, rfl, rfl, rfl, rfl, rfl, rfl, rfl, rfl, rfl, rfl, rfl, rfl, rfl, rfl, rfl, rfl, rfl, rfl, rfl, rfl, rfl, rfl, rfl⟩

/-- drew writes free alone. -/
@[simp] theorem State.drew_frame :
    s.drew.clock = s.clock ∧ s.drew.pending = s.pending ∧ s.drew.sent = s.sent ∧ s.drew.setAt = s.setAt ∧ s.drew.od = s.od ∧
    s.drew.store = s.store ∧ s.drew.dict = s.dict ∧ s.drew.ctxs = s.ctxs ∧ s.drew.fc = s.fc ∧ s.drew.modes = s.modes ∧
    s.drew.ring = s.ring ∧ s.drew.sw = s.sw ∧ s.drew.shutter = s.shutter ∧ s.drew.chans = s.chans ∧ s.drew.heldDel = s.heldDel ∧
    s.drew.locks = s.locks ∧ s.drew.engines = s.engines ∧ s.drew.clusters = s.clusters ∧ s.drew.banks = s.banks ∧
    s.drew.dram = s.dram ∧ s.drew.dramWait = s.dramWait ∧ s.drew.time = s.time ∧ s.drew.phase = s.phase ∧ s.drew.pair = s.pair ∧
    s.drew.sec = s.sec ∧ s.drew.station = s.station ∧ s.drew.cores = s.cores ∧ s.drew.can = s.can ∧ s.drew.bridge = s.bridge ∧
    s.drew.flash = s.flash ∧ s.drew.bist = s.bist ∧ s.drew.power = s.power :=
  ⟨rfl, rfl, rfl, rfl, rfl, rfl, rfl, rfl, rfl, rfl, rfl, rfl, rfl, rfl, rfl, rfl, rfl, rfl, rfl, rfl, rfl, rfl, rfl, rfl, rfl, rfl, rfl, rfl, rfl, rfl, rfl, rfl⟩

/-- setVal writes od alone. -/
@[simp] theorem State.setVal_frame (i j k : Nat) (v : Val) :
    (s.setVal i j k v).clock = s.clock ∧ (s.setVal i j k v).free = s.free ∧ (s.setVal i j k v).pending = s.pending ∧
    (s.setVal i j k v).sent = s.sent ∧ (s.setVal i j k v).setAt = s.setAt ∧ (s.setVal i j k v).store = s.store ∧
    (s.setVal i j k v).dict = s.dict ∧ (s.setVal i j k v).ctxs = s.ctxs ∧ (s.setVal i j k v).fc = s.fc ∧
    (s.setVal i j k v).modes = s.modes ∧ (s.setVal i j k v).ring = s.ring ∧ (s.setVal i j k v).sw = s.sw ∧
    (s.setVal i j k v).shutter = s.shutter ∧ (s.setVal i j k v).chans = s.chans ∧ (s.setVal i j k v).heldDel = s.heldDel ∧
    (s.setVal i j k v).locks = s.locks ∧ (s.setVal i j k v).engines = s.engines ∧ (s.setVal i j k v).clusters = s.clusters ∧
    (s.setVal i j k v).banks = s.banks ∧ (s.setVal i j k v).dram = s.dram ∧ (s.setVal i j k v).dramWait = s.dramWait ∧
    (s.setVal i j k v).time = s.time ∧ (s.setVal i j k v).phase = s.phase ∧ (s.setVal i j k v).pair = s.pair ∧
    (s.setVal i j k v).sec = s.sec ∧ (s.setVal i j k v).station = s.station ∧ (s.setVal i j k v).cores = s.cores ∧
    (s.setVal i j k v).can = s.can ∧ (s.setVal i j k v).bridge = s.bridge ∧ (s.setVal i j k v).flash = s.flash ∧
    (s.setVal i j k v).bist = s.bist ∧ (s.setVal i j k v).power = s.power :=
  ⟨rfl, rfl, rfl, rfl, rfl, rfl, rfl, rfl, rfl, rfl, rfl, rfl, rfl, rfl, rfl, rfl, rfl, rfl, rfl, rfl, rfl, rfl, rfl, rfl, rfl, rfl, rfl, rfl, rfl, rfl, rfl, rfl⟩

/-- setO writes od alone. -/
@[simp] theorem State.setO_frame (i j k n : Nat) :
    (s.setO i j k n).clock = s.clock ∧ (s.setO i j k n).free = s.free ∧ (s.setO i j k n).pending = s.pending ∧
    (s.setO i j k n).sent = s.sent ∧ (s.setO i j k n).setAt = s.setAt ∧ (s.setO i j k n).store = s.store ∧
    (s.setO i j k n).dict = s.dict ∧ (s.setO i j k n).ctxs = s.ctxs ∧ (s.setO i j k n).fc = s.fc ∧ (s.setO i j k n).modes = s.modes ∧
    (s.setO i j k n).ring = s.ring ∧ (s.setO i j k n).sw = s.sw ∧ (s.setO i j k n).shutter = s.shutter ∧
    (s.setO i j k n).chans = s.chans ∧ (s.setO i j k n).heldDel = s.heldDel ∧ (s.setO i j k n).locks = s.locks ∧
    (s.setO i j k n).engines = s.engines ∧ (s.setO i j k n).clusters = s.clusters ∧ (s.setO i j k n).banks = s.banks ∧
    (s.setO i j k n).dram = s.dram ∧ (s.setO i j k n).dramWait = s.dramWait ∧ (s.setO i j k n).time = s.time ∧
    (s.setO i j k n).phase = s.phase ∧ (s.setO i j k n).pair = s.pair ∧ (s.setO i j k n).sec = s.sec ∧
    (s.setO i j k n).station = s.station ∧ (s.setO i j k n).cores = s.cores ∧ (s.setO i j k n).can = s.can ∧
    (s.setO i j k n).bridge = s.bridge ∧ (s.setO i j k n).flash = s.flash ∧ (s.setO i j k n).bist = s.bist ∧
    (s.setO i j k n).power = s.power :=
  ⟨rfl, rfl, rfl, rfl, rfl, rfl, rfl, rfl, rfl, rfl, rfl, rfl, rfl, rfl, rfl, rfl, rfl, rfl, rfl, rfl, rfl, rfl, rfl, rfl, rfl, rfl, rfl, rfl, rfl, rfl, rfl, rfl⟩

/-- bumpBy writes od alone. -/
@[simp] theorem State.bumpBy_frame (i j k n : Nat) :
    (s.bumpBy i j k n).clock = s.clock ∧ (s.bumpBy i j k n).free = s.free ∧ (s.bumpBy i j k n).pending = s.pending ∧
    (s.bumpBy i j k n).sent = s.sent ∧ (s.bumpBy i j k n).setAt = s.setAt ∧ (s.bumpBy i j k n).store = s.store ∧
    (s.bumpBy i j k n).dict = s.dict ∧ (s.bumpBy i j k n).ctxs = s.ctxs ∧ (s.bumpBy i j k n).fc = s.fc ∧
    (s.bumpBy i j k n).modes = s.modes ∧ (s.bumpBy i j k n).ring = s.ring ∧ (s.bumpBy i j k n).sw = s.sw ∧
    (s.bumpBy i j k n).shutter = s.shutter ∧ (s.bumpBy i j k n).chans = s.chans ∧ (s.bumpBy i j k n).heldDel = s.heldDel ∧
    (s.bumpBy i j k n).locks = s.locks ∧ (s.bumpBy i j k n).engines = s.engines ∧ (s.bumpBy i j k n).clusters = s.clusters ∧
    (s.bumpBy i j k n).banks = s.banks ∧ (s.bumpBy i j k n).dram = s.dram ∧ (s.bumpBy i j k n).dramWait = s.dramWait ∧
    (s.bumpBy i j k n).time = s.time ∧ (s.bumpBy i j k n).phase = s.phase ∧ (s.bumpBy i j k n).pair = s.pair ∧
    (s.bumpBy i j k n).sec = s.sec ∧ (s.bumpBy i j k n).station = s.station ∧ (s.bumpBy i j k n).cores = s.cores ∧
    (s.bumpBy i j k n).can = s.can ∧ (s.bumpBy i j k n).bridge = s.bridge ∧ (s.bumpBy i j k n).flash = s.flash ∧
    (s.bumpBy i j k n).bist = s.bist ∧ (s.bumpBy i j k n).power = s.power :=
  ⟨rfl, rfl, rfl, rfl, rfl, rfl, rfl, rfl, rfl, rfl, rfl, rfl, rfl, rfl, rfl, rfl, rfl, rfl, rfl, rfl, rfl, rfl, rfl, rfl, rfl, rfl, rfl, rfl, rfl, rfl, rfl, rfl⟩

/-- bump writes od alone. -/
@[simp] theorem State.bump_frame (i j k : Nat) :
    (s.bump i j k).clock = s.clock ∧ (s.bump i j k).free = s.free ∧ (s.bump i j k).pending = s.pending ∧
    (s.bump i j k).sent = s.sent ∧ (s.bump i j k).setAt = s.setAt ∧ (s.bump i j k).store = s.store ∧ (s.bump i j k).dict = s.dict ∧
    (s.bump i j k).ctxs = s.ctxs ∧ (s.bump i j k).fc = s.fc ∧ (s.bump i j k).modes = s.modes ∧ (s.bump i j k).ring = s.ring ∧
    (s.bump i j k).sw = s.sw ∧ (s.bump i j k).shutter = s.shutter ∧ (s.bump i j k).chans = s.chans ∧
    (s.bump i j k).heldDel = s.heldDel ∧ (s.bump i j k).locks = s.locks ∧ (s.bump i j k).engines = s.engines ∧
    (s.bump i j k).clusters = s.clusters ∧ (s.bump i j k).banks = s.banks ∧ (s.bump i j k).dram = s.dram ∧
    (s.bump i j k).dramWait = s.dramWait ∧ (s.bump i j k).time = s.time ∧ (s.bump i j k).phase = s.phase ∧
    (s.bump i j k).pair = s.pair ∧ (s.bump i j k).sec = s.sec ∧ (s.bump i j k).station = s.station ∧ (s.bump i j k).cores = s.cores ∧
    (s.bump i j k).can = s.can ∧ (s.bump i j k).bridge = s.bridge ∧ (s.bump i j k).flash = s.flash ∧ (s.bump i j k).bist = s.bist ∧
    (s.bump i j k).power = s.power :=
  ⟨rfl, rfl, rfl, rfl, rfl, rfl, rfl, rfl, rfl, rfl, rfl, rfl, rfl, rfl, rfl, rfl, rfl, rfl, rfl, rfl, rfl, rfl, rfl, rfl, rfl, rfl, rfl, rfl, rfl, rfl, rfl, rfl⟩

/-- setSession writes dict alone. -/
@[simp] theorem State.setSession_frame (n : Nat) (v : Session) :
    (s.setSession n v).clock = s.clock ∧ (s.setSession n v).free = s.free ∧ (s.setSession n v).pending = s.pending ∧
    (s.setSession n v).sent = s.sent ∧ (s.setSession n v).setAt = s.setAt ∧ (s.setSession n v).od = s.od ∧
    (s.setSession n v).store = s.store ∧ (s.setSession n v).ctxs = s.ctxs ∧ (s.setSession n v).fc = s.fc ∧
    (s.setSession n v).modes = s.modes ∧ (s.setSession n v).ring = s.ring ∧ (s.setSession n v).sw = s.sw ∧
    (s.setSession n v).shutter = s.shutter ∧ (s.setSession n v).chans = s.chans ∧ (s.setSession n v).heldDel = s.heldDel ∧
    (s.setSession n v).locks = s.locks ∧ (s.setSession n v).engines = s.engines ∧ (s.setSession n v).clusters = s.clusters ∧
    (s.setSession n v).banks = s.banks ∧ (s.setSession n v).dram = s.dram ∧ (s.setSession n v).dramWait = s.dramWait ∧
    (s.setSession n v).time = s.time ∧ (s.setSession n v).phase = s.phase ∧ (s.setSession n v).pair = s.pair ∧
    (s.setSession n v).sec = s.sec ∧ (s.setSession n v).station = s.station ∧ (s.setSession n v).cores = s.cores ∧
    (s.setSession n v).can = s.can ∧ (s.setSession n v).bridge = s.bridge ∧ (s.setSession n v).flash = s.flash ∧
    (s.setSession n v).bist = s.bist ∧ (s.setSession n v).power = s.power :=
  ⟨rfl, rfl, rfl, rfl, rfl, rfl, rfl, rfl, rfl, rfl, rfl, rfl, rfl, rfl, rfl, rfl, rfl, rfl, rfl, rfl, rfl, rfl, rfl, rfl, rfl, rfl, rfl, rfl, rfl, rfl, rfl, rfl⟩

/-- setCtx writes ctxs alone. -/
@[simp] theorem State.setCtx_frame (c : Ctx) (v : RegCtx) :
    (s.setCtx c v).clock = s.clock ∧ (s.setCtx c v).free = s.free ∧ (s.setCtx c v).pending = s.pending ∧
    (s.setCtx c v).sent = s.sent ∧ (s.setCtx c v).setAt = s.setAt ∧ (s.setCtx c v).od = s.od ∧ (s.setCtx c v).store = s.store ∧
    (s.setCtx c v).dict = s.dict ∧ (s.setCtx c v).fc = s.fc ∧ (s.setCtx c v).modes = s.modes ∧ (s.setCtx c v).ring = s.ring ∧
    (s.setCtx c v).sw = s.sw ∧ (s.setCtx c v).shutter = s.shutter ∧ (s.setCtx c v).chans = s.chans ∧
    (s.setCtx c v).heldDel = s.heldDel ∧ (s.setCtx c v).locks = s.locks ∧ (s.setCtx c v).engines = s.engines ∧
    (s.setCtx c v).clusters = s.clusters ∧ (s.setCtx c v).banks = s.banks ∧ (s.setCtx c v).dram = s.dram ∧
    (s.setCtx c v).dramWait = s.dramWait ∧ (s.setCtx c v).time = s.time ∧ (s.setCtx c v).phase = s.phase ∧
    (s.setCtx c v).pair = s.pair ∧ (s.setCtx c v).sec = s.sec ∧ (s.setCtx c v).station = s.station ∧ (s.setCtx c v).cores = s.cores ∧
    (s.setCtx c v).can = s.can ∧ (s.setCtx c v).bridge = s.bridge ∧ (s.setCtx c v).flash = s.flash ∧ (s.setCtx c v).bist = s.bist ∧
    (s.setCtx c v).power = s.power :=
  ⟨rfl, rfl, rfl, rfl, rfl, rfl, rfl, rfl, rfl, rfl, rfl, rfl, rfl, rfl, rfl, rfl, rfl, rfl, rfl, rfl, rfl, rfl, rfl, rfl, rfl, rfl, rfl, rfl, rfl, rfl, rfl, rfl⟩

/-- setEng writes engines alone. -/
@[simp] theorem State.setEng_frame (n : Nat) (v : Engine) :
    (s.setEng n v).clock = s.clock ∧ (s.setEng n v).free = s.free ∧ (s.setEng n v).pending = s.pending ∧
    (s.setEng n v).sent = s.sent ∧ (s.setEng n v).setAt = s.setAt ∧ (s.setEng n v).od = s.od ∧ (s.setEng n v).store = s.store ∧
    (s.setEng n v).dict = s.dict ∧ (s.setEng n v).ctxs = s.ctxs ∧ (s.setEng n v).fc = s.fc ∧ (s.setEng n v).modes = s.modes ∧
    (s.setEng n v).ring = s.ring ∧ (s.setEng n v).sw = s.sw ∧ (s.setEng n v).shutter = s.shutter ∧ (s.setEng n v).chans = s.chans ∧
    (s.setEng n v).heldDel = s.heldDel ∧ (s.setEng n v).locks = s.locks ∧ (s.setEng n v).clusters = s.clusters ∧
    (s.setEng n v).banks = s.banks ∧ (s.setEng n v).dram = s.dram ∧ (s.setEng n v).dramWait = s.dramWait ∧
    (s.setEng n v).time = s.time ∧ (s.setEng n v).phase = s.phase ∧ (s.setEng n v).pair = s.pair ∧ (s.setEng n v).sec = s.sec ∧
    (s.setEng n v).station = s.station ∧ (s.setEng n v).cores = s.cores ∧ (s.setEng n v).can = s.can ∧
    (s.setEng n v).bridge = s.bridge ∧ (s.setEng n v).flash = s.flash ∧ (s.setEng n v).bist = s.bist ∧
    (s.setEng n v).power = s.power :=
  ⟨rfl, rfl, rfl, rfl, rfl, rfl, rfl, rfl, rfl, rfl, rfl, rfl, rfl, rfl, rfl, rfl, rfl, rfl, rfl, rfl, rfl, rfl, rfl, rfl, rfl, rfl, rfl, rfl, rfl, rfl, rfl, rfl⟩

/-- setChan writes chans alone. -/
@[simp] theorem State.setChan_frame (n : Nat) (v : Chan) :
    (s.setChan n v).clock = s.clock ∧ (s.setChan n v).free = s.free ∧ (s.setChan n v).pending = s.pending ∧
    (s.setChan n v).sent = s.sent ∧ (s.setChan n v).setAt = s.setAt ∧ (s.setChan n v).od = s.od ∧ (s.setChan n v).store = s.store ∧
    (s.setChan n v).dict = s.dict ∧ (s.setChan n v).ctxs = s.ctxs ∧ (s.setChan n v).fc = s.fc ∧ (s.setChan n v).modes = s.modes ∧
    (s.setChan n v).ring = s.ring ∧ (s.setChan n v).sw = s.sw ∧ (s.setChan n v).shutter = s.shutter ∧
    (s.setChan n v).heldDel = s.heldDel ∧ (s.setChan n v).locks = s.locks ∧ (s.setChan n v).engines = s.engines ∧
    (s.setChan n v).clusters = s.clusters ∧ (s.setChan n v).banks = s.banks ∧ (s.setChan n v).dram = s.dram ∧
    (s.setChan n v).dramWait = s.dramWait ∧ (s.setChan n v).time = s.time ∧ (s.setChan n v).phase = s.phase ∧
    (s.setChan n v).pair = s.pair ∧ (s.setChan n v).sec = s.sec ∧ (s.setChan n v).station = s.station ∧
    (s.setChan n v).cores = s.cores ∧ (s.setChan n v).can = s.can ∧ (s.setChan n v).bridge = s.bridge ∧
    (s.setChan n v).flash = s.flash ∧ (s.setChan n v).bist = s.bist ∧ (s.setChan n v).power = s.power :=
  ⟨rfl, rfl, rfl, rfl, rfl, rfl, rfl, rfl, rfl, rfl, rfl, rfl, rfl, rfl, rfl, rfl, rfl, rfl, rfl, rfl, rfl, rfl, rfl, rfl, rfl, rfl, rfl, rfl, rfl, rfl, rfl, rfl⟩

/-- setCluster writes clusters alone. -/
@[simp] theorem State.setCluster_frame (n : Nat) (v : Cluster) :
    (s.setCluster n v).clock = s.clock ∧ (s.setCluster n v).free = s.free ∧ (s.setCluster n v).pending = s.pending ∧
    (s.setCluster n v).sent = s.sent ∧ (s.setCluster n v).setAt = s.setAt ∧ (s.setCluster n v).od = s.od ∧
    (s.setCluster n v).store = s.store ∧ (s.setCluster n v).dict = s.dict ∧ (s.setCluster n v).ctxs = s.ctxs ∧
    (s.setCluster n v).fc = s.fc ∧ (s.setCluster n v).modes = s.modes ∧ (s.setCluster n v).ring = s.ring ∧
    (s.setCluster n v).sw = s.sw ∧ (s.setCluster n v).shutter = s.shutter ∧ (s.setCluster n v).chans = s.chans ∧
    (s.setCluster n v).heldDel = s.heldDel ∧ (s.setCluster n v).locks = s.locks ∧ (s.setCluster n v).engines = s.engines ∧
    (s.setCluster n v).banks = s.banks ∧ (s.setCluster n v).dram = s.dram ∧ (s.setCluster n v).dramWait = s.dramWait ∧
    (s.setCluster n v).time = s.time ∧ (s.setCluster n v).phase = s.phase ∧ (s.setCluster n v).pair = s.pair ∧
    (s.setCluster n v).sec = s.sec ∧ (s.setCluster n v).station = s.station ∧ (s.setCluster n v).cores = s.cores ∧
    (s.setCluster n v).can = s.can ∧ (s.setCluster n v).bridge = s.bridge ∧ (s.setCluster n v).flash = s.flash ∧
    (s.setCluster n v).bist = s.bist ∧ (s.setCluster n v).power = s.power :=
  ⟨rfl, rfl, rfl, rfl, rfl, rfl, rfl, rfl, rfl, rfl, rfl, rfl, rfl, rfl, rfl, rfl, rfl, rfl, rfl, rfl, rfl, rfl, rfl, rfl, rfl, rfl, rfl, rfl, rfl, rfl, rfl, rfl⟩

/-- setBank writes banks alone. -/
@[simp] theorem State.setBank_frame (n : Nat) (v : Bank) :
    (s.setBank n v).clock = s.clock ∧ (s.setBank n v).free = s.free ∧ (s.setBank n v).pending = s.pending ∧
    (s.setBank n v).sent = s.sent ∧ (s.setBank n v).setAt = s.setAt ∧ (s.setBank n v).od = s.od ∧ (s.setBank n v).store = s.store ∧
    (s.setBank n v).dict = s.dict ∧ (s.setBank n v).ctxs = s.ctxs ∧ (s.setBank n v).fc = s.fc ∧ (s.setBank n v).modes = s.modes ∧
    (s.setBank n v).ring = s.ring ∧ (s.setBank n v).sw = s.sw ∧ (s.setBank n v).shutter = s.shutter ∧
    (s.setBank n v).chans = s.chans ∧ (s.setBank n v).heldDel = s.heldDel ∧ (s.setBank n v).locks = s.locks ∧
    (s.setBank n v).engines = s.engines ∧ (s.setBank n v).clusters = s.clusters ∧ (s.setBank n v).dram = s.dram ∧
    (s.setBank n v).dramWait = s.dramWait ∧ (s.setBank n v).time = s.time ∧ (s.setBank n v).phase = s.phase ∧
    (s.setBank n v).pair = s.pair ∧ (s.setBank n v).sec = s.sec ∧ (s.setBank n v).station = s.station ∧
    (s.setBank n v).cores = s.cores ∧ (s.setBank n v).can = s.can ∧ (s.setBank n v).bridge = s.bridge ∧
    (s.setBank n v).flash = s.flash ∧ (s.setBank n v).bist = s.bist ∧ (s.setBank n v).power = s.power :=
  ⟨rfl, rfl, rfl, rfl, rfl, rfl, rfl, rfl, rfl, rfl, rfl, rfl, rfl, rfl, rfl, rfl, rfl, rfl, rfl, rfl, rfl, rfl, rfl, rfl, rfl, rfl, rfl, rfl, rfl, rfl, rfl, rfl⟩

/-- setLock writes locks alone. -/
@[simp] theorem State.setLock_frame (n : Nat) (v : Lock) :
    (s.setLock n v).clock = s.clock ∧ (s.setLock n v).free = s.free ∧ (s.setLock n v).pending = s.pending ∧
    (s.setLock n v).sent = s.sent ∧ (s.setLock n v).setAt = s.setAt ∧ (s.setLock n v).od = s.od ∧ (s.setLock n v).store = s.store ∧
    (s.setLock n v).dict = s.dict ∧ (s.setLock n v).ctxs = s.ctxs ∧ (s.setLock n v).fc = s.fc ∧ (s.setLock n v).modes = s.modes ∧
    (s.setLock n v).ring = s.ring ∧ (s.setLock n v).sw = s.sw ∧ (s.setLock n v).shutter = s.shutter ∧
    (s.setLock n v).chans = s.chans ∧ (s.setLock n v).heldDel = s.heldDel ∧ (s.setLock n v).engines = s.engines ∧
    (s.setLock n v).clusters = s.clusters ∧ (s.setLock n v).banks = s.banks ∧ (s.setLock n v).dram = s.dram ∧
    (s.setLock n v).dramWait = s.dramWait ∧ (s.setLock n v).time = s.time ∧ (s.setLock n v).phase = s.phase ∧
    (s.setLock n v).pair = s.pair ∧ (s.setLock n v).sec = s.sec ∧ (s.setLock n v).station = s.station ∧
    (s.setLock n v).cores = s.cores ∧ (s.setLock n v).can = s.can ∧ (s.setLock n v).bridge = s.bridge ∧
    (s.setLock n v).flash = s.flash ∧ (s.setLock n v).bist = s.bist ∧ (s.setLock n v).power = s.power :=
  ⟨rfl, rfl, rfl, rfl, rfl, rfl, rfl, rfl, rfl, rfl, rfl, rfl, rfl, rfl, rfl, rfl, rfl, rfl, rfl, rfl, rfl, rfl, rfl, rfl, rfl, rfl, rfl, rfl, rfl, rfl, rfl, rfl⟩

/-- setQueue writes sw alone. -/
@[simp] theorem State.setQueue_frame (n : Nat) (v : Queue) :
    (s.setQueue n v).clock = s.clock ∧ (s.setQueue n v).free = s.free ∧ (s.setQueue n v).pending = s.pending ∧
    (s.setQueue n v).sent = s.sent ∧ (s.setQueue n v).setAt = s.setAt ∧ (s.setQueue n v).od = s.od ∧
    (s.setQueue n v).store = s.store ∧ (s.setQueue n v).dict = s.dict ∧ (s.setQueue n v).ctxs = s.ctxs ∧ (s.setQueue n v).fc = s.fc ∧
    (s.setQueue n v).modes = s.modes ∧ (s.setQueue n v).ring = s.ring ∧ (s.setQueue n v).shutter = s.shutter ∧
    (s.setQueue n v).chans = s.chans ∧ (s.setQueue n v).heldDel = s.heldDel ∧ (s.setQueue n v).locks = s.locks ∧
    (s.setQueue n v).engines = s.engines ∧ (s.setQueue n v).clusters = s.clusters ∧ (s.setQueue n v).banks = s.banks ∧
    (s.setQueue n v).dram = s.dram ∧ (s.setQueue n v).dramWait = s.dramWait ∧ (s.setQueue n v).time = s.time ∧
    (s.setQueue n v).phase = s.phase ∧ (s.setQueue n v).pair = s.pair ∧ (s.setQueue n v).sec = s.sec ∧
    (s.setQueue n v).station = s.station ∧ (s.setQueue n v).cores = s.cores ∧ (s.setQueue n v).can = s.can ∧
    (s.setQueue n v).bridge = s.bridge ∧ (s.setQueue n v).flash = s.flash ∧ (s.setQueue n v).bist = s.bist ∧
    (s.setQueue n v).power = s.power :=
  ⟨rfl, rfl, rfl, rfl, rfl, rfl, rfl, rfl, rfl, rfl, rfl, rfl, rfl, rfl, rfl, rfl, rfl, rfl, rfl, rfl, rfl, rfl, rfl, rfl, rfl, rfl, rfl, rfl, rfl, rfl, rfl, rfl⟩

/-- setSpecTag writes shutter alone. -/
@[simp] theorem State.setSpecTag_frame (n : Nat) (v : Option SpecTag) :
    (s.setSpecTag n v).clock = s.clock ∧ (s.setSpecTag n v).free = s.free ∧ (s.setSpecTag n v).pending = s.pending ∧
    (s.setSpecTag n v).sent = s.sent ∧ (s.setSpecTag n v).setAt = s.setAt ∧ (s.setSpecTag n v).od = s.od ∧
    (s.setSpecTag n v).store = s.store ∧ (s.setSpecTag n v).dict = s.dict ∧ (s.setSpecTag n v).ctxs = s.ctxs ∧
    (s.setSpecTag n v).fc = s.fc ∧ (s.setSpecTag n v).modes = s.modes ∧ (s.setSpecTag n v).ring = s.ring ∧
    (s.setSpecTag n v).sw = s.sw ∧ (s.setSpecTag n v).chans = s.chans ∧ (s.setSpecTag n v).heldDel = s.heldDel ∧
    (s.setSpecTag n v).locks = s.locks ∧ (s.setSpecTag n v).engines = s.engines ∧ (s.setSpecTag n v).clusters = s.clusters ∧
    (s.setSpecTag n v).banks = s.banks ∧ (s.setSpecTag n v).dram = s.dram ∧ (s.setSpecTag n v).dramWait = s.dramWait ∧
    (s.setSpecTag n v).time = s.time ∧ (s.setSpecTag n v).phase = s.phase ∧ (s.setSpecTag n v).pair = s.pair ∧
    (s.setSpecTag n v).sec = s.sec ∧ (s.setSpecTag n v).station = s.station ∧ (s.setSpecTag n v).cores = s.cores ∧
    (s.setSpecTag n v).can = s.can ∧ (s.setSpecTag n v).bridge = s.bridge ∧ (s.setSpecTag n v).flash = s.flash ∧
    (s.setSpecTag n v).bist = s.bist ∧ (s.setSpecTag n v).power = s.power :=
  ⟨rfl, rfl, rfl, rfl, rfl, rfl, rfl, rfl, rfl, rfl, rfl, rfl, rfl, rfl, rfl, rfl, rfl, rfl, rfl, rfl, rfl, rfl, rfl, rfl, rfl, rfl, rfl, rfl, rfl, rfl, rfl, rfl⟩

/-- setDram writes dram alone. -/
@[simp] theorem State.setDram_frame (a : Nat) (b : Byte) :
    (s.setDram a b).clock = s.clock ∧ (s.setDram a b).free = s.free ∧ (s.setDram a b).pending = s.pending ∧
    (s.setDram a b).sent = s.sent ∧ (s.setDram a b).setAt = s.setAt ∧ (s.setDram a b).od = s.od ∧ (s.setDram a b).store = s.store ∧
    (s.setDram a b).dict = s.dict ∧ (s.setDram a b).ctxs = s.ctxs ∧ (s.setDram a b).fc = s.fc ∧ (s.setDram a b).modes = s.modes ∧
    (s.setDram a b).ring = s.ring ∧ (s.setDram a b).sw = s.sw ∧ (s.setDram a b).shutter = s.shutter ∧
    (s.setDram a b).chans = s.chans ∧ (s.setDram a b).heldDel = s.heldDel ∧ (s.setDram a b).locks = s.locks ∧
    (s.setDram a b).engines = s.engines ∧ (s.setDram a b).clusters = s.clusters ∧ (s.setDram a b).banks = s.banks ∧
    (s.setDram a b).dramWait = s.dramWait ∧ (s.setDram a b).time = s.time ∧ (s.setDram a b).phase = s.phase ∧
    (s.setDram a b).pair = s.pair ∧ (s.setDram a b).sec = s.sec ∧ (s.setDram a b).station = s.station ∧
    (s.setDram a b).cores = s.cores ∧ (s.setDram a b).can = s.can ∧ (s.setDram a b).bridge = s.bridge ∧
    (s.setDram a b).flash = s.flash ∧ (s.setDram a b).bist = s.bist ∧ (s.setDram a b).power = s.power :=
  ⟨rfl, rfl, rfl, rfl, rfl, rfl, rfl, rfl, rfl, rfl, rfl, rfl, rfl, rfl, rfl, rfl, rfl, rfl, rfl, rfl, rfl, rfl, rfl, rfl, rfl, rfl, rfl, rfl, rfl, rfl, rfl, rfl⟩

/-- setTrk writes phase alone. -/
@[simp] theorem State.setTrk_frame (n : Nat) (v : Tracker) :
    (s.setTrk n v).clock = s.clock ∧ (s.setTrk n v).free = s.free ∧ (s.setTrk n v).pending = s.pending ∧
    (s.setTrk n v).sent = s.sent ∧ (s.setTrk n v).setAt = s.setAt ∧ (s.setTrk n v).od = s.od ∧ (s.setTrk n v).store = s.store ∧
    (s.setTrk n v).dict = s.dict ∧ (s.setTrk n v).ctxs = s.ctxs ∧ (s.setTrk n v).fc = s.fc ∧ (s.setTrk n v).modes = s.modes ∧
    (s.setTrk n v).ring = s.ring ∧ (s.setTrk n v).sw = s.sw ∧ (s.setTrk n v).shutter = s.shutter ∧ (s.setTrk n v).chans = s.chans ∧
    (s.setTrk n v).heldDel = s.heldDel ∧ (s.setTrk n v).locks = s.locks ∧ (s.setTrk n v).engines = s.engines ∧
    (s.setTrk n v).clusters = s.clusters ∧ (s.setTrk n v).banks = s.banks ∧ (s.setTrk n v).dram = s.dram ∧
    (s.setTrk n v).dramWait = s.dramWait ∧ (s.setTrk n v).time = s.time ∧ (s.setTrk n v).pair = s.pair ∧ (s.setTrk n v).sec = s.sec ∧
    (s.setTrk n v).station = s.station ∧ (s.setTrk n v).cores = s.cores ∧ (s.setTrk n v).can = s.can ∧
    (s.setTrk n v).bridge = s.bridge ∧ (s.setTrk n v).flash = s.flash ∧ (s.setTrk n v).bist = s.bist ∧
    (s.setTrk n v).power = s.power :=
  ⟨rfl, rfl, rfl, rfl, rfl, rfl, rfl, rfl, rfl, rfl, rfl, rfl, rfl, rfl, rfl, rfl, rfl, rfl, rfl, rfl, rfl, rfl, rfl, rfl, rfl, rfl, rfl, rfl, rfl, rfl, rfl, rfl⟩

/-- setCal writes phase alone. -/
@[simp] theorem State.setCal_frame (n : Nat) (v : CalEntry) :
    (s.setCal n v).clock = s.clock ∧ (s.setCal n v).free = s.free ∧ (s.setCal n v).pending = s.pending ∧
    (s.setCal n v).sent = s.sent ∧ (s.setCal n v).setAt = s.setAt ∧ (s.setCal n v).od = s.od ∧ (s.setCal n v).store = s.store ∧
    (s.setCal n v).dict = s.dict ∧ (s.setCal n v).ctxs = s.ctxs ∧ (s.setCal n v).fc = s.fc ∧ (s.setCal n v).modes = s.modes ∧
    (s.setCal n v).ring = s.ring ∧ (s.setCal n v).sw = s.sw ∧ (s.setCal n v).shutter = s.shutter ∧ (s.setCal n v).chans = s.chans ∧
    (s.setCal n v).heldDel = s.heldDel ∧ (s.setCal n v).locks = s.locks ∧ (s.setCal n v).engines = s.engines ∧
    (s.setCal n v).clusters = s.clusters ∧ (s.setCal n v).banks = s.banks ∧ (s.setCal n v).dram = s.dram ∧
    (s.setCal n v).dramWait = s.dramWait ∧ (s.setCal n v).time = s.time ∧ (s.setCal n v).pair = s.pair ∧ (s.setCal n v).sec = s.sec ∧
    (s.setCal n v).station = s.station ∧ (s.setCal n v).cores = s.cores ∧ (s.setCal n v).can = s.can ∧
    (s.setCal n v).bridge = s.bridge ∧ (s.setCal n v).flash = s.flash ∧ (s.setCal n v).bist = s.bist ∧
    (s.setCal n v).power = s.power :=
  ⟨rfl, rfl, rfl, rfl, rfl, rfl, rfl, rfl, rfl, rfl, rfl, rfl, rfl, rfl, rfl, rfl, rfl, rfl, rfl, rfl, rfl, rfl, rfl, rfl, rfl, rfl, rfl, rfl, rfl, rfl, rfl, rfl⟩

/-- setSlot writes sec alone. -/
@[simp] theorem State.setSlot_frame (n : Nat) (v : KeySlot) :
    (s.setSlot n v).clock = s.clock ∧ (s.setSlot n v).free = s.free ∧ (s.setSlot n v).pending = s.pending ∧
    (s.setSlot n v).sent = s.sent ∧ (s.setSlot n v).setAt = s.setAt ∧ (s.setSlot n v).od = s.od ∧ (s.setSlot n v).store = s.store ∧
    (s.setSlot n v).dict = s.dict ∧ (s.setSlot n v).ctxs = s.ctxs ∧ (s.setSlot n v).fc = s.fc ∧ (s.setSlot n v).modes = s.modes ∧
    (s.setSlot n v).ring = s.ring ∧ (s.setSlot n v).sw = s.sw ∧ (s.setSlot n v).shutter = s.shutter ∧
    (s.setSlot n v).chans = s.chans ∧ (s.setSlot n v).heldDel = s.heldDel ∧ (s.setSlot n v).locks = s.locks ∧
    (s.setSlot n v).engines = s.engines ∧ (s.setSlot n v).clusters = s.clusters ∧ (s.setSlot n v).banks = s.banks ∧
    (s.setSlot n v).dram = s.dram ∧ (s.setSlot n v).dramWait = s.dramWait ∧ (s.setSlot n v).time = s.time ∧
    (s.setSlot n v).phase = s.phase ∧ (s.setSlot n v).pair = s.pair ∧ (s.setSlot n v).station = s.station ∧
    (s.setSlot n v).cores = s.cores ∧ (s.setSlot n v).can = s.can ∧ (s.setSlot n v).bridge = s.bridge ∧
    (s.setSlot n v).flash = s.flash ∧ (s.setSlot n v).bist = s.bist ∧ (s.setSlot n v).power = s.power :=
  ⟨rfl, rfl, rfl, rfl, rfl, rfl, rfl, rfl, rfl, rfl, rfl, rfl, rfl, rfl, rfl, rfl, rfl, rfl, rfl, rfl, rfl, rfl, rfl, rfl, rfl, rfl, rfl, rfl, rfl, rfl, rfl, rfl⟩

/-- setImgSlot writes flash alone. -/
@[simp] theorem State.setImgSlot_frame (n : Nat) (v : Slot) :
    (s.setImgSlot n v).clock = s.clock ∧ (s.setImgSlot n v).free = s.free ∧ (s.setImgSlot n v).pending = s.pending ∧
    (s.setImgSlot n v).sent = s.sent ∧ (s.setImgSlot n v).setAt = s.setAt ∧ (s.setImgSlot n v).od = s.od ∧
    (s.setImgSlot n v).store = s.store ∧ (s.setImgSlot n v).dict = s.dict ∧ (s.setImgSlot n v).ctxs = s.ctxs ∧
    (s.setImgSlot n v).fc = s.fc ∧ (s.setImgSlot n v).modes = s.modes ∧ (s.setImgSlot n v).ring = s.ring ∧
    (s.setImgSlot n v).sw = s.sw ∧ (s.setImgSlot n v).shutter = s.shutter ∧ (s.setImgSlot n v).chans = s.chans ∧
    (s.setImgSlot n v).heldDel = s.heldDel ∧ (s.setImgSlot n v).locks = s.locks ∧ (s.setImgSlot n v).engines = s.engines ∧
    (s.setImgSlot n v).clusters = s.clusters ∧ (s.setImgSlot n v).banks = s.banks ∧ (s.setImgSlot n v).dram = s.dram ∧
    (s.setImgSlot n v).dramWait = s.dramWait ∧ (s.setImgSlot n v).time = s.time ∧ (s.setImgSlot n v).phase = s.phase ∧
    (s.setImgSlot n v).pair = s.pair ∧ (s.setImgSlot n v).sec = s.sec ∧ (s.setImgSlot n v).station = s.station ∧
    (s.setImgSlot n v).cores = s.cores ∧ (s.setImgSlot n v).can = s.can ∧ (s.setImgSlot n v).bridge = s.bridge ∧
    (s.setImgSlot n v).bist = s.bist ∧ (s.setImgSlot n v).power = s.power :=
  ⟨rfl, rfl, rfl, rfl, rfl, rfl, rfl, rfl, rfl, rfl, rfl, rfl, rfl, rfl, rfl, rfl, rfl, rfl, rfl, rfl, rfl, rfl, rfl, rfl, rfl, rfl, rfl, rfl, rfl, rfl, rfl, rfl⟩

/-- setCtl writes can alone. -/
@[simp] theorem State.setCtl_frame (n : Nat) (v : CanCtl) :
    (s.setCtl n v).clock = s.clock ∧ (s.setCtl n v).free = s.free ∧ (s.setCtl n v).pending = s.pending ∧
    (s.setCtl n v).sent = s.sent ∧ (s.setCtl n v).setAt = s.setAt ∧ (s.setCtl n v).od = s.od ∧ (s.setCtl n v).store = s.store ∧
    (s.setCtl n v).dict = s.dict ∧ (s.setCtl n v).ctxs = s.ctxs ∧ (s.setCtl n v).fc = s.fc ∧ (s.setCtl n v).modes = s.modes ∧
    (s.setCtl n v).ring = s.ring ∧ (s.setCtl n v).sw = s.sw ∧ (s.setCtl n v).shutter = s.shutter ∧ (s.setCtl n v).chans = s.chans ∧
    (s.setCtl n v).heldDel = s.heldDel ∧ (s.setCtl n v).locks = s.locks ∧ (s.setCtl n v).engines = s.engines ∧
    (s.setCtl n v).clusters = s.clusters ∧ (s.setCtl n v).banks = s.banks ∧ (s.setCtl n v).dram = s.dram ∧
    (s.setCtl n v).dramWait = s.dramWait ∧ (s.setCtl n v).time = s.time ∧ (s.setCtl n v).phase = s.phase ∧
    (s.setCtl n v).pair = s.pair ∧ (s.setCtl n v).sec = s.sec ∧ (s.setCtl n v).station = s.station ∧ (s.setCtl n v).cores = s.cores ∧
    (s.setCtl n v).bridge = s.bridge ∧ (s.setCtl n v).flash = s.flash ∧ (s.setCtl n v).bist = s.bist ∧
    (s.setCtl n v).power = s.power :=
  ⟨rfl, rfl, rfl, rfl, rfl, rfl, rfl, rfl, rfl, rfl, rfl, rfl, rfl, rfl, rfl, rfl, rfl, rfl, rfl, rfl, rfl, rfl, rfl, rfl, rfl, rfl, rfl, rfl, rfl, rfl, rfl, rfl⟩

/-- setField writes power alone. -/
@[simp] theorem State.setField_frame (n : Nat) (v : Field) :
    (s.setField n v).clock = s.clock ∧ (s.setField n v).free = s.free ∧ (s.setField n v).pending = s.pending ∧
    (s.setField n v).sent = s.sent ∧ (s.setField n v).setAt = s.setAt ∧ (s.setField n v).od = s.od ∧
    (s.setField n v).store = s.store ∧ (s.setField n v).dict = s.dict ∧ (s.setField n v).ctxs = s.ctxs ∧ (s.setField n v).fc = s.fc ∧
    (s.setField n v).modes = s.modes ∧ (s.setField n v).ring = s.ring ∧ (s.setField n v).sw = s.sw ∧
    (s.setField n v).shutter = s.shutter ∧ (s.setField n v).chans = s.chans ∧ (s.setField n v).heldDel = s.heldDel ∧
    (s.setField n v).locks = s.locks ∧ (s.setField n v).engines = s.engines ∧ (s.setField n v).clusters = s.clusters ∧
    (s.setField n v).banks = s.banks ∧ (s.setField n v).dram = s.dram ∧ (s.setField n v).dramWait = s.dramWait ∧
    (s.setField n v).time = s.time ∧ (s.setField n v).phase = s.phase ∧ (s.setField n v).pair = s.pair ∧
    (s.setField n v).sec = s.sec ∧ (s.setField n v).station = s.station ∧ (s.setField n v).cores = s.cores ∧
    (s.setField n v).can = s.can ∧ (s.setField n v).bridge = s.bridge ∧ (s.setField n v).flash = s.flash ∧
    (s.setField n v).bist = s.bist :=
  ⟨rfl, rfl, rfl, rfl, rfl, rfl, rfl, rfl, rfl, rfl, rfl, rfl, rfl, rfl, rfl, rfl, rfl, rfl, rfl, rfl, rfl, rfl, rfl, rfl, rfl, rfl, rfl, rfl, rfl, rfl, rfl, rfl⟩

/-- setSoeOld writes station alone. -/
@[simp] theorem State.setSoeOld_frame (n : Nat) (b : Bool) :
    (s.setSoeOld n b).clock = s.clock ∧ (s.setSoeOld n b).free = s.free ∧ (s.setSoeOld n b).pending = s.pending ∧
    (s.setSoeOld n b).sent = s.sent ∧ (s.setSoeOld n b).setAt = s.setAt ∧ (s.setSoeOld n b).od = s.od ∧
    (s.setSoeOld n b).store = s.store ∧ (s.setSoeOld n b).dict = s.dict ∧ (s.setSoeOld n b).ctxs = s.ctxs ∧
    (s.setSoeOld n b).fc = s.fc ∧ (s.setSoeOld n b).modes = s.modes ∧ (s.setSoeOld n b).ring = s.ring ∧ (s.setSoeOld n b).sw = s.sw ∧
    (s.setSoeOld n b).shutter = s.shutter ∧ (s.setSoeOld n b).chans = s.chans ∧ (s.setSoeOld n b).heldDel = s.heldDel ∧
    (s.setSoeOld n b).locks = s.locks ∧ (s.setSoeOld n b).engines = s.engines ∧ (s.setSoeOld n b).clusters = s.clusters ∧
    (s.setSoeOld n b).banks = s.banks ∧ (s.setSoeOld n b).dram = s.dram ∧ (s.setSoeOld n b).dramWait = s.dramWait ∧
    (s.setSoeOld n b).time = s.time ∧ (s.setSoeOld n b).phase = s.phase ∧ (s.setSoeOld n b).pair = s.pair ∧
    (s.setSoeOld n b).sec = s.sec ∧ (s.setSoeOld n b).cores = s.cores ∧ (s.setSoeOld n b).can = s.can ∧
    (s.setSoeOld n b).bridge = s.bridge ∧ (s.setSoeOld n b).flash = s.flash ∧ (s.setSoeOld n b).bist = s.bist ∧
    (s.setSoeOld n b).power = s.power :=
  ⟨rfl, rfl, rfl, rfl, rfl, rfl, rfl, rfl, rfl, rfl, rfl, rfl, rfl, rfl, rfl, rfl, rfl, rfl, rfl, rfl, rfl, rfl, rfl, rfl, rfl, rfl, rfl, rfl, rfl, rfl, rfl, rfl⟩

/-- setSvc writes cores alone. -/
@[simp] theorem State.setSvc_frame (n : Nat) (v : Svc) :
    (s.setSvc n v).clock = s.clock ∧ (s.setSvc n v).free = s.free ∧ (s.setSvc n v).pending = s.pending ∧
    (s.setSvc n v).sent = s.sent ∧ (s.setSvc n v).setAt = s.setAt ∧ (s.setSvc n v).od = s.od ∧ (s.setSvc n v).store = s.store ∧
    (s.setSvc n v).dict = s.dict ∧ (s.setSvc n v).ctxs = s.ctxs ∧ (s.setSvc n v).fc = s.fc ∧ (s.setSvc n v).modes = s.modes ∧
    (s.setSvc n v).ring = s.ring ∧ (s.setSvc n v).sw = s.sw ∧ (s.setSvc n v).shutter = s.shutter ∧ (s.setSvc n v).chans = s.chans ∧
    (s.setSvc n v).heldDel = s.heldDel ∧ (s.setSvc n v).locks = s.locks ∧ (s.setSvc n v).engines = s.engines ∧
    (s.setSvc n v).clusters = s.clusters ∧ (s.setSvc n v).banks = s.banks ∧ (s.setSvc n v).dram = s.dram ∧
    (s.setSvc n v).dramWait = s.dramWait ∧ (s.setSvc n v).time = s.time ∧ (s.setSvc n v).phase = s.phase ∧
    (s.setSvc n v).pair = s.pair ∧ (s.setSvc n v).sec = s.sec ∧ (s.setSvc n v).station = s.station ∧ (s.setSvc n v).can = s.can ∧
    (s.setSvc n v).bridge = s.bridge ∧ (s.setSvc n v).flash = s.flash ∧ (s.setSvc n v).bist = s.bist ∧
    (s.setSvc n v).power = s.power :=
  ⟨rfl, rfl, rfl, rfl, rfl, rfl, rfl, rfl, rfl, rfl, rfl, rfl, rfl, rfl, rfl, rfl, rfl, rfl, rfl, rfl, rfl, rfl, rfl, rfl, rfl, rfl, rfl, rfl, rfl, rfl, rfl, rfl⟩

/-- setCoreSt writes cores alone. -/
@[simp] theorem State.setCoreSt_frame (n : Nat) (v : CoreSt) :
    (s.setCoreSt n v).clock = s.clock ∧ (s.setCoreSt n v).free = s.free ∧ (s.setCoreSt n v).pending = s.pending ∧
    (s.setCoreSt n v).sent = s.sent ∧ (s.setCoreSt n v).setAt = s.setAt ∧ (s.setCoreSt n v).od = s.od ∧
    (s.setCoreSt n v).store = s.store ∧ (s.setCoreSt n v).dict = s.dict ∧ (s.setCoreSt n v).ctxs = s.ctxs ∧
    (s.setCoreSt n v).fc = s.fc ∧ (s.setCoreSt n v).modes = s.modes ∧ (s.setCoreSt n v).ring = s.ring ∧ (s.setCoreSt n v).sw = s.sw ∧
    (s.setCoreSt n v).shutter = s.shutter ∧ (s.setCoreSt n v).chans = s.chans ∧ (s.setCoreSt n v).heldDel = s.heldDel ∧
    (s.setCoreSt n v).locks = s.locks ∧ (s.setCoreSt n v).engines = s.engines ∧ (s.setCoreSt n v).clusters = s.clusters ∧
    (s.setCoreSt n v).banks = s.banks ∧ (s.setCoreSt n v).dram = s.dram ∧ (s.setCoreSt n v).dramWait = s.dramWait ∧
    (s.setCoreSt n v).time = s.time ∧ (s.setCoreSt n v).phase = s.phase ∧ (s.setCoreSt n v).pair = s.pair ∧
    (s.setCoreSt n v).sec = s.sec ∧ (s.setCoreSt n v).station = s.station ∧ (s.setCoreSt n v).can = s.can ∧
    (s.setCoreSt n v).bridge = s.bridge ∧ (s.setCoreSt n v).flash = s.flash ∧ (s.setCoreSt n v).bist = s.bist ∧
    (s.setCoreSt n v).power = s.power :=
  ⟨rfl, rfl, rfl, rfl, rfl, rfl, rfl, rfl, rfl, rfl, rfl, rfl, rfl, rfl, rfl, rfl, rfl, rfl, rfl, rfl, rfl, rfl, rfl, rfl, rfl, rfl, rfl, rfl, rfl, rfl, rfl, rfl⟩

/-- setCell writes sw alone. -/
@[simp] theorem State.setCell_frame (n : Nat) (v : Cell) :
    (s.setCell n v).clock = s.clock ∧ (s.setCell n v).free = s.free ∧ (s.setCell n v).pending = s.pending ∧
    (s.setCell n v).sent = s.sent ∧ (s.setCell n v).setAt = s.setAt ∧ (s.setCell n v).od = s.od ∧ (s.setCell n v).store = s.store ∧
    (s.setCell n v).dict = s.dict ∧ (s.setCell n v).ctxs = s.ctxs ∧ (s.setCell n v).fc = s.fc ∧ (s.setCell n v).modes = s.modes ∧
    (s.setCell n v).ring = s.ring ∧ (s.setCell n v).shutter = s.shutter ∧ (s.setCell n v).chans = s.chans ∧
    (s.setCell n v).heldDel = s.heldDel ∧ (s.setCell n v).locks = s.locks ∧ (s.setCell n v).engines = s.engines ∧
    (s.setCell n v).clusters = s.clusters ∧ (s.setCell n v).banks = s.banks ∧ (s.setCell n v).dram = s.dram ∧
    (s.setCell n v).dramWait = s.dramWait ∧ (s.setCell n v).time = s.time ∧ (s.setCell n v).phase = s.phase ∧
    (s.setCell n v).pair = s.pair ∧ (s.setCell n v).sec = s.sec ∧ (s.setCell n v).station = s.station ∧
    (s.setCell n v).cores = s.cores ∧ (s.setCell n v).can = s.can ∧ (s.setCell n v).bridge = s.bridge ∧
    (s.setCell n v).flash = s.flash ∧ (s.setCell n v).bist = s.bist ∧ (s.setCell n v).power = s.power :=
  ⟨rfl, rfl, rfl, rfl, rfl, rfl, rfl, rfl, rfl, rfl, rfl, rfl, rfl, rfl, rfl, rfl, rfl, rfl, rfl, rfl, rfl, rfl, rfl, rfl, rfl, rfl, rfl, rfl, rfl, rfl, rfl, rfl⟩

/-- setPathAuth writes dict alone. -/
@[simp] theorem State.setPathAuth_frame (p : Path) (v : PathAuth) :
    (s.setPathAuth p v).clock = s.clock ∧ (s.setPathAuth p v).free = s.free ∧ (s.setPathAuth p v).pending = s.pending ∧
    (s.setPathAuth p v).sent = s.sent ∧ (s.setPathAuth p v).setAt = s.setAt ∧ (s.setPathAuth p v).od = s.od ∧
    (s.setPathAuth p v).store = s.store ∧ (s.setPathAuth p v).ctxs = s.ctxs ∧ (s.setPathAuth p v).fc = s.fc ∧
    (s.setPathAuth p v).modes = s.modes ∧ (s.setPathAuth p v).ring = s.ring ∧ (s.setPathAuth p v).sw = s.sw ∧
    (s.setPathAuth p v).shutter = s.shutter ∧ (s.setPathAuth p v).chans = s.chans ∧ (s.setPathAuth p v).heldDel = s.heldDel ∧
    (s.setPathAuth p v).locks = s.locks ∧ (s.setPathAuth p v).engines = s.engines ∧ (s.setPathAuth p v).clusters = s.clusters ∧
    (s.setPathAuth p v).banks = s.banks ∧ (s.setPathAuth p v).dram = s.dram ∧ (s.setPathAuth p v).dramWait = s.dramWait ∧
    (s.setPathAuth p v).time = s.time ∧ (s.setPathAuth p v).phase = s.phase ∧ (s.setPathAuth p v).pair = s.pair ∧
    (s.setPathAuth p v).sec = s.sec ∧ (s.setPathAuth p v).station = s.station ∧ (s.setPathAuth p v).cores = s.cores ∧
    (s.setPathAuth p v).can = s.can ∧ (s.setPathAuth p v).bridge = s.bridge ∧ (s.setPathAuth p v).flash = s.flash ∧
    (s.setPathAuth p v).bist = s.bist ∧ (s.setPathAuth p v).power = s.power :=
  ⟨rfl, rfl, rfl, rfl, rfl, rfl, rfl, rfl, rfl, rfl, rfl, rfl, rfl, rfl, rfl, rfl, rfl, rfl, rfl, rfl, rfl, rfl, rfl, rfl, rfl, rfl, rfl, rfl, rfl, rfl, rfl, rfl⟩

/-- setBrk writes station alone. -/
@[simp] theorem State.setBrk_frame (n : Nat) (v : Breaker) :
    (s.setBrk n v).clock = s.clock ∧ (s.setBrk n v).free = s.free ∧ (s.setBrk n v).pending = s.pending ∧
    (s.setBrk n v).sent = s.sent ∧ (s.setBrk n v).setAt = s.setAt ∧ (s.setBrk n v).od = s.od ∧ (s.setBrk n v).store = s.store ∧
    (s.setBrk n v).dict = s.dict ∧ (s.setBrk n v).ctxs = s.ctxs ∧ (s.setBrk n v).fc = s.fc ∧ (s.setBrk n v).modes = s.modes ∧
    (s.setBrk n v).ring = s.ring ∧ (s.setBrk n v).sw = s.sw ∧ (s.setBrk n v).shutter = s.shutter ∧ (s.setBrk n v).chans = s.chans ∧
    (s.setBrk n v).heldDel = s.heldDel ∧ (s.setBrk n v).locks = s.locks ∧ (s.setBrk n v).engines = s.engines ∧
    (s.setBrk n v).clusters = s.clusters ∧ (s.setBrk n v).banks = s.banks ∧ (s.setBrk n v).dram = s.dram ∧
    (s.setBrk n v).dramWait = s.dramWait ∧ (s.setBrk n v).time = s.time ∧ (s.setBrk n v).phase = s.phase ∧
    (s.setBrk n v).pair = s.pair ∧ (s.setBrk n v).sec = s.sec ∧ (s.setBrk n v).cores = s.cores ∧ (s.setBrk n v).can = s.can ∧
    (s.setBrk n v).bridge = s.bridge ∧ (s.setBrk n v).flash = s.flash ∧ (s.setBrk n v).bist = s.bist ∧
    (s.setBrk n v).power = s.power :=
  ⟨rfl, rfl, rfl, rfl, rfl, rfl, rfl, rfl, rfl, rfl, rfl, rfl, rfl, rfl, rfl, rfl, rfl, rfl, rfl, rfl, rfl, rfl, rfl, rfl, rfl, rfl, rfl, rfl, rfl, rfl, rfl, rfl⟩

/-- setGoosePub writes station alone. -/
@[simp] theorem State.setGoosePub_frame (n : Nat) (v : GoosePub) :
    (s.setGoosePub n v).clock = s.clock ∧ (s.setGoosePub n v).free = s.free ∧ (s.setGoosePub n v).pending = s.pending ∧
    (s.setGoosePub n v).sent = s.sent ∧ (s.setGoosePub n v).setAt = s.setAt ∧ (s.setGoosePub n v).od = s.od ∧
    (s.setGoosePub n v).store = s.store ∧ (s.setGoosePub n v).dict = s.dict ∧ (s.setGoosePub n v).ctxs = s.ctxs ∧
    (s.setGoosePub n v).fc = s.fc ∧ (s.setGoosePub n v).modes = s.modes ∧ (s.setGoosePub n v).ring = s.ring ∧
    (s.setGoosePub n v).sw = s.sw ∧ (s.setGoosePub n v).shutter = s.shutter ∧ (s.setGoosePub n v).chans = s.chans ∧
    (s.setGoosePub n v).heldDel = s.heldDel ∧ (s.setGoosePub n v).locks = s.locks ∧ (s.setGoosePub n v).engines = s.engines ∧
    (s.setGoosePub n v).clusters = s.clusters ∧ (s.setGoosePub n v).banks = s.banks ∧ (s.setGoosePub n v).dram = s.dram ∧
    (s.setGoosePub n v).dramWait = s.dramWait ∧ (s.setGoosePub n v).time = s.time ∧ (s.setGoosePub n v).phase = s.phase ∧
    (s.setGoosePub n v).pair = s.pair ∧ (s.setGoosePub n v).sec = s.sec ∧ (s.setGoosePub n v).cores = s.cores ∧
    (s.setGoosePub n v).can = s.can ∧ (s.setGoosePub n v).bridge = s.bridge ∧ (s.setGoosePub n v).flash = s.flash ∧
    (s.setGoosePub n v).bist = s.bist ∧ (s.setGoosePub n v).power = s.power :=
  ⟨rfl, rfl, rfl, rfl, rfl, rfl, rfl, rfl, rfl, rfl, rfl, rfl, rfl, rfl, rfl, rfl, rfl, rfl, rfl, rfl, rfl, rfl, rfl, rfl, rfl, rfl, rfl, rfl, rfl, rfl, rfl, rfl⟩

/-- setGooseSub writes station alone. -/
@[simp] theorem State.setGooseSub_frame (n : Nat) (v : GooseSub) :
    (s.setGooseSub n v).clock = s.clock ∧ (s.setGooseSub n v).free = s.free ∧ (s.setGooseSub n v).pending = s.pending ∧
    (s.setGooseSub n v).sent = s.sent ∧ (s.setGooseSub n v).setAt = s.setAt ∧ (s.setGooseSub n v).od = s.od ∧
    (s.setGooseSub n v).store = s.store ∧ (s.setGooseSub n v).dict = s.dict ∧ (s.setGooseSub n v).ctxs = s.ctxs ∧
    (s.setGooseSub n v).fc = s.fc ∧ (s.setGooseSub n v).modes = s.modes ∧ (s.setGooseSub n v).ring = s.ring ∧
    (s.setGooseSub n v).sw = s.sw ∧ (s.setGooseSub n v).shutter = s.shutter ∧ (s.setGooseSub n v).chans = s.chans ∧
    (s.setGooseSub n v).heldDel = s.heldDel ∧ (s.setGooseSub n v).locks = s.locks ∧ (s.setGooseSub n v).engines = s.engines ∧
    (s.setGooseSub n v).clusters = s.clusters ∧ (s.setGooseSub n v).banks = s.banks ∧ (s.setGooseSub n v).dram = s.dram ∧
    (s.setGooseSub n v).dramWait = s.dramWait ∧ (s.setGooseSub n v).time = s.time ∧ (s.setGooseSub n v).phase = s.phase ∧
    (s.setGooseSub n v).pair = s.pair ∧ (s.setGooseSub n v).sec = s.sec ∧ (s.setGooseSub n v).cores = s.cores ∧
    (s.setGooseSub n v).can = s.can ∧ (s.setGooseSub n v).bridge = s.bridge ∧ (s.setGooseSub n v).flash = s.flash ∧
    (s.setGooseSub n v).bist = s.bist ∧ (s.setGooseSub n v).power = s.power :=
  ⟨rfl, rfl, rfl, rfl, rfl, rfl, rfl, rfl, rfl, rfl, rfl, rfl, rfl, rfl, rfl, rfl, rfl, rfl, rfl, rfl, rfl, rfl, rfl, rfl, rfl, rfl, rfl, rfl, rfl, rfl, rfl, rfl⟩

/-- setSvPub writes station alone. -/
@[simp] theorem State.setSvPub_frame (n : Nat) (v : SvPub) :
    (s.setSvPub n v).clock = s.clock ∧ (s.setSvPub n v).free = s.free ∧ (s.setSvPub n v).pending = s.pending ∧
    (s.setSvPub n v).sent = s.sent ∧ (s.setSvPub n v).setAt = s.setAt ∧ (s.setSvPub n v).od = s.od ∧
    (s.setSvPub n v).store = s.store ∧ (s.setSvPub n v).dict = s.dict ∧ (s.setSvPub n v).ctxs = s.ctxs ∧ (s.setSvPub n v).fc = s.fc ∧
    (s.setSvPub n v).modes = s.modes ∧ (s.setSvPub n v).ring = s.ring ∧ (s.setSvPub n v).sw = s.sw ∧
    (s.setSvPub n v).shutter = s.shutter ∧ (s.setSvPub n v).chans = s.chans ∧ (s.setSvPub n v).heldDel = s.heldDel ∧
    (s.setSvPub n v).locks = s.locks ∧ (s.setSvPub n v).engines = s.engines ∧ (s.setSvPub n v).clusters = s.clusters ∧
    (s.setSvPub n v).banks = s.banks ∧ (s.setSvPub n v).dram = s.dram ∧ (s.setSvPub n v).dramWait = s.dramWait ∧
    (s.setSvPub n v).time = s.time ∧ (s.setSvPub n v).phase = s.phase ∧ (s.setSvPub n v).pair = s.pair ∧
    (s.setSvPub n v).sec = s.sec ∧ (s.setSvPub n v).cores = s.cores ∧ (s.setSvPub n v).can = s.can ∧
    (s.setSvPub n v).bridge = s.bridge ∧ (s.setSvPub n v).flash = s.flash ∧ (s.setSvPub n v).bist = s.bist ∧
    (s.setSvPub n v).power = s.power :=
  ⟨rfl, rfl, rfl, rfl, rfl, rfl, rfl, rfl, rfl, rfl, rfl, rfl, rfl, rfl, rfl, rfl, rfl, rfl, rfl, rfl, rfl, rfl, rfl, rfl, rfl, rfl, rfl, rfl, rfl, rfl, rfl, rfl⟩

/-- setSvSub writes station alone. -/
@[simp] theorem State.setSvSub_frame (n : Nat) (v : SvSub) :
    (s.setSvSub n v).clock = s.clock ∧ (s.setSvSub n v).free = s.free ∧ (s.setSvSub n v).pending = s.pending ∧
    (s.setSvSub n v).sent = s.sent ∧ (s.setSvSub n v).setAt = s.setAt ∧ (s.setSvSub n v).od = s.od ∧
    (s.setSvSub n v).store = s.store ∧ (s.setSvSub n v).dict = s.dict ∧ (s.setSvSub n v).ctxs = s.ctxs ∧ (s.setSvSub n v).fc = s.fc ∧
    (s.setSvSub n v).modes = s.modes ∧ (s.setSvSub n v).ring = s.ring ∧ (s.setSvSub n v).sw = s.sw ∧
    (s.setSvSub n v).shutter = s.shutter ∧ (s.setSvSub n v).chans = s.chans ∧ (s.setSvSub n v).heldDel = s.heldDel ∧
    (s.setSvSub n v).locks = s.locks ∧ (s.setSvSub n v).engines = s.engines ∧ (s.setSvSub n v).clusters = s.clusters ∧
    (s.setSvSub n v).banks = s.banks ∧ (s.setSvSub n v).dram = s.dram ∧ (s.setSvSub n v).dramWait = s.dramWait ∧
    (s.setSvSub n v).time = s.time ∧ (s.setSvSub n v).phase = s.phase ∧ (s.setSvSub n v).pair = s.pair ∧
    (s.setSvSub n v).sec = s.sec ∧ (s.setSvSub n v).cores = s.cores ∧ (s.setSvSub n v).can = s.can ∧
    (s.setSvSub n v).bridge = s.bridge ∧ (s.setSvSub n v).flash = s.flash ∧ (s.setSvSub n v).bist = s.bist ∧
    (s.setSvSub n v).power = s.power :=
  ⟨rfl, rfl, rfl, rfl, rfl, rfl, rfl, rfl, rfl, rfl, rfl, rfl, rfl, rfl, rfl, rfl, rfl, rfl, rfl, rfl, rfl, rfl, rfl, rfl, rfl, rfl, rfl, rfl, rfl, rfl, rfl, rfl⟩

/-- setSoeIn writes station alone. -/
@[simp] theorem State.setSoeIn_frame (n : Nat) (v : SoeIn) :
    (s.setSoeIn n v).clock = s.clock ∧ (s.setSoeIn n v).free = s.free ∧ (s.setSoeIn n v).pending = s.pending ∧
    (s.setSoeIn n v).sent = s.sent ∧ (s.setSoeIn n v).setAt = s.setAt ∧ (s.setSoeIn n v).od = s.od ∧
    (s.setSoeIn n v).store = s.store ∧ (s.setSoeIn n v).dict = s.dict ∧ (s.setSoeIn n v).ctxs = s.ctxs ∧ (s.setSoeIn n v).fc = s.fc ∧
    (s.setSoeIn n v).modes = s.modes ∧ (s.setSoeIn n v).ring = s.ring ∧ (s.setSoeIn n v).sw = s.sw ∧
    (s.setSoeIn n v).shutter = s.shutter ∧ (s.setSoeIn n v).chans = s.chans ∧ (s.setSoeIn n v).heldDel = s.heldDel ∧
    (s.setSoeIn n v).locks = s.locks ∧ (s.setSoeIn n v).engines = s.engines ∧ (s.setSoeIn n v).clusters = s.clusters ∧
    (s.setSoeIn n v).banks = s.banks ∧ (s.setSoeIn n v).dram = s.dram ∧ (s.setSoeIn n v).dramWait = s.dramWait ∧
    (s.setSoeIn n v).time = s.time ∧ (s.setSoeIn n v).phase = s.phase ∧ (s.setSoeIn n v).pair = s.pair ∧
    (s.setSoeIn n v).sec = s.sec ∧ (s.setSoeIn n v).cores = s.cores ∧ (s.setSoeIn n v).can = s.can ∧
    (s.setSoeIn n v).bridge = s.bridge ∧ (s.setSoeIn n v).flash = s.flash ∧ (s.setSoeIn n v).bist = s.bist ∧
    (s.setSoeIn n v).power = s.power :=
  ⟨rfl, rfl, rfl, rfl, rfl, rfl, rfl, rfl, rfl, rfl, rfl, rfl, rfl, rfl, rfl, rfl, rfl, rfl, rfl, rfl, rfl, rfl, rfl, rfl, rfl, rfl, rfl, rfl, rfl, rfl, rfl, rfl⟩

/-- setChatter writes station alone. -/
@[simp] theorem State.setChatter_frame (n : Nat) (v : Chatter) :
    (s.setChatter n v).clock = s.clock ∧ (s.setChatter n v).free = s.free ∧ (s.setChatter n v).pending = s.pending ∧
    (s.setChatter n v).sent = s.sent ∧ (s.setChatter n v).setAt = s.setAt ∧ (s.setChatter n v).od = s.od ∧
    (s.setChatter n v).store = s.store ∧ (s.setChatter n v).dict = s.dict ∧ (s.setChatter n v).ctxs = s.ctxs ∧
    (s.setChatter n v).fc = s.fc ∧ (s.setChatter n v).modes = s.modes ∧ (s.setChatter n v).ring = s.ring ∧
    (s.setChatter n v).sw = s.sw ∧ (s.setChatter n v).shutter = s.shutter ∧ (s.setChatter n v).chans = s.chans ∧
    (s.setChatter n v).heldDel = s.heldDel ∧ (s.setChatter n v).locks = s.locks ∧ (s.setChatter n v).engines = s.engines ∧
    (s.setChatter n v).clusters = s.clusters ∧ (s.setChatter n v).banks = s.banks ∧ (s.setChatter n v).dram = s.dram ∧
    (s.setChatter n v).dramWait = s.dramWait ∧ (s.setChatter n v).time = s.time ∧ (s.setChatter n v).phase = s.phase ∧
    (s.setChatter n v).pair = s.pair ∧ (s.setChatter n v).sec = s.sec ∧ (s.setChatter n v).cores = s.cores ∧
    (s.setChatter n v).can = s.can ∧ (s.setChatter n v).bridge = s.bridge ∧ (s.setChatter n v).flash = s.flash ∧
    (s.setChatter n v).bist = s.bist ∧ (s.setChatter n v).power = s.power :=
  ⟨rfl, rfl, rfl, rfl, rfl, rfl, rfl, rfl, rfl, rfl, rfl, rfl, rfl, rfl, rfl, rfl, rfl, rfl, rfl, rfl, rfl, rfl, rfl, rfl, rfl, rfl, rfl, rfl, rfl, rfl, rfl, rfl⟩

/-- setPort writes ring alone. -/
@[simp] theorem State.setPort_frame (p : Port) (v : RingPort) :
    (s.setPort p v).clock = s.clock ∧ (s.setPort p v).free = s.free ∧ (s.setPort p v).pending = s.pending ∧
    (s.setPort p v).sent = s.sent ∧ (s.setPort p v).setAt = s.setAt ∧ (s.setPort p v).od = s.od ∧ (s.setPort p v).store = s.store ∧
    (s.setPort p v).dict = s.dict ∧ (s.setPort p v).ctxs = s.ctxs ∧ (s.setPort p v).fc = s.fc ∧ (s.setPort p v).modes = s.modes ∧
    (s.setPort p v).sw = s.sw ∧ (s.setPort p v).shutter = s.shutter ∧ (s.setPort p v).chans = s.chans ∧
    (s.setPort p v).heldDel = s.heldDel ∧ (s.setPort p v).locks = s.locks ∧ (s.setPort p v).engines = s.engines ∧
    (s.setPort p v).clusters = s.clusters ∧ (s.setPort p v).banks = s.banks ∧ (s.setPort p v).dram = s.dram ∧
    (s.setPort p v).dramWait = s.dramWait ∧ (s.setPort p v).time = s.time ∧ (s.setPort p v).phase = s.phase ∧
    (s.setPort p v).pair = s.pair ∧ (s.setPort p v).sec = s.sec ∧ (s.setPort p v).station = s.station ∧
    (s.setPort p v).cores = s.cores ∧ (s.setPort p v).can = s.can ∧ (s.setPort p v).bridge = s.bridge ∧
    (s.setPort p v).flash = s.flash ∧ (s.setPort p v).bist = s.bist ∧ (s.setPort p v).power = s.power := by
  cases p <;> exact ⟨rfl, rfl, rfl, rfl, rfl, rfl, rfl, rfl, rfl, rfl, rfl, rfl, rfl, rfl, rfl, rfl, rfl, rfl, rfl, rfl, rfl, rfl, rfl, rfl, rfl, rfl, rfl, rfl, rfl, rfl, rfl, rfl⟩

/-- setFeed writes power alone. -/
@[simp] theorem State.setFeed_frame (f : Nat) (v : Feed) :
    (s.setFeed f v).clock = s.clock ∧ (s.setFeed f v).free = s.free ∧ (s.setFeed f v).pending = s.pending ∧
    (s.setFeed f v).sent = s.sent ∧ (s.setFeed f v).setAt = s.setAt ∧ (s.setFeed f v).od = s.od ∧ (s.setFeed f v).store = s.store ∧
    (s.setFeed f v).dict = s.dict ∧ (s.setFeed f v).ctxs = s.ctxs ∧ (s.setFeed f v).fc = s.fc ∧ (s.setFeed f v).modes = s.modes ∧
    (s.setFeed f v).ring = s.ring ∧ (s.setFeed f v).sw = s.sw ∧ (s.setFeed f v).shutter = s.shutter ∧
    (s.setFeed f v).chans = s.chans ∧ (s.setFeed f v).heldDel = s.heldDel ∧ (s.setFeed f v).locks = s.locks ∧
    (s.setFeed f v).engines = s.engines ∧ (s.setFeed f v).clusters = s.clusters ∧ (s.setFeed f v).banks = s.banks ∧
    (s.setFeed f v).dram = s.dram ∧ (s.setFeed f v).dramWait = s.dramWait ∧ (s.setFeed f v).time = s.time ∧
    (s.setFeed f v).phase = s.phase ∧ (s.setFeed f v).pair = s.pair ∧ (s.setFeed f v).sec = s.sec ∧
    (s.setFeed f v).station = s.station ∧ (s.setFeed f v).cores = s.cores ∧ (s.setFeed f v).can = s.can ∧
    (s.setFeed f v).bridge = s.bridge ∧ (s.setFeed f v).flash = s.flash ∧ (s.setFeed f v).bist = s.bist := by
  unfold State.setFeed; split <;> exact ⟨rfl, rfl, rfl, rfl, rfl, rfl, rfl, rfl, rfl, rfl, rfl, rfl, rfl, rfl, rfl, rfl, rfl, rfl, rfl, rfl, rfl, rfl, rfl, rfl, rfl, rfl, rfl, rfl, rfl, rfl, rfl, rfl⟩

end Sys2Proof.Machine
end

