-- ==== Sys2Proof/Laws/Reads.lean ====
section
/-!
SUPPORT. What reading gives after writing: each numbered part of the state read back after it, or another, was written; the same of the
dictionary and of memory, byte by byte.
-/

namespace Sys2Proof.Machine

variable (s : State)

theorem State.eng_setEng (k j : Nat) (v : Engine) : (s.setEng k v).eng j = if j = k then v else s.eng j := tget_tset _ _ _ _ _

@[simp] theorem State.eng_setEng_self (k : Nat) (v : Engine) : (s.setEng k v).eng k = v := tget_tset_self _ _ _ _

theorem State.chan_setChan (k j : Nat) (v : Chan) : (s.setChan k v).chan j = if j = k then v else s.chan j := tget_tset _ _ _ _ _

@[simp] theorem State.chan_setChan_self (k : Nat) (v : Chan) : (s.setChan k v).chan k = v := tget_tset_self _ _ _ _

theorem State.cluster_setCluster (k j : Nat) (v : Cluster) : (s.setCluster k v).cluster j = if j = k then v else s.cluster j := tget_tset _ _ _ _ _

@[simp] theorem State.cluster_setCluster_self (k : Nat) (v : Cluster) : (s.setCluster k v).cluster k = v := tget_tset_self _ _ _ _

theorem State.bank_setBank (k j : Nat) (v : Bank) : (s.setBank k v).bank j = if j = k then v else s.bank j := tget_tset _ _ _ _ _

@[simp] theorem State.bank_setBank_self (k : Nat) (v : Bank) : (s.setBank k v).bank k = v := tget_tset_self _ _ _ _

theorem State.lock_setLock (k j : Nat) (v : Lock) : (s.setLock k v).lock j = if j = k then v else s.lock j := tget_tset _ _ _ _ _

@[simp] theorem State.lock_setLock_self (k : Nat) (v : Lock) : (s.setLock k v).lock k = v := tget_tset_self _ _ _ _

theorem State.session_setSession (k j : Nat) (v : Session) : (s.setSession k v).session j = if j = k then v else s.session j := tget_tset _ _ _ _ _

@[simp] theorem State.session_setSession_self (k : Nat) (v : Session) : (s.setSession k v).session k = v := tget_tset_self _ _ _ _

theorem State.ctl_setCtl (k j : Nat) (v : CanCtl) : (s.setCtl k v).ctl j = if j = k then v else s.ctl j := tget_tset _ _ _ _ _

@[simp] theorem State.ctl_setCtl_self (k : Nat) (v : CanCtl) : (s.setCtl k v).ctl k = v := tget_tset_self _ _ _ _

theorem State.svc_setSvc (k j : Nat) (v : Svc) : (s.setSvc k v).svc j = if j = k then v else s.svc j := tget_tset _ _ _ _ _

@[simp] theorem State.svc_setSvc_self (k : Nat) (v : Svc) : (s.setSvc k v).svc k = v := tget_tset_self _ _ _ _

theorem State.coreSt_setCoreSt (k j : Nat) (v : CoreSt) : (s.setCoreSt k v).coreSt j = if j = k then v else s.coreSt j := tget_tset _ _ _ _ _

@[simp] theorem State.coreSt_setCoreSt_self (k : Nat) (v : CoreSt) : (s.setCoreSt k v).coreSt k = v := tget_tset_self _ _ _ _

theorem State.field_setField (k j : Nat) (v : Field) : (s.setField k v).field j = if j = k then v else s.field j := tget_tset _ _ _ _ _

@[simp] theorem State.field_setField_self (k : Nat) (v : Field) : (s.setField k v).field k = v := tget_tset_self _ _ _ _

theorem State.slot_setSlot (k j : Nat) (v : KeySlot) : (s.setSlot k v).slot j = if j = k then v else s.slot j := tget_tset _ _ _ _ _

@[simp] theorem State.slot_setSlot_self (k : Nat) (v : KeySlot) : (s.setSlot k v).slot k = v := tget_tset_self _ _ _ _

theorem State.chatter_setChatter (k j : Nat) (v : Chatter) : (s.setChatter k v).chatter j = if j = k then v else s.chatter j := tget_tset _ _ _ _ _

@[simp] theorem State.chatter_setChatter_self (k : Nat) (v : Chatter) : (s.setChatter k v).chatter k = v := tget_tset_self _ _ _ _

theorem State.soeIn_setSoeIn (k j : Nat) (v : SoeIn) : (s.setSoeIn k v).soeIn j = if j = k then v else s.soeIn j := tget_tset _ _ _ _ _

@[simp] theorem State.soeIn_setSoeIn_self (k : Nat) (v : SoeIn) : (s.setSoeIn k v).soeIn k = v := tget_tset_self _ _ _ _

theorem State.goosePub_setGoosePub (k j : Nat) (v : GoosePub) : (s.setGoosePub k v).goosePub j = if j = k then v else s.goosePub j := tget_tset _ _ _ _ _

@[simp] theorem State.goosePub_setGoosePub_self (k : Nat) (v : GoosePub) : (s.setGoosePub k v).goosePub k = v := tget_tset_self _ _ _ _

theorem State.gooseSub_setGooseSub (k j : Nat) (v : GooseSub) : (s.setGooseSub k v).gooseSub j = if j = k then v else s.gooseSub j := tget_tset _ _ _ _ _

@[simp] theorem State.gooseSub_setGooseSub_self (k : Nat) (v : GooseSub) : (s.setGooseSub k v).gooseSub k = v := tget_tset_self _ _ _ _

theorem State.svSub_setSvSub (k j : Nat) (v : SvSub) : (s.setSvSub k v).svSub j = if j = k then v else s.svSub j := tget_tset _ _ _ _ _

@[simp] theorem State.svSub_setSvSub_self (k : Nat) (v : SvSub) : (s.setSvSub k v).svSub k = v := tget_tset_self _ _ _ _

theorem State.svPub_setSvPub (k j : Nat) (v : SvPub) : (s.setSvPub k v).svPub j = if j = k then v else s.svPub j := tget_tset _ _ _ _ _

@[simp] theorem State.svPub_setSvPub_self (k : Nat) (v : SvPub) : (s.setSvPub k v).svPub k = v := tget_tset_self _ _ _ _

theorem State.trk_setTrk (k j : Nat) (v : Tracker) : (s.setTrk k v).trk j = if j = k then v else s.trk j := tget_tset _ _ _ _ _

@[simp] theorem State.trk_setTrk_self (k : Nat) (v : Tracker) : (s.setTrk k v).trk k = v := tget_tset_self _ _ _ _

theorem State.cal_setCal (k j : Nat) (v : CalEntry) : (s.setCal k v).cal j = if j = k then v else s.cal j := tget_tset _ _ _ _ _

@[simp] theorem State.cal_setCal_self (k : Nat) (v : CalEntry) : (s.setCal k v).cal k = v := tget_tset_self _ _ _ _

theorem State.imgSlot_setImgSlot (k j : Nat) (v : Slot) : (s.setImgSlot k v).imgSlot j = if j = k then v else s.imgSlot j := tget_tset _ _ _ _ _

@[simp] theorem State.imgSlot_setImgSlot_self (k : Nat) (v : Slot) : (s.setImgSlot k v).imgSlot k = v := tget_tset_self _ _ _ _

theorem State.brk_setBrk (k j : Nat) (v : Breaker) : (s.setBrk k v).brk j = if j = k then v else s.brk j := tget_tset _ _ _ _ _

@[simp] theorem State.brk_setBrk_self (k : Nat) (v : Breaker) : (s.setBrk k v).brk k = v := tget_tset_self _ _ _ _

theorem State.queue_setQueue (k j : Nat) (v : Queue) : (s.setQueue k v).queue j = if j = k then v else s.queue j := tget_tset _ _ _ _ _

@[simp] theorem State.queue_setQueue_self (k : Nat) (v : Queue) : (s.setQueue k v).queue k = v := tget_tset_self _ _ _ _

theorem State.specTag_setSpecTag (k j : Nat) (v : Option SpecTag) : (s.setSpecTag k v).specTag j = if j = k then v else s.specTag j := tget_tset _ _ _ _ _

@[simp] theorem State.specTag_setSpecTag_self (k : Nat) (v : Option SpecTag) : (s.setSpecTag k v).specTag k = v := tget_tset_self _ _ _ _

theorem State.cell_setCell (k j : Nat) (v : Cell) : (s.setCell k v).cell j = if j = k then v else s.cell j := tgetF_tsetF _ _ _ _ _

@[simp] theorem State.cell_setCell_self (k : Nat) (v : Cell) : (s.setCell k v).cell k = v := tgetF_tsetF_self _ _ _ _

theorem State.port_setPort (p q : Port) (v : RingPort) : (s.setPort p v).port q = if q = p then v else s.port q := by
  cases p <;> cases q <;> rfl

@[simp] theorem State.port_setPort_self (p : Port) (v : RingPort) : (s.setPort p v).port p = v := by cases p <;> rfl

@[simp] theorem State.ctx_setCtx_self (c : Ctx) (v : RegCtx) : (s.setCtx c v).ctx c = v := tget_tset_self _ _ _ _

theorem State.ctx_setCtx_ne {c d : Ctx} (h : ctxKey d ≠ ctxKey c) (v : RegCtx) : (s.setCtx c v).ctx d = s.ctx d := tget_tset_ne _ h _ _

@[simp] theorem State.pathAuth_setPathAuth_self (p : Path) (v : PathAuth) : (s.setPathAuth p v).pathAuth p = v := tget_tset_self _ _ _ _

theorem State.pathAuth_setPathAuth_ne {p q : Path} (h : q ≠ p) (v : PathAuth) : (s.setPathAuth p v).pathAuth q = s.pathAuth q :=
  tget_tset_ne _ (by cases p <;> cases q <;> first | exact absurd rfl h | decide) _ _

/-! ### The dictionary -/

/-- The key of an item names its entry and its item. -/
theorem objKey_inj {i j k i' j' k' : Nat} (hj : j < 256) (hj' : j' < 256) (hk : k < 65536) (hk' : k' < 65536)
    (h : objKey i j k = objKey i' j' k') : i = i' ∧ j = j' ∧ k = k' := by
  unfold objKey at h; omega

@[simp] theorem State.val_setVal_self (i j k : Nat) (v : Val) : (s.setVal i j k v).val i j k = v := tgetF_tsetF_self _ _ _ _

theorem State.val_setVal_ne {i j k i' j' k' : Nat} (h : objKey i' j' k' ≠ objKey i j k) (v : Val) :
    (s.setVal i j k v).val i' j' k' = s.val i' j' k' := tgetF_tsetF_ne _ h _ _

@[simp] theorem State.o_setO_self (i j k n : Nat) : (s.setO i j k n).o i j k = n := by
  simp [State.o, State.setO, valNat]

theorem State.o_setO_ne {i j k i' j' k' : Nat} (h : objKey i' j' k' ≠ objKey i j k) (n : Nat) :
    (s.setO i j k n).o i' j' k' = s.o i' j' k' := by
  unfold State.o State.setO; rw [State.val_setVal_ne _ h]

/-- Counting up stops at the top of the counter. -/
@[simp] theorem State.o_bumpBy_self (i j k n : Nat) : (s.bumpBy i j k n).o i j k = min (s.o i j k + n) 0xFFFFFFFF := State.o_setO_self _ _ _ _ _

theorem State.o_bump_self (i j k : Nat) : (s.bump i j k).o i j k = min (s.o i j k + 1) 0xFFFFFFFF := State.o_setO_self _ _ _ _ _

@[simp] theorem State.setEng_val (n : Nat) (v : Engine) (i j k : Nat) : (s.setEng n v).val i j k = s.val i j k := rfl
@[simp] theorem State.setEng_o (n : Nat) (v : Engine) (i j k : Nat) : (s.setEng n v).o i j k = s.o i j k := rfl

@[simp] theorem State.setChan_val (n : Nat) (v : Chan) (i j k : Nat) : (s.setChan n v).val i j k = s.val i j k := rfl
@[simp] theorem State.setChan_o (n : Nat) (v : Chan) (i j k : Nat) : (s.setChan n v).o i j k = s.o i j k := rfl

@[simp] theorem State.setCluster_val (n : Nat) (v : Cluster) (i j k : Nat) : (s.setCluster n v).val i j k = s.val i j k := rfl
@[simp] theorem State.setCluster_o (n : Nat) (v : Cluster) (i j k : Nat) : (s.setCluster n v).o i j k = s.o i j k := rfl

@[simp] theorem State.setBank_val (n : Nat) (v : Bank) (i j k : Nat) : (s.setBank n v).val i j k = s.val i j k := rfl
@[simp] theorem State.setBank_o (n : Nat) (v : Bank) (i j k : Nat) : (s.setBank n v).o i j k = s.o i j k := rfl

@[simp] theorem State.setLock_val (n : Nat) (v : Lock) (i j k : Nat) : (s.setLock n v).val i j k = s.val i j k := rfl
@[simp] theorem State.setLock_o (n : Nat) (v : Lock) (i j k : Nat) : (s.setLock n v).o i j k = s.o i j k := rfl

@[simp] theorem State.setSession_val (n : Nat) (v : Session) (i j k : Nat) : (s.setSession n v).val i j k = s.val i j k := rfl
@[simp] theorem State.setSession_o (n : Nat) (v : Session) (i j k : Nat) : (s.setSession n v).o i j k = s.o i j k := rfl

@[simp] theorem State.setCtl_val (n : Nat) (v : CanCtl) (i j k : Nat) : (s.setCtl n v).val i j k = s.val i j k := rfl
@[simp] theorem State.setCtl_o (n : Nat) (v : CanCtl) (i j k : Nat) : (s.setCtl n v).o i j k = s.o i j k := rfl

@[simp] theorem State.setSvc_val (n : Nat) (v : Svc) (i j k : Nat) : (s.setSvc n v).val i j k = s.val i j k := rfl
@[simp] theorem State.setSvc_o (n : Nat) (v : Svc) (i j k : Nat) : (s.setSvc n v).o i j k = s.o i j k := rfl

@[simp] theorem State.setCoreSt_val (n : Nat) (v : CoreSt) (i j k : Nat) : (s.setCoreSt n v).val i j k = s.val i j k := rfl
@[simp] theorem State.setCoreSt_o (n : Nat) (v : CoreSt) (i j k : Nat) : (s.setCoreSt n v).o i j k = s.o i j k := rfl

@[simp] theorem State.setField_val (n : Nat) (v : Field) (i j k : Nat) : (s.setField n v).val i j k = s.val i j k := rfl
@[simp] theorem State.setField_o (n : Nat) (v : Field) (i j k : Nat) : (s.setField n v).o i j k = s.o i j k := rfl

@[simp] theorem State.setSlot_val (n : Nat) (v : KeySlot) (i j k : Nat) : (s.setSlot n v).val i j k = s.val i j k := rfl
@[simp] theorem State.setSlot_o (n : Nat) (v : KeySlot) (i j k : Nat) : (s.setSlot n v).o i j k = s.o i j k := rfl

@[simp] theorem State.setChatter_val (n : Nat) (v : Chatter) (i j k : Nat) : (s.setChatter n v).val i j k = s.val i j k := rfl
@[simp] theorem State.setChatter_o (n : Nat) (v : Chatter) (i j k : Nat) : (s.setChatter n v).o i j k = s.o i j k := rfl

@[simp] theorem State.setSoeIn_val (n : Nat) (v : SoeIn) (i j k : Nat) : (s.setSoeIn n v).val i j k = s.val i j k := rfl
@[simp] theorem State.setSoeIn_o (n : Nat) (v : SoeIn) (i j k : Nat) : (s.setSoeIn n v).o i j k = s.o i j k := rfl

@[simp] theorem State.setGoosePub_val (n : Nat) (v : GoosePub) (i j k : Nat) : (s.setGoosePub n v).val i j k = s.val i j k := rfl
@[simp] theorem State.setGoosePub_o (n : Nat) (v : GoosePub) (i j k : Nat) : (s.setGoosePub n v).o i j k = s.o i j k := rfl

@[simp] theorem State.setGooseSub_val (n : Nat) (v : GooseSub) (i j k : Nat) : (s.setGooseSub n v).val i j k = s.val i j k := rfl
@[simp] theorem State.setGooseSub_o (n : Nat) (v : GooseSub) (i j k : Nat) : (s.setGooseSub n v).o i j k = s.o i j k := rfl

@[simp] theorem State.setSvSub_val (n : Nat) (v : SvSub) (i j k : Nat) : (s.setSvSub n v).val i j k = s.val i j k := rfl
@[simp] theorem State.setSvSub_o (n : Nat) (v : SvSub) (i j k : Nat) : (s.setSvSub n v).o i j k = s.o i j k := rfl

@[simp] theorem State.setSvPub_val (n : Nat) (v : SvPub) (i j k : Nat) : (s.setSvPub n v).val i j k = s.val i j k := rfl
@[simp] theorem State.setSvPub_o (n : Nat) (v : SvPub) (i j k : Nat) : (s.setSvPub n v).o i j k = s.o i j k := rfl

@[simp] theorem State.setTrk_val (n : Nat) (v : Tracker) (i j k : Nat) : (s.setTrk n v).val i j k = s.val i j k := rfl
@[simp] theorem State.setTrk_o (n : Nat) (v : Tracker) (i j k : Nat) : (s.setTrk n v).o i j k = s.o i j k := rfl

@[simp] theorem State.setCal_val (n : Nat) (v : CalEntry) (i j k : Nat) : (s.setCal n v).val i j k = s.val i j k := rfl
@[simp] theorem State.setCal_o (n : Nat) (v : CalEntry) (i j k : Nat) : (s.setCal n v).o i j k = s.o i j k := rfl

@[simp] theorem State.setImgSlot_val (n : Nat) (v : Slot) (i j k : Nat) : (s.setImgSlot n v).val i j k = s.val i j k := rfl
@[simp] theorem State.setImgSlot_o (n : Nat) (v : Slot) (i j k : Nat) : (s.setImgSlot n v).o i j k = s.o i j k := rfl

@[simp] theorem State.setBrk_val (n : Nat) (v : Breaker) (i j k : Nat) : (s.setBrk n v).val i j k = s.val i j k := rfl
@[simp] theorem State.setBrk_o (n : Nat) (v : Breaker) (i j k : Nat) : (s.setBrk n v).o i j k = s.o i j k := rfl

@[simp] theorem State.setQueue_val (n : Nat) (v : Queue) (i j k : Nat) : (s.setQueue n v).val i j k = s.val i j k := rfl
@[simp] theorem State.setQueue_o (n : Nat) (v : Queue) (i j k : Nat) : (s.setQueue n v).o i j k = s.o i j k := rfl

@[simp] theorem State.setSpecTag_val (n : Nat) (v : Option SpecTag) (i j k : Nat) : (s.setSpecTag n v).val i j k = s.val i j k := rfl
@[simp] theorem State.setSpecTag_o (n : Nat) (v : Option SpecTag) (i j k : Nat) : (s.setSpecTag n v).o i j k = s.o i j k := rfl

@[simp] theorem State.emit_o (x : Output) (i j k : Nat) : (s.emit x).o i j k = s.o i j k := rfl
@[simp] theorem State.emit_val (x : Output) (i j k : Nat) : (s.emit x).val i j k = s.val i j k := rfl
@[simp] theorem State.drew_o (i j k : Nat) : s.drew.o i j k = s.o i j k := rfl
@[simp] theorem State.setCtx_o (c : Ctx) (v : RegCtx) (i j k : Nat) : (s.setCtx c v).o i j k = s.o i j k := rfl
@[simp] theorem State.setPort_o (p : Port) (v : RingPort) (i j k : Nat) : (s.setPort p v).o i j k = s.o i j k := by cases p <;> rfl

/-! ### Memory -/

theorem State.dramByte_setDram (a j : Nat) (b : Byte) : (s.setDram a b).dramByte j = if j = a then b else s.dramByte j := tget_tset _ _ _ _ _

/-- A byte after a run of bytes was written: the one written there, or what it was. -/
theorem State.dramByte_writeDram (a : Nat) (l : List Byte) (j : Nat) :
    (s.writeDram a l).dramByte j = if a ≤ j ∧ j < a + l.length then l.getD (j - a) 0 else s.dramByte j := by
  induction l generalizing s a with
  | nil => simp [State.writeDram]
  | cons b l ih =>
    rw [State.writeDram, ih, State.dramByte_setDram]
    by_cases h : j = a
    · subst h; simp
    · by_cases h1 : a + 1 ≤ j ∧ j < a + 1 + l.length
      · have h2 : a ≤ j ∧ j < a + (b :: l).length := by simp; omega
        have h3 : j - a = (j - (a + 1)) + 1 := by omega
        rw [if_pos h1, if_pos h2, h3, List.getD_cons_succ]
      · have h2 : ¬(a ≤ j ∧ j < a + (b :: l).length) := by simp; omega
        rw [if_neg h1, if_neg h2, if_neg h]

/-- What was written is read back. -/
theorem State.readDram_writeDram_self (a : Nat) (l : List Byte) : (s.writeDram a l).readDram a l.length = l := by
  apply List.ext_getElem
  · simp [State.readDram]
  · intro i h h'
    simp only [State.readDram, List.getElem_map, List.getElem_range, State.dramByte_writeDram]
    rw [if_pos (by omega), show a + i - a = i by omega]
    simp [List.getD_eq_getElem?_getD, h']

/-- A run apart from the bytes written reads as before. -/
theorem State.readDram_writeDram_apart (a b n : Nat) (l : List Byte) (h : b + n ≤ a ∨ a + l.length ≤ b) :
    (s.writeDram a l).readDram b n = s.readDram b n := by
  unfold State.readDram
  apply List.map_congr_left
  intro i hi
  have := List.mem_range.mp hi
  rw [State.dramByte_writeDram, if_neg (by omega)]

/-- Writing memory leaves everything else of the state as it was. -/
theorem State.writeDram_frame (a : Nat) (l : List Byte) : s.writeDram a l = { s with dram := (s.writeDram a l).dram } := by
  induction l generalizing s a with
  | nil => rfl
  | cons b l ih => rw [State.writeDram, ih]; rfl

end Sys2Proof.Machine
end

