-- ==== Sys2Proof/Laws/Shared.lean ====
section
/-!
SUPPORT. What a few shared operations do, said once: counting, the answer to a session, a channel's write, an engine's start and stop,
entering reset.
-/

namespace Sys2Proof.Machine

variable (s : State)

/-- A session that is not open is not answered. -/
theorem State.answerAs_closed {n : Nat} (h : (s.session n).isOpen = false) (cmd : Nat) (r : Resp) : s.answerAs n cmd r = s := by
  simp [State.answerAs, h]

/-- Nor does it act. -/
theorem State.act_closed {n : Nat} (h : (s.session n).isOpen = false) (r : Act) : s.act n r = s := by
  simp [State.act, h]

/-- An open session being served is answered under its own header, and no longer waits. -/
theorem State.answerAs_serving {n : Nat} {t : Txn} (h : (s.session n).isOpen = true) (ht : (s.session n).serving = some t) (cmd : Nat)
    (r : Resp) : s.answerAs n cmd r = (s.setSession n { s.session n with serving := none }).respond t r := by
  simp [State.answerAs, h, ht]

/-- What an action that succeeded comes to is answered as a write. -/
theorem State.act_ok {n : Nat} (h : (s.session n).isOpen = true) (t : State) : s.act n (.ok t) = t.answer n (.ok []) := by
  simp [State.act, h]

/-- One that failed is answered with its abort code, and changes nothing else. -/
theorem State.act_error {n : Nat} (h : (s.session n).isOpen = true) (c : Nat) : s.act n (.error c) = s.answer n (.abort c) := by
  simp [State.act, h]

/-- A channel's write waits on a full channel, counts at a quarantined one and of a reserved kind, and else puts the item last; a confirmed
one goes to the tapping tracker too. -/
theorem State.chanWrite_cases {c : Nat} {i : Item} {t : State} (h : s.chanWrite c i = some t) :
    ((s.chan c).quarantined = true ∧ t = s.bump 0x5012 5 c) ∨
    ((s.chan c).quarantined = false ∧ i.kind = 15 ∧ t = s.bump 0x5012 1 c) ∨
    ((s.chan c).quarantined = false ∧ i.kind ≠ 15 ∧ (s.chan c).items.length < s.chanSize c ∧
      t = (let u := s.setChan c (chanMark { s.chan c with
            items := (s.chan c).items ++ [i], itemsIn := ((s.chan c).itemsIn + 1) % 2 ^ 32 })
          if i.unc.isNone then u.tapSee c [i] else u)) := by
  unfold State.chanWrite at h
  by_cases hq : (s.chan c).quarantined = true
  · exact .inl ⟨hq, by simpa [hq] using h.symm⟩
  by_cases hk : i.kind = 15
  · exact .inr (.inl ⟨by simpa using hq, hk, by simpa [hq, hk] using h.symm⟩)
  by_cases hf : (s.chan c).items.length ≥ s.chanSize c
  · exact absurd h (by simp [hq, hk, hf])
  · exact .inr (.inr ⟨by simpa using hq, hk, by omega, by simpa [hq, hk, hf] using h.symm⟩)

theorem State.chanWrite_full {c : Nat} {i : Item} (hq : (s.chan c).quarantined = false) (hk : i.kind ≠ 15)
    (hf : s.chanSize c ≤ (s.chan c).items.length) : s.chanWrite c i = none := by
  simp [State.chanWrite, hq, hk, hf]

/-- A retired engine does not stop; any other does. -/
theorem State.engineStop_st (e : Nat) : ((s.engineStop e).eng e).st = if (s.eng e).st = .retired then .retired else .stopped := by
  unfold State.engineStop
  split
  · assumption
  · simp [State.eng_setEng_self]

/-- A started engine runs, or is idle as a member of a lock group; a retired one stays so. -/
theorem State.engineStart_st (e : Nat) : ((s.engineStart e).eng e).st =
    if (s.eng e).st = .retired then .retired else if (s.engLock e).isSome then .groupIdle else .running := by
  unfold State.engineStart
  split
  · assumption
  · simp only [State.eng_setEng_self]; split <;> rfl

/-- Entering reset, from any mode, leaves the hub in reset with the outputs overridden. -/
theorem State.beginReset_mode (cause : Nat) : (s.beginReset cause).modes.mode = .reset ∧ (s.beginReset cause).modes.override = true := by
  unfold State.beginReset
  extract_lets
  split
  extract_lets
  split <;> exact ⟨rfl, rfl⟩

/-! ### Engines by cluster and place -/

@[simp] theorem clEng_of (e : Fin 256) : clEng (clOf e) (engPlace e) = e := by
  apply Fin.ext
  simp only [clEng, clOf, engPlace]
  omega

@[simp] theorem clOf_clEng (c k : Fin 16) : clOf (clEng c k) = c := by
  apply Fin.ext
  simp only [clEng, clOf]
  omega

@[simp] theorem engPlace_clEng (c k : Fin 16) : engPlace (clEng c k) = k := by
  apply Fin.ext
  simp only [clEng, engPlace]
  omega

end Sys2Proof.Machine
end

