-- ==== Sys2Proof/Tests/Slice0.lean ====
section
/-!
SUPPORT. Tests of one step or less: what WellFormed refuses, a few results worked from the spec, and for every obligation with hypotheses
states and operands that meet them, at the ends of their ranges.
-/

namespace Sys2Proof.Machine

open Sys2Proof

/- Each theorem is checked before the next begins: a machine of few threads holds them all. -/
set_option Elab.async false
/-! ### States for the witnesses -/

/-- A hub in a mode that the host reaches, all else as after reset. -/
def inMode (m : Mode) : State := { modes := { mode := m, pcieReady := true } }

/-- An open session 0 on the mailbox. -/
def openSess : Session := { isOpen := true, role := 4, path := .mailbox }

/-- The state with session 0 open. -/
def State.withSession (s : State) (x : Session) : State := { s with dict := { s.dict with sessions := [(0, x)] } }

/-- The state with one dictionary value set. -/
def State.withO (s : State) (index sub item n : Nat) : State := s.setO index sub item n

/-- The state at a later edge. -/
def State.at_ (s : State) (clock : Nat) : State := { s with clock := clock }

/-! ### Witnesses: the machine, security, self-test and power -/

/-- StepRunsFrontCommand and StepKeepsTablesCanonical: a queue with a command, and a canonical state that steps. -/
theorem met_step : ({ inMode .boot with pending := [.wrapMarker] } : State).pending = .wrapMarker :: [] ∧ State.reset.pending = [] ∧
    State.reset.Inv ∧ step State.reset = .next State.reset.tick ∧ ({ State.reset with pending := [.rngHealthRestored] } : State).Inv := by
  refine ⟨rfl, rfl, ?_, rfl, ?_⟩ <;> unfold State.Inv <;> decide +kernel

/-- A session whose staged key attributes ask for one purpose. -/
def keySession (attr : Nat) : Session := { openSess with own := [(objKey 0x8002 1 0, attr), (objKey 0x8002 2 0, 5)] }

/-- KeyCommandsLoadAndDestroy: a RING_TAG key of 128 bits by the mailbox in OPERATIONAL; imports of both lengths; a derivation. -/
theorem met_keys :
    (let s := (inMode .active).withSession (keySession 1)
     s.mayWrite 0 8 0x8003 1 ∧ (s.session 0).path = .mailbox ∧ { s with sec := { lc := 2 } }.mayWrite 0 8 0x8003 1 ∧
       { s with sec := { lc := 2 } }.sec.lc < 3 ∧ s.mayWrite 0 8 0x8003 3 ∧
       (List.replicate 16 (0 : Byte)).length = attrLen (s.ownGet 0 0x8002 1) ∧ attrOk (s.ownGet 0 0x8002 1) = true) ∧
    (let s : State := { (inMode .active).withSession openSess with sec := { slots := [(0, { state := 1, attr := 0x20040 })] } }
     s.mayWrite 0 8 0x8003 2 ∧ s.sec.lc < 3 ∧ s.keyRefused (s.ownGet 0 0x8002 3) 6 = none ∧ (List.replicate 40 (0 : Byte)).length = 40 ∧
       (List.replicate 56 (0 : Byte)).length = 56) ∧
    (let s : State := { (inMode .active).withSession (keySession 1) with
       sec := { rngOk := true, slots := [(0, { state := 1, attr := 0x20120 })] } }
     s.mayWrite 0 8 0x8003 3 ∧ s.sec.lc < 3 ∧ s.sec.rngOk = true ∧ s.keyRefused (s.ownGet 0 0x8002 4) 5 = none ∧
       attrOk (s.ownGet 0 0x8002 1) = true ∧
       ∀ i, i < 8 → bitOf (s.ownGet 0 0x8002 1) i = true → bitOf ((s.slot (s.ownGet 0 0x8002 4)).attr / 256 % 64) i = true) := by
  decide +kernel

/-- FusesLifeCycleAndRandomSource. -/
theorem met_fuses :
    (let s := (inMode .active).withSession openSess
     s.mayWrite 0 8 0x8030 1 ∧ s.mayWrite 0 8 0x9020 0 ∧ s.o 0x8030 1 ≠ 1 ∧ (s.imgSlot s.flash.running).key0 = false ∧ s.flash.trial = none ∧
       ((([0, 1].map ({ s with flash := { slots := [(0, { state := 3, rollback := 7 }), (1, { state := 1, rollback := 64 })] } } : State).imgSlot).filter
         (fun x : Slot => x.state = 1 || x.state = 3)).map (fun x : Slot => x.rollback)).min? = some 7) ∧
    (let s := (inMode .active).withSession openSess
     let v : W32 := 0xC0DE0004
     s.mayWrite 0 8 0x8040 0 ∧ s.mayWrite 0 16 0xB005 0 ∧ v.toNat / 256 = 0xC0DE00 ∧ v.toNat % 256 ≤ 4 ∧ s.sec.intent = none ∧
       lcAllowed s.sec.lc (v.toNat % 256) (s.o 0x8041 0) = true ∧ s.sec.lc = 0) := by
  decide +kernel

/-- SliceEndsRecordTheirOutcome: slice 9 runs, and a candidate of slice 0 is not its own. -/
theorem met_slices :
    let s : State := { inMode .shutdown with bist := { running := some 9, candidates := [{ macro_ := 0 }] } }
    s.bist.running = some 9 ∧ (∀ f ∈ s.bist.candidates, sliceOf f.macro_ ≠ 9) ∧ s.clock ≤ ticksMs (sliceBudget 9) + s.bist.sliceAt ∧
      ticksMs (sliceBudget 9) + (s.at_ (ticksMs (sliceBudget 9))).bist.sliceAt ≤ (s.at_ (ticksMs (sliceBudget 9))).clock := by decide +kernel

/-- FeedsComeAndGo: both ends of the 1 s. -/
theorem met_feeds :
    (State.reset.fitted 1 = true) ∧
    (let s : State := (State.reset).at_ (ticksMs 1000)
     (s.feed 0).badSince = some 0 ∧ 0 + ticksMs 1000 ≤ s.clock ∧ s.fitted 0 = true ∧ s.feedOk 0 = false) ∧
    (let s : State := { (State.reset).at_ (ticksMs 1000) with power := { b := { usable := true, goodSince := some 0, lost := true } } }
     (s.feed 1).goodSince = some 0 ∧ 0 + ticksMs 1000 ≤ s.clock ∧ (s.feed 1).lost = true ∧ s.feedOk 1 = true) := by
  decide +kernel

/-- FeedChangeover. -/
theorem met_changeover :
    (let s : State := { (State.reset).at_ (ticksMs 1000) with power := { a := { usable := true, goodSince := some 0 }, inUse := 2 } }
     (s.feed s.feedFirst).goodSince = some 0 ∧ 0 + ticksMs (s.o 0xB800 4) ≤ s.clock ∧ s.power.inUse = 2 - s.feedFirst ∧ s.power.change = none ∧
       s.feedOk s.feedFirst = true) ∧
    (let s : State := { State.reset with power := { a := { usable := true }, change := some (0, 0) } }
     s.power.change = some (0, 0) ∧ s.feedOk 0 = true) ∧
    (let s : State := { (State.reset).at_ 1750 with power := { change := some (1, 0) } }
     s.power.change = some (1, 0) ∧ 5000 + (0 * 4 + s.o (0xB820 + (1 - 1)) 0x15) ≤ s.clock * 4) := by
  decide +kernel

/-- FieldChannelCommands: the first and the last field channel, the tripped one, a mode that takes no command, and the feeds. -/
theorem met_fieldCommands :
    (let s := (inMode .active).withSession openSess
     s.efMode 2 = true ∧ (s.field 2).state < 3 ∧ s.efMode 7 = true ∧ s.mayWrite 0 6 0xB840 (2 + 1) ∧ s.mayWrite 0 6 0xB840 (7 + 1) ∧ s.efGated = false ∧ (s.field 2).cmd = false) ∧
    (let s : State := { inMode .active with power := { fields := [(7, { state := 3 })] } }
     s.efMode 7 = true ∧ (s.field 7).state = 3) ∧
    (let s := (inMode .join).withSession openSess
     s.efMode 2 = false ∧ (s.session 0).isOpen = true ∧ roleGrant (s.session 0).role &&& 6 ≠ 0 ∧ (s.feed 0).tripped = false ∧ (s.feed 0).shorted = false ∧ s.feedOk 0 = false) ∧
    (let s : State := { State.reset with power := { a := { usable := true }, b := { usable := true } } }
     s.feedOk (1 - 1) = true) := by
  decide +kernel

/-- FieldChannelTrips. -/
theorem met_trips :
    (let s : State := { (inMode .active).at_ (ticksMs 100) with power := { fields := [(2, { cmd := true, state := 1 })] } }
     (s.field 2).state = 1 ∧ ticksMs (s.o (0xB810 + 2) 4) + (s.field 2).startAt ≤ s.clock ∧ s.o (0xB820 + 2) 1 ≠ 0) ∧
    (let s : State := { inMode .active with power := { fields := [(7, { cmd := true, state := 2 })] } }
     (s.field 7).state = 2 ∧ s.o (0xB820 + 7) 1 ≠ 0) ∧
    (let s : State := (inMode .active).at_ (ticksMs 1)
     (s.field 7).cmd = false ∧ (s.field 7).state ≠ 4 ∧ s.pairMember = false ∧ ticksMs 1 + (s.field 7).startAt ≤ s.clock) ∧
    (({ inMode .active with power := { fields := [(7, { state := 4 })] } } : State).field 7).state = 4 := by
  decide +kernel

/-- EnergyAndTelemetry: a channel takes the readings of EF7. -/
theorem met_telemetry :
    (let s : State := ((inMode .active).withO 0x5001 0 0 0x6037).at_ (ticksMs 600000)
     s.telemetryChan (0x30 + 7) = some 0 ∧ ticksUs (s.o (0xB810 + 7) 5) + (s.field 7).telAt ≤ s.clock ∧
       ticksUs 100 + (s.field 7).tickAt ≤ s.clock ∧ ticksMs 600000 + s.power.storedAt ≤ s.clock ∧ s.modes.mode ≠ .reset) ∧
    (inMode .active).reaches (.session 0) = true := by decide +kernel

/-- MonitorsReport: readings at the edges of the windows and thresholds. -/
theorem met_monitors :
    (railWindow 0).1 ≤ 770 ∧ 770 ≤ (railWindow 0).2 ∧ 769 < (railWindow 0).1 ∧ (railWindow 3).2 < 1851 ∧
    (let l : List Int := [114, 104, 0, 0, 0, 0, 0, 0]
     l.length = 8 ∧ l.foldl max (-128) < 115 ∧ pairsApart 10 l = false ∧ (0xA3, 0) ∉ State.reset.fc.levels) ∧
    (let l : List Int := [125, 125, 0, 0, 0, 0, 0, 0]
     l.length = 8 ∧ 125 ≤ l.foldl max (-128) ∧ 115 ≤ (State.reset.withO 0xB851 9 0 115).oi 0xB851 9 ∧ (0xA3, 0) ∉ (State.reset.withO 0xB851 9 0 115).fc.levels) ∧
    100 < (101 : Int).natAbs ∧ (-100 : Int).natAbs ≤ 100 := by
  decide +kernel

/-! ### Witnesses: faults, sessions, commits -/

/-- ReportsAreRecorded: a corrected source with REACTION 0. -/
theorem met_reports : srcClass 0x10 = 0 ∧ State.reset.reaction 0x10 = 0 ∧ State.reset.fc.first.valid = false ∧ State.reset.fc.reacting = [] := by
  decide +kernel

/-- CollectorRecovers. -/
theorem met_collector :
    (let s : State := { inMode .active with fc := { reacting := [(1, 5)], first := { valid := true } } }
     s.fc.reacting ≠ [] ∧ s.stillReacting = false ∧ s.fc.first.valid = true ∧ s.setNow W1c.first = false) ∧
    (let s : State := { inMode .active with fc := { first := { valid := true } } }
     s.fc.first.valid = true ∧ s.setNow W1c.first = false ∧ s.fc.reacting = []) ∧
    (let s : State := { (inMode .active).at_ (ticksMs 500) with fc := { state := .faulted } }
     s.fc.state = .faulted ∧ s.levelHeld = false ∧ ticksMs (s.o 0xA003 1) + s.fc.quietSince ≤ s.clock ∧ s.recoveryFull = false ∧
       s.modes.mode ≠ .failsafe) ∧
    (((inMode .active).withSession openSess).session 31).isOpen = false ∧ (((inMode .active).withSession openSess).session 0).isOpen = true := by
  decide +kernel

/-- ScrubbersReport. -/
theorem met_scrub : (inMode .active).o 0xA030 1 ≠ 0 ∧ (∀ m ∈ [Mode.reset, .boot, .doze], (inMode .active).modes.mode ≠ m) ∧ (∀ l ∈ State.reset.fc.lastCorrected, 7 ∉ l) ∧ (255 : Nat) ≠ 0 ∧ (255 : Nat) < 256 ∧
    (2 ^ 24 - 1 : Nat) < 2 ^ 24 ∧ 2000 < (2001 : Nat) ∧ (2001 : Nat) < 2 ^ 24 := by decide +kernel

/-- A request of session 0 on the mailbox. -/
def ask (cmd : Nat) : Txn := { path := .mailbox, ident := 0, cmd := cmd, sess := 0, tag := 9, index := 0x1000, flags := 1 }

/-- SessionRequestsAreServed: each command of a session in which nothing waits. -/
theorem met_requests :
    let s := (inMode .configure).withSession openSess
    (∀ c ∈ [0x03, 0x04, 0x10, 0x11, 0x12, 0x18, 0x19], s.alone (ask c) c []) ∧ bitOf (ask 0x11).flags 0 = true ∧ (ask 0x11).off = 0 ∧
      ¬ ((ask 0x11).index = 0x9011 ∧ (ask 0x11).sub = 0) ∧ (2 ^ 16 - 1 : Nat) < 2 ^ 16 := by
  decide +kernel

/-- OpensAndConfirms: a Custodian opens at the card without a key, an Engineer with one; a challenge stands with a key for its role. -/
theorem met_opens :
    (let s : State := { inMode .active with sec := { rngOk := true } }
     let t : Txn := { path := .mailbox, ident := 0, cmd := 0x01, sess := 0, tag := 0 }
     uartBad t (beBytes 1 3) = false ∧ s.pathUp t.path = true ∧ txnBad t 0x01 = false ∧ s.openBar t.path 3 = .ok (0, false)) ∧
    (let s : State := { inMode .active with sec := { rngOk := true, slots := [(0, { state := 1, attr := 0x20008 })] } }
     s.openBar .ring 2 = .ok (0, true)) ∧
    (let s : State := { (inMode .active).withSession { challenge := some [1], role := 2, path := .mailbox } with
       sec := { slots := [(0, { state := 1, attr := 0x20008 })] } }
     let t : Txn := { path := .mailbox, ident := 0, cmd := 0x02, sess := 0, tag := 0 }
     uartBad t [] = false ∧ s.pathUp t.path = true ∧ txnBad t 0x02 = false ∧ s.owns t = true ∧ (s.session t.sess).challenge = some [1] ∧
       s.purposeSlot ((s.session t.sess).role + 1) = some 0) := by
  decide +kernel

/-- SessionsEnd: one edge beyond each limit. -/
theorem met_sessionEnds :
    (let s : State := ((inMode .active).withSession { challenge := some [1] }).at_ (ticksMs 5000 + 1)
     (s.session 0).challenge = some [1] ∧ ticksMs 5000 + (s.session 0).since < s.clock) ∧
    (let s : State := { (inMode .active).at_ (ticksMs 10000) with dict := { paths := [(0, { failures := [0], locked := true })] } }
     ∃ p : Path, (s.pathAuth p).locked = true ∧ ∀ f ∈ (s.pathAuth p).failures, ticksMs 10000 + f ≤ s.clock) ∧
    (let s : State := ((inMode .active).withSession openSess).at_ (ticksMs (1000 * State.reset.o 0x1202 1) + 1)
     (s.session 0).isOpen = true ∧ ticksMs (1000 * s.o 0x1202 1) + (s.session 0).lastUsed < s.clock ∧ (s.session 0).taken = true ∧
       (s.session 0).path = .mailbox ∧ (s.session 0).path ≠ .ring) ∧
    (let g : Seg := { tag := 0, cmd := 0x11, index := 0, sub := 0, data := [], since := 0 }
     let s : State := ((inMode .active).withSession { openSess with segs := [g] }).at_ (ticksMs 1000 + 1)
     (s.session 0).segs = [g] ∧ ticksMs 1000 + g.since < s.clock) := by
  refine ⟨by decide +kernel, ?_, by decide +kernel, by decide +kernel⟩
  exact ⟨.ring, by decide +kernel⟩

/-- ResponsesGoOut. -/
theorem met_responses :
    (let s := (inMode .active).withSession { openSess with serving := some (ask 0x10) }
     (s.session 0).isOpen = true ∧ (s.session 0).serving = some (ask 0x10)) ∧ (State.reset.session 0).isOpen = false := by decide +kernel

/-- AbsentEntriesAreRefused: an index no object has, and a subindex that an object has not. -/
theorem met_absent : Desc.find 0x0FFF 0 = none ∧ Desc.hasIndex 0x0FFF = false ∧ Desc.find 0x2000 1 = none ∧ Desc.hasIndex 0x2000 = true := by
  decide +kernel

/-- A session that has staged JOIN_TIMEOUT, with a schedule. -/
def staged (when_ : List (Nat × Nat)) : Session :=
  { openSess with staging := [{ index := 0x1110, sub := 0, item := 0, v := .num 10000 }], own := when_ }

/-- CommitsAreTakenAndApplied: a set that passes, at once and at an instant 10 ms away; an empty set; a commit that waits, freezes and applies;
its records; a store with 7 erased sectors. -/
theorem met_commits :
    (let s := (inMode .active).withSession (staged [])
     s.mayWrite 0 12 0x1220 1 ∧ s.commitBar (s.session 0).epoch (s.session 0).staging = none ∧ s.commitWhen 0 = .ok .now ∧
       s.mirrors = false) ∧
    (let s := (inMode .active).withSession (staged [(objKey 0x1220 2 0, 1), (objKey 0x1220 3 0, 10000000 * 2 ^ 32)])
     s.commitBar (s.session 0).epoch (s.session 0).staging = none ∧ s.commitWhen 0 = .ok (.wt (10000000 * nsU))) ∧
    (let s := (inMode .active).withSession openSess
     s.commitBar (s.session 0).epoch (s.session 0).staging = some (Abort.nothingStaged, 0)) ∧
    (let c : PendingCommit := { owner := some 0, set := [], epoch := 0, at_ := .now, frozen := some 0 }
     let s : State := { inMode .active with dict := { pendingCommit := some c } }
     s.dict.pendingCommit = some c ∧ c.owner = some 0 ∧ c.frozen = some 0 ∧ 0 ≤ s.time.ltb ∧ s.mirrors = false) ∧
    (let c : PendingCommit := { owner := some 0, set := [], epoch := 0, at_ := .cycle 3 7, fire := 0 }
     let s : State := { (inMode .active).withO 0x3403 1 0 1 with dict := { pendingCommit := some c }, phase := { trk := [(3, { st := 2 })] } }
     s.dict.pendingCommit = some c ∧ c.at_ = .cycle 3 7 ∧ c.frozen = none ∧ c.fire ≤ s.time.ltb + s.horizon ∧ s.trkState 3 = 2) ∧
    (let s : State := { inMode .active with dict := { toStore := some [] } }
     s.dict.toStore = some [] ∧ s.flash.wp = false) ∧
    (let s : State := { inMode .active with flash := { cfg := (List.range 121).map (fun i => (i, [])) } }
     s.flash.cfg = (0, []) :: (List.range 120).map (fun i => (i + 1, [])) ∧ (List.range 120).map (fun i => (i + 1, ([] : List (Nat × Nat)))) ≠ [] ∧
       s.cfgFree < 8) := by
  decide +kernel

/-- FlashWork. -/
theorem met_flash :
    (let e : Erase := { sector := 33 }
     let s : State := { inMode .active with flash := { erase := some e } }
     s.flash.erase = some e ∧ e.suspended = false ∧ s.eraseCount e.sector + 1 < s.o 0x9001 7 ∧ e.suspends < 64 ∧ e.suspends = 0 ∧
       s.modes.mode ≠ .doze) ∧
    (let e : Erase := { sector := 33, suspends := 63, resumed := 0 }
     let s : State := { (inMode .active).at_ (ticksMs 1) with flash := { erase := some e } }
     e.suspends < 64 ∧ ticksMs 1 + e.resumed ≤ s.clock) ∧
    (({ (inMode .active).at_ (ticksMs 100) with station := { log := { waiting := [(0, 0)] } } } : State).logDue = true) := by
  decide +kernel

/-! ### Witnesses: modes, start-up and updates -/

/-- ModeRequestsRun. -/
theorem met_modeRequests :
    (let s := (inMode .maintenance).withSession openSess
     s.mayWrite 0 6 0x1101 0 ∧ s.inTransition = false ∧ s.returned = false ∧ s.modes.mode = .maintenance ∧
       failsafeFrom s.modes.mode = true) ∧
    (let s := ({ inMode .configure with modes := { mode := .configure, modeSel := 1, cfgLoaded := true } } : State).withSession openSess
     s.mayWrite 0 6 0x1101 0 ∧ s.inTransition = false ∧ s.returned = false ∧ s.modes.mode = .configure ∧ s.modes.modeSel = 1 ∧
       s.modes.cfgLoaded = true) ∧
    (let s := (inMode .active).withSession openSess
     s.mayWrite 0 6 0x1101 0 ∧ s.inTransition = false ∧ s.serving = true ∧ s.pairMember = false ∧ s.dueSoon = false) ∧
    (let s := (inMode .failsafe).withSession openSess
     s.mayWrite 0 6 0x1101 0 ∧ s.inTransition = false ∧ s.modes.mode = .failsafe) := by
  decide +kernel

/-- ResetCausesEnterReset: the least times that count. -/
theorem met_resets : (inMode .active).modes.mode ≠ .reset ∧ 10000 ≤ (10000 : Nat) ∧ (3 : Nat) < 4 ∧ 2000 < (2001 : Nat) ∧ 1000 ≤ (1000 : Nat) := by
  decide +kernel

/-- StartUpReachesConfigure: each step of BOOT. -/
theorem met_boot :
    (State.reset.modes.mode = .reset ∧ State.reset.sec.intent = none) ∧
    ((inMode .boot).modes.mode = .boot ∧ (inMode .boot).modes.pllLocked = false ∧ (inMode .boot).unused .a = false) ∧
    (let s : State := { modes := { mode := .boot, pllLocked := true } }
     s.modes.mode = .boot ∧ s.modes.pllLocked = true ∧ s.modes.repairDone = false ∧ s.modes.ddrReady = false ∧
       s.storedO 0x2201 0 ∈ [1600, 1866, 2133, 2400, 2666]) ∧
    (let s : State := { modes := { mode := .boot, repairDone := true } }
     s.bootsFlash = true ∧ s.modes.headerOk = none ∧ s.bootOrder.head? = some ((0 : Fin 2).val)) ∧
    (let s : State := { modes := { mode := .boot, repairDone := true, headerOk := some 1, ddrReady := true } }
     s.bootsFlash = true ∧ s.modes.headerOk = some ((1 : Fin 2).val) ∧ s.modes.ddrReady = true) := by
  decide +kernel

/-- StartUpReachesService. -/
theorem met_service :
    ((inMode .configure).modes.mode = .configure ∧ (inMode .configure).modes.cfgLoaded = false) ∧
    (({ modes := { mode := .boot, ddrReady := true } } : State).modes.ddrReady = true ∧
      ({ modes := { mode := .boot, ddrReady := true } } : State).modes.dramInit = false) ∧
    (((inMode .boot).at_ (ticksMs 100)).modes.mode ≠ .reset ∧
      ticksMs 100 + ((inMode .boot).at_ (ticksMs 100)).modes.resetEndAt ≤ ((inMode .boot).at_ (ticksMs 100)).clock) ∧
    (let s : State := { inMode .join with ring := { a := { joined := true }, b := { joined := true } } }
     s.modes.mode = .join ∧ s.modes.transit = false ∧ s.bothJoined = true) ∧
    (let s : State := (inMode .join).at_ (ticksMs 150)
     s.modes.mode = .join ∧ s.modes.transit = false ∧ s.bothJoined = false ∧ ticksMs (s.o 0x1110 0) + s.modes.entryAt ≤ s.clock) := by
  decide +kernel

/-- DozeAndShutdown. -/
theorem met_doze :
    (let s : State := { inMode .doze with phase := { cal := [(0, { st := 1, fire := ticksMs 1 })] } }
     s.dueSoon = true ∧ s.modes.mode = .doze) ∧
    (let s : State := { modes := { mode := .doze, waking := true } }
     s.modes.mode = .doze ∧ s.modes.waking = true) ∧
    (let s : State := { modes := { mode := .shutdown, shut := .flush } }
     s.modes.mode = .shutdown ∧ s.modes.shut = .flush ∧ s.station.log.waiting = []) ∧
    (let s : State := { modes := { mode := .shutdown, shut := .leave } }
     s.modes.mode = .shutdown ∧ s.modes.shut = .leave ∧ ticksMs 1 + s.modes.leaveAt ≤ (s.at_ (ticksMs 1)).clock) ∧
    (let s : State := { modes := { mode := .shutdown, shut := .bist } }
     s.modes.mode = .shutdown ∧ s.modes.shut = .bist ∧ s.bist.running = none) ∧
    (let s := inMode .active
     s.modes.mode ≠ .reset ∧ s.modes.mode ≠ .shutdown ∧ s.power.warn = false ∧ s.feedOk 0 = false ∧ s.feedOk 1 = false ∧
       15999 < s.o 0xB800 5 ∧ 20 ≤ (20 : Nat)) := by
  decide +kernel

/-- UpdateCommands. -/
theorem met_update :
    (let s := (inMode .active).withSession openSess
     s.mayWrite 0 4 0x9010 0 ∧ s.flash.wp = false ∧ s.flash.updState = 0 ∧ s.updateSlot = some 1) ∧
    (let s : State := { inMode .active with flash := { updState := 1, updSlot := 1 } }
     s.flash.updState = 1 ∧ s.slotErasing = false ∧ s.flash.wp = false) ∧
    (let s : State := { (inMode .active).withSession openSess with flash := { updState := 2, updSlot := 1, owner := some 0 } }
     s.mayWrite 0 4 0x9010 0 ∧ s.mayWrite 0 4 0x9011 0 ∧ s.segmentBar 0 0 4080 = none ∧ s.flash.updState ≤ 4) ∧
    (({ inMode .active with flash := { updState := 4 } } : State).flash.updState = 4) ∧
    (let s : State := { (inMode .active).withSession openSess with flash := { updState := 5, updSlot := 1 } }
     s.mayWrite 0 4 0x9010 0 ∧ s.flash.updState = 5 ∧ s.mayActivate = true ∧ s.dict.pendingCommit = none ∧ s.flash.wp = false ∧ (∃ k ∈ s.coresUp, s.svcsOn k = []) ∧
       s.pairMember = false) ∧
    (let s : State := { ((inMode .standby).withO 0x2001 0 0 0x10).withSession openSess with flash := { updState := 6, updSlot := 1 } }
     s.mayWrite 0 4 0x9010 0 ∧ s.flash.updState = 6 ∧ s.pairMember = true ∧ s.modes.mode = .standby ∧ s.flash.wp = false) := by
  decide +kernel

/-- TrialsAndRecoveryLoader. -/
theorem met_trials :
    (let s : State := { inMode .active with flash := { updState := 7 } }
     s.flash.updState = 7 ∧ s.flash.trial = none ∧ s.serving = true) ∧
    (let s : State := { inMode .handover with flash := { target := some 3 } }
     s.flash.target = some 3 ∧ s.unmoved = [] ∧ s.pair.swap = none ∧ s.flash.handBack = false ∧ s.modes.mode = .handover) ∧
    (let t : Trial := { slot := 1, atReset := false, since := some 0 }
     let s : State := { (inMode .configure).at_ (ticksMs 10000) with
       flash := { running := 1, trial := some t, updState := 8 }
       cores := { svcs := [(0, { core := 0, state := 2, hinges := 10 })] } }
     s.healthy = true ∧ s.pair.newAt = none ∧ s.flash.trial = some t ∧ t.since = some 0 ∧ s.flash.running = t.slot ∧
       s.clock ≤ 0 + ticksMs 10000 ∧ 0 + ticksMs 10000 ≤ s.clock ∧ (State.withReports s.trialFail).pair.newAt = none) ∧
    (let s : State := { modes := { mode := .boot, modeSel := 3 } }
     s.recoveryServes = true ∧ (List.replicate 255 (0 : Byte)).length < 256) := by
  decide +kernel

/-! ### Witnesses: the pair -/

/-- A pair member in a mode, with the pair unit's state. -/
def paired (m : Mode) (x : Pair) : State := { (inMode m).withO 0x2001 0 0 0x10 with pair := x }

/-- LeashClaim: each state of the claim, and each time limit at its end. -/
theorem met_leash :
    (let s := paired .standby {}
     s.pairMember = true ∧ s.leashToggles = false ∧ s.modes.mode ≠ .doze ∧ s.pair.claim = .idle ∧ s.claimMode = true ∧ s.fc.state ≠ .held ∧
       s.fc.fatal = false ∧ s.claimLink = true) ∧
    (let s : State := { paired .standby { claim := .seeking } with modes := { mode := .standby, pairId := true } }
     s.pairMember = true ∧ s.pair.claim = .seeking ∧ s.modes.pairId = true ∧
       (paired .standby { claim := .seeking }).modes.pairId = false) ∧
    (let s := (paired .standby { claim := .seeking }).at_ (ticksUs 2)
     s.pair.claim = .seeking ∧ ticksUs 2 + s.pair.since ≤ s.clock ∧ s.pair.leashIn = false) ∧
    (let s := (paired .standby { claim := .backoff }).at_ (ticksUs 10)
     s.pair.claim = .backoff ∧ ticksUs 10 + s.pair.since ≤ s.clock ∧ s.claimMode = true ∧ s.claimClear = true ∧ s.claimLink = true) ∧
    (let s := (paired .active { claim := .held, leashIn := true, lastEdge := ticksUs 2 }).at_ (ticksUs 2)
     s.holds = true ∧ s.leashToggles = true ∧ ticksUs 2 + s.pair.runStart ≤ s.clock) := by
  decide +kernel

/-- PairLinkBlocks: the 100th good block, silence of 4 µs, and a record unacknowledged for 20 µs. -/
theorem met_pairLink :
    (let s := paired .standby { goodRun := 99 }
     s.pairMember = true ∧ s.modes.mode ≠ .reset ∧ 99 ≤ s.pair.goodRun ∧ s.pair.goodRun ≤ 100) ∧
    (let s := (paired .standby { link := true }).at_ (ticksUs 4)
     s.pair.link = true ∧ ticksUs 4 + s.pair.lastGood ≤ s.clock) ∧
    (let m : Mirror := { seq := 5, r := .commit [] 0, at_ := 0 }
     let s := (paired .active { link := true, out := [m] }).at_ (ticksUs 20)
     s.pair.out.find? (fun m => m.seq = (5#32).toNat) = some m ∧ s.pair.link = true ∧ ticksUs 20 + m.at_ ≤ s.clock ∧ s.setNow W1c.shadow = false ∧ s.reaches (.session 0) = true) := by
  decide +kernel

/-- StandbyFollowsActive: the record last received, the next one, and one half the numbers on. -/
theorem met_standby :
    (let s := paired .standby { link := true, rxSeq := 7 }
     s.pairMember = true ∧ s.holds = false ∧ s.pair.link = true ∧ serialAfter 32 (7#32).toNat s.pair.rxSeq = false ∧
       serialAfter 32 (8#32).toNat s.pair.rxSeq = true ∧ serialAfter 32 (0x80000007#32).toNat s.pair.rxSeq = true ∧
       serialAfter 32 (0x80000008#32).toNat s.pair.rxSeq = false ∧ s.modes.mode = .standby) ∧
    (let s := paired .standby { commit := some ([], 0) }
     s.pair.commit = some ([], 0) ∧ 0 ≤ s.nsCount ∧ s.holds = false ∧ s.pair.commitBy = none) := by
  decide +kernel

/-- A hub whose pair link is up and whose partner reports the same configuration. -/
def State.twinned (s : State) : State := { s with pair := { s.pair with link := true, pHash := s.configHash, whole := true } }

/-- Such a hub is in sync. -/
theorem twinned_inSync (s : State) : s.twinned.inSync = true := by
  have h : s.twinned.configHash = s.configHash := rfl
  have p : s.twinned.pair.pHash = s.configHash := rfl
  have l : s.twinned.pair.link = true := rfl
  have w : s.twinned.pair.whole = true := rfl
  simp [State.inSync, h, p, l, w]

/-- ShadowAndBarks: the last bank and pin shadowed, a standby, a bark delivered, and 30 ms without one. -/
theorem met_shadow :
    (let s := ((((paired .standby { shSince := [(383, 0)] }).withO 0x6803 0 0 0xFFFF).withO 0xA803 16 0 (2 ^ 23)).at_ (ticksMs 1)).twinned
     s.shadowed false (15 : Fin 16) (23 : Fin 24) = true ∧ s.pair.shValid = false ∧
       s.pair.shSince.find? (fun x => x.1 = (15 : Fin 16).val * 24 + (23 : Fin 24).val) = some (383, 0) ∧
       s.o 0xA802 1 + 4 * 0 < 4 * s.clock) ∧
    (let s := ((paired .standby { shValid := true }).withO 0xA802 2 0 1).twinned
     s.shadowed true (0 : Fin 16) (7 : Fin 24) = true ∧ s.pair.shValid = true) ∧
    (let s := (paired .standby { barkSent := some 0 }).at_ (ticksMs 10)
     s.pairMember = true ∧ s.modes.mode = .standby ∧ ∀ e, s.pair.barkSent = some e → ticksMs 10 + e ≤ s.clock) ∧
    (let f : Frame := { hdr := { typ := 9, cls := 4, source := 3, dest := 0 }, payload := [] }
     let s : State := { inMode .active with ring := { delivered := [f] } }
     s.takeDelivered (fun h => h.typ = 9) = some (f, inMode .active) ∧ (inMode .active).pairActive = false) ∧
    (let s := (paired .active { claim := .held, barkAt := some 0 }).at_ (ticksMs 30)
     s.pair.barkAt = some 0 ∧ s.pairActive = true ∧ 0 + ticksMs 30 ≤ s.clock) := by
  refine ⟨⟨?_, by decide +kernel⟩, ⟨?_, by decide +kernel⟩, ⟨by decide +kernel, by decide +kernel, fun e h => ?_⟩, by decide +kernel, by decide +kernel⟩
  · simp only [State.shadowed, twinned_inSync]
    decide +kernel
  · simp only [State.shadowed, twinned_inSync]
    decide +kernel
  · cases (Option.some.inj h : (0 : Nat) = e)
    decide +kernel

/-- SwitchoverCommands: the active with a fit partner, at home and not, and 50 µs after the release. -/
theorem met_switchover :
    (let s := (((paired .active { claim := .held, pFit := true }).withO 0xA801 0 0 1).withSession openSess).twinned
     s.mayWrite 0 6 0xA804 0 ∧ s.pairMember = true ∧ s.holds = true ∧ s.isHome = false ∧ s.modes.mode = .active ∧ s.pair.pFit = true ∧
       s.inSync = true) ∧
    ((paired .active { claim := .held }).withO 0xA801 0 0 0).isHome = true ∧
    (let w : Swap := { kind := 1, session := some 0, released := some 0, mine := true, back := .active }
     let s := (paired .handover { swap := some w }).at_ (ticksUs 50)
     s.pair.swap = some w ∧ w.mine = true ∧ w.released = some 0 ∧ 0 + ticksUs 50 ≤ s.clock ∧ s.partnerHolds = false) := by
  refine ⟨⟨by decide +kernel, by decide +kernel, by decide +kernel, by decide +kernel, by decide +kernel, by decide +kernel,
    twinned_inSync _⟩, by decide +kernel, by decide +kernel⟩

/-! ### Witnesses: the ring -/

/-- A port that carries traffic. -/
def livePort : RingPort := { up := true, trained := true, synth := true }

/-- A hub of number 1 on the ring with both ports live. -/
def ringHub (m : Mode) (a : RingPort := livePort) : State :=
  { inMode m with ring := { a := a, b := livePort, node := 1 } }

/-- A header with a right HCRC. -/
def sealHdr (h : Hdr) : Hdr := { h with hcrc := hdrCrc h }

/-- A class-4 frame of node 2 for a node, going A-ward. -/
def frameTo (dest : Nat) : Frame := { hdr := sealHdr { typ := 8, cls := 4, source := 2, dest := dest, seq := 9 }, payload := [] }

/-- FaultyHeadersAreRefused: each fault alone. -/
theorem met_faultyHeaders :
    (let s := ringHub .active
     s.ringOn = true ∧ (s.port .a).up = true ∧ (s.port .a).trained = true ∧ s.unused .a = false) ∧
    (let h := (frameTo 1).hdr
     ({ h with hcrc := h.hcrc + 1 } : Hdr).hcrc ≠ hdrCrc { h with hcrc := h.hcrc + 1 } ∧
       (sealHdr { h with version := 0 }).version ≠ 1 ∧ 2048 < (sealHdr { h with length := 2049 }).length ∧
       ((sealHdr { h with auth := true }).auth = true ∧ (sealHdr { h with auth := true }).tagMode ≠ 1) ∧
       ((sealHdr { h with rsv28 := 1 }).auth = false ∧ (sealHdr { h with rsv28 := 1 }).rsv28 ≠ 0)) := by
  decide +kernel

/-- HeadersAreSorted: a frame on the wrong side, a link-scope one, an own one, one for this hub and one for another. -/
theorem met_sorted :
    (let s := ringHub .active
     (hdrOk (frameTo 1).hdr = true ∧ (if (frameTo 1).hdr.dir then Port.a = .b else Port.a = .a)) ∧
     ¬ (if (frameTo 1).hdr.dir then Port.b = .b else Port.b = .a) ∧
     (let h := sealHdr { typ := 6, cls := 5, source := 2, dest := 0xFF, spec := 0 }
      hdrOk h = true ∧ linkScope h = true) ∧
     (linkScope (frameTo 1).hdr = false ∧ (sealHdr { (frameTo 1).hdr with source := 1 }).source = (s.portCount .b 1).node) ∧
     ((frameTo 1).hdr.source ≠ (s.portCount .b 1).node ∧ (s.portCount .b 1).isOnward (frameTo 1).hdr = false) ∧
     (s.portCount .b 1).isOnward (frameTo 3).hdr = true) := by
  decide +kernel

/-- TrailersSettleFrames: a trailer that is right, stomped and wrong; a tag that is open. -/
theorem met_trailers :
    (let r : RxFrame := { f := frameTo 1, th := 0 }
     ((ringHub .active { livePort with rx := [r] }).port .a).rx = [r] ∧
       (let crc := crc32 (r.f.payload ++ r.f.tag)
        (true && decide (crc = crc)) = true ∧ (true && decide (crc ^^^ 0xFFFFFFFF = crc)) = false ∧
          (true && decide (crc ^^^ 1 = crc)) = false ∧ (true && decide (crc ^^^ 1 = crc ^^^ 0xFFFFFFFF)) = false)) ∧
    (let x : SpecTag := { source := 2, cls := 7, seq := 3, port := .a, deadline := 0 }
     ({ inMode .active with shutter := { tags := [(3, some x)] } } : State).specTag (3 : Fin 4) = some x ∧ x.deadline ≤ (inMode .active).now10) := by
  decide +kernel

/-- A supervision frame of a kind. -/
def supFrame (k : Nat) (rest : Nat := 0) : Frame :=
  { hdr := { typ := 6, cls := 5, source := 2, dest := 0xFF, spec := k * 2 ^ 56 + rest }, payload := [] }

/-- A hub with a frame for its link unit. -/
def State.linked (s : State) (f : Frame) : State := { s with ring := { s.ring with linkQ := [(.a, f)] } }

/-- SupervisionIsHeard: each kind is taken, the own ANNOUNCE with the own serial and with another, and a TOPOLOGY of each event. -/
theorem met_heard :
    (let s := ringHub .active
     ∀ k ∈ [0, 1, 2, 3, 4, 5], (s.linked (supFrame k)).takeLink .a (isSup k) = some (supFrame k, s)) ∧
    (let s := ringHub .active
     let f : Frame := { hdr := { (supFrame 1).hdr with source := 1 }, payload := beBytes 8 s.serial }
     f.hdr.source = s.node ∧ ofBe f.payload = s.serial ∧ ofBe (beBytes 8 (s.serial + 1)) ≠ s.serial ∧ (supFrame 1).hdr.source ≠ s.node) ∧
    specField (supFrame 5).hdr 21 1 = 0 ∧ specField (supFrame 5 (2 ^ 48)).hdr 21 1 = 1 := by
  decide +kernel

/-- SupervisionIsSent: a port that may join with the least counts, and a planned outage. -/
theorem met_sent :
    (let s := ringHub .join { livePort with helloOk := true, delayMeas := 8, clean := 2 }
     s.ringOn = true ∧ (s.port .a).joined = false ∧ s.joinOk .a = true ∧ s.due s.ring.helloAt s.supPeriod = true ∧
       s.due s.ring.annAt s.supPeriod = true) ∧
    (let m : Planned := { bound := 1, lead := 1, since := 0, retrain := false }
     let s := (ringHub .active { livePort with planned := some m }).at_ (ticksUs 52)
     (s.port .a).planned = some m ∧ m.bound ≠ 0 ∧ ticksUs (m.lead + m.bound + 50) + m.since ≤ s.clock) := by
  decide +kernel

/-- PortsFallAndRise: each stage of an outage, both ends of the 10 °C, a suspension at a place a frame allows. -/
theorem met_ports :
    (let s := ringHub .active
     (s.port .a).up = true ∧ s.unused .a = false ∧ (({} : RingPort).up = false) ∧ s.modes.mode ≠ .reset ∧ (s.port .a).outage = none ∧
       (s.port .a).synth = true ∧ s.linkLive .a = true ∧ s.ringOn = true ∧ (s.port .a).tx = none ∧
       s.due (s.port .a).quietAt (ticksUs 10) = true ∧ ((10 : Int) - 0).natAbs ≥ 10 ∧ ((-10 : Int) - 0).natAbs ≥ 10) ∧
    ((ringHub .active { livePort with calTemp := some 0 }).port .a).calTemp = some 0 ∧
    (let s := ringHub .active { up := true, training := true }
     (s.port .a).training = true) ∧
    (let s := (ringHub .active { up := true }).withO 0x2020 0 0 0
     (s.port .a).up = true ∧ (s.port .a).trained = false ∧ (s.port .a).training = false ∧ s.media .a = 1 ∧
       s.due (s.port .a).failedAt (ticksMs 10) = true) ∧
    (let s := (ringHub .active { livePort with errTimes := List.replicate 65535 0 }).withO 0x2006 3 0 7
     s.o 0x2006 3 < ((s.port .a).errTimes.filter (fun t => s.clock - t < ticksMs 1000)).length) ∧
    (let s := (ringHub .active).withO 0x2007 0 0 1
     s.o 0x2006 2 - 1 < s.o 0x2006 2 ∧ s.o 0x2007 0 = 1 ∧ s.o 0x2006 2 - 1 < s.o 0x2006 1 ∧ (s.port .a).vert < s.o 0x2006 1 ∧
       s.o 0x2006 1 ≤ ((ringHub .active { livePort with vert := 255 }).port .a).vert) ∧
    (let o : Outage := { recal := false, stage := .active, since := 0 }
     ((ringHub .active { livePort with outage := some o }).port .a).outage = some o ∧ o.stage = .active ∧ o.recal = false) ∧
    (let o : Outage := { recal := true, stage := .deferred, since := 0 }
     let s := (ringHub .active { livePort with outage := some o }).at_ (ticksMs 50)
     (s.port .a).outage = some o ∧ o.stage = .deferred ∧ o.recal = true ∧ ticksMs 50 + o.since ≤ s.clock) ∧
    (let o : Outage := { recal := true, stage := .announced, since := 0 }
     let s := (ringHub .active { livePort with outage := some o }).at_ (ticksUs 1000)
     (s.port .a).outage = some o ∧ o.stage = .announced ∧ o.recal = true ∧ ticksUs 1000 + o.since ≤ s.clock) ∧
    (let o : Outage := { recal := false, stage := .announced, since := 0 }
     let s := (ringHub .active { livePort with outage := some o }).at_ (ticksUs 100)
     (s.port .a).outage = some o ∧ o.stage = .announced ∧ o.recal = false ∧ ticksUs 100 + o.since ≤ s.clock) ∧
    (let h : Hdr := { typ := 0, cls := 0, source := 1, dest := 2, length := 200 }
     let f : QFrame := { pkt := .ring (frameTo 2), cls := 7, colour := 0, src := 4, n := 1, cells := [] }
     let s : State := { ringHub .active { livePort with tx := some h } with sw := { queues := [(7, { onchip := [f] })] } }
     (s.port .a).tx = some h ∧ h.cls ≠ 7 ∧ (s.queue (8 * Port.a.toNat + 7)).onchip ++ (s.queue (8 * Port.a.toNat + 7)).returned ≠ [] ∧ 128 % 64 = 0 ∧
       128 + 64 < h.length + 16 * b2n h.auth + 4) ∧
    (let h : Hdr := { typ := 0, cls := 0, source := 2, dest := 3, seq := 4 }
     let r : RxFrame := { f := { hdr := h, payload := [] }, th := 0, egress := some .b, cut := true }
     let s : State := { inMode .active with ring := { a := { livePort with rx := [r] }, b := { livePort with tx := some h } } }
     (s.port .a).rx = [r] ∧ r.egress = some .b ∧ r.cut = true ∧ (s.port .b).tx = some h ∧ h.seq = r.f.hdr.seq ∧
       h.source = r.f.hdr.source ∧ h.cls = r.f.hdr.cls) := by
  decide +kernel

/-- One data item of a packet. -/
def oneItem : Item := { sop := true, eop := true, data := 7 }

/-- A port that carries traffic and has joined. -/
def joinedPort : RingPort := { livePort with joined := true }

/-- A hub in a mode that may originate, with a packet in channel 5 for the ring. -/
def withPacket (m : Mode) : State :=
  { (inMode m).withO 0x5002 0 5 0x2000 with
    ring := { a := joinedPort, b := joinedPort, node := 1, origOn := true }
    chans := [(5, { items := [oneItem] })] }

/-- FramesAreOriginated: a unit's frame, a channel's packet in service and in standby, a frame that waits for the bucket, 70 ms after reset. -/
theorem met_originated :
    (let o : Orig := { hdr := { typ := 8, cls := 4, source := 1, dest := 2 }, payload := [], src := 4 }
     let s : State := { inMode .active with ring := { a := joinedPort, b := joinedPort, node := 1, origOn := true, orig := [o] } }
     s.ring.origOn = true ∧ s.ringOn = true ∧ s.modes.mode ≠ .standby ∧ s.nextOrig [] s.ring.orig = some (o, [])) ∧
    (let s := withPacket .active
     s.nextOrig [] s.ring.orig = none ∧ s.nextPacket = some (5, [oneItem], false)) ∧
    (let s := withPacket .standby
     s.ring.origOn = true ∧ s.ringOn = true ∧ s.modes.mode = .standby ∧ s.ring.orig = [] ∧ s.nextPacket = some (5, [oneItem], false)) ∧
    (let o : Orig := { hdr := { typ := 8, cls := 7, source := 1, dest := 2 }, payload := [], src := 4 }
     let s : State := { inMode .active with ring := { a := joinedPort, b := joinedPort, node := 1, c7wait := [o] } }
     s.ring.c7wait = [o] ∧ s.bucketAdmits (frameBytes o.hdr + 12) = true ∧ s.waysOut o ≠ []) ∧
    (let s := (inMode .boot).at_ (ticksMs 70)
     s.ring.origOn = false ∧ s.modes.mode ≠ .reset ∧ ticksMs 70 + s.modes.resetEndAt ≤ s.clock) := by
  decide +kernel

/-! ### Witnesses: the switch, the fabric and channels -/

/-- SwitchAuditAndArbiter: a free source and a held one, a class-7 frame for an engine's port, a read-back that just fits, a request of the
age that is ancient. -/
theorem met_switch :
    (let f : InFrame := { pkt := .eth [], cls := 3, colour := 0, src := 2, dst := 4 }
     let s : State := { inMode .active with sw := { ingress := [f] } }
     s.sw.ingress = [f] ∧ s.sw.held.any (fun g => g.src = f.src) = false) ∧
    (let f : InFrame := { pkt := .eth [], cls := 3, colour := 0, src := 6, dst := 4 }
     let s : State := { inMode .active with sw := { ingress := [f], held := [f] } }
     s.sw.held.any (fun g => g.src = f.src) = true ∧ s.sw.held.find? (fun g => g.src = (6 : Fin 7).val) = some f) ∧
    (let f : QFrame := { pkt := .eth [], cls := 7, colour := 0, src := 2, n := 1, cells := [] }
     let s : State := { inMode .active with sw := { queues := [(23, { onchip := [f] }), (55, { onchip := [f] })] } }
     2 ≤ (2 : Fin 7).val ∧ 2 ≤ (6 : Fin 7).val ∧ s.pick 2 false = (s, some 7) ∧ qHead (s.queue (8 * 2 + 7)) = some f ∧
       s.pick 6 false = (s, some 7) ∧ qHead (s.queue (8 * 6 + 7)) = some f) ∧
    (let f : QFrame := { pkt := .eth [], cls := 3, colour := 0, src := 2, n := 7, cells := [40000] }
     let x : Queue := { kennel := [f], returned := [{ f with n := 9, cells := [] }], spilled := true }
     let s : State := { inMode .active with sw := { queues := [(55, x)] } }
     (s.queue (55 : Fin 56)).kennel = [f] ∧ cellsOf x.returned + f.n ≤ 16 ∧ f.n ≤ (s.poolCells f.n).length) ∧
    (let s : State := (inMode .join).at_ (ticksMs 100)
     3 ≤ s.modes.mode.code ∧ s.sw.walking = false ∧ (∀ e ∈ s.sw.walkAt, ticksMs 100 + e ≤ s.clock) ∧
       ({ s with sw := { walking := true } } : State).sw.walking = true ∧ s.setNow W1c.ecc = false ∧ s.reaches (.session 0) = true) ∧
    (let a : ArbReq := { r := { index := 3, cls := 2, background := false, write := false }, stamp := 2048 }
     let s : State := { inMode .active with sw := { reqs := [a] } }
     s.sw.grant = none ∧ s.sw.reqs = [a] ∧ a.ancient = none ∧ 2048 ≤ arbAge (0 : Fin 4096) a ∧ State.reset.sw.reqs = []) := by
  decide +kernel

/-- A request frame of node 2 for a number of bytes of DRAM. -/
def readReq (len : Nat) : Frame := { hdr := { typ := 1, cls := 3, source := 2, dest := 1, seq := 4, spec := len }, payload := [] }

/-- FabricAccesses: requests of 0, 1, 2 048 and 2 049 bytes, a write part, an answer with and without its access, an access 1 ms silent,
register addresses at the edges, and the last staged entry of an engine on its tick. -/
theorem met_fabric :
    (∀ n ∈ [0, 1, 2048, 2049], nextRequest [] ({ inMode .active with ring := { delivered := [readReq n] } } : State).ring.delivered =
      some (readReq n) ∧ specField (readReq n).hdr 26 2 = n) ∧
    (let f : Frame := { hdr := { typ := 2, cls := 3, source := 2, dest := 1 }, payload := [1] }
     ({ inMode .active with ring := { delivered := [f] } } : State).takeDelivered (fun h => h.typ = 2) = some (f, inMode .active)) ∧
    (let f : Frame := { hdr := { typ := 3, cls := 3, source := 2, dest := 1, spec := specOf [0, 9, 0, 0, 0, 1, 0, 0] }, payload := [1, 2, 3, 4] }
     let r : Remote := { id := 0, who := .session 0, write := false, node := 2, addr := 0, len := 4, parts := 1, seqs := [(0, some 9)] }
     let t : State := { inMode .active with ring := { remotes := [r] } }
     ({ t with ring := { t.ring with delivered := [f] } } : State).takeDelivered (fun h => h.typ = 3) = some (f, t) ∧
       t.ring.remotes.find? (fun r => (r.matches f.hdr).isSome) = some r ∧ r.matches f.hdr = some 0 ∧
       (inMode .active).ring.remotes.find? (fun r => (r.matches f.hdr).isSome) = none) ∧
    (let r : Remote := { id := 0, who := .session 0, write := false, node := 2, addr := 0, len := 4, parts := 1, seqs := [(0, some 9)]
                         sentAt := some 0 }
     let s : State := { (inMode .active).at_ (ticksMs (State.reset.o 0x1202 2)) with ring := { remotes := [r] } }
     s.remote 0 = some r ∧ r.who = Asker.session 0 ∧ r.sent = true ∧ r.sentAt = some 0 ∧ 0 + ticksMs (s.o 0x1202 2) ≤ s.clock) ∧
    ((2 ^ 24 - 3) % 4 ≠ 0 ∧ 2 ^ 24 ≤ 2 ^ 24 ∧ (2 ^ 24 - 4) % 4 = 0 ∧ 2 ^ 24 - 4 < 2 ^ 24) ∧
    (let i : StageEnt := { off := 5, w := {} }
     let s : State := { inMode .active with engines := [(255, { sh := .draining, staging := [i], tick := 7, shift := 2 })] }
     (s.eng (255 : Fin 256)).sh = .draining ∧ (s.eng (255 : Fin 256)).staging = [i] ∧
       i.off + (s.eng (255 : Fin 256)).shift ≤ (s.eng (255 : Fin 256)).tick) := by
  decide +kernel

/-- ChannelCommands: a window channel that is empty, a delivery that resumes and one held to the limit, a quarantine without a reaction, a
retired channel and one in use, the CH_OUT sample taken and not. -/
theorem met_channels :
    (let s := (inMode .active).withO 0x5002 0 511 0x7000
     s.o 0x5002 0 (511 : Fin 512) / 0x1000 = 7 ∧ (s.chan (511 : Fin 512)).items = [] ∧ (s.chan (511 : Fin 512)).quarantined = false ∧
       Ctx.node 3 ≠ .pcie ∧ s.reaches (.node 3) = true ∧ (1, 511) ∉ s.fc.reacting) ∧
    (let d : HeldDel := { cls := 7, ch := 4, items := [], since := 0 }
     let s : State := { inMode .active with heldDel := [d] }
     (7 : Fin 10).val < 8 ∧ s.heldDel = [d] ∧ d.cls = (7 : Fin 10).val ∧ s.chanWriteAll d.ch d.items = (s, []) ∧
       State.reset.heldDel = []) ∧
    (let d : HeldDel := { cls := 7, ch := 511, items := [{}], since := 0 }
     let s : State := { ((inMode .active).withO 0x5005 0 511 1).at_ (ticksUs 0xFFFFFF) with
       heldDel := [d], chans := [(511, { items := List.replicate 512 {} })] }
     (7 : Nat) < 8 ∧ s.heldDel.find? (fun d => d.cls = 7) = some d ∧ d.ch = (511 : Fin 512).val ∧
       d.since + ticksUs (s.o 0x5080 0) ≤ s.clock ∧ s.chanSize (511 : Fin 512) ≤ (s.chan (511 : Fin 512)).items.length) ∧
    (let s : State := { inMode .active with chans := [(0, { retired := true })] }
     (s.chan (s.ctx .pcie).chSel).retired = true ∧ ((inMode .active).chan ((inMode .active).ctx .pcie).chSel).retired = false ∧
       (s.ctx .pcie).chOut = none ∧ ((s.setCtx .pcie { chOut := some 3 }).ctx .pcie).chOut = some 3) := by
  decide +kernel

/-! ### Witnesses: engines and banks -/

/-- An active hub whose engine 0 runs and stands at a word, over another state. -/
def atWord (w : Nat) (x : Engine := {}) (s : State := inMode .active) : State :=
  { s.setVal 0x6100 0 0 (.bytes (beBytes 3 w)) with engines := [(0, { x with st := .running })] }

/-- EngineRegisterInstructions: JMP, IN, OUT, MOV, SET and CMP of each condition, source, destination, operation and form. -/
theorem met_engineRegisters :
    (∀ k ∈ List.range 8, (atWord (k * 2 ^ 12 + 1023)).fetches 0 (k * 2 ^ 12 + 1023) ∧ isOp 0 (k * 2 ^ 12 + 1023) = true ∧
      fld (k * 2 ^ 12 + 1023) 14 12 = k) ∧
    (∀ n ∈ [1, 24], (atWord (2 * 2 ^ 20 + n * 2 ^ 7)).fetches 0 (2 * 2 ^ 20 + n * 2 ^ 7) ∧ isOp 2 (2 * 2 ^ 20 + n * 2 ^ 7) = true ∧
      fld (2 * 2 ^ 20 + n * 2 ^ 7) 5 5 = 0) ∧
    (∀ k ∈ List.range 7, (atWord (3 * 2 ^ 20 + k * 2 ^ 12 + 24 * 2 ^ 7)).fetches 0 (3 * 2 ^ 20 + k * 2 ^ 12 + 24 * 2 ^ 7) ∧
      isOp 3 (3 * 2 ^ 20 + k * 2 ^ 12 + 24 * 2 ^ 7) = true ∧ fld (3 * 2 ^ 20 + k * 2 ^ 12 + 24 * 2 ^ 7) 5 5 = 0 ∧
      fld (3 * 2 ^ 20 + k * 2 ^ 12 + 24 * 2 ^ 7) 14 12 = k) ∧
    (∀ k ∈ List.range 8, ∀ m ∈ List.range 4, (atWord (6 * 2 ^ 20 + k * 2 ^ 12 + m * 2 ^ 7)).fetches 0 (6 * 2 ^ 20 + k * 2 ^ 12 + m * 2 ^ 7) ∧
      isOp 6 (6 * 2 ^ 20 + k * 2 ^ 12 + m * 2 ^ 7) = true ∧ fld (6 * 2 ^ 20 + k * 2 ^ 12 + m * 2 ^ 7) 14 12 = k) ∧
    (∀ k ∈ List.range 4, (atWord (7 * 2 ^ 20 + k * 2 ^ 12 + 255)).fetches 0 (7 * 2 ^ 20 + k * 2 ^ 12 + 255) ∧
      isOp 7 (7 * 2 ^ 20 + k * 2 ^ 12 + 255) = true ∧ fld (7 * 2 ^ 20 + k * 2 ^ 12 + 255) 14 12 = k) ∧
    (∀ k ∈ List.range 6, ∀ m ∈ List.range 3, (atWord (8 * 2 ^ 20 + k * 2 ^ 12 + m * 2 ^ 10)).fetches 0 (8 * 2 ^ 20 + k * 2 ^ 12 + m * 2 ^ 10) ∧
      isOp 8 (8 * 2 ^ 20 + k * 2 ^ 12 + m * 2 ^ 10) = true) ∧
    ((atWord 0).eng 0).sh = .direct ∧ engSpec ((atWord 0).eng 0) = false := by
  decide +kernel

/-- A pull gives an item and leaves the engine's writes direct. -/
def gotDirect (e : Nat) : PullRes → Bool
  | .got t _ _ => (t.eng e).sh = .direct
  | .wait _ => false

/-- A pull that waits. -/
def waits : PullRes → Bool
  | .got _ _ _ => false
  | .wait _ => true

/-- EngineChannelAndEventInstructions: a pull that gives and one that waits, pushes that enter and that stall. -/
theorem met_engineChannels :
    (let w := 4 * 2 ^ 20
     let s := atWord w
     let t := atWord w {} ((inMode .active).withO 0x5002 0 3 0x1000)
     s.fetches 0 w ∧ isOp 4 w = true ∧ gotDirect 0 (s.engPull 0 false) = true ∧ t.fetches 0 w ∧
       waits (t.engPull 0 false) = true) ∧
    (∀ m ∈ [0, 1, 2], (atWord (5 * 2 ^ 20 + m * 2 ^ 7)).fetches 0 (5 * 2 ^ 20 + m * 2 ^ 7) ∧ isOp 5 (5 * 2 ^ 20 + m * 2 ^ 7) = true) ∧
    (let s : State := { atWord (10 * 2 ^ 20) {} (((inMode .active).withO 0x5001 0 3 0x1000).withO 0x5005 0 3 1) with
       chans := [(3, { items := List.replicate 64 {} })] }
     s.fetches 0 (10 * 2 ^ 20) ∧ isOp 10 (10 * 2 ^ 20) = true ∧ (s.engPush 0 [{}]).1.isNone = true ∧
       ((atWord (10 * 2 ^ 20)).engPush 0 [{}]).1.isSome = true) ∧
    (let w := 2 * 2 ^ 20 + 24 * 2 ^ 7 + 32
     let x : Engine := { ckpt := some { regs := {}, tag := none, grp := some (5, 1), staged := 0 } }
     (atWord w).fetches 0 w ∧ isOp 2 w = true ∧ fld w 5 5 = 1 ∧ (atWord w).o 0x6006 1 0 ≤ min (((atWord w).eng 0).r.isrCnt + fld w 11 7) 24 ∧
       (atWord w x).fetches 0 w ∧ engSpec ((atWord w x).eng 0) = true) ∧
    (let w := 3 * 2 ^ 20 + 24 * 2 ^ 7 + 32
     (atWord w { r := { osrCnt := 24 } }).fetches 0 w ∧ isOp 3 w = true ∧ fld w 5 5 = 1 ∧ fld w 14 12 = 0 ∧
       (atWord w { r := { osrCnt := 24 } }).o 0x6006 2 0 ≤ ((atWord w { r := { osrCnt := 24 } }).eng 0).r.osrCnt) := by
  decide +kernel

/-- The same: each form of WAIT. -/
theorem met_engineWaits :
    (let w := 1 * 2 ^ 20 + 47
     (atWord w).fetches 0 w ∧ fld w 14 12 = 0 ∧ (atWord w).engPin 0 47 = false ∧ fld w 11 11 = 0 ∧
       (atWord (w + 2 ^ 11)).fetches 0 (w + 2 ^ 11) ∧ (atWord (w + 2 ^ 11)).engPin 0 47 ≠ decide (fld (w + 2 ^ 11) 11 11 = 1)) ∧
    (let w := 1 * 2 ^ 20 + 2 ^ 12 + 2 ^ 11 + 2 ^ 10 + 7
     let s : State := { atWord w with clusters := [(0, { flags := 128 })] }
     s.fetches 0 w ∧ fld w 14 12 = 1 ∧ (s.cluster 0).flags.getLsbD (fld w 5 0) = decide (fld w 11 11 = 1)) ∧
    (let w := 1 * 2 ^ 20 + 2 * 2 ^ 12
     (atWord w { cmpLatch := true }).fetches 0 w ∧ fld w 14 12 = 2 ∧ ((atWord w { cmpLatch := true }).eng 0).cmpLatch = true) ∧
    (let w := 1 * 2 ^ 20 + 3 * 2 ^ 12 + 31
     (atWord w { cals := 2 ^ 31 }).fetches 0 w ∧ fld w 14 12 = 3 ∧ ((atWord w { cals := 2 ^ 31 }).eng 0).cals.getLsbD (fld w 5 0) = true) ∧
    (let w := 1 * 2 ^ 20 + 4 * 2 ^ 12 + 7
     (atWord w { strobes := 128 }).fetches 0 w ∧ fld w 14 12 = 4 ∧ ((atWord w { strobes := 128 }).eng 0).strobes.getLsbD (fld w 5 0) = true) := by
  decide +kernel

/-- The same: SYNC, IRQ and a word that is undefined. -/
theorem met_engineEvents :
    (let w := 9 * 2 ^ 20
     let s := atWord w {} (((inMode .active).withO 0x5002 0 3 0x1000).withO 0x5009 0 3 63)
     s.fetches 0 w ∧ isSync 0 w = true ∧ s.engLock 0 = some 63) ∧
    (let w := 9 * 2 ^ 20 + 2 ^ 13 + 5
     let s := atWord w {} (((inMode .active).withO 0x5002 0 3 0x1000).withO 0x2615 1 0 3)
     s.fetches 0 w ∧ isSync 1 w = true ∧ (s.eng 0).ckpt = none) ∧
    (let w := 9 * 2 ^ 20 + 2 ^ 13 + 5
     let k : Ckpt := { regs := {}, tag := none, grp := some (5, 3), staged := 0 }
     let s := atWord w { ckpt := some k, gotEop := true } (((inMode .active).withO 0x5002 0 3 0x1000).withO 0x2615 1 0 3)
     s.fetches 0 w ∧ isSync 1 w = true ∧ (s.eng 0).ckpt = some k ∧ k.grp = some (fld w 6 0, 3) ∧ (s.eng 0).gotEop = true) ∧
    (let w := 9 * 2 ^ 20 + 2 * 2 ^ 13
     (atWord w).fetches 0 w ∧ isSync 2 w = true ∧ ((atWord w).eng 0).syncAt = none ∧
       ((atWord w { syncAt := some 0 }).eng 0).syncAt = some 0 ∧ 4 + 0 ≤ ((atWord w { syncAt := some 0 }).at_ 4).clock) ∧
    (∀ m ∈ [0, 1, 2], (atWord (11 * 2 ^ 20 + m * 2 ^ 13 + 7)).fetches 0 (11 * 2 ^ 20 + m * 2 ^ 13 + 7) ∧ isIrq m (11 * 2 ^ 20 + m * 2 ^ 13 + 7) = true ∧
      fld (11 * 2 ^ 20 + m * 2 ^ 13 + 7) 12 12 = 0) ∧
    (let s := atWord (12 * 2 ^ 20)
     (s.eng (0 : Fin 256)).st = .running ∧ s.enginesRun (0 : Fin 256) = true ∧ s.wordLost (0 : Fin 256) = false ∧
       s.wordBad (0 : Fin 256) (s.engWord (0 : Fin 256)) = some 1) := by
  decide +kernel

/-- EnginesLocksAndBanks: a match, a group, an engine that restarts, a driven pin of the last bank, a start, supplies at the edges of their
classes, 10 ms of a good supply. -/
theorem met_engines :
    (let s : State := { inMode .active with engines := [(255, { st := .running })] }
     (s.eng (255 : Fin 256)).st = .running ∧ (s.eng (255 : Fin 256)).cnt = (s.eng (255 : Fin 256)).cmp ∧ (s.eng (255 : Fin 256)).matched = false ∧
       s.o 0x600C 2 (255 : Fin 256) = 0) ∧
    (let r : GroupRun := { g := 127, inst := 0, th := 0, tag := none, confirmed := true }
     let s : State := { (inMode .active).at_ 10000000 with shutter := { groups := [r] } }
     s.shutter.groups.find? (fun r => r.g = (127 : Fin 128).val && r.th + 10000 * s.o 0x2602 0 < s.now10) = some r) ∧
    (((inMode .active).withO 0x6001 0 255 1).restartBar (255 : Fin 256) = none) ∧ ((inMode .active).eng (255 : Fin 256)).st ≠ .retired ∧
    (let s : State := { ((((inMode .active).withO 0x6009 24 240 2).withO 0x6007 0 240 (2 ^ 23)).withO 0x600A 1 240 (2 ^ 23)) with
       engines := [(240, { st := .running, dir := 2 ^ 23, out := 2 ^ 23 })]
       banks := [(14, { unpowered := false }), (15, { unpowered := false })] }
     s.padDrive (pinBank 240 23) (pinIn 23) = some true ∧ (s.driveMask (240 : Fin 256)).getLsbD (23 : Fin 48) = true ∧
       (s.eng (240 : Fin 256)).sh = .direct) ∧
    (let s : State := { inMode .active with engines := [(255, { rbFails := [(47, 4)] })] }
     s.o 0x600A 2 (255 : Fin 256) ≤ tget 0 (s.eng (255 : Fin 256)).rbFails (47 : Fin 48)) ∧
    (∀ f < 8, (inMode .active).setNow (W1c.toggled 15 f) = false ∧ (inMode .active).setNow (W1c.flag 15 f) = false) ∧
    (inMode .active).reaches (.session 0) = true ∧
    (((inMode .active).lock (63 : Fin 64)).starting = false ∧
      (let s : State := { inMode .active with locks := [(63, { starting := true })] }
       (s.lock (63 : Fin 64)).starting = true ∧ (s.lock (63 : Fin 64)).barrier = false ∧
         4 + (s.lock (63 : Fin 64)).since ≤ (s.at_ 4).clock)) ∧
    (let s := (inMode .active).withO 0x6800 16 0 0
     supplyClass 1620 = s.bankWants (15 : Fin 16) ∧ supplyClass 1980 = s.bankWants (15 : Fin 16) ∧ supplyClass 1619 ≠ s.bankWants (15 : Fin 16) ∧
       supplyClass 1981 ≠ s.bankWants (15 : Fin 16) ∧ (s.bank (15 : Fin 16)).mismatches = 0) ∧
    (let s : State := { inMode .active with banks := [(15, { mismatches := 1, unpowered := false })] }
     1 ≤ (s.bank (15 : Fin 16)).mismatches ∧ (s.bank (15 : Fin 16)).unpowered = false) ∧
    (let s : State := { (inMode .active).at_ (ticksMs 10) with banks := [(15, { matchSince := some 0 })] }
     (s.bank (15 : Fin 16)).matchSince = some 0 ∧ (s.bank (15 : Fin 16)).unpowered = true ∧ 0 + ticksMs 10 ≤ s.clock) ∧
    (let s : State := { ((inMode .active).withO 0x681F 24 0 256).at_ 65536 with banks := [(15, { unpowered := false, sync2 := 2 ^ 23 })] }
     let x := s.bank (15 : Fin 16)
     x.unpowered = false ∧ 0 < s.filtDelay (15 : Fin 16) (23 : Fin 24) / 4 ∧ x.sync2.getLsbD (23 : Fin 24) = true ∧
       s.filtDelay (15 : Fin 16) (23 : Fin 24) / 4 + max x.since (tget 0 x.runs (23 : Fin 24)) ≤ s.clock) := by
  decide +kernel

/-! ### Witnesses: time, trackers and the calendar -/

/-- A TIME frame of a kind. -/
def timeIn (k : Nat) (payload : List Byte := []) (rest : Nat := 0) : Frame :=
  { hdr := { typ := 5, cls := 5, source := 2, dest := 0xFF, length := payload.length, spec := k * 2 ^ 56 + rest }, payload := payload }

/-- RingTimeIsKept: every kind of frame, link delays at the ends of their range, each time limit at its end. -/
theorem met_ringTime :
    (let s := ringHub .active
     s.ringOn = true ∧ s.linkLive .a = true ∧ (∀ k ∈ [0, 1, 2, 3], (s.linked (timeIn k)).takeLink .a (isTime k) = some (timeIn k, s)) ∧
       (dataOf (timeIn 3)).root ≠ s.node) ∧
    (let z := List.replicate 28 (0 : Byte)
     wtRead (z.take 14) = some 0 ∧ wtRead ((z.drop 14).take 14) = some 0) ∧
    (let s := (ringHub .active { livePort with pdelay := some (0, 0, 0), rxData := [({ root := 2 }, 0)] }).at_ (ticksMs 1)
     (s.port .a).pdelay = some (specField (timeIn 2).hdr 22 2, 0, 0) ∧ ticksMs 1 + 0 ≤ s.clock ∧ s.clock ≤ ticksMs 1 + 0 + edgesOf 0) ∧
    (let s := ringHub .active
     (s.port .a).pdelayAt = none ∧ s.due s.ring.timeAnnAt (ticksMs 250) = true ∧ s.time.syncAt = none ∧ s.time.lastSample = none) ∧
    (({ ringHub .active with time := { root := 1 } } : State).time.root = (ringHub .active).node) ∧
    specField (timeIn 0).hdr 23 1 ≠ (ringHub .active { livePort with rxData := [({ root := 2 }, 0)] }).node ∧
    (let f := timeIn 0 (List.replicate 14 0) (2 * 2 ^ 32)
     let t : State := { inMode .active with
       ring := { a := livePort, node := 1 }, time := { root := 2, syncPort := some .a } }
     specField f.hdr 23 1 = t.time.root ∧ t.time.root ≠ t.node ∧ wtRead (f.payload.take 14) = some 0 ∧
       specField (timeIn 0).hdr 23 1 ≠ t.time.root) ∧
    (let s : State := { (ringHub .active { livePort with lastSync := some (1, 0) }).at_ (ringHub .active).syncPatience with
       time := { syncPort := some .a } }
     s.time.syncPort = some .a ∧ (s.port .a).lastSync = some (1, 0) ∧ 0 + s.syncPatience ≤ s.clock) ∧
    (∀ x ∈ [TimeStatus.locked, .acquiring, .holdover], ({ inMode .active with time := { status := x } } : State).time.status = x) ∧
    (let s : State := { inMode .active with time := { status := .holdover } }
     s.o 0x3022 3 < s.inaccuracy) := by
  decide +kernel

/-- The same: link delays just below 0, of 0, of 100 µs and just above. -/
theorem met_linkDelays :
    divNear (((0 - 0 : Nat) : Int) - (3 : Nat) - ((0 : Int) - 0)) 2 < 0 ∧ divNear (((0 - 0 : Nat) : Int) - (0 : Nat) - ((0 : Int) - 0)) 2 = 0 ∧
      divNear (((200000 * nsU - 0 : Nat) : Int) - (0 : Nat) - ((0 : Int) - 0)) 2 = 100000 * (nsU : Int) ∧
      100000 * (nsU : Int) < divNear (((200000 * nsU + 2 - 0 : Nat) : Int) - (0 : Nat) - ((0 : Int) - 0)) 2 := by
  unfold divNear; split <;> decide +kernel

/-- TimeSourcesAndOutputs: the last nanosecond, an interval 100 µs long by the limit and one nanosecond beyond, both edges of PPS_OUT. -/
theorem met_timeSources :
    (let s := ((inMode .active).withO 0x3020 1 0 0).withSession openSess
     (999999999#32).toNat < 1000000000 ∧ s.mayWrite 0 4 0x3010 0 ∧ s.time.status = .free ∧ s.o 0x3020 1 = 0) ∧
    (let s := ((inMode .active).withO 0x3020 1 0 2).withSession openSess
     s.mayWrite 0 6 0x3011 0 ∧ s.o 0x3020 1 = 2) ∧
    (let s : State := { ((inMode .active).withO 0x3020 1 0 2).withO 0x3050 1 0 0 with
       time := { wt := 1000100000 * nsU, status := .locked, pps := some 0, ppsLabel := some 5, root := 1 }, ring := { node := 1 } }
     s.o 0x3020 1 = 2 ∧ s.o 0x3050 1 = 0 ∧ s.time.status = .locked ∧ s.time.pps = some 0 ∧
       ((nsU * (((s.time.wt - 0) / nsU : Nat) - s.oi 0x3050 2) : Int) - (0 : Nat) - (1000000000 * nsU : Nat)).natAbs ≤ 100000 * nsU ∧
       100000 * nsU < ((nsU * (((s.time.wt + nsU - 0) / nsU : Nat) - s.oi 0x3050 2) : Int) - (0 : Nat) - (1000000000 * nsU : Nat)).natAbs ∧
       s.time.tod = none ∧ s.time.ppsLabel = some 5 ∧ s.time.root = s.node) ∧
    (let s := ((inMode .active).withO 0x3020 1 0 1).at_ 750000000
     750000000 + s.time.ppsOkAt.getD s.modes.resetEndAt ≤ s.clock ∧ 750000000 + s.time.irigAt.getD s.modes.resetEndAt ≤ s.clock ∧
       s.o 0x3020 1 = 1) ∧
    ((inMode .active).withO 0x3052 1 0 1).o 0x3052 1 ≠ 0xFFFF ∧ ((inMode .active).withO 0x3020 1 0 3).o 0x3020 1 = 3 ∧
    (let s : State := { inMode .active with time := { wt := 7 * 1000000000 * nsU, leapAt := some 7 } }
     s.time.leapAt = some 7 ∧ 7 ≤ s.time.wt / nsU / 1000000000) ∧
    (let s : State := { ((inMode .active).withO 0x3040 1 0 1).withO 0x3040 5 0 3 with
       time := { ptp2 := { state := 9, foreign := some ([], 1, 0), pdelay := some (1, 5) } } }
     let m : PtpMsg := { kind := .pdelayReq, domain := s.o 0x3040 3, sender := 1, seq := 1, ns := 999999999 }
     s.o 0x3040 1 ≠ 0 ∧ bitOf (s.o 0x3040 5) (1 : Fin 2) = true ∧ m.domain = s.o 0x3040 3 ∧ m.kind = .pdelayReq ∧ m.ns < 1000000000 ∧
       1000000000 ≤ ({ m with ns := 1000000000 } : PtpMsg).ns ∧ (s.ptp (1 : Fin 2)).state = 9 ∧
       (s.ptp (1 : Fin 2)).foreign = some ([], m.sender, 0) ∧ (s.ptp (1 : Fin 2)).pdelay = some (m.seq, 5)) ∧
    (let s : State := { (inMode .active).at_ (ticksUs 500000) with time := { ppsDue := true } }
     ticksUs (s.o 0x3051 2) + s.time.ppsRise ≤ s.clock ∧ s.ppsDueNow = true) ∧
    (let s : State := { (inMode .active).withO 0x3060 8 0 1 with time := { strobeFrozen := [(7, [0])] } }
     s.o 0x3060 ((7 : Fin 8).val + 1) ≠ 0 ∧ tget [] s.time.strobeFrozen (7 : Fin 8) = [0] ∧ 0 ≤ s.time.ltb) ∧
    (let s := (inMode .active).withO 0x3060 8 0 1
     tget [] s.time.strobeFrozen (7 : Fin 8) = [] ∧ s.time.wt ≤ 50 * nsU + s.strobeNext (7 : Fin 8) ∧
       s.gridNear (s.strobeNext (7 : Fin 8)) ≤ s.time.ltb) ∧
    (let s : State := { (inMode .active).withO 0x3060 8 0 1 with time := { strobeFrom := [(7, 1)], wt := 999900000 * nsU } }
     s.time.wt ≤ s.strobeNext (7 : Fin 8) ∧ s.nearFreeze (s.gridNear (s.strobeNext (7 : Fin 8))) = true ∧ s.time.ppsFrozen = none ∧
       s.nearFreeze (s.gridAt (nsU * (1000000000 * (max s.time.ppsIdx (s.ppsCount s.nsCount) + 1) + s.oi 0x3051 1)).toNat) = true) ∧
    (let c : PendingCommit := { owner := none, set := [], epoch := 0, at_ := .wt 0 }
     let s : State := { inMode .active with dict := { pendingCommit := some c } }
     s.dict.pendingCommit = some c ∧ c.at_ = .wt 0 ∧ c.frozen = none ∧ s.nearFreeze (s.gridAt 0) = true) ∧
    (let s : State := { inMode .active with time := { wt := 2 ^ 31 * nsU } }
     s.nsCount / 2 ^ 31 ≠ s.time.markAt ∧ s.reaches (.session 0) = true) := by
  decide +kernel

/-- TrackersAndCalendar: an input without and with a stamp, a locked tracker with a channel, an idle and a live entry, each state at its
instant. -/
theorem met_trackers :
    (let i : TrkInput := { phase := 0, freq := 0, rocof := 0, resid := 0, amp := 0 }
     let bare : Item := { sop := true, eop := true, data := 7 }
     let pair : List Item := [{ kind := 1, data := 5 }, { kind := 2, data := 0 }]
     let s : State := { (inMode .active).withO 0x3403 1 0 1 with phase := { trk := [(3, { seen := [bare] })] } }
     let u : State := { (inMode .active).withO 0x3403 1 0 2 with phase := { trk := [(3, { st := 1, seen := pair })] } }
     s.o (0x3400 + (3 : Fin 4)) 1 ≠ 0 ∧ tapNext (s.o (0x3400 + (3 : Fin 4)) 1) (s.trk (3 : Fin 4)).seen = some (none, 1, []) ∧
       u.o (0x3400 + (3 : Fin 4)) 1 = 2 ∧ tapNext 2 (u.trk (3 : Fin 4)).seen = some (some 5, 0, []) ∧ (u.trk (3 : Fin 4)).lastIn = none ∧
       (u.trk (3 : Fin 4)).st = 1 ∧ u.trkGood (3 : Fin 4) i = false) ∧
    (let s : State := { (inMode .active).withO 0x3403 1 0 1 with time := { ltb := 500000 } }
     s.trkPatience (3 : Fin 4) ≤ s.ltbNs - (s.trk (3 : Fin 4)).lastAt) ∧
    (let s : State := { ((inMode .active).withO 0x3403 1 0 1).withO 0x5001 0 9 0x6023 with phase := { trk := [(3, { st := 2, crossed := -1 })] } }
     let m := (s.phaseNow (3 : Fin 4) + s.angleOff (3 : Fin 4)) / turn
     s.trkState (3 : Fin 4) = 2 ∧ (s.trk (3 : Fin 4)).crossed < m ∧
       (s.setTrk (3 : Fin 4) { s.trk (3 : Fin 4) with crossed := m }).telemetryChan (0x20 + (3 : Fin 4)) = some 9) ∧
    (let s := (inMode .active).withSession openSess
     s.mayWrite 0 6 0x3601 (7 + 1) ∧ s.mayWrite 0 6 0x3602 0 ∧ s.reaches (.session 0) = true ∧
       (3#32).toNat < 2 ^ (calFieldPlace (0 : Fin 8)).1 ∧ s.calService (s.calSelected .pcie) = false ∧ calLive (s.cal (s.calSelected .pcie)) = false ∧
       calBadValue (0 : Fin 8) (3#32).toNat = false ∧ calBadValue (0 : Fin 8) (4#32).toNat = true ∧
       (s.calRefused 0 (s.cal 0) 0 false).isSome = true) ∧
    (let s : State := { inMode .active with phase := { cal := [(0, { st := 1, fire := 2 })] }, time := { ltb := 1 } }
     calLive (s.cal (s.calSelected .pcie)) = true ∧ s.time.ltb < (s.cal (s.calSelected .pcie)).fire ∧ (s.cal (0 : Fin 1024)).st = 1 ∧
       (s.cal (0 : Fin 1024)).fire ≤ s.time.ltb + s.horizon ∧ s.trkState (s.cal (0 : Fin 1024)).trk ≠ 2 ∧
       (let t := ({ s with phase := { s.phase with trk := [(0, { st := 2 })] } } : State).withO 0x3400 1 0 1
        t.trkState (t.cal (0 : Fin 1024)).trk = 2)) ∧
    (let s : State := { inMode .active with phase := { cal := [(1023, { st := 2, action := 3, repeat_ := 0 }), (5, { st := 2, action := 1 })] } }
     (s.cal (1023 : Fin 1024)).st = 2 ∧ (s.cal (1023 : Fin 1024)).fire ≤ s.time.ltb ∧ (s.cal (1023 : Fin 1024)).action = 3 ∧
       (s.cal (1023 : Fin 1024)).repeat_ = 0 ∧ (s.cal (5 : Fin 1024)).st = 2 ∧ (s.cal (5 : Fin 1024)).action = 1) := by
  decide +kernel

/-- The same: an entry that may be armed, for a cycle far enough ahead of a locked tracker. -/
theorem met_arm :
    let s : State := { (inMode .active).withO 0x3400 1 0 1 with
      phase := { trk := [(0, { st := 2, f := 50 * 131072 })], cal := [(0, { cycle := 50, action := 3 })] } }
    s.calService (s.calSelected .pcie) = false ∧ s.calRefused 0 (s.cal 0) (s.phiTarget 0 50 0) false = none := by
  decide +kernel

/-! ### Witnesses: station services and cores -/

/-- An active hub that runs a service, with channel 3 for an endpoint and items in it. -/
def serving (n ep : Nat) (l : List Item := []) (m : Mode := .active) : State :=
  { (inMode m).withO 0x5002 0 3 (0x4000 + ep) with cores := { svcs := [(n, { state := 2, core := 0 })] }, chans := [(3, { items := l })] }

/-- A packet of a stamp pair and one data item. -/
def stampedPacket (kind data : Nat) : List Item :=
  [{ sop := true, kind := 1 }, { kind := 2 }, { eop := true, kind := kind, data := BitVec.ofNat 24 data }]

/-- StationStreams, of sampled values: packets without and with a stamp, a sample missing for 50 µs, a whole block in service and in
standby, a subscription at its limit. -/
theorem met_sv :
    (let s := serving (0x100 + 31) 31 [oneItem]
     s.stationRuns = true ∧ s.svcUp (0x100 + (31 : Fin 32)) = true ∧ s.epIn (31 : Fin 32) = some 3 ∧ (s.epPacket 3).map (·.1) = some [oneItem] ∧
       stampPair [oneItem] = none) ∧
    (let l := stampedPacket 0 7
     let s := (serving (0x100 + 31) 31 l).withO 0x3811 9 31 1
     let t := ((s.epPacket 3).map (·.2)).getD s
     (s.epPacket 3).map (·.1) = some l ∧ stampPair l = some (0, l.drop 2) ∧ (t.svMatch (31 : Fin 32) (rebuildCount 0 t.nsCount)).isSome = true ∧
       t.o 0x3811 9 (31 : Fin 32) ≤ (((l.drop 2).filter (fun i => i.kind = 0)).take (t.o 0x3811 9 (31 : Fin 32))).length) ∧
    ((inMode .active).withO 0x7840 2 0 1).o 0x7840 ((1 : Fin 2) + 1) ≠ 0 ∧
    (let s : State := { (serving 0x100 0).withO 0x3811 8 0 1 with time := { wt := 50000 * nsU }, station := { svp := [(0, { block := some 0 })] } }
     s.svcUp (0x100 + (0 : Fin 32)) = true ∧ s.svGap (0 : Fin 32) = some 0 ∧ 50000 + s.svInstant (0 : Fin 32) 0 ≤ s.nsCount) ∧
    (let s : State := { ((serving 0x100 0).withO 0x3811 8 0 1).withO 0x3811 12 0 0 with
       station := { svp := [(0, { block := some 0, got := [(0, none)] })] } }
     s.svGap (0 : Fin 32) = none ∧ (s.svPub (0 : Fin 32)).block = some 0 ∧ s.stationSends = true ∧ s.streamKey 0x3811 12 (0 : Fin 32) = true ∧
       (let u := s.withO 0x3811 12 0 0x1F; u.streamKey 0x3811 12 (0 : Fin 32) = false ∧ (u.svPub (0 : Fin 32)).keyFault = false) ∧
       ({ s with modes := { mode := .standby } } : State).stationSends = false ∧ ({ s with modes := { mode := .standby } } : State).stationRuns = true) ∧
    (let s : State := { (serving (0x140 + 63) 99) with clock := 750000000, station := { svs := [(63, { state := 1 })] } }
     (s.svSub (63 : Fin 64)).state = 1 ∧ s.svcUp (0x140 + (63 : Fin 64)) = true ∧
       250000000 * (3 * s.o 0x3821 8 (63 : Fin 64)) ≤ (s.clock - (s.svSub (63 : Fin 64)).last) * s.o 0x3821 7 (63 : Fin 64)) := by
  decide +kernel

/-- StationStreams, of GOOSE and signals: an update packet, a publication not yet begun and one due, a subscription at timeAllowedToLive. -/
theorem met_goose :
    (let l := stampedPacket 0 7
     let s := serving 0 (0x60 + 31) l
     s.svcUp 0 = true ∧ s.epIn (0x60 + (31 : Fin 32)) = some 3 ∧ (s.epPacket 3).map (·.1) = some l ∧ stampPair l = some (0, l.drop 2)) ∧
    (let s := serving (0x200 + 127) 0
     s.svcUp (0x200 + (127 : Fin 128)) = true ∧ (s.goosePub (127 : Fin 128)).stNum = 0 ∧
       (let t : State := { s with station := { gp := [(127, { stNum := 1, nextAt := 0 })] } }
        (t.goosePub (127 : Fin 128)).stNum ≠ 0 ∧ (t.goosePub (127 : Fin 128)).nextAt ≤ t.clock)) ∧
    (let s : State := { (serving (0x300 + 255) 0).at_ (ticksMs 10) with station := { gs := [(255, { state := 1, tal := 10 })] } }
     (s.gooseSub (255 : Fin 256)).state = 1 ∧ s.svcUp (0x300 + (255 : Fin 256)) = true ∧
       ticksMs (s.gooseSub (255 : Fin 256)).tal + (s.gooseSub (255 : Fin 256)).since ≤ s.clock) := by
  decide +kernel

/-- LogAndSwitching, of the log: a code after its stamp pair, a stamp 0.9 s old, chatter that goes on and that ends. -/
theorem met_log :
    (let s := serving 0x400 (0xA0 + 47) (stampedPacket 3 1)
     s.soeEnters = true ∧ s.epIn (0xA0 + (47 : Fin 48)) = some 3 ∧
       (s.soeStamp (47 : Fin 48) 3).epItems 3 = (stampedPacket 3 1).drop 2 ∧ ((s.soeStamp (47 : Fin 48) 3).soeIn (47 : Fin 48)).stamp = some 0) ∧
    (let s : State := { serving 0x400 (0xA0 + 47) ((stampedPacket 3 1).take 2) with time := { wt := 900000000 * nsU } }
     ((s.soeStamp (47 : Fin 48) 3).soeIn (47 : Fin 48)).stamp = some 0 ∧ ((s.soeStamp (47 : Fin 48) 3).soeIn (47 : Fin 48)).provisional = none ∧
       900000000 ≤ serialDist 32 (s.soeStamp (47 : Fin 48) 3).st32 0 ∧ (s.soeStamp (47 : Fin 48) 3).station.log.hold = none) ∧
    (let s : State := { ((serving 0x400 0).withO 0x3901 1 0 2).at_ (ticksMs 60000) with
       station := { chatter := [(4094, { on := true, winCount := 1 }), (4095, { on := true, winCount := 0 })] } }
     s.soeEnters = true ∧ (s.chatter (4095 : Fin 4096)).on = true ∧ ticksMs (s.o 0x3901 2) + (s.chatter (4095 : Fin 4096)).winStart ≤ s.clock ∧
       s.o 0x3901 1 ≤ 2 * (s.chatter (4094 : Fin 4096)).winCount ∧ 2 * (s.chatter (4095 : Fin 4096)).winCount < s.o 0x3901 1) := by
  decide +kernel

/-- LogAndSwitching, of breakers: one that may operate, one that operates, one whose service is down; a contact; none within twice the time. -/
theorem met_switching :
    (let s := (serving 0x480 0).withSession openSess
     s.mayWrite 0 6 0x3A06 1 ∧ s.cswMay (s.cswSel (0 : Fin 32)) = true ∧ (s.brk (s.cswSel (0 : Fin 32))).kind = 0 ∧
       (({ s with station := { csw := [(0, { kind := 1 })] } } : State).brk 0).kind ≠ 0 ∧ (inMode .active).cswMay 0 = false) ∧
    (let l := stampedPacket 3 0xC1
     let s : State := { serving (0x480 + 7) (0xE8 + 3 * 7 + 2) l with station := { csw := [(7, { kind := 1 })] } }
     s.svcUp (0x480 + (7 : Fin 8)) = true ∧ s.epIn (0xE8 + 3 * (7 : Fin 8) + (2 : Fin 3)) = some 3 ∧ (s.epPacket 3).map (·.1) = some l ∧
       stampPair l = some (0, l.drop 2) ∧ (s.brk (7 : Fin 8)).kind ≠ 0 ∧ 0xC1 = 0xC0 + (s.brk (7 : Fin 8)).kind) ∧
    (let s : State := { (inMode .active).at_ 501 with station := { csw := [(7, { kind := 1, poles := [{ fired := some (0, 0), t := 1000 }] })] } }
     (s.brk (7 : Fin 8)).kind ≠ 0 ∧ (s.brk (7 : Fin 8)).poles.any (fun q => match q.fired, q.contact with
        | some (f, _), none => (((s.clock - f) * 4 : Nat) : Int) > 2 * q.t
        | _, _ => false) = true) := by
  decide +kernel

/-- CoresAndTrace: a load at its limit, hinge points in service and in standby, a trap on a core that runs, trace messages of each kind. -/
theorem met_cores :
    (let s := (inMode .active).withO 0x4004 0 0 1000
     1000 ≤ s.o 0x4004 0 ∧ ((inMode .active).withO 0x4004 0 0 0).o 0x4004 0 < 1000 ∧ (s.coreSt (15 : Fin 16)).state = 0 ∧
       (s.coreSt (15 : Fin 16)).winAt = none) ∧
    (let s := serving 1281 0
     s.svcUp (1281 : Fin 1282) = true ∧ s.modes.mode ≠ .standby ∧ s.modes.mode ≠ .handover ∧ (serving 1281 0 [] .standby).modes.mode = .standby ∧
       (let w : Swap := { kind := 1, session := none, released := none, mine := true, back := .active }
        let u : State := { serving 1281 0 [] .handover with pair := { swap := some w } }
        u.svcUp (1281 : Fin 1282) = true ∧ u.modes.mode = .handover ∧ u.pair.swap = some w)) ∧
    (let h : Hinge := { format := 1, seq := 1, st32 := 0, body := .none }
     let s : State := { inMode .active with cores := { svcs := [(0, { tcm := some h }), (1, { state := 3 })] } }
     (s.svc (0 : Fin 1282)).tcm = some h ∧ (s.svc (1 : Fin 1282)).state = 3 ∧ (8 : Fin 9).val ≠ 0 ∧ (8 : Fin 9).val ≠ 3) ∧
    (coreTrace (0 : Fin 16) = true ∧ coreTrace (2 : Fin 16) = true ∧ coreTrace (3 : Fin 16) = true ∧
      (let s := ((inMode .active).withO 0x4020 4 0 2).withO 0x4020 2 0 1
       ((3 * 2 ^ 14 : Nat) / 2 ^ 14 % 4) > s.o 0x4020 4 ∧ (s.coreSt (15 : Fin 16)).state = 0 ∧ s.o 0x4020 2 ≠ 0 ∧
         (2 ^ 32 + s.st32 - (0#32).toNat) % 2 ^ 32 ≤ 1000000000)) ∧
    (let m : TraceMsg := { typ := 2, core := 0, seq := 0, stamp := 0, payload := [] }
     let s : State := { (inMode .active).withO 0x4020 1 0 1 with cores := { buf := [m] } }
     s.cores.buf = [m] ∧ s.o 0x4020 1 ≠ 0 ∧ s.modes.mode ≠ .doze ∧ s.reaches (.session 0) = true) ∧
    (let s := (inMode .active).withSession openSess
     s.mayWrite 0 6 0x4011 9) := by
  decide +kernel

/-- The same: a service four times its hinge limit without a hinge point. -/
theorem met_overdue (n : Fin 1282) :
    let s := (serving n 0).at_ (ticksUs (4 * hingeMaxOf n))
    s.svcUp n = true ∧ ticksUs (4 * hingeMaxOf n) + (s.svc n).hingeAt ≤ s.clock := by
  constructor
  · simp [State.svcUp, State.svc, serving, State.at_, tget, tgetF]
  · simp [State.svc, serving, State.at_, tget, tgetF]

/-! ### Witnesses: CAN, the bridge and tunnels -/

/-- A controller 7 in a state, in a mode. -/
def canHub (x : CanCtl) (m : Mode := .active) : State :=
  { (((inMode m).withO 0x7001 1 7 1).withO 0x7030 1 7 0) with can := [(7, x)] }

/-- CanFramesPass: a packet that fits, a head that completes, is lost or aborted, an exclusive frame, frames to a session, to a filter and to
nobody, a buffer that drains. -/
theorem met_can :
    (let s : State := { (canHub {}).withO 0x5002 0 3 0x3007 with chans := [(3, { items := [oneItem] })] }
     s.canEnabled (7 : Fin 8) = true ∧ canBusMode s.modes.mode = true ∧ (s.ctl (7 : Fin 8)).queue.length < s.o 0x7002 1 (7 : Fin 8) ∧
       s.canTxChan (7 : Fin 8) = some 3 ∧ packetItems (s.epItems 3) = [oneItem] ∧ [oneItem].getLast?.any (·.eop) = true) ∧
    (let e : CanEntry := { seq := 4, frame := { dlc := 0, id := 5 } }
     let s := canHub { state := 2, queue := [e] }
     s.canOn (7 : Fin 8) = true ∧ (s.ctl (7 : Fin 8)).ref = none ∧ (s.ctl (7 : Fin 8)).exclusive = none ∧ (s.ctl (7 : Fin 8)).queue = [e] ∧
       (s.ctl (7 : Fin 8)).aborting = false ∧ s.headOffered (7 : Fin 8) = true ∧ s.tdcMeasured (7 : Fin 8) e.frame none = none ∧ ((canHub { state := 2, queue := [e], aborting := true }).ctl (7 : Fin 8)).aborting = true) ∧
    (let f : CanFrame := { dlc := 0, id := 5 }
     let s := canHub { state := 2, exclusive := some f }
     s.canOn (7 : Fin 8) = true ∧ (s.ctl (7 : Fin 8)).ref = none ∧ (s.ctl (7 : Fin 8)).exclusive = some f ∧
       s.tdcMeasured (7 : Fin 8) f none = none ∧ s.canSending (7 : Fin 8) = some f ∧
       ((canHub { state := 2, ref := some (0, 0, []) }).ctl (7 : Fin 8)).ref = some (0, 0, []) ∧ s.setNow (W1c.abort 7) = false) ∧
    (let f : CanFrame := { dlc := 0, id := 5, fdf := true, brs := true }
     let s := ((canHub { state := 2, exclusive := some f }).withO 0x7001 11 7 1).withO 0x7001 12 7 0
     s.canSending (7 : Fin 8) = some f ∧ s.tdcMeasured (7 : Fin 8) f (some 127) = some 127 ∧ 127 + s.o 0x7001 12 (7 : Fin 8) ≤ 127) ∧
    (let s := canHub { state := 2, rec_ := 1 }
     let f : CanFrame := { dlc := 0, id := 5 }
     let u := ((s.drew.setCtl (7 : Fin 8) { s.ctl (7 : Fin 8) with rec_ := 0, state := canErrState 0 0 }).canEnded (7 : Fin 8)).canCount (7 : Fin 8) 2
     s.canOn (7 : Fin 8) = true ∧ canBusMode s.modes.mode = true ∧ u.canNode (7 : Fin 8) f = none ∧
       (List.range 32).find? (u.canMatches (7 : Fin 8) f) = none) ∧
    (∀ a ∈ [1, 2], let s := (canHub { state := 2 }).withO 0x7020 32 7 (a * 2 ^ 62 + 2 ^ 60)
     let f : CanFrame := { dlc := 0, id := 5 }
     s.canNode (7 : Fin 8) f = none ∧ (List.range 32).find? (s.canMatches (7 : Fin 8) f) = some 31 ∧ s.o 0x7020 (31 + 1) (7 : Fin 8) / 2 ^ 62 = a) ∧
    (let s := ((canHub { state := 2 }).withO 0x7001 10 7 1).withO 0x7002 3 7 0x600
     let f : CanFrame := { dlc := 0, id := BitVec.ofNat 29 ((0x600 + s.node) * 2 ^ 18) }
     s.canNode (7 : Fin 8) f = some (0x600, s.node)) ∧
    (let s := ((canHub { rx := [(31, [oneItem])] }).withO 0x5001 0 9 (0x3000 + 255)).withO 0x5005 0 9 1
     s.canDrainable (7 : Fin 8) [] [(31, [oneItem])] = some (31, [oneItem]) ∧ s.canRxChan (7 : Fin 8) 31 = some 9 ∧ s.reaches (.session 0) = true) := by
  decide +kernel

/-- CanErrorsWakeAndSchedule: the counters at their limits, a dozing hub with each detector. -/
theorem met_canErrors :
    (let s := canHub { state := 2, rec_ := 119, tec := 127 }
     s.canOn (7 : Fin 8) = true ∧ (s.ctl (7 : Fin 8)).rec_ + 8 ≤ 127 ∧ (s.ctl (7 : Fin 8)).tec ≤ 127 ∧ (s.ctl (7 : Fin 8)).state = 2) ∧
    (let s := canHub { state := 3, tec := 248 }
     s.canOn (7 : Fin 8) = true ∧ 255 < (s.ctl (7 : Fin 8)).tec + 8 ∧ (s.ctl (7 : Fin 8)).exclusive = none ∧ (s.ctl (7 : Fin 8)).queue = []) ∧
    (let s := canHub { state := 4, restart := true }
     (s.ctl (7 : Fin 8)).state = 4 ∧ canBusMode s.modes.mode = true ∧ (s.ctl (7 : Fin 8)).restart = true) ∧
    (let f : CanFrame := { dlc := 0, id := 5, ide := true }
     let s := ((((canHub {} .doze).withO 0x1131 0 0 0x80).withO 0x7003 1 7 2).withO 0x7003 4 7 5).withO 0x7003 6 7 1
     s.modes.mode = .doze ∧ bitOf (s.o 0x1131 0) (7 : Fin 8) = true ∧ s.canEnabled (7 : Fin 8) = true ∧ s.o 0x7003 1 (7 : Fin 8) = 2 ∧
       f.fdf = false ∧ f.rtr = false ∧ s.o 0x7003 7 (7 : Fin 8) = 0 ∧ f.dlc.val = 0 ∧
       (f.id.toNat ^^^ s.o 0x7003 4 (7 : Fin 8)) &&& s.o 0x7003 5 (7 : Fin 8) = 0 ∧ f.ide = decide (s.o 0x7003 6 (7 : Fin 8) = 1)) ∧
    ((canHub { tt := 4 }).ctl (7 : Fin 8)).tt = 4 ∧
    (let s := ((canHub {} .doze).withO 0x1131 0 0 0x80).withO 0x7003 1 7 0
     let t := s.withO 0x7003 1 7 1
     s.modes.mode = .doze ∧ bitOf (s.o 0x1131 0) (7 : Fin 8) = true ∧ s.canEnabled (7 : Fin 8) = true ∧ s.o 0x7003 1 (7 : Fin 8) = 0 ∧
       t.o 0x7003 1 (7 : Fin 8) = 1 ∧ t.o 0x7003 2 (7 : Fin 8) ≤ t.o 0x7003 2 (7 : Fin 8) ∧
       3 * t.o 0x7003 2 (7 : Fin 8) ≤ 1000 * t.o 0x7003 3 (7 : Fin 8)) := by
  decide +kernel

/-- The same: a controller that integrates, a master and a slave of the schedule, triggers of each type, a guard exceeded. -/
theorem met_canSchedule :
    ((canHub { state := 1 }).ctl (7 : Fin 8)).state = 1 ∧ canBusMode (canHub { state := 1 }).modes.mode = true ∧
    (let s := (canHub { state := 2, tt := 3 }).withO 0x7030 1 7 2
     s.ttMode (7 : Fin 8) = 2 ∧ canSendMode s.modes.mode = true ∧ s.ttOn (7 : Fin 8) = true ∧ s.ttInstant (7 : Fin 8) = some (0, 0) ∧
       (s.ctl (7 : Fin 8)).refIdx ≠ 0 + 1) ∧
    (let s := ((canHub { state := 2, tt := 2, lastRef := some (0, 0, 0) }).withO 0x7030 1 7 1).withO 0x7030 5 7 2
     let u := s.at_ 250000
     u.ttOn (7 : Fin 8) = true ∧ (u.ctl (7 : Fin 8)).lastRef = some (0, 0, 0) ∧ (1 : Nat) = (0 + 1) % max 1 (u.o 0x7030 5 (7 : Fin 8)) ∧
       0 < u.clock - 0 / 2 ^ 34) ∧
    (let s := (canHub { state := 2, tt := 2 }).withO 0x7030 1 7 1
     s.ttOn (7 : Fin 8) = true ∧ (s.ctl (7 : Fin 8)).lastRef = none ∧ (s.ctl (7 : Fin 8)).tt ≠ 3) ∧
    (let f : CanFrame := { dlc := 0, id := 5 }
     let s := ((((canHub { state := 2, tt := 3, bufs := [(15, f)] }).withO 0x7030 1 7 2).withO 0x7031 64 7 (2 ^ 29 + 15 * 2 ^ 25)).withO 0x7031 1 7
       (2 ^ 29 + 14 * 2 ^ 25)).withO 0x7031 2 7 (2 * 2 ^ 29) |>.withO 0x7031 3 7 (3 * 2 ^ 29)
     let x := s.ctl (7 : Fin 8)
     (∀ t ∈ [0, 1, 2, 63], ttActive (s.o 0x7031 (t + 1) (7 : Fin 8)) ((x.cycle + (s.ttTime (7 : Fin 8)).1) % max 1 (s.o 0x7030 5 (7 : Fin 8))) = true ∧
       (s.ttTime (7 : Fin 8)).2 = s.o 0x7031 (t + 1) (7 : Fin 8) % 65536 ∧ ((s.ttTime (7 : Fin 8)).1, t) ∉ x.acted) ∧
       s.ttOn (7 : Fin 8) = true ∧ canSendMode s.modes.mode = true ∧
       s.o 0x7031 (63 + 1) (7 : Fin 8) / 2 ^ 29 = 1 ∧ x.tt = 3 ∧
       x.bufs.find? (fun b => b.1 = s.o 0x7031 (63 + 1) (7 : Fin 8) / 2 ^ 25 % 16) = some (15, f) ∧
       x.bufs.find? (fun b => b.1 = s.o 0x7031 (0 + 1) (7 : Fin 8) / 2 ^ 25 % 16) = none ∧ s.o 0x7031 (1 + 1) (7 : Fin 8) / 2 ^ 29 = 2 ∧ 2 ≤ x.tt ∧
       s.o 0x7031 (2 + 1) (7 : Fin 8) / 2 ^ 29 = 3 ∧ tget false x.seen (2 * 32 + s.o 0x7031 (2 + 1) (7 : Fin 8) / 2 ^ 25 % 16) = false) ∧
    (let s := (((canHub { state := 2, tt := 2 }).withO 0x7030 1 7 1).withO 0x7030 8 7 200).at_ (ticksMs 100000)
     s.ttMode (7 : Fin 8) ≠ 0 ∧ (s.ctl (7 : Fin 8)).master = false ∧ 2 ≤ (s.ctl (7 : Fin 8)).tt ∧ (s.ctl (7 : Fin 8)).tt ≠ 4 ∧
       s.ttDrifts (7 : Fin 8) (s.o 0x7030 7 (7 : Fin 8) - 1) = true) := by
  decide +kernel

/-- A window of 4 KiB at BAR2 offset 0 on this hub's DRAM. -/
def dramWindow : Window := { base := 0, size := 12, target := dramBase, attr := 5 }

/-- HostWindows: an access in a window and in none, a fill that is done, a line and waits at their limits, an atomic of 4 bytes and of 8. -/
theorem met_windows :
    (let s : State := { (inMode .active).withO 0x1006 0 0 4096 with bridge := { windows := [(63, dramWindow)] } }
     s.windowOf (0xFFC#32).toNat 4 = some dramWindow ∧ s.windowOf (0xFFD#32).toNat 4 = none ∧ s.windowOf (0#32).toNat 0 = some dramWindow ∧
       atomicSize (.fetchAdd 4 1) = 4 ∧ atomicSize (.swap 8 1) = 8 ∧ (0xFF8#32).toNat % 8 = 0 ∧
       s.windowOf (0xFF8#32).toNat (atomicSize (.swap 8 1)) = some dramWindow ∧
       s.atomicOk (dramWindow.bytes (0xFF8#32).toNat (atomicSize (.swap 8 1))) = true ∧
       s.windowOf (0x1000#32).toNat (atomicSize (.fetchAdd 4 1)) = none ∧ s.reaches .pcie = true ∧
       s.readBehind ((dramWindow.bytes (0xFFC#32).toNat 4).min?.getD 0 / 2 ^ 40) = false ∧
       (let at_ := (dramWindow.bytes (0xFF8#32).toNat 8).map (fun a => a % 2 ^ 40 - dramBase)
        let u : State := { s with modes := { s.modes with dramInit := true } }
        at_.any u.dramWaits = false ∧ u.dramBadIn (at_.min?.getD 0) 8 = none)) ∧
    (let r : Remote := { id := 6, who := .host 6, write := false, node := 2, addr := 0, len := 4, parts := 1, seqs := [(0, some 9)]
                         answers := [(0, some 0)] }
     let f : PfFill := { id := 6, node := 2, addr := 0 }
     let s : State := { inMode .active with ring := { remotes := [r] }, bridge := { fills := [f] } }
     s.bridge.fills.find? (fun f => f.id = 6) = some f ∧ s.remote 6 = some r ∧ r.done = true ∧ r.code = none ∧ f.spoiled = false) ∧
    (let l : PfLine := { node := 2, addr := 0, data := [], filled := 0 }
     let s : State := { (inMode .active).at_ (ticksUs (State.reset.o 0x7802 4)) with bridge := { lines := [l] } }
     s.bridge.lines[(0 : Fin 16).val]? = some l ∧ ticksUs (s.o 0x7802 4) + l.filled ≤ s.clock) ∧
    (let h : HostRead := { id := 6, want := [0], since := 0 }
     let s : State := { (inMode .active).at_ (ticksUs (State.reset.o 0x7802 1)) with bridge := { reads := [h], errValid := true } }
     s.bridge.reads = [h] ∧ h.id = 6 ∧ ticksUs (s.o 0x7802 1) + h.since ≤ s.clock ∧
       (inMode .active).bridge.reads.filter (fun h => h.id = 6 && (inMode .active).clock ≥ ticksUs ((inMode .active).o 0x7802 1) + h.since) = [] ∧
       (inMode .active).reaches .pcie = true) ∧
    (let d : HeldDel := { cls := 8, ch := 0, items := [], since := 0, who := .host 5 }
     let s : State := { (inMode .active).at_ (ticksUs (State.reset.o 0x7802 2)) with heldDel := [d] }
     s.heldDel.find? (fun d => d.cls = 8 && d.who ≠ Waiter.none) = some d ∧ d.who = .host 5 ∧ ticksUs (s.o 0x7802 2) + d.since ≤ s.clock) := by
  decide +kernel

/-- BridgeRegistersAndSemaphores: a fence with nothing posted, with a write posted before and after it, and at its limit; a doorbell at the
lengths it takes; a response with and without one behind it; a semaphore that is free, held and one edge beyond its limit. -/
theorem met_bridge :
    (let s := inMode .active
     s.reaches .pcie = true ∧ s.bridge.fence = none ∧ s.bridge.posted = [] ∧ s.setNow W1c.brErr = false ∧ s.setNow W1c.resp = false ∧
       tget none s.bridge.sems (63 : Fin 64) = none ∧ s.bridge.mbResp = none) ∧
    ({ inMode .active with bridge := { posted := [0] } } : State).bridge.posted ≠ [] ∧
    (let s : State := { inMode .active with bridge := { posted := [0, 2], fence := some (0, 2) } }
     s.bridge.fence = some (0, 2) ∧ 0 ∈ s.bridge.posted ∧ 0 < 2 ∧ s.clock < ticksUs (s.o 0x7802 1) + 0 ∧
       ticksUs (s.o 0x7802 1) + 0 ≤ (s.at_ (ticksUs (s.o 0x7802 1))).clock) ∧
    (let s : State := { inMode .active with bridge := { posted := [2], fence := some (0, 2) } }
     s.bridge.fence = some (0, 2) ∧ ∀ i ∈ s.bridge.posted, 2 ≤ i) ∧
    (let s := inMode .active
     s.bridge.mbBusy = false ∧ s.mbReady = true ∧ 16 ≤ (16#32).toNat ∧ (4096#32).toNat ≤ 4096 ∧ (4096#32).toNat < 2 ^ 13 ∧
       (15#32).toNat < 16 ∧ 4096 < (4097#32).toNat ∧ (4097#32).toNat < 2 ^ 13 ∧ (inMode .boot).mbReady = false) ∧
    (let s : State := { inMode .active with bridge := { mbResp := some [1] } }
     let u : State := { inMode .active with bridge := { mbResp := some [1], mbOut := [[2]] } }
     s.bridge.mbResp = some [1] ∧ s.setNow W1c.resp = false ∧ s.bridge.mbOut = [] ∧ u.bridge.mbOut = [2] :: []) ∧
    (let s : State := { (inMode .active).at_ (ticksMs (State.reset.o 0x7802 3) + 1) with bridge := { sems := [(63, some (ctxKey (.session 0), 0))] } }
     tget none s.bridge.sems (63 : Fin 64) = some (ctxKey (.session 0), 0) ∧ 0 + ticksMs (s.o 0x7802 3) < s.clock ∧ s.reaches (.session 0) = true ∧
       ctxKey (.session 0) ≠ ctxKey .pcie) := by
  decide +kernel

/-- TunnelsAndStationPorts: a tunnel out of service, of channels and of station frames; frames that are refused and that come out; station
frames that are bad, plain, the first and the second of a pair. -/
theorem met_tunnels :
    ((inMode .active).withO 0x7831 1 63 0).o 0x7831 1 (63 : Fin 64) = 0 ∧
    (let s : State := { (((inMode .active).withO 0x7831 1 63 1).withO 0x7831 2 63 0).withO 0x5002 0 3 (0x5000 + 63) with
       chans := [(3, { items := [oneItem] })] }
     s.o 0x7831 1 (63 : Fin 64) ≠ 0 ∧ s.o 0x7831 2 (63 : Fin 64) = 0 ∧ s.tunnelChan 0x5002 (63 : Fin 64) = some 3 ∧
       s.tunnelPacket 3 = some [oneItem]) ∧
    (let s : State := { ((inMode .active).withO 0x7831 1 63 1).withO 0x7831 2 63 1 with bridge := { tunIn := [(63, 0, [])] } }
     s.o 0x7831 2 (63 : Fin 64) ≠ 0 ∧ s.bridge.tunIn.find? (fun x => x.1 = (63 : Fin 64).val) = some (63, 0, [])) ∧
    (let f : Frame := { hdr := { typ := 7, cls := 2, source := 2, dest := 1, destCh := 63 }, payload := [] }
     let s : State := { ((inMode .active).withO 0x7831 1 63 1).withO 0x7831 2 63 1 with ring := { delivered := [f] } }
     let t : State := { inMode .active with ring := { delivered := [f] } }
     s.ring.delivered.find? (fun f => f.hdr.typ = 7 && !s.tunnelWaits f) = some f ∧ ({ s with ring := {} } : State).tunnelRefuses f.hdr = false ∧
       t.ring.delivered.find? (fun f => f.hdr.typ = 7 && !t.tunnelWaits f) = some f ∧ ({ t with ring := {} } : State).tunnelRefuses f.hdr = true ∧
       f.hdr.destCh < 64) ∧
    (let s := ((inMode .active).withO 0x7840 2 0 1).withO 0x7841 1 0 0
     let p := s.withO 0x7841 1 0 1
     let b := List.replicate 64 (0 : Byte)
     s.o 0x7840 ((1 : Fin 2).val + 1) ≠ 0 ∧ s.stationMay (stationUse b) = true ∧ s.stationMay .prp = true ∧
       s.due s.bridge.prpAt (ticksMs (s.o 0x7841 3)) = true ∧ s.stationBad 1 (List.replicate 2049 0) = true ∧ s.stationBad 1 (List.replicate 2048 0) = false ∧
       s.stationBad 1 b = false ∧ s.prpOn = false ∧ p.prpOn = true ∧ p.stationBad 1 b = false ∧ etherType b ≠ 0x88F7 ∧ (p.prpIn 1 b).2.isSome = true ∧
       (let c := List.replicate 58 (0 : Byte) ++ [0, 1, 0xB0, 52, 0x88, 0xFB]
        (p.prpIn 1 c).2.isSome = true ∧ ((p.prpIn 1 c).1.prpIn 1 c).2 = none)) := by
  decide +kernel

/-! ### What WellFormed refuses: one ill-formed term for each check -/

/-- A header, a transaction and frames that are well formed. -/
def okHdr : Hdr := { typ := 0, cls := 0, source := 1, dest := 2 }

/-- A transaction that is well formed. -/
def okTxn : Txn := { path := .mailbox, ident := 0, cmd := 0x10, sess := 0, tag := 0 }

/-- Identities a path cannot name (R37). -/
theorem test_ident_refused : Path.identOk .ring 256 = false ∧ Path.identOk .can 2048 = false ∧ Path.identOk .udp (2 ^ 48) = false ∧
    Path.identOk .mailbox 1 = false ∧ Path.identOk .uart 1 = false := by decide +kernel

/-- Transaction headers whose fields do not fit (R35). -/
theorem test_txn_refused : okTxn.wf = true ∧ (∀ t ∈ [{ okTxn with ident := 1 }, { okTxn with size := 17 }, { okTxn with cmd := 256 },
    { okTxn with sess := 256 }, { okTxn with tag := 2 ^ 16 }, { okTxn with index := 2 ^ 16 }, { okTxn with sub := 256 },
    { okTxn with flags := 256 }, { okTxn with len := 2 ^ 32 }, { okTxn with off := 2 ^ 32 }], Txn.wf t = false) := by decide +kernel

/-- Ring headers whose fields do not fit, and a frame with a tag it should not have (R86, R89). -/
theorem test_hdr_refused : okHdr.wf = true ∧ (∀ h ∈ [{ okHdr with version := 4 }, { okHdr with typ := 16 }, { okHdr with colour := 4 },
    { okHdr with cls := 8 }, { okHdr with source := 256 }, { okHdr with dest := 256 }, { okHdr with destCh := 4096 },
    { okHdr with seq := 2 ^ 16 }, { okHdr with hops := 256 }, { okHdr with rsv9 := 256 }, { okHdr with length := 2 ^ 16 },
    { okHdr with originSt32 := 2 ^ 32 }, { okHdr with residence := 2 ^ 32 }, { okHdr with spec := 2 ^ 64 }, { okHdr with keySlot := 64 },
    { okHdr with tagMode := 4 }, { okHdr with rsv28 := 256 }, { okHdr with hcrc := 2 ^ 16 }], Hdr.wf h = false) ∧
    Frame.wf { hdr := okHdr, payload := [], tag := [0] } = false ∧ Frame.wf { hdr := { okHdr with auth := true }, payload := [] } = false := by
  decide +kernel

/-- Reports, DRAM requests and findings that name nothing of the hub (R450, R142, R501). -/
theorem test_report_refused : (∀ r ∈ [({ source := 256 } : Report), { source := 0, syndrome := 2 ^ 32 }, { source := 0, address := 2 ^ 48 }],
    Report.wf r = false) ∧ DramReq.wf { index := 22, cls := 0, background := false, write := false } = false ∧
    DramReq.wf { index := 0, cls := 8, background := false, write := false } = false ∧
    (∀ r ∈ [({ index := 18, cls := 7, background := false, write := true } : DramReq), { index := 19, cls := 0, background := false, write := false },
      { index := 21, cls := 7, background := true, write := false }, { index := 0, cls := 0, background := true, write := false }], r.wf = false) ∧ Finding.wf { macro_ := 2 ^ 16 } = false ∧
    Finding.wf { macro_ := 0, bit := 256 } = false := by decide +kernel

/-- Station frames whose fields do not fit (R258, R301, R310). -/
theorem test_station_refused :
    (let m : PtpMsg := { kind := .sync, domain := 0, sender := 0, seq := 0 }
     m.wf = true ∧ (∀ x ∈ [{ m with domain := 256 }, { m with seq := 2 ^ 16 }, { m with flags := 2 ^ 16 }, { m with sec := 2 ^ 48 },
       { m with ns := 2 ^ 32 }, { m with kind := .announce }], PtpMsg.wf x = false)) ∧
    (let f : SvFrame := { dest := 0, appid := 0, svid := [], confRev := 0, asdus := [] }
     f.wf = true ∧ (∀ x ∈ [{ f with dest := 2 ^ 48 }, { f with appid := 2 ^ 16 }, { f with confRev := 2 ^ 32 },
       { f with asdus := [{ smpCnt := 2 ^ 16, synch := 0, vals := [] }] }], SvFrame.wf x = false)) ∧
    (let f : GooseFrame := { dest := 0, appid := 0, gocbRef := [], datSet := [], confRev := 0, stNum := 0, sqNum := 0, tal := 0, t := 0
                             members := [] }
     f.wf = true ∧ (∀ x ∈ [{ f with dest := 2 ^ 48 }, { f with appid := 2 ^ 16 }, { f with confRev := 2 ^ 32 }, { f with stNum := 2 ^ 32 },
       { f with sqNum := 2 ^ 32 }, { f with tal := 2 ^ 32 }], GooseFrame.wf x = false)) := by
  decide +kernel

/-- CAN frames no controller can receive (R352, R357). -/
theorem test_can_refused : CanFrame.wf { dlc := 8, id := 0, data := List.replicate 9 0 } = false ∧
    CanFrame.wf { dlc := 15, id := 0, fdf := true, data := List.replicate 65 0 } = false ∧
    CanFrame.wf { dlc := 1, id := 0, rtr := true, data := [0] } = false ∧ CanFrame.wf { dlc := 0, id := 0, rtr := true, fdf := true } = false := by
  decide +kernel

/-- Mirror records that name no entry or service, or have not the fields of a calendar entry (R475, R476). -/
theorem test_mirror_refused :
    (let e : MirrorEntry := { index := 2 ^ 16, sub := 0, item := 0, v := .num 0 }
     e.wf = false ∧ ({ e with index := 0, sub := 256 } : MirrorEntry).wf = false ∧ (MirrorRec.commit [e] 0).wf = false ∧ (MirrorRec.write e).wf = false ∧
       (MirrorRec.config [e]).wf = false ∧ (MirrorRec.hinge 1282 { format := 0, seq := 0, st32 := 0, body := .none }).wf = false ∧
       (MirrorRec.calendar 0 [] true).wf = false ∧ Instr.wf (.configTransferRequest [e]) = false) := by
  decide +kernel

/-- Commands with an operand that nothing can carry: one for each arm of `Instr.wf` with a condition of its own. -/
theorem test_instr_refused : ∀ i ∈ [Instr.registerWrite .pcie (2 ^ 24) 0, .registerWrite .pcie 2 0, .openReq okTxn 256,
    .openConfirm { okTxn with cmd := 256 } [], .closeReq { okTxn with cmd := 256 }, .keepAlive { okTxn with cmd := 256 },
    .read { okTxn with cmd := 256 }, .write { okTxn with len := 2 } [0], .readStaged { okTxn with cmd := 256 }, .fabricRead okTxn 0 65536,
    .fabricWrite { okTxn with cmd := 256 } 0 [], .supplyOutOfRange 4 0, .imageHeaderChecked 0 [],
    .headerReceived .a { hdr := { okHdr with typ := 16 }, payload := [] }, .class7Suspend .a 63, .suspendReceived .a 65,
    .marginRetrainTimeout .a 256 0, .marginRetrainTimeout .a 0 256, .auditWalk [1, 1] [], .auditWalk [] [1, 1], .auditWalk [32768] [],
    .dramRequest { index := 22, cls := 0, background := false, write := false } 0, .backgroundPassLate 256 0, .channelWindowRead .pcie 0 0 0,
    .channelWindowRead .pcie 0 (2 ^ 22) 1, .channelWindowWrite .pcie 0 0 [], .channelWindowWrite .pcie 0 (2 ^ 22) [0]], i.wf = false := by
  decide +kernel

/-- The same, of the later arms. -/
theorem test_instr_refused_more : ∀ i ∈ [Instr.coreLoadWindow 0 1001 0 [], .coreLoadWindow 0 0 1001 [], .coreLoadWindow 0 0 0 [(1282, 0)],
    .coreLoadWindow 0 0 0 [(0, 1001)], .traceMessage 0 0 0 (List.replicate 256 0), .windowRead 0 0, .windowRead 0 4097, .windowWrite 0 [],
    .windowWrite 0 (List.replicate 4097 0), .stationFrameReceived 0 (List.replicate 13 0), .faultReport { source := 256 } false,
    .pairStatusBlock { mode := 256, claim := false, planned := false, fit := false, sync := false, hash := 0, st32 := 0, ack := 0 } true,
    .pairMirrorBlock 0 (.calendar 0 [] true), .bistSliceDone [{ macro_ := 2 ^ 16 }], .tempSample [], .tempSample (List.replicate 8 128),
    .canFrameReceived 0 { dlc := 0, id := 0, rtr := true, fdf := true } 0,
    .stationPtpMessage 0 { kind := .announce, domain := 0, sender := 0, seq := 0 } 0,
    .svFrameReceived 0 { dest := 2 ^ 48, appid := 0, svid := [], confRev := 0, asdus := [] },
    .gooseFrameReceived 0 { dest := 2 ^ 48, appid := 0, gocbRef := [], datSet := [], confRev := 0, stNum := 0, sqNum := 0, tal := 0, t := 0, members := [] }],
    i.wf = false := by
  decide +kernel

/-! ### Results the spec and the standards it names work out -/

/-- The check values of CRC-16 with polynomial 0x1021 from 0xFFFF and of CRC-32 (R86, R87): over the ASCII digits 1 to 9. -/
theorem test_crc : crc16 [0x31, 0x32, 0x33, 0x34, 0x35, 0x36, 0x37, 0x38, 0x39] = 0x29B1 ∧
    crc32 [0x31, 0x32, 0x33, 0x34, 0x35, 0x36, 0x37, 0x38, 0x39] = 0xCBF43926 := by decide +kernel

/-- ST32 at 5 s after the epoch (the worked example of Scope and Conventions). -/
theorem test_st32 : ({ State.reset with time := { wt := 5 * 1000000000 * nsU } } : State).st32 = 0x2A05F200 := by decide +kernel

/-- The count rebuilt from ORIGIN_ST32 and the ring IV (R412 and its worked example). -/
theorem test_ring_iv : rebuildCount 0x2A05F200 5000000300 = 5000000000 ∧
    ringIv { typ := 0, cls := 7, source := 0x21, dest := 0x22, seq := 1 } 5000000000 =
      [0x21, 0x07, 0x00, 0x01, 0x00, 0x00, 0x00, 0x01, 0x2A, 0x05, 0xF2, 0x00] := by decide +kernel

/-- A lost copy across the wrap of SEQ (the worked example of R109). -/
theorem test_dup_wrap :
    let e : DupEntry := { valid := true, newest := 0xFFFE, map := 1 }
    let e0 := dupCheck e 0x0000 0
    let e1 := dupCheck e0.2 0x0001 0
    let e2 := dupCheck e1.2 0xFFFF 0
    e0.1 = .accept ∧ e0.2.map = 0b0110 ∧ e1.1 = .accept ∧ e1.2.map = 0b1101 ∧ e2.1 = .lateFill ∧ e2.2.map.getLsbD 1 = true ∧
      e2.2.newest = 0x0001 ∧ (dupCheck e2.2 0x0000 0).1 = .duplicate ∧ (dupCheck e2.2 0x0001 0).1 = .duplicate := by
  decide +kernel

/-- The latest confirmation of a frame of 1 024 payload bytes without a tag: 1 008 ns (R152 and its worked timelines). -/
theorem test_latest_confirm : latestConfirm { typ := 0, cls := 7, source := 1, dest := 2, length := 1024 } 0 = 10080 := by decide +kernel

/-- The capture loop's words decode as its table says, and the three words below it are reserved, undefined and a jump (R211–R230). -/
theorem test_engine_words :
    (isOp 1 0x100805 = true ∧ fld 0x100805 14 12 = 0 ∧ fld 0x100805 11 11 = 1 ∧ fld 0x100805 5 0 = 5) ∧
    (isOp 10 0xA06000 = true ∧ fld 0xA06000 14 14 = 1 ∧ fld 0xA06000 13 13 = 1 ∧ fld 0xA06000 12 12 = 0) ∧
    (isOp 5 0x501A80 = true ∧ fld 0x501A80 14 11 = 3 ∧ fld 0x501A80 10 10 = 0 ∧ fld 0x501A80 9 9 = 1 ∧ fld 0x501A80 8 7 = 1) ∧
    (isOp 0 0x088040 = true ∧ fld 0x088040 19 19 = 1 ∧ fld 0x088040 18 15 = 1 ∧ fld 0x088040 9 0 = 0x040) ∧
    (inMode .active).wordBad 0 0x702125 = some 2 ∧ (inMode .active).wordBad 0 0xC00000 = some 1 ∧ (inMode .active).wordBad 0 0 = none := by
  decide +kernel

/-- A split write whose part 1 fails completes with the abort that names it (the worked example of R173). -/
theorem test_partial_write :
    let r : Remote := { id := 0, who := .session 0, write := true, node := 0x31, addr := 0x1000040000, len := 6000, parts := 3
                        answers := [(0, some 0), (1, some 2), (2, some 0)] }
    r.code = some 0x0A020001 := by decide +kernel

/-- The jump to its own address leaves the program counter at 0 and counts a tick (R211, R213). -/
theorem test_jmp_loops : ∃ t : State, exec (.jmp 0) (atWord 0) = .next t ∧ (t.eng 0).r.pc = 0 ∧ (t.eng 0).tick = 1 := by
  refine ⟨_, rfl, ?_⟩; decide +kernel

/-- A lock group's start across a CY24 wrap at 16.7 Hz, in edges of 4 ns: 274.4511 ms after the update (the worked example of R285). -/
theorem test_calendar_wrap :
    let s : State := { (inMode .active).withO 0x3402 1 0 1 with
      phase := { trk := [(2, { st := 2, f := 2188902, phi := (0xFFFFFE * 4 + 3) * 2 ^ 30 })] } }
    s.cycleDist 2 3 = 5 ∧ 274451000 ≤ s.fireEdge 2 0 (s.phiTarget 2 3 0x555555) * 4 ∧
      s.fireEdge 2 0 (s.phiTarget 2 3 0x555555) * 4 ≤ 274451200 := by
  decide +kernel

/-- A product at either end of an accumulator saturates and says so; one that just fits does not (R327). -/
theorem test_mac : macAdd (2 ^ 47 - 1) 1 1 = (2 ^ 47 - 1, true) ∧ macAdd (2 ^ 47 - 2) 1 1 = (2 ^ 47 - 1, false) ∧
    macAdd (1 - 2 ^ 47) 1 0xFFFFFF = (1 - 2 ^ 47, true) ∧ macAdd 0 0x800000 0x800000 = (2 ^ 46, false) := by decide +kernel

/-- An operation behind a branch reaches no accumulator before the branch is resolved, and none when it was predicted wrongly (R334). -/
theorem test_squash :
    let x := coAct (coAct {} .branch) (.issue (.mac 3 2 3))
    x.acc = (({} : CoreSt).acc) ∧ (coAct x (.resolve 0 true)).acc.getD 3 0 = 6 ∧ (coAct x (.resolve 0 false)).acc = x.acc ∧
      (coAct x (.resolve 0 false)).rename = [] := by decide +kernel

/-- The fields of a request's bytes (R35). -/
theorem test_request_bytes :
    let b : List Byte := [0x11, 5, 0x12, 0x34, 0x20, 0x05, 1, 1, 0, 0, 0, 4, 0, 0, 0, 8, 9, 8, 7, 6, 5]
    let t := txnOf .mailbox 0 b
    t.cmd = 0x11 ∧ t.sess = 5 ∧ t.tag = 0x1234 ∧ t.index = 0x2005 ∧ t.sub = 1 ∧ t.flags = 1 ∧ t.len = 4 ∧ t.off = 8 ∧ reqData b = [9, 8, 7, 6] := by
  decide +kernel

end Sys2Proof.Machine
end

section
/-!
PROOF. A read or write of an absent entry (R33). The first of R548's ordered checks stops it, and the abort's way out to the session's path
writes no dictionary entry but the two counters of frames sent under PRP (R401).
-/

namespace Sys2Proof.Machine

open Sys2Proof

variable (s : State)

/-! ### What an answer leaves of the dictionary -/

theorem State.o_bump_ne {i j k i' j' k' : Nat} (h : objKey i' j' k' ≠ objKey i j k) : (s.bump i j k).o i' j' k' = s.o i' j' k' :=
  s.o_setO_ne h _

@[simp] theorem State.hostInt_od (v : Nat) : (s.hostInt v).od = s.od := by
  unfold State.hostInt
  dsimp only
  split_ifs <;> rfl

@[simp] theorem State.mbPut_od (b : List Byte) : (s.mbPut b).od = s.od := by
  unfold State.mbPut
  split
  · exact State.hostInt_od _ _
  · rfl

@[simp] theorem State.mbPut_o (b : List Byte) (i j k : Nat) : (s.mbPut b).o i j k = s.o i j k := by
  simp [State.o, State.val]

@[simp] theorem State.canSession_o (c base node : Nat) (b : List Byte) (i j k : Nat) :
    (s.canSession c base node b).o i j k = s.o i j k := rfl

/-- The keys of the counters of frames sent under PRP, of port 0 and of port 1 (R401). -/
def prpSentKeys : List Nat := [objKey 0x7845 1 0, objKey 0x7845 2 0]

theorem State.prpSent_o {i j k : Nat} (h : objKey i j k ∉ prpSentKeys) : s.prpSent.o i j k = s.o i j k := by
  obtain ⟨h1, h2⟩ : objKey i j k ≠ objKey 0x7845 1 0 ∧ objKey i j k ≠ objKey 0x7845 2 0 := by simpa [prpSentKeys] using h
  unfold State.prpSent
  split
  · rfl
  · rw [State.o_bump_ne _ h2, State.o_bump_ne _ h1]
    rfl

/-- A segment on its way out counts, on the UDP path alone, as frames sent under PRP. -/
theorem State.respondSeg_o {i j k : Nat} (h : objKey i j k ∉ prpSentKeys) (t : Txn) (b : List Byte) :
    (s.respondSeg t b).o i j k = s.o i j k := by
  unfold State.respondSeg
  cases t.path with
  | mailbox => exact s.mbPut_o b i j k
  | ring => rfl
  | can => exact s.canSession_o _ _ _ b i j k
  | udp => rw [State.prpSent_o _ h, State.emit_o]
  | uart => rfl

theorem State.foldl_respondSeg_o {i j k : Nat} (h : objKey i j k ∉ prpSentKeys) (t : Txn) (l : List (List Byte)) :
    (l.foldl (fun u b => u.respondSeg t b) s).o i j k = s.o i j k := by
  induction l generalizing s with
  | nil => rfl
  | cons b l ih => rw [List.foldl_cons, ih, State.respondSeg_o _ h]

theorem State.respond_o {i j k : Nat} (h : objKey i j k ∉ prpSentKeys) (t : Txn) (r : Resp) :
    (s.respond t r).o i j k = s.o i j k := by
  unfold State.respond
  rw [State.foldl_respondSeg_o _ h, State.emit_o]

theorem State.answerAs_o {i j k : Nat} (h : objKey i j k ∉ prpSentKeys) (n cmd : Nat) (r : Resp) :
    (s.answerAs n cmd r).o i j k = s.o i j k := by
  unfold State.answerAs
  dsimp only
  split
  · rfl
  · split
    · rw [State.respond_o _ h, State.setSession_o]
    · exact State.respond_o _ h _ _

theorem State.answer_o {i j k : Nat} (h : objKey i j k ∉ prpSentKeys) (n : Nat) (r : Resp) : (s.answer n r).o i j k = s.o i j k :=
  s.answerAs_o h n _ r

/-! ### The first check of a request -/

/-- The abort of a request for an entry that no row of the dictionary has (R33). -/
def absentAbort (index : Nat) : Nat :=
  if Desc.hasIndex index then Abort.subindexDoesNotExist else Abort.objectDoesNotExist

theorem State.findEntry_absent {index sub : Nat} (h : Desc.find index sub = none) (n : Nat) (write : Bool) :
    s.findEntry n index sub write = .error (absentAbort index) := by
  simp only [State.findEntry, h, absentAbort]

/-- A read that fails a first check changes nothing. -/
theorem State.objRead_of_findEntry_error {n index sub c : Nat} (h : s.findEntry n index sub false = .error c) (staged : Bool) :
    s.objRead n index sub staged = (s, .abort c) := by
  simp only [State.objRead, h]

/-- A write that fails a first check is answered with the abort, whatever its data. -/
theorem State.objWrite_of_findEntry_error {n index sub c : Nat} (h : s.findEntry n index sub true = .error c) (data : List Byte) :
    s.objWrite n index sub data = s.answer n (.abort c) := by
  simp only [State.objWrite, h]

/-- The reserved-write counter is no counter of frames sent. -/
theorem reservedWrites_notMem_prpSentKeys : objKey 0xA0F0 0 0 ∉ prpSentKeys := by decide

/-- Settles O22: the entry's existence is the first check, and answering an abort does not reach RESERVED_WRITES. -/
theorem absentEntriesAreRefused : Obligations.AbsentEntriesAreRefused := by
  intro s n index sub staged data absent
  have hread := s.objRead_of_findEntry_error (s.findEntry_absent absent n false) staged
  have hwrite := s.objWrite_of_findEntry_error (s.findEntry_absent absent n true) data
  refine ⟨hread, hwrite, ?_⟩
  rw [hwrite, s.answer_o reservedWrites_notMem_prpSentKeys]

end Sys2Proof.Machine
end

section
/-!
PROOF. The refusal of a faulty header (R88). Each of its faults makes the header's checks fail; the arm then stops after two counters of the
receiving port, the frame count and the header errors, and a counter's advance writes its own dictionary entry alone.
-/

namespace Sys2Proof.Machine

open Sys2Proof

/-! ### A counter's advance writes one entry -/

theorem onlyOd.trans {s t u : State} (hst : onlyOd s t) (htu : onlyOd t u) : onlyOd s u := by
  unfold onlyOd at hst htu ⊢
  rw [htu, hst]

theorem State.onlyOd_portCount (s : State) (p : Port) (sub : Nat) : onlyOd s (s.portCount p sub) := rfl

theorem State.val_bump_ne (s : State) {i j k i' j' k' : Nat} (h : objKey i' j' k' ≠ objKey i j k) :
    (s.bump i j k).val i' j' k' = s.val i' j' k' :=
  s.val_setVal_ne h _

/-- Counter `sub` of port `p` after it counted. -/
theorem State.o_portCount_self (s : State) (p : Port) (sub : Nat) :
    (s.portCount p sub).o (0x2020 + p.toNat) sub = min (s.o (0x2020 + p.toNat) sub + 1) 0xFFFFFFFF :=
  s.o_bump_self _ _ _

/-- Every entry but the counter reads as before. -/
theorem State.val_portCount_ne (s : State) (p : Port) {c index sub item : Nat} (hc : c < 256) (hsub : sub < 256) (hitem : item < 65536)
    (h : ¬ (index = 0x2020 + p.toNat ∧ sub = c ∧ item = 0)) : (s.portCount p c).val index sub item = s.val index sub item :=
  s.val_bump_ne fun e => h (objKey_inj hsub hc hitem (by decide) e)

theorem State.o_portCount_ne (s : State) (p : Port) {c sub : Nat} (hc : c < 256) (hsub : sub < 256) (h : sub ≠ c) :
    (s.portCount p c).o (0x2020 + p.toNat) sub = s.o (0x2020 + p.toNat) sub :=
  congrArg valNat (s.val_portCount_ne p hc hsub (by decide) fun ⟨_, hs, _⟩ => h hs)

/-! ### The checks of a header -/

/-- What a header that passes the checks of R88 holds. -/
theorem hdrOk_iff (h : Hdr) : hdrOk h = true ↔ h.hcrc = hdrCrc h ∧ h.version = 1 ∧ h.length ≤ 2048 ∧
    (h.auth = true → h.tagMode = 1) ∧ (h.auth = false → h.keySlot = 0 ∧ h.tagMode = 0 ∧ h.rsv28 = 0) := by
  unfold hdrOk
  cases h.auth <;> simp [and_assoc]

/-- Any one of the faults of R88 fails the checks. -/
theorem hdrOk_eq_false_of_fault {h : Hdr}
    (fault : h.hcrc ≠ hdrCrc h ∨ h.version ≠ 1 ∨ 2048 < h.length ∨ (h.auth = true ∧ h.tagMode ≠ 1) ∨
      (h.auth = false ∧ (h.keySlot ≠ 0 ∨ h.tagMode ≠ 0 ∨ h.rsv28 ≠ 0))) : hdrOk h = false := by
  rw [Bool.eq_false_iff]
  intro ok
  obtain ⟨hcrc, hversion, hlength, htagged, huntagged⟩ := (hdrOk_iff h).1 ok
  rcases fault with bad | bad | bad | ⟨hauth, bad⟩ | ⟨hauth, bad⟩
  · exact bad hcrc
  · exact bad hversion
  · exact absurd hlength (Nat.not_le.2 bad)
  · exact bad (htagged hauth)
  · obtain ⟨hslot, hmode, hrsv⟩ := huntagged hauth
    rcases bad with bad | bad | bad
    · exact bad hslot
    · exact bad hmode
    · exact bad hrsv

/-- On a live port a header that fails its checks is counted as a frame and as a header error, and that is all. -/
theorem exec_headerReceived_refused {s : State} {p : Port} {f : Frame} (hring : s.ringOn = true) (hup : (s.port p).up = true)
    (htrained : (s.port p).trained = true) (hused : s.unused p = false) (hbad : hdrOk f.hdr = false) :
    exec (.headerReceived p f) s = .next ((s.portCount p 1).portCount p 3) := by
  change execHeaderReceived p f s = _
  simp [execHeaderReceived, hring, hup, htrained, hused, hbad]

/-- Settles O37: every fault of R88 fails the header's checks, and the refusal writes the counters 1 and 3 of the receiving port alone. -/
theorem faultyHeadersAreRefused : Obligations.FaultyHeadersAreRefused := by
  intro s p f hring hup htrained hused fault
  refine ⟨(s.portCount p 1).portCount p 3,
    exec_headerReceived_refused hring hup htrained hused (hdrOk_eq_false_of_fault fault),
    (s.onlyOd_portCount p 1).trans (State.onlyOd_portCount _ p 3), ?frames, ?errors, ?others⟩
  case frames =>
    rw [State.o_portCount_ne _ p (by decide) (by decide) (by decide), State.o_portCount_self]
  case errors =>
    rw [State.o_portCount_self, State.o_portCount_ne _ p (by decide) (by decide) (by decide)]
  case others =>
    intro index sub item hsub hitem outside
    rw [State.val_portCount_ne _ p (by decide) hsub hitem fun ⟨hi, hs, hk⟩ => outside ⟨hi, .inr hs, hk⟩,
      State.val_portCount_ne _ p (by decide) hsub hitem fun ⟨hi, hs, hk⟩ => outside ⟨hi, .inl hs, hk⟩]

end Sys2Proof.Machine
end

section
/-!
PROOF. The channel commands (R187–R203). Each arm is given by the case its premises name: the answer of a window, the head of the held
deliveries, the retired flag of the selected channel, the kept CH_OUT sample.
-/

namespace Sys2Proof.Machine

open Sys2Proof

variable (s : State)

/-! ### Window accesses (R193) -/

theorem exec_channelWindowRead_error {s : State} {c : Ctx} {ch : Fin 512} {off len e : Nat} (hreach : s.reaches c = true)
    (h : s.readWindow ch off len = .error e) :
    exec (.channelWindowRead c ch off len) s = .next (s.refuseRead c len e (2 ^ 32 + ch * 2 ^ 22 + off)) := by
  change execChannelWindowRead c ch off len s = _
  simp [execChannelWindowRead, hreach, h]

/-- A read that waits leaves the state as it is. -/
theorem exec_channelWindowRead_waits {s : State} {c : Ctx} {ch : Fin 512} {off len : Nat} (hreach : s.reaches c = true)
    (h : s.readWindow ch off len = .ok none) : exec (.channelWindowRead c ch off len) s = .next s := by
  change execChannelWindowRead c ch off len s = _
  simp [execChannelWindowRead, hreach, h]

theorem exec_channelWindowRead_bytes {s t : State} {c : Ctx} {ch : Fin 512} {off len : Nat} {b : List Byte} (hreach : s.reaches c = true)
    (h : s.readWindow ch off len = .ok (some (t, b))) : exec (.channelWindowRead c ch off len) s = .next (t.emit (.data c b)) := by
  change execChannelWindowRead c ch off len s = _
  simp [execChannelWindowRead, hreach, h]

/-- Every context but the host's reaches the hub at once (R73). -/
theorem State.reaches_of_ne_pcie {c : Ctx} (h : c ≠ .pcie) : s.reaches c = true := by
  simp [State.reaches, h]

theorem exec_channelWindowWrite_error {s : State} {c : Ctx} {ch : Fin 512} {off e : Nat} {data : List Byte} (hc : c ≠ .pcie)
    (h : s.writeWindow .none ch off data = .error e) :
    exec (.channelWindowWrite c ch off data) s = .next (s.refuseAccess c e (2 ^ 32 + ch * 2 ^ 22 + off)) := by
  change execChannelWindowWrite c ch off data s = _
  simp [execChannelWindowWrite, s.reaches_of_ne_pcie hc, hc, h]

/-- A write of another node has no waiter, and goes in whether or not a part of it is held. -/
theorem exec_channelWindowWrite_ok {s t : State} {c : Ctx} {ch : Fin 512} {off : Nat} {data : List Byte} {held : Bool} (hc : c ≠ .pcie)
    (h : s.writeWindow .none ch off data = .ok (t, held)) : exec (.channelWindowWrite c ch off data) s = .next t := by
  change execChannelWindowWrite c ch off data s = _
  simp [execChannelWindowWrite, s.reaches_of_ne_pcie hc, hc, h]

/-! ### A read that finds nothing (R189) -/

/-- A read that finds nothing counts at most an underrun. -/
theorem State.chanIdle_sent_dram (c : Nat) (waits : Bool) : (s.chanIdle c waits).sent = s.sent ∧ (s.chanIdle c waits).dram = s.dram := by
  unfold State.chanIdle
  dsimp only
  split_ifs <;> simp

theorem State.headWaits_of_items_nil {s : State} {c : Nat} (h : (s.chan c).items = []) : s.headWaits c = false := by
  simp [State.headWaits, h]

theorem State.chanPeek_of_items_nil {s : State} {c : Nat} (h : (s.chan c).items = []) (engine : Bool) : s.chanPeek c engine = none := by
  simp [State.chanPeek, h]

/-- One word read of an empty channel is its idle item. -/
theorem State.windowItems_one_of_items_nil {s : State} {c : Nat} (h : (s.chan c).items = []) :
    s.windowItems c 1 = some (s.chanIdle c false, [s.idleWord c]) := by
  simp [State.windowItems, State.headWaits_of_items_nil h, State.chanPeek_of_items_nil h]

/-- The first word of the window of a channel that is read through it. -/
theorem State.readWindow_first_word {s : State} {ch : Nat} (hwindow : s.o 0x5002 0 ch / 0x1000 = 7) :
    s.readWindow ch 0 4 = .ok ((s.windowItems ch 1).map fun x => (x.1, x.2.flatMap (leBytes 4))) := by
  simp [State.readWindow, hwindow]

theorem State.readWindow_first_word_of_items_nil {s : State} {ch : Nat} (hwindow : s.o 0x5002 0 ch / 0x1000 = 7)
    (h : (s.chan ch).items = []) : s.readWindow ch 0 4 = .ok (some (s.chanIdle ch false, leBytes 4 (s.idleWord ch))) := by
  simp [State.readWindow_first_word hwindow, State.windowItems_one_of_items_nil h]

/-! ### Held deliveries (R187, R188) -/

/-- The oldest delivery of a ring class goes in whole: it leaves the held ones, and who waited for it is answered. -/
theorem exec_channelDeliveryResume_head {s t : State} {c : Fin 10} {d : HeldDel} {l : List HeldDel} (hring : c.val < 8)
    (hheld : s.heldDel = d :: l) (hcls : d.cls = c.val) (hall : s.chanWriteAll d.ch d.items = (t, [])) :
    exec (.channelDeliveryResume c) s = .next ((({ t with heldDel := l } : State).promote s.heldDel).heldEnd d.who none) := by
  change execChannelDeliveryResume c s = _
  have hne : c.val ≠ 9 := by omega
  simp [execChannelDeliveryResume, hne, hheld, hcls, hring, hall]

/-- The head of a ring class, held by a full channel to HOLD_LIMIT, quarantines the channel and is reported under source 0x21. -/
theorem exec_channelHoldLimit_reached {s : State} {ch : Fin 512} {k : Nat} {d : HeldDel} (hring : k < 8)
    (hhead : s.heldDel.find? (fun d => d.cls = k) = some d) (hch : d.ch = ch.val)
    (hlimit : d.since + ticksUs (s.o 0x5080 0) ≤ s.clock) (hfull : s.chanSize ch ≤ (s.chan ch).items.length) :
    exec (.channelHoldLimit ch) s = .next ((s.quarantine ch).report { source := 0x21, syndrome := ch }) := by
  change execChannelHoldLimit ch s = _
  refine if_pos (Bool.and_eq_true_iff.2 ⟨List.any_eq_true.2 ⟨k, List.mem_range.2 hring, ?atLimit⟩, decide_eq_true hfull⟩)
  case atLimit => simp [hhead, hch, hlimit]

/-! ### Flush and release (R199, R202) -/

theorem exec_chFlush (ch : Fin 512) : exec (.chFlush ch) s = .next (s.chanFlush ch) := rfl

theorem exec_chQuarantineRelease (ch : Fin 512) : exec (.chQuarantineRelease ch) s = .next (s.quarRelease ch) := rfl

/-- With no reaction in progress the channel is released, its packet state cleared. -/
theorem State.quarRelease_of_not_reacting {s : State} {c : Nat} (h : (1, c) ∉ s.fc.reacting) :
    s.quarRelease c = s.setChan c { s.chan c with quarantined := false, inPacket := false, waited := false } := by
  simp [State.quarRelease, State.quarBusy, h]

/-! ### The counters of the selected channel (R203) -/

section Counters

variable {s : State} {c : Ctx} (hreach : s.reaches c = true)

include hreach

theorem exec_chInRead_of_reaches : exec (.chInRead c) s = .next ((s.readChIn c).1.reply c 4 (s.readChIn c).2) := by
  change execChInRead c s = _
  simp [execChInRead, hreach]

theorem exec_chOutRead_of_reaches : exec (.chOutRead c) s = .next ((s.readChOut c).1.reply c 4 (s.readChOut c).2) := by
  change execChOutRead c s = _
  simp [execChOutRead, hreach]

theorem exec_chHwmRead_of_reaches : exec (.chHwmRead c) s = .next ((s.readChHwm c).1.reply c 4 (s.readChHwm c).2) := by
  change execChHwmRead c s = _
  simp [execChHwmRead, hreach]

end Counters

section Retired

variable {s : State} {c : Ctx} (hret : (s.chan (s.ctx c).chSel).retired = true)

include hret

theorem State.readChIn_retired : s.readChIn c = (s, 0) := by simp [State.readChIn, hret]

theorem State.readChOut_retired : s.readChOut c = (s, 0) := by simp [State.readChOut, hret]

theorem State.readChHwm_retired : s.readChHwm c = (s, 0) := by simp [State.readChHwm, hret]

end Retired

section InUse

variable {s : State} {c : Ctx} (huse : (s.chan (s.ctx c).chSel).retired = false)

include huse

theorem State.readChIn_inUse : s.readChIn c =
    (s.setCtx c { s.ctx c with chOut := some (s.chan (s.ctx c).chSel).itemsOut }, (s.chan (s.ctx c).chSel).itemsIn) := by
  simp [State.readChIn, huse]

/-- The sample that the context keeps is given, once. -/
theorem State.readChOut_sample {v : Nat} (hv : (s.ctx c).chOut = some v) :
    s.readChOut c = (s.setCtx c { s.ctx c with chOut := none }, v) := by
  simp [State.readChOut, huse, hv]

theorem State.readChOut_present (hnone : (s.ctx c).chOut = none) : s.readChOut c = (s, (s.chan (s.ctx c).chSel).itemsOut) := by
  simp [State.readChOut, huse, hnone]

theorem State.readChHwm_inUse : s.readChHwm c =
    (s.setChan (s.ctx c).chSel { s.chan (s.ctx c).chSel with hwmRc := (s.chan (s.ctx c).chSel).items.length },
      (s.chan (s.ctx c).chSel).hwmRc) := by
  simp [State.readChHwm, huse]

end InUse

/-- Settles O46: clause by clause, the arm's case under the clause's premises. -/
theorem channelCommands : Obligations.ChannelCommands := by
  intro s
  refine ⟨?windowRead, ?windowIdle, ?windowWrite, ?resume, ?holdLimit, exec_chFlush s, ?release, ?counters⟩
  case windowRead =>
    intro c ch off len hreach
    split
    next hread => exact exec_channelWindowRead_error hreach hread
    next hread => exact exec_channelWindowRead_waits hreach hread
    next hread => exact exec_channelWindowRead_bytes hreach hread
  case windowIdle =>
    intro c ch hreach hwindow hempty _
    obtain ⟨hsent, hdram⟩ := s.chanIdle_sent_dram ch false
    exact ⟨_, exec_channelWindowRead_bytes hreach (State.readWindow_first_word_of_items_nil hwindow hempty),
      congrArg (_ :: ·) hsent, hdram⟩
  case windowWrite =>
    intro c ch off data hc
    split
    next hwrite => exact exec_channelWindowWrite_error hc hwrite
    next hwrite => exact exec_channelWindowWrite_ok hc hwrite
  case resume =>
    intro c d l t hring hheld hcls hall
    exact exec_channelDeliveryResume_head hring hheld hcls hall
  case holdLimit =>
    intro ch k d hring hhead hch hlimit hfull
    exact exec_channelHoldLimit_reached hring hhead hch hlimit hfull
  case release =>
    intro ch hreact
    rw [exec_chQuarantineRelease, State.quarRelease_of_not_reacting hreact]
  case counters =>
    intro c hreach
    have hin := exec_chInRead_of_reaches hreach
    have hout := exec_chOutRead_of_reaches hreach
    have hhwm := exec_chHwmRead_of_reaches hreach
    refine ⟨fun hret => ?retired, fun huse => ⟨?chIn, fun v hv => ?sample, fun hnone => ?present, ?chHwm⟩⟩
    case retired =>
      rw [State.readChIn_retired hret] at hin
      rw [State.readChOut_retired hret] at hout
      rw [State.readChHwm_retired hret] at hhwm
      exact ⟨hin, hout, hhwm⟩
    case chIn => rw [hin, State.readChIn_inUse huse]
    case sample => rw [hout, State.readChOut_sample huse hv]
    case present => rw [hout, State.readChOut_present huse hnone]
    case chHwm => rw [hhwm, State.readChHwm_inUse huse]

end Sys2Proof.Machine
end

section
/-!
PROOF. Every step keeps memory, the dictionary and the store canonical. An arm cites what its operations keep (Laws/Keeps and the files after
it); a step is an arm with the queue's rest, or an edge of the clock.
-/

namespace Sys2Proof.Machine

open Sys2Proof

theorem outInv_ite {c : Prop} [Decidable c] {x y : Host.Outcome State Fault Refusal} (hx : outInv x) (hy : outInv y) :
    outInv (if c then x else y) := by
  split
  · exact hx
  · exact hy

theorem State.ite_inv {c : Prop} [Decidable c] {x y : State} (hx : x.Inv) (hy : y.Inv) : (if c then x else y).Inv := by
  split
  · exact hx
  · exact hy

/-! ### Engine instructions -/

theorem execJmp_inv (e : Fin 256) (s : State) (h : s.Inv) : outInv (execJmp e s) := by
  unfold execJmp
  grind -ring -linarith -lia -ac [outInv, State.Inv, engResInv, State.engRun_inv, State.setEng_inv]

theorem execWait_inv (c k : Fin 16) (s : State) (h : s.Inv) : outInv (execWait c k s) := by
  unfold execWait
  grind -ring -linarith -lia -ac [outInv, State.Inv, engResInv, State.engRun_inv, State.setEng_inv, State.flagClear_inv]

theorem execInp_inv (c k : Fin 16) (s : State) (h : s.Inv) : outInv (execInp c k s) := by
  unfold execInp
  grind -ring -linarith -lia -ac [outInv, State.Inv, someAll, engResInv, State.engRun_inv, State.engPush_inv, State.setEng_inv]

theorem execOutp_inv (c k : Fin 16) (s : State) (h : s.Inv) : outInv (execOutp c k s) := by
  unfold execOutp
  grind -ring -linarith -lia -ac [outInv, State.Inv, engResInv, pullInv, State.engRun_inv, State.setEng_inv, State.engPull_inv]

theorem execPull_inv (c k : Fin 16) (s : State) (h : s.Inv) : outInv (execPull c k s) := by
  unfold execPull
  grind -ring -linarith -lia -ac [outInv, State.Inv, engResInv, pullInv, State.engRun_inv, State.engPull_inv, State.setEng_inv]

theorem execPush_inv (c k : Fin 16) (s : State) (h : s.Inv) : outInv (execPush c k s) := by
  unfold execPush
  grind -ring -linarith -lia -ac [outInv, State.Inv, someAll, engResInv, State.engRun_inv, State.engPush_inv, State.setEng_inv]

theorem execMov_inv (e : Fin 256) (s : State) (h : s.Inv) : outInv (execMov e s) := by
  unfold execMov
  grind -ring -linarith -lia -ac [outInv, State.Inv, engResInv, State.engRun_inv, State.setEng_inv]

theorem execSetImm_inv (e : Fin 256) (s : State) (h : s.Inv) : outInv (execSetImm e s) := by
  unfold execSetImm
  grind -ring -linarith -lia -ac [outInv, State.Inv, engResInv, State.engRun_inv, State.setEng_inv]

theorem execCmp_inv (e : Fin 256) (s : State) (h : s.Inv) : outInv (execCmp e s) := by
  unfold execCmp
  grind -ring -linarith -lia -ac [outInv, State.Inv, engResInv, State.engRun_inv, State.setEng_inv]

theorem execSyncBarrier_inv (e : Fin 256) (s : State) (h : s.Inv) : outInv (execSyncBarrier e s) := by
  unfold execSyncBarrier
  grind -ring -linarith -lia -ac [outInv, State.Inv, engResInv, State.engRun_inv, State.setEng_inv, State.setLock_inv]

theorem execSyncArm_inv (e : Fin 256) (s : State) (h : s.Inv) : outInv (execSyncArm e s) := by
  unfold execSyncArm
  grind -ring -linarith -lia -ac [outInv, State.Inv, engResInv, State.engRun_inv, State.setEng_inv, State.bump_inv, State.groupTryRelease_inv]

theorem execSyncRestart_inv (e : Fin 256) (s : State) (h : s.Inv) : outInv (execSyncRestart e s) := by
  unfold execSyncRestart
  grind -ring -linarith -lia -ac [outInv, State.Inv, someAll, engResInv, State.engRun_inv, State.setEng_inv, State.engFinish_inv]

theorem execStamp_inv (c k : Fin 16) (s : State) (h : s.Inv) : outInv (execStamp c k s) := by
  unfold execStamp
  grind -ring -linarith -lia -ac [outInv, State.Inv, someAll, engResInv, State.engRun_inv, State.engPush_inv]

theorem execIrqSet_inv (e : Fin 256) (s : State) (h : s.Inv) : outInv (execIrqSet e s) := by
  unfold execIrqSet
  grind -ring -linarith -lia -ac [outInv, State.Inv, State.irqRun_inv, State.flagSet_inv]

theorem execIrqClear_inv (e : Fin 256) (s : State) (h : s.Inv) : outInv (execIrqClear e s) := by
  unfold execIrqClear
  grind -ring -linarith -lia -ac [outInv, State.Inv, State.irqRun_inv, State.flagClear_inv]

theorem execIrqToggle_inv (e : Fin 256) (s : State) (h : s.Inv) : outInv (execIrqToggle e s) := by
  unfold execIrqToggle
  grind -ring -linarith -lia -ac [outInv, State.Inv, State.irqRun_inv, State.flagToggle_inv]

theorem execUndefinedInstruction_inv (e : Fin 256) (s : State) (h : s.Inv) : outInv (execUndefinedInstruction e s) := by
  unfold execUndefinedInstruction
  grind -ring -linarith -lia -ac [outInv, State.Inv, State.engIdleTick_inv, State.enginePark_inv, State.report_inv]

theorem execCompareMatch_inv (e : Fin 256) (s : State) (h : s.Inv) : outInv (execCompareMatch e s) := by
  unfold execCompareMatch
  grind -ring -linarith -lia -ac [outInv, State.Inv, State.setEng_inv, State.bump_inv, State.tick_inv]

theorem execStagedEntryApply_inv (e : Fin 256) (s : State) (h : s.Inv) : outInv (execStagedEntryApply e s) := by
  unfold execStagedEntryApply
  grind -ring -linarith -lia -ac [outInv, State.Inv, State.tick_inv, State.setEng_inv]

theorem execGroupArmTimeout_inv (g : Fin 128) (s : State) (h : s.Inv) : outInv (execGroupArmTimeout g s) := by
  unfold execGroupArmTimeout
  grind -ring -linarith -lia -ac [outInv, State.Inv, State.groupFail_inv]

theorem execEngineParkCmd_inv (e : Fin 256) (s : State) (h : s.Inv) : outInv (execEngineParkCmd e s) := s.enginePark_inv e 3 h

theorem execEngineRestart_inv (e : Fin 256) (s : State) (h : s.Inv) : outInv (execEngineRestart e s) := s.engineRestart_inv e h

theorem execEngineClearCounters_inv (e : Fin 256) (s : State) (h : s.Inv) : outInv (execEngineClearCounters e s) := s.engineClear_inv e h

theorem execPeWrapWrite_inv (e : Fin 256) (v : W32) (s : State) (h : s.Inv) : outInv (execPeWrapWrite e v s) := by
  unfold execPeWrapWrite
  grind -ring -linarith -lia -ac [outInv, State.Inv, State.bump_inv, State.wrapWrite_inv]

theorem execPeClFlagSet_inv (c : Fin 16) (flags : BitVec 8) (s : State) (h : s.Inv) : outInv (execPeClFlagSet c flags s) := by
  unfold execPeClFlagSet
  grind -ring -linarith -lia -ac [outInv, State.Inv, foldl_inv, State.flagWrite_inv]

theorem execPeClFlagClear_inv (c : Fin 16) (flags : BitVec 8) (s : State) (h : s.Inv) : outInv (execPeClFlagClear c flags s) := by
  unfold execPeClFlagClear
  grind -ring -linarith -lia -ac [outInv, State.Inv, foldl_inv, State.flagWrite_inv]

theorem execPeClStallRead_inv (x : Ctx) (c : Fin 16) (s : State) (h : s.Inv) : outInv (execPeClStallRead x c s) := by
  unfold execPeClStallRead
  grind -ring -linarith -lia -ac [outInv, State.Inv, State.readStall_inv, State.reply_inv]

theorem execReadbackFail_inv (e : Fin 256) (pin : Fin 48) (s : State) (h : s.Inv) : outInv (execReadbackFail e pin s) := by
  unfold execReadbackFail
  grind -ring -linarith -lia -ac [outInv, State.Inv, State.setEng_inv, State.bump_inv, State.report_inv]

/-! ### Channels and lock groups -/

theorem execChannelWindowRead_inv (c : Ctx) (ch : Fin 512) (off len : Nat) (s : State) (h : s.Inv) : outInv (execChannelWindowRead c ch off len s) :=
    by
  unfold execChannelWindowRead
  grind -ring -linarith -lia -ac [outInv, State.Inv, someAll, okAll, State.readWindow_inv, State.refuseRead_inv, State.emit_inv]

theorem execChannelWindowWrite_inv (c : Ctx) (ch : Fin 512) (off : Nat) (data : List Byte) (s : State) (h : s.Inv) : outInv (execChannelWindowWrite c
    ch off data s) := by
  unfold execChannelWindowWrite
  grind -ring -linarith -lia -ac [outInv, State.Inv, okAll, State.postLater_inv, State.writeWindow_inv, State.refuseAccess_inv]

theorem execChannelDeliveryResume_inv (cls : Fin 10) (s : State) (h : s.Inv) : outInv (execChannelDeliveryResume cls s) := by
  unfold execChannelDeliveryResume
  grind -ring -linarith -lia -ac [outInv, State.Inv, State.telemetryResume_inv, State.chanWriteAll_inv, State.promote_inv, State.heldEnd_inv]

theorem execChannelHoldLimit_inv (ch : Fin 512) (s : State) (h : s.Inv) : outInv (execChannelHoldLimit ch s) := by
  unfold execChannelHoldLimit
  grind -ring -linarith -lia -ac [outInv, State.Inv, State.quarantine_inv, State.report_inv]

theorem execChFlush_inv (ch : Fin 512) (s : State) (h : s.Inv) : outInv (execChFlush ch s) := s.chanFlush_inv ch h

theorem execChQuarantineRelease_inv (ch : Fin 512) (s : State) (h : s.Inv) : outInv (execChQuarantineRelease ch s) := s.quarRelease_inv ch h

theorem execChClearCounters_inv (ch : Fin 512) (s : State) (h : s.Inv) : outInv (execChClearCounters ch s) := s.chanClear_inv ch h

theorem execChInRead_inv (c : Ctx) (s : State) (h : s.Inv) : outInv (execChInRead c s) := by
  unfold execChInRead
  grind -ring -linarith -lia -ac [outInv, State.Inv, State.readChIn_inv, State.reply_inv]

theorem execChOutRead_inv (c : Ctx) (s : State) (h : s.Inv) : outInv (execChOutRead c s) := by
  unfold execChOutRead
  grind -ring -linarith -lia -ac [outInv, State.Inv, State.readChOut_inv, State.reply_inv]

theorem execChHwmRead_inv (c : Ctx) (s : State) (h : s.Inv) : outInv (execChHwmRead c s) := by
  unfold execChHwmRead
  grind -ring -linarith -lia -ac [outInv, State.Inv, State.readChHwm_inv, State.reply_inv]

theorem execLockCmd_inv (g : Fin 64) (s : State) (h : s.Inv) : outInv (execLockCmd g s) := s.lockStart_inv g h

theorem execLockStartEdge_inv (g : Fin 64) (s : State) (h : s.Inv) : outInv (execLockStartEdge g s) := by
  unfold execLockStartEdge
  grind -ring -linarith -lia -ac [outInv, State.Inv, foldl_inv, State.setLock_inv, State.lockMemberEdge_inv]

/-! ### Frames in -/

theorem execHeaderReceived_inv (p : Port) (f : Frame) (s : State) (h : s.Inv) : outInv (execHeaderReceived p f s) := by
  unfold execHeaderReceived
  grind -ring -linarith -lia -ac [outInv, State.Inv, State.portCount_inv, State.colour_inv, State.pushRx_inv, State.headerIn_inv]

theorem execTrailerChecked_inv (p : Port) (trailer : W32) (lengthOk : Bool) (s : State) (h : s.Inv) : outInv (execTrailerChecked p trailer lengthOk s)
    := by
  unfold execTrailerChecked
  grind -ring -linarith -lia -ac [outInv, State.Inv, State.setPort_inv, State.portCount_inv, State.errNote_inv, State.egress_inv, State.settle_inv,
    State.endCut_inv, State.storeForward_inv]

theorem execReceiveLinkError_inv (p : Port) (got : Nat) (s : State) (h : s.Inv) : outInv (execReceiveLinkError p got s) := by
  unfold execReceiveLinkError
  grind -ring -linarith -lia -ac [outInv, State.Inv, State.errNote_inv, State.rxAbort_inv]

theorem execSpecDeadline_inv (g : Fin 4) (s : State) (h : s.Inv) : outInv (execSpecDeadline g s) := by
  unfold execSpecDeadline
  grind -ring -linarith -lia -ac [outInv, State.Inv, State.specLate_inv]

/-! ### Ring supervision -/

theorem execLinkDown_inv (p : Port) (s : State) (h : s.Inv) : outInv (execLinkDown p s) := by
  unfold execLinkDown
  grind -ring -linarith -lia -ac [outInv, State.Inv, State.linkDown_inv]

theorem execLinkUp_inv (p : Port) (s : State) (h : s.Inv) : outInv (execLinkUp p s) := by
  unfold execLinkUp
  grind -ring -linarith -lia -ac [outInv, State.Inv, State.setPort_inv]

theorem execTrainingComplete_inv (p : Port) (ok : Bool) (s : State) (h : s.Inv) : outInv (execTrainingComplete p ok s) := by
  unfold execTrainingComplete
  grind -ring -linarith -lia -ac [outInv, State.Inv, State.setPort_inv]

theorem execTrainingRetryTimer_inv (p : Port) (s : State) (h : s.Inv) : outInv (execTrainingRetryTimer p s) := by
  unfold execTrainingRetryTimer
  grind -ring -linarith -lia -ac [outInv, State.Inv, State.setPort_inv, State.portCount_inv]

theorem execHelloTimer_inv (s : State) (h : s.Inv) : outInv (execHelloTimer s) := by
  unfold execHelloTimer
  grind -ring -linarith -lia -ac [outInv, State.Inv, foldl_inv, State.hello_inv]

theorem execAnnounceTimer_inv (s : State) (h : s.Inv) : outInv (execAnnounceTimer s) := by
  unfold execAnnounceTimer
  grind -ring -linarith -lia -ac [outInv, State.Inv, foldl_inv, State.setPort_inv, State.announce_inv]

theorem execHelloReceived_inv (p : Port) (s : State) (h : s.Inv) : outInv (execHelloReceived p s) := by
  unfold execHelloReceived
  grind -ring -linarith -lia -ac [outInv, State.Inv, someAll, State.takeLink_inv, State.setPort_inv, State.ringUpdate_inv, State.report_inv]

theorem execAnnounceReceived_inv (p : Port) (s : State) (h : s.Inv) : outInv (execAnnounceReceived p s) := by
  unfold execAnnounceReceived
  grind -ring -linarith -lia -ac [outInv, State.Inv, someAll, State.takeLink_inv, State.setPort_inv, State.ringUpdate_inv, State.dupNodeSeen_inv]

theorem execPortJoined_inv (p : Port) (s : State) (h : s.Inv) : outInv (execPortJoined p s) := by
  unfold execPortJoined
  grind -ring -linarith -lia -ac [outInv, State.Inv, State.setPort_inv, State.downDel_inv, State.degrade_inv, State.topology_inv, State.event_inv,
    State.ringUpdate_inv]

theorem execRingClosureTimeout_inv (s : State) (h : s.Inv) : outInv (execRingClosureTimeout s) := s.ringUpdate_inv h

theorem execLeaveReceived_inv (p : Port) (s : State) (h : s.Inv) : outInv (execLeaveReceived p s) := by
  unfold execLeaveReceived
  grind -ring -linarith -lia -ac [outInv, State.Inv, someAll, State.takeLink_inv, State.plannedMark_inv]

theorem execRecalNoticeReceived_inv (p : Port) (s : State) (h : s.Inv) : outInv (execRecalNoticeReceived p s) := by
  unfold execRecalNoticeReceived
  grind -ring -linarith -lia -ac [outInv, State.Inv, someAll, State.takeLink_inv, State.plannedMark_inv]

theorem execRetrainNoticeReceived_inv (p : Port) (s : State) (h : s.Inv) : outInv (execRetrainNoticeReceived p s) := by
  unfold execRetrainNoticeReceived
  grind -ring -linarith -lia -ac [outInv, State.Inv, someAll, State.takeLink_inv, State.plannedMark_inv]

theorem execPlannedOutageOverrun_inv (p : Port) (s : State) (h : s.Inv) : outInv (execPlannedOutageOverrun p s) := by
  unfold execPlannedOutageOverrun
  grind -ring -linarith -lia -ac [outInv, State.Inv, okAll, State.setPort_inv, State.unplannedDown_inv, State.stage_inv]

theorem execTopologyReceived_inv (p : Port) (s : State) (h : s.Inv) : outInv (execTopologyReceived p s) := by
  unfold execTopologyReceived
  grind -ring -linarith -lia -ac [outInv, State.Inv, someAll, State.takeLink_inv, State.event_inv, State.topology_inv, State.ringUpdate_inv,
    State.downAdd_inv, State.downDel_inv, State.yieldOutage_inv, State.plannedEnd_inv]

theorem execMarginRetrainTimeout_inv (p : Port) (vert horiz : Nat) (s : State) (h : s.Inv) : outInv (execMarginRetrainTimeout p vert horiz s) := by
  unfold execMarginRetrainTimeout
  grind -ring -linarith -lia -ac [outInv, State.Inv, State.setPort_inv, State.report_inv, State.retrainTry_inv]

theorem execErrorLimitExceeded_inv (p : Port) (s : State) (h : s.Inv) : outInv (execErrorLimitExceeded p s) := by
  unfold execErrorLimitExceeded
  grind -ring -linarith -lia -ac [outInv, State.Inv, State.retrainTry_inv]

theorem execRecalDeferTimeout_inv (p : Port) (s : State) (h : s.Inv) : outInv (execRecalDeferTimeout p s) := by
  unfold execRecalDeferTimeout
  grind -ring -linarith -lia -ac [outInv, State.Inv, okAll, State.stage_inv, State.setPort_inv, State.portCount_inv, State.unplannedDown_inv]

theorem execOutageDeferralExpiry_inv (p : Port) (s : State) (h : s.Inv) : outInv (execOutageDeferralExpiry p s) := by
  unfold execOutageDeferralExpiry
  grind -ring -linarith -lia -ac [outInv, State.Inv, okAll, State.stage_inv, State.outageTry_inv]

theorem execNoticeLeadExpiry_inv (p : Port) (s : State) (h : s.Inv) : outInv (execNoticeLeadExpiry p s) := by
  unfold execNoticeLeadExpiry
  grind -ring -linarith -lia -ac [outInv, State.Inv, okAll, State.stage_inv, State.setPort_inv, State.ringUpdate_inv, State.leaveService_inv]

theorem execRetrainDone_inv (p : Port) (s : State) (h : s.Inv) : outInv (execRetrainDone p s) := by
  unfold execRetrainDone
  grind -ring -linarith -lia -ac [outInv, State.Inv, okAll, State.stage_inv, State.setPort_inv, State.portCount_inv, State.topology_inv,
    State.ringUpdate_inv]

theorem execSynthRecalStart_inv (p : Port) (temp : Int) (s : State) (h : s.Inv) : outInv (execSynthRecalStart p temp s) := by
  unfold execSynthRecalStart
  grind -ring -linarith -lia -ac [outInv, State.Inv, State.outageTry_inv]

theorem execSynthLockLoss_inv (p : Port) (s : State) (h : s.Inv) : outInv (execSynthLockLoss p s) := by
  unfold execSynthLockLoss
  grind -ring -linarith -lia -ac [outInv, State.Inv, State.setPort_inv, State.portCount_inv, State.downAdd_inv, State.ringUpdate_inv]

theorem execSynthRelock_inv (p : Port) (s : State) (h : s.Inv) : outInv (execSynthRelock p s) := by
  unfold execSynthRelock
  grind -ring -linarith -lia -ac [outInv, State.Inv, okAll, State.synthLock_inv, State.stage_inv, State.setPort_inv, State.topology_inv,
    State.ringUpdate_inv]

theorem execKeepTimer_inv (p : Port) (s : State) (h : s.Inv) : outInv (execKeepTimer p s) := by
  unfold execKeepTimer
  grind -ring -linarith -lia -ac [outInv, State.Inv, State.setPort_inv, State.emit_inv]

theorem execClass7Suspend_inv (p : Port) (off : Nat) (s : State) (h : s.Inv) : outInv (execClass7Suspend p off s) := by
  unfold execClass7Suspend
  grind -ring -linarith -lia -ac [outInv, State.Inv, State.suspend_inv]

theorem execSuspendReceived_inv (p : Port) (off : Nat) (s : State) (h : s.Inv) : outInv (execSuspendReceived p off s) := by
  unfold execSuspendReceived
  grind -ring -linarith -lia -ac [outInv, State.Inv, State.setPort_inv, State.egress_inv, State.suspend_inv]

/-! ### Remote accesses -/

theorem execReadResponseReceived_inv (s : State) (h : s.Inv) : outInv (execReadResponseReceived s) := by
  unfold execReadResponseReceived
  grind -ring -linarith -lia -ac [outInv, State.Inv, someAll, State.takeDelivered_inv, State.remoteSettle_inv]

theorem execSplitRemoteTimeout_inv (id : Nat) (s : State) (h : s.Inv) : outInv (execSplitRemoteTimeout id s) := by
  unfold execSplitRemoteTimeout
  grind -ring -linarith -lia -ac [outInv, State.Inv, State.remoteEnd_inv]

/-! ### Frames out -/

theorem execFrameOriginate_inv (s : State) (h : s.Inv) : outInv (execFrameOriginate s) := by
  unfold execFrameOriginate
  grind -ring -linarith -lia -ac [outInv, State.Inv, foldl_inv, State.partSent_inv, State.send_inv, State.takePacket_inv, State.bump_inv]

theorem execC7BucketAdmit_inv (s : State) (h : s.Inv) : outInv (execC7BucketAdmit s) := by
  unfold execC7BucketAdmit
  grind -ring -linarith -lia -ac [outInv, State.Inv, foldl_inv, State.bucketTake_inv, State.toSwitch_inv]

theorem execOriginationEnable_inv (s : State) (h : s.Inv) : outInv (execOriginationEnable s) := by
  unfold execOriginationEnable
  grind -ring -linarith -lia -ac [outInv, State.Inv]

/-! ### The switch -/

theorem execEnqueue_inv (s : State) (h : s.Inv) : outInv (execEnqueue s) := by
  unfold execEnqueue
  grind -ring -linarith -lia -ac [outInv, State.Inv, State.enqueue_inv]

theorem execHeldSourceResume_inv (src : Fin 7) (s : State) (h : s.Inv) : outInv (execHeldSourceResume src s) := by
  unfold execHeldSourceResume
  grind -ring -linarith -lia -ac [outInv, State.Inv, State.takeIn_inv, State.redCount_inv]

theorem execDequeue_inv (p : Fin 7) (s : State) (h : s.Inv) : outInv (execDequeue p s) := by
  unfold execDequeue
  grind -ring -linarith -lia -ac [outInv, State.Inv, State.dequeueRing_inv, State.pick_inv, State.popQueue_inv, State.egress_inv]

theorem execKennelReadbackDone_inv (q : Fin 56) (bad : Option Nat) (s : State) (h : s.Inv) : outInv (execKennelReadbackDone q bad s) := by
  unfold execKennelReadbackDone
  grind -ring -linarith -lia -ac [outInv, State.Inv, State.setQueue_inv, State.freeCellList_inv, State.bump_inv, State.dramBad_inv,
    State.report_inv]

theorem execAuditWalk_inv (onChip spill : List Nat) (s : State) (h : s.Inv) : outInv (execAuditWalk onChip spill s) := by
  unfold execAuditWalk
  grind -ring -linarith -lia -ac [outInv, State.Inv, foldl_inv, State.auditEnd_inv, State.loseCell_inv]

theorem execDramRequest_inv (r : DramReq) (tick : Fin 4096) (s : State) (h : s.Inv) : outInv (execDramRequest r tick s) := by
  unfold execDramRequest
  grind -ring -linarith -lia -ac [outInv, State.Inv, State.arbitrate_inv]

theorem execAncientMark_inv (tick : Fin 4096) (s : State) (h : s.Inv) : outInv (execAncientMark tick s) := by
  have hmarks : (s.sw.reqs.foldl (fun (p : State × List ArbReq) a => ((p.1.markReq tick a).1, p.2 ++ [(p.1.markReq tick a).2])) (s, [])).1.Inv :=
    foldl_fst_inv _ _ _ (fun q a hq => State.markReq_inv q.1 tick a hq) h
  unfold execAncientMark
  refine State.arbitrate_inv _ _ ?_
  dsimp only
  split
  · exact State.markReq_inv _ _ _ hmarks
  · exact hmarks

theorem execDramTransferDone_inv (tick : Fin 4096) (s : State) (h : s.Inv) : outInv (execDramTransferDone tick s) := by
  unfold execDramTransferDone
  grind -ring -linarith -lia -ac [outInv, State.Inv, State.arbitrate_inv]

theorem execDdrRefresh_inv (tick : Fin 4096) (s : State) (h : s.Inv) : outInv (execDdrRefresh tick s) := s.arbitrate_inv tick h

theorem execDdrTempRead_inv (hot : Bool) (s : State) (h : s.Inv) : outInv (execDdrTempRead hot s) := by
  unfold execDdrTempRead
  grind -ring -linarith -lia -ac [outInv, State.Inv, State.bump_inv]

theorem execSwitchClearCounters_inv (s : State) (h : s.Inv) : outInv (execSwitchClearCounters s) := s.switchClear_inv h

theorem execSwAuditRead_inv (c : Ctx) (s : State) (h : s.Inv) : outInv (execSwAuditRead c s) := by
  unfold execSwAuditRead
  grind -ring -linarith -lia -ac [outInv, State.Inv, State.readSwAudit_inv, State.reply_inv]

theorem execDdrEccErrClear_inv (s : State) (h : s.Inv) : outInv (execDdrEccErrClear s) := s.eccClear_inv h

theorem execRingClearCounters_inv (s : State) (h : s.Inv) : outInv (execRingClearCounters s) := s.ringClear_inv h

/-! ### Pin banks -/

theorem execBankSupplySample_inv (b : Fin 16) (mv : Nat) (s : State) (h : s.Inv) : outInv (execBankSupplySample b mv s) := by
  unfold execBankSupplySample
  grind -ring -linarith -lia -ac [outInv, State.Inv, State.setBank_inv, State.bump_inv, State.levelSet_inv, State.report_inv]

theorem execBankSupplyRestore_inv (b : Fin 16) (s : State) (h : s.Inv) : outInv (execBankSupplyRestore b s) := by
  unfold execBankSupplyRestore
  grind -ring -linarith -lia -ac [outInv, State.Inv, State.setBank_inv, State.levelSet_inv, State.report_inv]

theorem execFilterRunComplete_inv (b : Fin 16) (pin : Fin 24) (level : Bool) (s : State) (h : s.Inv) : outInv (execFilterRunComplete b pin level s) :=
    by
  unfold execFilterRunComplete
  grind -ring -linarith -lia -ac [outInv, State.Inv, State.setBank_inv]

/-! ### Ring time -/

theorem execPdelayTimer_inv (p : Port) (s : State) (h : s.Inv) : outInv (execPdelayTimer p s) := by
  unfold execPdelayTimer
  grind -ring -linarith -lia -ac [outInv, State.Inv, State.pdelayBad_inv, State.setPort_inv, State.timeFrame_inv]

theorem execPdelayReqReceived_inv (p : Port) (ago : Nat) (frac : W32) (s : State) (h : s.Inv) : outInv (execPdelayReqReceived p ago frac s) := by
  unfold execPdelayReqReceived
  grind -ring -linarith -lia -ac [outInv, State.Inv, someAll, State.takeLink_inv, State.timeFrame_inv]

theorem execPdelayRespReceived_inv (p : Port) (ago : Nat) (s : State) (h : s.Inv) : outInv (execPdelayRespReceived p ago s) := by
  unfold execPdelayRespReceived
  grind -ring -linarith -lia -ac [outInv, State.Inv, someAll, State.takeLink_inv, State.pdelayBad_inv, State.setPort_inv, State.setO_inv,
    State.badWt_inv]

theorem execPdelayResponseTimeout_inv (p : Port) (s : State) (h : s.Inv) : outInv (execPdelayResponseTimeout p s) := by
  unfold execPdelayResponseTimeout
  grind -ring -linarith -lia -ac [outInv, State.Inv, State.pdelayBad_inv]

theorem execTimeAnnounceTimer_inv (s : State) (h : s.Inv) : outInv (execTimeAnnounceTimer s) := by
  unfold execTimeAnnounceTimer
  grind -ring -linarith -lia -ac [outInv, State.Inv, foldl_inv, State.updateRoot_inv, State.timeFrame_inv]

theorem execTimeAnnounceReceived_inv (p : Port) (s : State) (h : s.Inv) : outInv (execTimeAnnounceReceived p s) := by
  unfold execTimeAnnounceReceived
  grind -ring -linarith -lia -ac [outInv, State.Inv, someAll, State.takeLink_inv, State.setPort_inv, State.updateRoot_inv, State.rootHoldover_inv]

theorem execDatasetAgeOut_inv (p : Port) (s : State) (h : s.Inv) : outInv (execDatasetAgeOut p s) := by
  unfold execDatasetAgeOut
  grind -ring -linarith -lia -ac [outInv, State.Inv, State.setPort_inv, State.updateRoot_inv, State.rootHoldover_inv]

theorem execSyncTimer_inv (s : State) (h : s.Inv) : outInv (execSyncTimer s) := by
  unfold execSyncTimer
  grind -ring -linarith -lia -ac [outInv, State.Inv, foldl_inv, State.timeFrame_inv]

theorem execSyncReceived_inv (p : Port) (ago : Nat) (frac : W32) (s : State) (h : s.Inv) : outInv (execSyncReceived p ago frac s) := by
  unfold execSyncReceived
  grind -ring -linarith -lia -ac [outInv, State.Inv, someAll, State.takeLink_inv, State.bump_inv, State.badWt_inv, State.setPort_inv,
    State.updateSync_inv, State.timeFrame_inv, State.sample_inv]

theorem execSyncPortTimeout_inv (s : State) (h : s.Inv) : outInv (execSyncPortTimeout s) := by
  unfold execSyncPortTimeout
  grind -ring -linarith -lia -ac [outInv, State.Inv, State.setPort_inv, State.updateSync_inv]

theorem execTimeReferenceTimeout_inv (s : State) (h : s.Inv) : outInv (execTimeReferenceTimeout s) := by
  unfold execTimeReferenceTimeout
  grind -ring -linarith -lia -ac [outInv, State.Inv, State.enterHoldover_inv, State.setStatus_inv]

theorem execHoldoverExpiry_inv (s : State) (h : s.Inv) : outInv (execHoldoverExpiry s) := by
  unfold execHoldoverExpiry
  grind -ring -linarith -lia -ac [outInv, State.Inv, State.setStatus_inv]

/-! ### Time references -/

theorem execTodSet_inv (n : Fin 32) (sec : BitVec 48) (ns frac : W32) (s : State) (h : s.Inv) : outInv (execTodSet n sec ns frac s) := by
  unfold execTodSet
  grind -ring -linarith -lia -ac [outInv, State.Inv, okAll, State.asWrite_inv, State.act_inv, State.todSet_inv]

theorem execPpsTod_inv (n : Fin 32) (sec : BitVec 48) (s : State) (h : s.Inv) : outInv (execPpsTod n sec s) := by
  unfold execPpsTod
  grind -ring -linarith -lia -ac [outInv, State.Inv, okAll, State.asWrite_inv, State.act_inv, State.ppsTod_inv]

theorem execPpsInEdge_inv (rising : Bool) (ago : Nat) (s : State) (h : s.Inv) : outInv (execPpsInEdge rising ago s) := by
  unfold execPpsInEdge
  grind -ring -linarith -lia -ac [outInv, State.Inv, State.bump_inv, State.ppsLabel_inv, State.sample_inv]

theorem execPpsSourceLoss_inv (s : State) (h : s.Inv) : outInv (execPpsSourceLoss s) := by
  unfold execPpsSourceLoss
  grind -ring -linarith -lia -ac [outInv, State.Inv, State.sourceLost_inv]

theorem execIrigFrameDecode_inv (s : State) (h : s.Inv) : outInv (execIrigFrameDecode s) := by
  unfold execIrigFrameDecode
  grind -ring -linarith -lia -ac [outInv, State.Inv, State.irigGather_inv, State.irigJudge_inv]

theorem execIrigSourceLoss_inv (s : State) (h : s.Inv) : outInv (execIrigSourceLoss s) := by
  unfold execIrigSourceLoss
  grind -ring -linarith -lia -ac [outInv, State.Inv, State.sourceLost_inv]

theorem execLeapSecond_inv (s : State) (h : s.Inv) : outInv (execLeapSecond s) := by
  unfold execLeapSecond
  grind -ring -linarith -lia -ac [outInv, State.Inv, State.setO_inv, State.event_inv]

theorem execStationPtpMessage_inv (port : Fin 2) (m : PtpMsg) (ago : Nat) (s : State) (h : s.Inv) : outInv (execStationPtpMessage port m ago s) := by
  unfold execStationPtpMessage
  grind -ring -linarith -lia -ac [outInv, State.Inv, State.badWt_inv, State.setPtp_inv, State.ptpSample_inv, State.ptpSend_inv, State.announce_inv,
    State.leapNote_inv, State.ptpDecide_inv]

theorem execPtpMessageInterval_inv (port : Fin 2) (s : State) (h : s.Inv) : outInv (execPtpMessageInterval port s) := by
  unfold execPtpMessageInterval
  refine outInv_ite h ?_
  extract_lets x seq old u v w
  have hw : w.Inv := State.ptpDecide_inv _ (State.ptpSend_inv _ _ _ _ _ (State.setPtp_inv _ _ _ h))
  clear_value w
  have ht := w.ptpTlvs_inv hw
  refine outInv_ite ?_ hw
  split
  rename_i t l hsplit
  rw [hsplit] at ht
  exact State.ptpSend_inv _ _ _ _ _ (State.ptpSend_inv _ _ _ _ _ ht)

theorem execPpsOutEdge_inv (rise : Bool) (s : State) (h : s.Inv) : outInv (execPpsOutEdge rise s) := by
  unfold execPpsOutEdge
  grind -ring -linarith -lia -ac [outInv, State.Inv, State.bump_inv]

theorem execSampleStrobe_inv (k : Fin 8) (s : State) (h : s.Inv) : outInv (execSampleStrobe k s) := by
  unfold execSampleStrobe
  grind -ring -linarith -lia -ac [outInv, State.Inv, State.strobeFire_inv]

theorem execWtTargetFreeze_inv (w : WtTarget) (s : State) (h : s.Inv) : outInv (execWtTargetFreeze w s) := by
  unfold execWtTargetFreeze
  grind -ring -linarith -lia -ac [outInv, State.Inv]

theorem execWrapMarker_inv (s : State) (h : s.Inv) : outInv (execWrapMarker s) := by
  unfold execWrapMarker
  grind -ring -linarith -lia -ac [outInv, State.Inv, State.markQueues_inv]

theorem execTmWtSecLoRead_inv (c : Ctx) (s : State) (h : s.Inv) : outInv (execTmWtSecLoRead c s) := by
  unfold execTmWtSecLoRead
  grind -ring -linarith -lia -ac [outInv, State.Inv, State.readWtSecLo_inv, State.reply_inv]

theorem execTimeClearCounters_inv (s : State) (h : s.Inv) : outInv (execTimeClearCounters s) := s.timeClear_inv h

/-! ### Trackers and the calendar -/

theorem execConvTargetRead_inv (n : Fin 32) (st32 : Bool) (s : State) (h : s.Inv) : outInv (execConvTargetRead n st32 s) := by
  unfold execConvTargetRead
  grind -ring -linarith -lia -ac [outInv, State.Inv, State.answerRead_inv]

theorem execCalFreeze_inv (i : Fin 1024) (s : State) (h : s.Inv) : outInv (execCalFreeze i s) := by
  unfold execCalFreeze
  grind -ring -linarith -lia -ac [outInv, State.Inv, State.setCal_inv, State.calEnd_inv]

theorem execCommitFreeze_inv (s : State) (h : s.Inv) : outInv (execCommitFreeze s) := by
  unfold execCommitFreeze
  grind -ring -linarith -lia -ac [outInv, State.Inv, State.commitDrop_inv]

theorem execTrackerInput_inv (k : Fin 4) (i : TrkInput) (s : State) (h : s.Inv) : outInv (execTrackerInput k i s) := by
  unfold execTrackerInput
  grind -ring -linarith -lia -ac [outInv, State.Inv, State.setTrk_inv, State.trkIgnore_inv, State.trkLose_inv, State.retarget_inv,
    State.trkLock_inv]

theorem execTrackerInputTimeout_inv (k : Fin 4) (s : State) (h : s.Inv) : outInv (execTrackerInputTimeout k s) := by
  unfold execTrackerInputTimeout
  grind -ring -linarith -lia -ac [outInv, State.Inv, State.setTrk_inv, State.trkLose_inv]

theorem execTrackerCrossingTelemetry_inv (k : Fin 4) (s : State) (h : s.Inv) : outInv (execTrackerCrossingTelemetry k s) := by
  unfold execTrackerCrossingTelemetry
  grind -ring -linarith -lia -ac [outInv, State.Inv, State.setTrk_inv, State.telemetryPut_inv]

theorem execPhTrkPaRead_inv (c : Ctx) (k : Fin 4) (s : State) (h : s.Inv) : outInv (execPhTrkPaRead c k s) := by
  unfold execPhTrkPaRead
  grind -ring -linarith -lia -ac [outInv, State.Inv, State.readTrkPa_inv, State.reply_inv]

theorem execCalFieldWrite_inv (c : Ctx) (field : Fin 8) (v : W32) (s : State) (h : s.Inv) : outInv (execCalFieldWrite c field v s) := by
  unfold execCalFieldWrite
  grind -ring -linarith -lia -ac [outInv, State.Inv, okAll, State.asWrite_inv, State.act_inv, State.calWrite_inv, State.calFieldReg_inv]

theorem execCalArm_inv (c : Ctx) (s : State) (h : s.Inv) : outInv (execCalArm c s) := by
  unfold execCalArm
  grind -ring -linarith -lia -ac [outInv, State.Inv, State.asWrite_inv, State.calArm_inv]

theorem execCalCancel_inv (c : Ctx) (s : State) (h : s.Inv) : outInv (execCalCancel c s) := by
  unfold execCalCancel
  grind -ring -linarith -lia -ac [outInv, State.Inv, State.asWrite_inv, State.calCancel_inv]

theorem execCalFire_inv (i : Fin 1024) (s : State) (h : s.Inv) : outInv (execCalFire i s) := by
  unfold execCalFire
  grind -ring -linarith -lia -ac [outInv, State.Inv, State.calRelease_inv, State.calAct_inv, State.setCal_inv, State.bump_inv, State.calEnd_inv,
    State.calSetArmed_inv]

theorem execPhaseClearCounters_inv (s : State) (h : s.Inv) : outInv (execPhaseClearCounters s) := s.phaseClear_inv h

/-! ### Controlled switching -/

theorem execCswClose_inv (n : Fin 32) (s : State) (h : s.Inv) : outInv (execCswClose n s) := by
  unfold execCswClose
  grind -ring -linarith -lia -ac [outInv, State.Inv, okAll, State.asWrite_inv, State.act_inv, State.cswCommand_inv]

theorem execCswOpen_inv (n : Fin 32) (s : State) (h : s.Inv) : outInv (execCswOpen n s) := by
  unfold execCswOpen
  grind -ring -linarith -lia -ac [outInv, State.Inv, okAll, State.asWrite_inv, State.act_inv, State.cswCommand_inv]

theorem execCswAbort_inv (n : Fin 32) (s : State) (h : s.Inv) : outInv (execCswAbort n s) := by
  unfold execCswAbort
  grind -ring -linarith -lia -ac [outInv, State.Inv, okAll, State.asWrite_inv, State.act_inv, State.cswAbort_inv]

theorem execCswContact_inv (b : Fin 8) (p : Fin 3) (s : State) (h : s.Inv) : outInv (execCswContact b p s) := by
  unfold execCswContact
  grind -ring -linarith -lia -ac [outInv, State.Inv, someAll, State.epPacket_inv, State.cswContact_inv]

theorem execCswNoContact_inv (b : Fin 8) (s : State) (h : s.Inv) : outInv (execCswNoContact b s) := by
  unfold execCswNoContact
  grind -ring -linarith -lia -ac [outInv, State.Inv, State.cswCancel_inv, State.setBrk_inv, State.cswFinish_inv]

/-! ### GOOSE -/

theorem execGooseRepeat_inv (n : Fin 128) (s : State) (h : s.Inv) : outInv (execGooseRepeat n s) := by
  unfold execGooseRepeat
  grind -ring -linarith -lia -ac [outInv, State.Inv, State.gooseNew_inv, State.setGoosePub_inv, State.gooseSend_inv]

theorem execSignalUpdatePacket_inv (n : Fin 32) (s : State) (h : s.Inv) : outInv (execSignalUpdatePacket n s) := by
  unfold execSignalUpdatePacket
  grind -ring -linarith -lia -ac [outInv, State.Inv, someAll, State.epPacket_inv, State.bumpBy_inv, State.sigApply_inv]

theorem execGooseFrameReceived_inv (port : Fin 2) (f : GooseFrame) (s : State) (h : s.Inv) : outInv (execGooseFrameReceived port f s) := by
  unfold execGooseFrameReceived
  grind -ring -linarith -lia -ac [outInv, State.Inv, foldl_inv, State.gooseJudge_inv]

theorem execGooseTalExpiry_inv (n : Fin 256) (s : State) (h : s.Inv) : outInv (execGooseTalExpiry n s) := by
  unfold execGooseTalExpiry
  grind -ring -linarith -lia -ac [outInv, State.Inv, State.setGooseSub_inv, State.bump_inv, State.event_inv, State.sigApply_inv]

/-! ### Sampled values -/

theorem execSvSamplePacket_inv (n : Fin 32) (s : State) (h : s.Inv) : outInv (execSvSamplePacket n s) := by
  unfold execSvSamplePacket
  grind -ring -linarith -lia -ac [outInv, State.Inv, someAll, State.epPacket_inv, State.bump_inv, State.svEnter_inv]

theorem execSvSampleMissing_inv (n : Fin 32) (s : State) (h : s.Inv) : outInv (execSvSampleMissing n s) := by
  unfold execSvSampleMissing
  grind -ring -linarith -lia -ac [outInv, State.Inv, State.svEnter_inv]

theorem execSvFrameSend_inv (n : Fin 32) (s : State) (h : s.Inv) : outInv (execSvFrameSend n s) := by
  unfold execSvFrameSend
  grind -ring -linarith -lia -ac [outInv, State.Inv, State.setSvPub_inv, State.report_inv, State.streamSign_inv, State.stationOut_inv,
    State.bump_inv, State.bumpBy_inv]

theorem execSvFrameReceived_inv (port : Fin 2) (f : SvFrame) (s : State) (h : s.Inv) : outInv (execSvFrameReceived port f s) := by
  unfold execSvFrameReceived
  grind -ring -linarith -lia -ac [outInv, State.Inv, foldl_inv, State.svJudge_inv]

theorem execSvSubscriptionExpiry_inv (n : Fin 64) (s : State) (h : s.Inv) : outInv (execSvSubscriptionExpiry n s) := by
  unfold execSvSubscriptionExpiry
  grind -ring -linarith -lia -ac [outInv, State.Inv, State.setSvSub_inv, State.bump_inv, State.event_inv]

/-! ### The event log -/

theorem execSoePacket_inv (n : Fin 48) (s : State) (h : s.Inv) : outInv (execSoePacket n s) := by
  unfold execSoePacket
  grind -ring -linarith -lia -ac [outInv, State.Inv, State.soeStamp_inv, State.epTake_inv, State.setSoeIn_inv, State.soeRead_inv,
    State.setSoeOld_inv, State.soeJudge_inv, State.logHoldEnd_inv, State.logPut_inv, State.bump_inv, State.drew_inv]

theorem execSoeProvisional_inv (n : Fin 48) (s : State) (h : s.Inv) : outInv (execSoeProvisional n s) := by
  unfold execSoeProvisional
  grind -ring -linarith -lia -ac [outInv, State.Inv, State.soeStamp_inv, State.hold_inv, State.drew_inv, State.logPut_inv, State.setSoeIn_inv,
    State.bump_inv, State.setSoeOld_inv, State.logHoldEnd_inv]

theorem execSoeChatterEnd_inv (point : Fin 4096) (s : State) (h : s.Inv) : outInv (execSoeChatterEnd point s) := by
  unfold execSoeChatterEnd
  grind -ring -linarith -lia -ac [outInv, State.Inv, State.drew_inv, State.logEnter_inv, State.setChatter_inv]

theorem execLogRead_inv (n : Fin 32) (s : State) (h : s.Inv) : outInv (execLogRead n s) := by
  unfold execLogRead
  grind -ring -linarith -lia -ac [outInv, State.Inv, State.logReadOut_inv, State.answerRead_inv]

theorem execStationClearCounters_inv (s : State) (h : s.Inv) : outInv (execStationClearCounters s) := s.stationClear_inv h

/-! ### The fault collector -/

theorem execFaultReport_inv (r : Report) (level : Option Bool) (s : State) (h : s.Inv) : outInv (execFaultReport r level s) := by
  unfold execFaultReport
  grind -ring -linarith -lia -ac [outInv, State.Inv, State.levelSet_inv, State.builtIn_inv, State.report_inv]

theorem execReactionComplete_inv (s : State) (h : s.Inv) : outInv (execReactionComplete s) := by
  unfold execReactionComplete
  grind -ring -linarith -lia -ac [outInv, State.Inv, State.firstEmpty_inv]

theorem execFcFirstClear_inv (s : State) (h : s.Inv) : outInv (execFcFirstClear s) := s.firstClear_inv h

theorem execQuietPeriodExpiry_inv (s : State) (h : s.Inv) : outInv (execQuietPeriodExpiry s) := by
  unfold execQuietPeriodExpiry
  grind -ring -linarith -lia -ac [outInv, State.Inv, State.withReports_inv, State.hold_inv, State.recoveryNote_inv, State.bump_inv,
    State.failsafe_inv, State.returnService_inv]

theorem execFcCountRead_inv (c : Ctx) (s : State) (h : s.Inv) : outInv (execFcCountRead c s) := by
  unfold execFcCountRead
  grind -ring -linarith -lia -ac [outInv, State.Inv, State.readFcCount_inv, State.reply_inv]

theorem execCollectorSelfTest_inv (arrived : Bool) (s : State) (h : s.Inv) : outInv (execCollectorSelfTest arrived s) := by
  unfold execCollectorSelfTest
  grind -ring -linarith -lia -ac [outInv, State.Inv, State.report_inv]

theorem execFaultRead_inv (n : Fin 32) (s : State) (h : s.Inv) : outInv (execFaultRead n s) := by
  unfold execFaultRead
  grind -ring -linarith -lia -ac [outInv, State.Inv, State.faultReadOut_inv, State.answerRead_inv]

theorem execScrubPass_inv (dram : Bool) (corrected checkerFailed : List Nat) (s : State) (h : s.Inv) : outInv (execScrubPass dram corrected
    checkerFailed s) := by
  unfold execScrubPass
  grind -ring -linarith -lia -ac [outInv, State.Inv, foldl_inv, State.scrubOne_inv, State.bump_inv, State.report_inv, State.sfgUpdate_inv]

theorem execBackgroundPassLate_inv (activity overrunMs : Nat) (s : State) (h : s.Inv) : outInv (execBackgroundPassLate activity overrunMs s) := by
  unfold execBackgroundPassLate
  grind -ring -linarith -lia -ac [outInv, State.Inv, State.report_inv, State.sfgUpdate_inv]

theorem execShutterClearCounters_inv (s : State) (h : s.Inv) : outInv (execShutterClearCounters s) := s.shutterClear_inv h

theorem execShtGfailClear_inv (s : State) (h : s.Inv) : outInv (execShtGfailClear s) := s.gfailClear_inv h

/-! ### CAN -/

theorem execCanTxPacket_inv (k : Fin 8) (s : State) (h : s.Inv) : outInv (execCanTxPacket k s) := by
  unfold execCanTxPacket
  grind -ring -linarith -lia -ac [outInv, State.Inv, foldl_inv, State.chanPop_inv, State.canPlace_inv]

theorem execCanTxComplete_inv (k : Fin 8) (tdcv : Option (Fin 128)) (s : State) (h : s.Inv) : outInv (execCanTxComplete k tdcv s) := by
  unfold execCanTxComplete
  grind -ring -linarith -lia -ac [outInv, State.Inv, State.canSent_inv, State.drew_inv, State.setCtl_inv, State.canErr_inv]

theorem execCanTxLost_inv (k : Fin 8) (s : State) (h : s.Inv) : outInv (execCanTxLost k s) := by
  unfold execCanTxLost
  grind -ring -linarith -lia -ac [outInv, State.Inv, State.canNotSent_inv]

theorem execCanBusError_inv (k : Fin 8) (tx dominant : Bool) (s : State) (h : s.Inv) : outInv (execCanBusError k tx dominant s) := by
  unfold execCanBusError
  grind -ring -linarith -lia -ac [outInv, State.Inv, State.canErr_inv]

theorem execCanBusoffRecovery_inv (k : Fin 8) (s : State) (h : s.Inv) : outInv (execCanBusoffRecovery k s) := by
  unfold execCanBusoffRecovery
  grind -ring -linarith -lia -ac [outInv, State.Inv, State.setCtl_inv]

theorem execCanAbortAll_inv (k : Fin 8) (onBus : Bool) (s : State) (h : s.Inv) : outInv (execCanAbortAll k onBus s) := by
  unfold execCanAbortAll
  grind -ring -linarith -lia -ac [outInv, State.Inv, State.canAbort_inv]

theorem execCanAbortSeq_inv (k : Fin 8) (seq : Byte) (onBus : Bool) (s : State) (h : s.Inv) : outInv (execCanAbortSeq k seq onBus s) := by
  unfold execCanAbortSeq
  grind -ring -linarith -lia -ac [outInv, State.Inv, State.canAbort_inv]

theorem execCanBusoffRestart_inv (k : Fin 8) (s : State) (h : s.Inv) : outInv (execCanBusoffRestart k s) := s.canRestart_inv k h

theorem execCanClearCounters_inv (k : Fin 8) (s : State) (h : s.Inv) : outInv (execCanClearCounters k s) := s.canClear_inv k h

theorem execCanLeaveHalted_inv (k : Fin 8) (s : State) (h : s.Inv) : outInv (execCanLeaveHalted k s) := s.canUnhalt_inv k h

theorem execCanAbortClear_inv (k : Fin 8) (s : State) (h : s.Inv) : outInv (execCanAbortClear k s) := s.abortClear_inv k h

theorem execCanFhitRead_inv (c : Ctx) (f : Fin 32) (s : State) (h : s.Inv) : outInv (execCanFhitRead c f s) := by
  unfold execCanFhitRead
  grind -ring -linarith -lia -ac [outInv, State.Inv, State.readFhit_inv, State.reply_inv]

theorem execCanFrameReceived_inv (k : Fin 8) (f : CanFrame) (ago : Nat) (s : State) (h : s.Inv) : outInv (execCanFrameReceived k f ago s) := by
  unfold execCanFrameReceived
  grind -ring -linarith -lia -ac [outInv, State.Inv, foldl_inv, State.drew_inv, State.setCtl_inv, State.canEnded_inv, State.canCount_inv,
    State.canSessionIn_inv, State.canDeliver_inv]

theorem execCanRxBufferDrain_inv (k : Fin 8) (s : State) (h : s.Inv) : outInv (execCanRxBufferDrain k s) := by
  unfold execCanRxBufferDrain
  grind -ring -linarith -lia -ac [outInv, State.Inv, State.setCtl_inv, State.chanWriteAll_inv]

theorem execCanWake_inv (k : Fin 8) (w : CanWake) (s : State) (h : s.Inv) : outInv (execCanWake k w s) := by
  unfold execCanWake
  grind -ring -linarith -lia -ac [outInv, State.Inv, State.canWoken_inv, State.setCtl_inv]

theorem execCanIntegrationDone_inv (k : Fin 8) (s : State) (h : s.Inv) : outInv (execCanIntegrationDone k s) := by
  unfold execCanIntegrationDone
  grind -ring -linarith -lia -ac [outInv, State.Inv, State.setCtl_inv]

theorem execTtReferenceSend_inv (k : Fin 8) (s : State) (h : s.Inv) : outInv (execTtReferenceSend k s) := by
  unfold execTtReferenceSend
  grind -ring -linarith -lia -ac [outInv, State.Inv, State.drew_inv, State.setCtl_inv]

theorem execTtReferenceReceived_inv (k : Fin 8) (r : TtRef) (ago : Nat) (s : State) (h : s.Inv) : outInv (execTtReferenceReceived k r ago s) := by
  unfold execTtReferenceReceived
  grind -ring -linarith -lia -ac [outInv, State.Inv, State.setCtl_inv]

theorem execTtGuardExceeded_inv (k : Fin 8) (s : State) (h : s.Inv) : outInv (execTtGuardExceeded k s) := by
  unfold execTtGuardExceeded
  grind -ring -linarith -lia -ac [outInv, State.Inv, State.setCtl_inv]

theorem execTtTrigger_inv (k : Fin 8) (t : Fin 64) (s : State) (h : s.Inv) : outInv (execTtTrigger k t s) := by
  unfold execTtTrigger
  grind -ring -linarith -lia -ac [outInv, State.Inv, State.ttAct_inv]

/-! ### Service cores -/

theorem execCoreLoadWindow_inv (k : Fin 16) (load10 load1s : Nat) (svcLoads : List (Nat × Nat)) (s : State) (h : s.Inv) : outInv (execCoreLoadWindow k
    load10 load1s svcLoads s) := by
  unfold execCoreLoadWindow
  grind -ring -linarith -lia -ac [outInv, State.Inv, foldl_inv, State.setCoreSt_inv, State.setO_inv, State.traceIn_inv, State.report_inv]

theorem execHingePoint_inv (svc : Fin 1282) (s : State) (h : s.Inv) : outInv (execHingePoint svc s) := by
  unfold execHingePoint
  grind -ring -linarith -lia -ac [outInv, State.Inv, State.adopt_inv, State.hinge_inv, State.swapQuiesce_inv, State.hingeMove_inv]

theorem execHingeCopyDone_inv (svc : Fin 1282) (s : State) (h : s.Inv) : outInv (execHingeCopyDone svc s) := s.hingeOut_inv svc h

theorem execCoreTrap_inv (k : Fin 16) (cause : Fin 9) (svc : Fin 1282) (pc : W24) (s : State) (h : s.Inv) : outInv (execCoreTrap k cause svc pc s) :=
    s.coreTrap_inv k cause svc pc.toNat h

theorem execHingeOverdue_inv (svc : Fin 1282) (s : State) (h : s.Inv) : outInv (execHingeOverdue svc s) := by
  unfold execHingeOverdue
  grind -ring -linarith -lia -ac [outInv, State.Inv, State.coreTrap_inv, State.drew_inv]

theorem execInstanceRestartDone_inv (svc : Fin 1282) (s : State) (h : s.Inv) : outInv (execInstanceRestartDone svc s) := by
  unfold execInstanceRestartDone
  grind -ring -linarith -lia -ac [outInv, State.Inv, State.svcResume_inv]

theorem execSvcRestartCmd_inv (n : Fin 32) (s : State) (h : s.Inv) : outInv (execSvcRestartCmd n s) := by
  unfold execSvcRestartCmd
  grind -ring -linarith -lia -ac [outInv, State.Inv, okAll, State.asWrite_inv, State.act_inv, State.svcCmdRestart_inv]

theorem execSvcClearCounters_inv (n : Fin 32) (s : State) (h : s.Inv) : outInv (execSvcClearCounters n s) := by
  unfold execSvcClearCounters
  grind -ring -linarith -lia -ac [outInv, State.Inv, okAll, State.asWrite_inv, State.act_inv, State.svcClear_inv]

theorem execTraceMessage_inv (typ k : Fin 16) (stamp : W32) (payload : List W32) (s : State) (h : s.Inv) : outInv (execTraceMessage typ k stamp
    payload s) := by
  unfold execTraceMessage
  grind -ring -linarith -lia -ac [outInv, State.Inv, State.hold_inv, State.traceIn_inv]

theorem execTraceDrain_inv (s : State) (h : s.Inv) : outInv (execTraceDrain s) := by
  unfold execTraceDrain
  grind -ring -linarith -lia -ac [outInv, State.Inv, State.traceDrainOne_inv]

theorem execScTraceDropRead_inv (c : Ctx) (s : State) (h : s.Inv) : outInv (execScTraceDropRead c s) := by
  unfold execScTraceDropRead
  grind -ring -linarith -lia -ac [outInv, State.Inv, State.readTraceDrop_inv, State.reply_inv]

/-! ### The power unit -/

theorem execFeedUsable_inv (f : Fin 2) (s : State) (h : s.Inv) : outInv (execFeedUsable f s) := by
  unfold execFeedUsable
  grind -ring -linarith -lia -ac [outInv, State.Inv, State.feedMeasure_inv, State.feedSet_inv]

theorem execFeedUnusable_inv (f : Fin 2) (why : FeedBad) (s : State) (h : s.Inv) : outInv (execFeedUnusable f why s) := by
  unfold execFeedUnusable
  grind -ring -linarith -lia -ac [outInv, State.Inv, State.feedMeasure_inv, State.setO_inv, State.feedSet_inv]

theorem execFeedReturnTimer_inv (s : State) (h : s.Inv) : outInv (execFeedReturnTimer s) := by
  unfold execFeedReturnTimer
  grind -ring -linarith -lia -ac [outInv, State.Inv, State.feedChange_inv]

theorem execFeedOffConfirmed_inv (s : State) (h : s.Inv) : outInv (execFeedOffConfirmed s) := by
  unfold execFeedOffConfirmed
  grind -ring -linarith -lia -ac [outInv, State.Inv, State.bump_inv, State.feedSelect_inv]

theorem execFeedOffTimeout_inv (s : State) (h : s.Inv) : outInv (execFeedOffTimeout s) := by
  unfold execFeedOffTimeout
  grind -ring -linarith -lia -ac [outInv, State.Inv, State.feedSet_inv, State.efShort_inv]

theorem execFeedLossDegrade_inv (f : Fin 2) (s : State) (h : s.Inv) : outInv (execFeedLossDegrade f s) := by
  unfold execFeedLossDegrade
  grind -ring -linarith -lia -ac [outInv, State.Inv, State.setFeed_inv, State.degrade_inv]

theorem execFeedLossEnd_inv (f : Fin 2) (s : State) (h : s.Inv) : outInv (execFeedLossEnd f s) := by
  unfold execFeedLossEnd
  grind -ring -linarith -lia -ac [outInv, State.Inv, State.setFeed_inv, State.degrade_inv]

theorem execFeedRampComplete_inv (s : State) (h : s.Inv) : outInv (execFeedRampComplete s) := by
  unfold execFeedRampComplete
  grind -ring -linarith -lia -ac [outInv, State.Inv]

theorem execEfCmdOn_inv (n : Option (Fin 32)) (ch : Fin 8) (s : State) (h : s.Inv) : outInv (execEfCmdOn n ch s) := by
  unfold execEfCmdOn
  grind -ring -linarith -lia -ac [outInv, State.Inv, okAll, State.efAsk_inv, State.efOn_inv]

theorem execEfCmdOff_inv (n : Option (Fin 32)) (ch : Fin 8) (s : State) (h : s.Inv) : outInv (execEfCmdOff n ch s) := by
  unfold execEfCmdOff
  grind -ring -linarith -lia -ac [outInv, State.Inv, okAll, State.efAsk_inv, State.efOff_inv]

theorem execEfStartComplete_inv (ch : Fin 8) (s : State) (h : s.Inv) : outInv (execEfStartComplete ch s) := by
  unfold execEfStartComplete
  grind -ring -linarith -lia -ac [outInv, State.Inv, State.setField_inv]

theorem execEfInsertionAbort_inv (ch : Fin 8) (lt : W32) (s : State) (h : s.Inv) : outInv (execEfInsertionAbort ch lt s) := by
  unfold execEfInsertionAbort
  grind -ring -linarith -lia -ac [outInv, State.Inv, State.efTrip_inv]

theorem execEfStartTimeout_inv (ch : Fin 8) (lt : W32) (s : State) (h : s.Inv) : outInv (execEfStartTimeout ch lt s) := by
  unfold execEfStartTimeout
  grind -ring -linarith -lia -ac [outInv, State.Inv, State.efTrip_inv]

theorem execEfCurveTrip_inv (ch : Fin 8) (lt : W32) (s : State) (h : s.Inv) : outInv (execEfCurveTrip ch lt s) := by
  unfold execEfCurveTrip
  grind -ring -linarith -lia -ac [outInv, State.Inv, State.efTrip_inv]

theorem execEfComparatorTrip_inv (ch : Fin 8) (lt : W32) (s : State) (h : s.Inv) : outInv (execEfComparatorTrip ch lt s) := s.efTrip_inv ch 2 lt.toNat
    h

theorem execEfLetThroughTrip_inv (ch : Fin 8) (lt : W32) (s : State) (h : s.Inv) : outInv (execEfLetThroughTrip ch lt s) := s.efTrip_inv ch 3 lt.toNat
    h

theorem execEfShorted_inv (ch : Fin 8) (s : State) (h : s.Inv) : outInv (execEfShorted ch s) := by
  unfold execEfShorted
  grind -ring -linarith -lia -ac [outInv, State.Inv, State.feedSet_inv, State.efShort_inv, State.setField_inv]

theorem execEfShortEnd_inv (ch : Fin 8) (s : State) (h : s.Inv) : outInv (execEfShortEnd ch s) := by
  unfold execEfShortEnd
  grind -ring -linarith -lia -ac [outInv, State.Inv, State.levelSet_inv, State.feedSet_inv, State.setField_inv]

theorem execEfEnergyTick_inv (ch : Fin 8) (ma : Int) (mv : W32) (s : State) (h : s.Inv) : outInv (execEfEnergyTick ch ma mv s) := by
  unfold execEfEnergyTick
  grind -ring -linarith -lia -ac [outInv, State.Inv, State.setO_inv, State.setField_inv, State.islandSense_inv]

theorem execEnergyStore_inv (s : State) (h : s.Inv) : outInv (execEnergyStore s) := by
  have hs := s.energyStore_inv h
  unfold execEnergyStore
  generalize s.energyStore = t at hs
  exact outInv_ite h hs

theorem execEfTelemetry_inv (ch : Fin 8) (ma : Int) (mv : W24) (s : State) (h : s.Inv) : outInv (execEfTelemetry ch ma mv s) := by
  unfold execEfTelemetry
  grind -ring -linarith -lia -ac [outInv, State.Inv, State.setField_inv, State.telemetryPut_inv]

theorem execPwEfEloRead_inv (c : Ctx) (ch : Fin 8) (s : State) (h : s.Inv) : outInv (execPwEfEloRead c ch s) := by
  unfold execPwEfEloRead
  grind -ring -linarith -lia -ac [outInv, State.Inv, State.readEfElo_inv, State.reply_inv]

theorem execMeasReferenceCheck_inv (ch : Fin 8) (off : Bool) (s : State) (h : s.Inv) : outInv (execMeasReferenceCheck ch off s) := by
  unfold execMeasReferenceCheck
  grind -ring -linarith -lia -ac [outInv, State.Inv, State.report_inv]

theorem execRailMonitorWarning_inv (rail : Fin 5) (mv : Nat) (s : State) (h : s.Inv) : outInv (execRailMonitorWarning rail mv s) := by
  unfold execRailMonitorWarning
  grind -ring -linarith -lia -ac [outInv, State.Inv, State.setO_inv, State.coreRail_inv, State.report_inv]

theorem execTempSample_inv (t : List Int) (s : State) (h : s.Inv) : outInv (execTempSample t s) := by
  unfold execTempSample
  grind -ring -linarith -lia -ac [outInv, State.Inv, foldl_inv, State.setO_inv, State.report_inv, State.levelSet_inv]

theorem execRefclkWarning_inv (ppm : Int) (s : State) (h : s.Inv) : outInv (execRefclkWarning ppm s) := by
  unfold execRefclkWarning
  grind -ring -linarith -lia -ac [outInv, State.Inv, State.report_inv]

/-! ### The pair -/

theorem execLeashInSilence_inv (s : State) (h : s.Inv) : outInv (execLeashInSilence s) := by
  unfold execLeashInSilence
  grind -ring -linarith -lia -ac [outInv, State.Inv, State.levelSet_inv, State.report_inv, State.claimTry_inv]

theorem execLeashInEdge_inv (s : State) (h : s.Inv) : outInv (execLeashInEdge s) := by
  unfold execLeashInEdge
  grind -ring -linarith -lia -ac [outInv, State.Inv, State.leashSettle_inv, State.bump_inv]

theorem execClaimSeekExpiry_inv (s : State) (h : s.Inv) : outInv (execClaimSeekExpiry s) := by
  unfold execClaimSeekExpiry
  grind -ring -linarith -lia -ac [outInv, State.Inv, State.claimSettle_inv]

theorem execClaimBackoffExpiry_inv (s : State) (h : s.Inv) : outInv (execClaimBackoffExpiry s) := by
  unfold execClaimBackoffExpiry
  grind -ring -linarith -lia -ac [outInv, State.Inv, State.claimSeek_inv, State.leashSettle_inv]

theorem execDualClaimDetected_inv (s : State) (h : s.Inv) : outInv (execDualClaimDetected s) := by
  unfold execDualClaimDetected
  grind -ring -linarith -lia -ac [outInv, State.Inv, State.claimRelease_inv, State.report_inv, State.leashFault_inv]

theorem execLeashOutReadbackFail_inv (s : State) (h : s.Inv) : outInv (execLeashOutReadbackFail s) := by
  unfold execLeashOutReadbackFail
  grind -ring -linarith -lia -ac [outInv, State.Inv, State.claimRelease_inv, State.report_inv]

theorem execPairStatusSend_inv (s : State) (h : s.Inv) : outInv (execPairStatusSend s) := by
  unfold execPairStatusSend
  grind -ring -linarith -lia -ac [outInv, State.Inv, State.linkBlock_inv]

theorem execPairStatusBlock_inv (b : StatusBlock) (crcOk : Bool) (s : State) (h : s.Inv) : outInv (execPairStatusBlock b crcOk s) := by
  unfold execPairStatusBlock
  grind -ring -linarith -lia -ac [outInv, State.Inv, State.statusGood_inv, State.followSwap_inv, State.claimTry_inv, State.sfgUpdate_inv]

theorem execPairLinkDown_inv (s : State) (h : s.Inv) : outInv (execPairLinkDown s) := by
  unfold execPairLinkDown
  grind -ring -linarith -lia -ac [outInv, State.Inv, State.report_inv, State.partnerSet_inv, State.claimTry_inv, State.sfgUpdate_inv]

theorem execMirrorResend_inv (seq : W32) (s : State) (h : s.Inv) : outInv (execMirrorResend seq s) := by
  unfold execMirrorResend
  grind -ring -linarith -lia -ac [outInv, State.Inv, State.bump_inv, State.mirrorOut_inv]

theorem execShadowMismatch_inv (ef : Bool) (bank : Fin 16) (pin : Fin 24) (s : State) (h : s.Inv) : outInv (execShadowMismatch ef bank pin s) := by
  unfold execShadowMismatch
  grind -ring -linarith -lia -ac [outInv, State.Inv, State.bump_inv, State.noteSet_inv, State.report_inv]

theorem execPaShadowClear_inv (s : State) (h : s.Inv) : outInv (execPaShadowClear s) := s.shadowClear_inv h

theorem execPaLinkRead_inv (c : Ctx) (s : State) (h : s.Inv) : outInv (execPaLinkRead c s) := by
  unfold execPaLinkRead
  grind -ring -linarith -lia -ac [outInv, State.Inv, State.readPaLink_inv, State.reply_inv]

theorem execBarkSend_inv (s : State) (h : s.Inv) : outInv (execBarkSend s) := by
  unfold execBarkSend
  grind -ring -linarith -lia -ac [outInv, State.Inv, State.originate_inv, State.bump_inv]

theorem execBarkReceived_inv (s : State) (h : s.Inv) : outInv (execBarkReceived s) := by
  unfold execBarkReceived
  grind -ring -linarith -lia -ac [outInv, State.Inv, someAll, State.takeDelivered_inv, State.bump_inv, State.partnerSet_inv]

theorem execBarkTimeout_inv (s : State) (h : s.Inv) : outInv (execBarkTimeout s) := by
  unfold execBarkTimeout
  grind -ring -linarith -lia -ac [outInv, State.Inv, State.report_inv, State.partnerSet_inv]

theorem execSwitchover_inv (n : Fin 32) (s : State) (h : s.Inv) : outInv (execSwitchover n s) := by
  unfold execSwitchover
  grind -ring -linarith -lia -ac [outInv, State.Inv, okAll, State.asWrite_inv, State.actLater_inv, State.switchover_inv]

theorem execHeel_inv (n : Fin 32) (s : State) (h : s.Inv) : outInv (execHeel n s) := by
  unfold execHeel
  grind -ring -linarith -lia -ac [outInv, State.Inv, someAll, okAll, State.asWrite_inv, State.heelAct_inv, State.act_inv, State.actLater_inv]

theorem execSwitchoverNoSync_inv (n : Fin 32) (s : State) (h : s.Inv) : outInv (execSwitchoverNoSync n s) := by
  unfold execSwitchoverNoSync
  grind -ring -linarith -lia -ac [outInv, State.Inv, okAll, State.asWrite_inv, State.actLater_inv, State.switchover_inv]

theorem execSwitchoverFallback_inv (s : State) (h : s.Inv) : outInv (execSwitchoverFallback s) := by
  unfold execSwitchoverFallback
  grind -ring -linarith -lia -ac [outInv, State.Inv, State.answer_inv, State.claimTry_inv, State.setMode_inv, State.shutIfWaiting_inv]

/-! ### Security -/

theorem execKeyLoadPlain_inv (n : Fin 32) (key : List Byte) (s : State) (h : s.Inv) : outInv (execKeyLoadPlain n key s) := by
  unfold execKeyLoadPlain
  grind -ring -linarith -lia -ac [outInv, State.Inv, okAll, State.asWrite_inv, State.act_inv, State.keyPlain_inv]

theorem execKeyLoadWrapped_inv (n : Fin 32) (wrapped : List Byte) (s : State) (h : s.Inv) : outInv (execKeyLoadWrapped n wrapped s) := by
  unfold execKeyLoadWrapped
  grind -ring -linarith -lia -ac [outInv, State.Inv, okAll, State.asWrite_inv, State.act_inv, State.keyWrapped_inv]

theorem execKeyDestroy_inv (n : Fin 32) (s : State) (h : s.Inv) : outInv (execKeyDestroy n s) := by
  unfold execKeyDestroy
  grind -ring -linarith -lia -ac [outInv, State.Inv, okAll, State.asWrite_inv, State.act_inv, State.keyDestroyAt_inv]

theorem execKeyDerive_inv (n : Fin 32) (s : State) (h : s.Inv) : outInv (execKeyDerive n s) := by
  unfold execKeyDerive
  grind -ring -linarith -lia -ac [outInv, State.Inv, okAll, State.asWrite_inv, State.act_inv, State.keyDerived_inv]

theorem execRevokeKey0_inv (n : Fin 32) (s : State) (h : s.Inv) : outInv (execRevokeKey0 n s) := by
  unfold execRevokeKey0
  grind -ring -linarith -lia -ac [outInv, State.Inv, okAll, State.asWrite_inv, State.act_inv, State.revoke_inv]

theorem execRaiseFloor_inv (n : Fin 32) (s : State) (h : s.Inv) : outInv (execRaiseFloor n s) := by
  unfold execRaiseFloor
  grind -ring -linarith -lia -ac [outInv, State.Inv, okAll, State.asWrite_inv, State.act_inv, State.floorRaise_inv]

theorem execLcReq_inv (n : Fin 32) (v : W32) (verified : Bool) (s : State) (h : s.Inv) : outInv (execLcReq n v verified s) := by
  unfold execLcReq
  grind -ring -linarith -lia -ac [outInv, State.Inv, okAll, State.asWrite_inv, State.lcRequest_inv, State.answer_inv, State.lcRun_inv,
    State.beginReset_inv]

theorem execRngHealthFail_inv (s : State) (h : s.Inv) : outInv (execRngHealthFail s) := by
  unfold execRngHealthFail
  grind -ring -linarith -lia -ac [outInv, State.Inv, State.report_inv]

theorem execRngHealthRestored_inv (s : State) (h : s.Inv) : outInv (execRngHealthRestored s) := by
  unfold execRngHealthRestored
  grind -ring -linarith -lia -ac [outInv, State.Inv]

/-! ### Self-test -/

theorem execBistSliceDone_inv (found : List Finding) (s : State) (h : s.Inv) : outInv (execBistSliceDone found s) := by
  unfold execBistSliceDone
  grind -ring -linarith -lia -ac [outInv, State.Inv, foldl_inv, State.sliceStop_inv, State.anchorUpdate_inv, State.repairBit_inv,
    State.candPass_inv, State.bistRecord_inv, State.sliceEnd_inv]

theorem execBistSliceBudgetExpiry_inv (s : State) (h : s.Inv) : outInv (execBistSliceBudgetExpiry s) := by
  unfold execBistSliceBudgetExpiry
  grind -ring -linarith -lia -ac [outInv, State.Inv, State.sliceStop_inv, State.anchorUpdate_inv]

theorem execRepairClear_inv (n : Fin 32) (s : State) (h : s.Inv) : outInv (execRepairClear n s) := by
  unfold execRepairClear
  grind -ring -linarith -lia -ac [outInv, State.Inv, okAll, State.asWrite_inv, State.act_inv, State.repairClearAct_inv]

/-! ### Flash and images -/

theorem execFlashEraseDone_inv (ok : Bool) (s : State) (h : s.Inv) : outInv (execFlashEraseDone ok s) := by
  unfold execFlashEraseDone
  grind -ring -linarith -lia -ac [outInv, State.Inv, State.eraseCounted_inv, State.eraseKick_inv, State.reports_inv]

theorem execFlashEraseSuspend_inv (u : FlashUse) (s : State) (h : s.Inv) : outInv (execFlashEraseSuspend u s) := by
  unfold execFlashEraseSuspend
  split
  · exact h
  · exact outInv_ite h (s.eraseSuspend_inv _ h)

theorem execFlashEraseResume_inv (s : State) (h : s.Inv) : outInv (execFlashEraseResume s) := by
  unfold execFlashEraseResume
  grind -ring -linarith -lia -ac [outInv, State.Inv, State.eraseResume_inv]

theorem execConfigStoreCommitWrite_inv (ok : Bool) (s : State) (h : s.Inv) : outInv (execConfigStoreCommitWrite ok s) := by
  unfold execConfigStoreCommitWrite
  grind -ring -linarith -lia -ac [outInv, State.Inv, State.commitStored_inv, State.withReports_inv, State.bump_inv, State.sectorWear_inv]

theorem execConfigStoreCompact_inv (s : State) (h : s.Inv) : outInv (execConfigStoreCompact s) := by
  unfold execConfigStoreCompact
  grind -ring -linarith -lia -ac [outInv, State.Inv, foldl_inv, State.eraseQueue_inv]

theorem execLogPageProgram_inv (ok : Bool) (s : State) (h : s.Inv) : outInv (execLogPageProgram ok s) := by
  unfold execLogPageProgram
  grind -ring -linarith -lia -ac [outInv, State.Inv, State.withReports_inv, State.logPage_inv, State.bump_inv, State.sectorWear_inv]

/-! ### Commits -/

theorem execCommit_inv (n : Fin 32) (s : State) (h : s.Inv) : outInv (execCommit n s) := by
  unfold execCommit
  grind -ring -linarith -lia -ac [outInv, State.Inv, State.asWrite_inv, State.commitNow_inv]

theorem execDiscard_inv (n : Fin 32) (s : State) (h : s.Inv) : outInv (execDiscard n s) := by
  unfold execDiscard
  grind -ring -linarith -lia -ac [outInv, State.Inv, okAll, State.asWrite_inv, State.act_inv, State.discardSet_inv]

theorem execCancelOwnCommit_inv (n : Fin 32) (s : State) (h : s.Inv) : outInv (execCancelOwnCommit n s) := by
  unfold execCancelOwnCommit
  grind -ring -linarith -lia -ac [outInv, State.Inv, okAll, State.asWrite_inv, State.act_inv, State.cancelOwn_inv]

theorem execCancelAnyCommit_inv (n : Fin 32) (s : State) (h : s.Inv) : outInv (execCancelAnyCommit n s) := by
  unfold execCancelAnyCommit
  grind -ring -linarith -lia -ac [outInv, State.Inv, okAll, State.asWrite_inv, State.act_inv, State.cancelAny_inv]

theorem execCommitApply_inv (s : State) (h : s.Inv) : outInv (execCommitApply s) := by
  unfold execCommitApply
  grind -ring -linarith -lia -ac [outInv, State.Inv, State.mirror_inv, State.applySet_inv, State.closePaths_inv]

/-! ### Modes and resets -/

theorem execModeReqReturn_inv (n : Fin 32) (s : State) (h : s.Inv) : outInv (execModeReqReturn n s) := by
  unfold execModeReqReturn
  grind -ring -linarith -lia -ac [outInv, State.Inv, State.asWrite_inv, State.modeReq_inv, State.modeReturn_inv]

theorem execModeReqMaintenance_inv (n : Fin 32) (s : State) (h : s.Inv) : outInv (execModeReqMaintenance n s) := by
  unfold execModeReqMaintenance
  grind -ring -linarith -lia -ac [outInv, State.Inv, State.asWrite_inv, State.modeReq_inv, State.modeMaintenance_inv]

theorem execModeReqFailsafe_inv (n : Fin 32) (s : State) (h : s.Inv) : outInv (execModeReqFailsafe n s) := by
  unfold execModeReqFailsafe
  grind -ring -linarith -lia -ac [outInv, State.Inv, State.asWrite_inv, State.modeReq_inv, State.modeFailsafe_inv]

theorem execModeReqDoze_inv (n : Fin 32) (s : State) (h : s.Inv) : outInv (execModeReqDoze n s) := by
  unfold execModeReqDoze
  grind -ring -linarith -lia -ac [outInv, State.Inv, State.asWrite_inv, State.modeReq_inv, State.modeDoze_inv]

theorem execModeReqShutdown_inv (n : Fin 32) (s : State) (h : s.Inv) : outInv (execModeReqShutdown n s) := by
  unfold execModeReqShutdown
  grind -ring -linarith -lia -ac [outInv, State.Inv, State.asWrite_inv, State.modeReq_inv, State.modeShutdown_inv]

theorem execResetCmdWarm_inv (s : State) (h : s.Inv) : outInv (execResetCmdWarm s) := s.beginReset_inv 4 h

theorem execResetCmdRecovery_inv (s : State) (h : s.Inv) : outInv (execResetCmdRecovery s) := s.beginReset_inv 5 h

theorem execPorstNAssert_inv (lowNs : Nat) (s : State) (h : s.Inv) : outInv (execPorstNAssert lowNs s) := s.resetPulse_inv 2000 10000 lowNs 1 h

theorem execSupplyOutOfRange_inv (rail : Nat) (ns : Nat) (s : State) (h : s.Inv) : outInv (execSupplyOutOfRange rail ns s) := by
  unfold execSupplyOutOfRange
  grind -ring -linarith -lia -ac [outInv, State.Inv, State.beginReset_inv, State.coreRail_inv]

theorem execWrstNAssert_inv (lowNs : Nat) (s : State) (h : s.Inv) : outInv (execWrstNAssert lowNs s) := s.resetPulse_inv 200 1000 lowNs 3 h

theorem execRefclkLoss_inv (ns : Nat) (s : State) (h : s.Inv) : outInv (execRefclkLoss ns s) := by
  unfold execRefclkLoss
  grind -ring -linarith -lia -ac [outInv, State.Inv, State.beginReset_inv]

theorem execPllLockLoss_inv (pll : Fin 3) (ns : Nat) (s : State) (h : s.Inv) : outInv (execPllLockLoss pll ns s) :=
  State.ite_inv (s.beginReset_inv 9 h) h

theorem execResetEnd_inv (modeSel : Fin 4) (pairId : Bool) (s : State) (h : s.Inv) : outInv (execResetEnd modeSel pairId s) := by
  unfold execResetEnd
  grind -ring -linarith -lia -ac [outInv, State.Inv, State.drew_inv, State.setMode_inv, State.faultPush_inv, State.degrade_inv,
    State.eraseAgain_inv, State.lcRun_inv, State.beginReset_inv]

theorem execPllLocked_inv (s : State) (h : s.Inv) : outInv (execPllLocked s) := by
  unfold execPllLocked
  grind -ring -linarith -lia -ac [outInv, State.Inv, foldl_inv, State.setPort_inv, State.synthLock_inv]

theorem execRepairMapApply_inv (s : State) (h : s.Inv) : outInv (execRepairMapApply s) := by
  unfold execRepairMapApply
  grind -ring -linarith -lia -ac [outInv, State.Inv, State.report_inv, State.repairApply_inv, State.setO_inv]

theorem execImageHeaderChecked_inv (slot : Fin 2) (header : List Byte) (s : State) (h : s.Inv) : outInv (execImageHeaderChecked slot header s) := by
  unfold execImageHeaderChecked
  grind -ring -linarith -lia -ac [outInv, State.Inv, State.bootRefuse_inv]

theorem execDdrTrainingDone_inv (rate : Nat) (failLane : Option Nat) (s : State) (h : s.Inv) : outInv (execDdrTrainingDone rate failLane s) := by
  unfold execDdrTrainingDone
  grind -ring -linarith -lia -ac [outInv, State.Inv, State.report_inv, State.setO_inv]

theorem execImageLoadDone_inv (slot : Fin 2) (body : List Byte) (s : State) (h : s.Inv) : outInv (execImageLoadDone slot body s) := by
  unfold execImageLoadDone
  grind -ring -linarith -lia -ac [outInv, State.Inv, foldl_inv, State.bootRefuse_inv, State.setImgSlot_inv, State.logFlush_inv, State.setCoreSt_inv,
    State.setMode_inv]

/-- The three ends of a configuration load: an item offends, the hub stays in CONFIGURE, or it goes on to JOIN. -/
theorem outInv_configLoaded {c d : Prop} [Decidable c] [Decidable d] {t : State} (m : Modes) (ht : t.Inv) :
    outInv (.next (if c then { t with modes := m } else if d then t else t.setMode .join)) :=
  State.ite_inv ht (State.ite_inv ht (t.setMode_inv .join ht))

theorem execConfigLoadDone_inv (s : State) (h : s.Inv) : outInv (execConfigLoadDone s) := by
  have hload := State.sfgUpdate_inv _ (State.placeNow_inv _ (State.cfgTaken_inv _ (State.adaptRetired_inv _
    (State.firstStart_inv _ s.flash.running (s.loadStored_inv h)))))
  unfold execConfigLoadDone
  exact outInv_ite h (outInv_configLoaded _ hload)

theorem execDramInitDone_inv (s : State) (h : s.Inv) : outInv (execDramInitDone s) := by
  unfold execDramInitDone
  grind -ring -linarith -lia -ac [outInv, State.Inv, State.dramRelease_inv]

theorem execPcieEndpointReady_inv (s : State) (h : s.Inv) : outInv (execPcieEndpointReady s) := by
  unfold execPcieEndpointReady
  grind -ring -linarith -lia -ac [outInv, State.Inv]

theorem execJoinComplete_inv (s : State) (h : s.Inv) : outInv (execJoinComplete s) := by
  unfold execJoinComplete
  grind -ring -linarith -lia -ac [outInv, State.Inv, State.joinEnd_inv]

theorem execJoinTimeout_inv (s : State) (h : s.Inv) : outInv (execJoinTimeout s) := by
  unfold execJoinTimeout
  grind -ring -linarith -lia -ac [outInv, State.Inv, State.joinEnd_inv]

theorem execWakeTimer_inv (s : State) (h : s.Inv) : outInv (execWakeTimer s) := by
  unfold execWakeTimer
  grind -ring -linarith -lia -ac [outInv, State.Inv, State.wake_inv]

theorem execWakeSequenceDone_inv (s : State) (h : s.Inv) : outInv (execWakeSequenceDone s) := by
  unfold execWakeSequenceDone
  grind -ring -linarith -lia -ac [outInv, State.Inv, State.wakeUp_inv]

theorem execShutdownFlushDone_inv (s : State) (h : s.Inv) : outInv (execShutdownFlushDone s) := by
  unfold execShutdownFlushDone
  grind -ring -linarith -lia -ac [outInv, State.Inv, foldl_inv, State.flushAll_inv, State.supervise_inv]

theorem execLeaveIdleTimer_inv (s : State) (h : s.Inv) : outInv (execLeaveIdleTimer s) := by
  unfold execLeaveIdleTimer
  grind -ring -linarith -lia -ac [outInv, State.Inv, State.ringIdle_inv, State.bistStart_inv]

theorem execHalt_inv (s : State) (h : s.Inv) : outInv (execHalt s) := by
  unfold execHalt
  grind -ring -linarith -lia -ac [outInv, State.Inv, State.fieldsOff_inv, State.setO_inv, State.ringIdle_inv]

theorem execIslandSupplyWarning_inv (mv : Nat) (us : Nat) (s : State) (h : s.Inv) : outInv (execIslandSupplyWarning mv us s) := by
  unfold execIslandSupplyWarning
  grind -ring -linarith -lia -ac [outInv, State.Inv, State.warnSet_inv, State.energyStore_inv, State.shutdownBegin_inv, State.shutCut_inv]

/-! ### Updates -/

theorem execUpdPrepare_inv (n : Fin 32) (s : State) (h : s.Inv) : outInv (execUpdPrepare n s) := by
  unfold execUpdPrepare
  grind -ring -linarith -lia -ac [outInv, State.Inv, okAll, State.asWrite_inv, State.act_inv, State.updPrepare_inv]

theorem execUpdSlotReady_inv (s : State) (h : s.Inv) : outInv (execUpdSlotReady s) := by
  unfold execUpdSlotReady
  grind -ring -linarith -lia -ac [outInv, State.Inv]

theorem execImageDataSegment_inv (n : Fin 32) (off : Nat) (data : List Byte) (last : Bool) (s : State) (h : s.Inv) : outInv (execImageDataSegment n
    off data last s) := by
  unfold execImageDataSegment
  grind -ring -linarith -lia -ac [outInv, State.Inv, State.asWrite_inv, State.imageSegment_inv]

theorem execUpdVerifyDone_inv (s : State) (h : s.Inv) : outInv (execUpdVerifyDone s) := by
  unfold execUpdVerifyDone
  grind -ring -linarith -lia -ac [outInv, State.Inv, State.answerOwner_inv, State.updFail_inv, State.setImgSlot_inv, State.journalWrite_inv,
    State.anchorUpdate_inv]

theorem execUpdActivateHandover_inv (n : Fin 32) (s : State) (h : s.Inv) : outInv (execUpdActivateHandover n s) := by
  unfold execUpdActivateHandover
  grind -ring -linarith -lia -ac [outInv, State.Inv, okAll, State.asWrite_inv, State.act_inv, State.activateHandover_inv]

theorem execUpdActivateReset_inv (n : Fin 32) (s : State) (h : s.Inv) : outInv (execUpdActivateReset n s) := by
  unfold execUpdActivateReset
  grind -ring -linarith -lia -ac [outInv, State.Inv, okAll, State.asWrite_inv, State.act_inv, State.activateReset_inv]

theorem execUpdAbandon_inv (n : Fin 32) (s : State) (h : s.Inv) : outInv (execUpdAbandon n s) := by
  unfold execUpdAbandon
  grind -ring -linarith -lia -ac [outInv, State.Inv, okAll, State.asWrite_inv, State.act_inv, State.updAbandon_inv]

theorem execHandoverImageLoaded_inv (s : State) (h : s.Inv) : outInv (execHandoverImageLoaded s) := by
  unfold execHandoverImageLoaded
  grind -ring -linarith -lia -ac [outInv, State.Inv, State.updFail_inv, State.handoverBegin_inv]

theorem execHandoverComplete_inv (s : State) (h : s.Inv) : outInv (execHandoverComplete s) := by
  unfold execHandoverComplete
  grind -ring -linarith -lia -ac [outInv, State.Inv, State.handBackEnd_inv, State.handoverEnd_inv]

theorem execTrialHealthy_inv (s : State) (h : s.Inv) : outInv (execTrialHealthy s) := by
  unfold execTrialHealthy
  grind -ring -linarith -lia -ac [outInv, State.Inv, State.trialCommit_inv]

theorem execTrialTimeout_inv (s : State) (h : s.Inv) : outInv (execTrialTimeout s) := by
  have hover := s.trialOver_inv h
  unfold execTrialTimeout
  generalize s.trialOver = t at hover
  dsimp only
  split
  · exact hover
  · exact outInv_ite hover (State.ite_inv (State.swapBegin_inv _ _ _ (State.anchorUpdate_inv _ hover)) (State.anchorUpdate_inv _ hover))

theorem execRecoveryLoaderRequest_inv (path : Path) (off : Nat) (data : List Byte) (last : Bool) (s : State) (h : s.Inv) :
    outInv (execRecoveryLoaderRequest path off data last s) := by
  have hstatus : ∀ t : State, t.Inv → ∀ c, (t.recoveryStatus path c).Inv := fun t ht c => t.recoveryStatus_inv path c ht
  have hput : ∀ b st c, ((s.recoveryPut b st).recoveryStatus path c).Inv := fun b st c => hstatus _ (s.recoveryPut_inv b st h) c
  unfold execRecoveryLoaderRequest
  refine outInv_ite h ?_
  extract_lets old b refused
  refine outInv_ite (hstatus s h _) (outInv_ite (hstatus s h _) (outInv_ite (hstatus s h _) ?_))
  cases refused with
  | some c => exact hput _ _ _
  | none => exact outInv_ite (hput _ _ _) (outInv_ite (hput _ _ _) (State.recoveryDone_inv _ _ (hstatus s h _)))

/-! ### Registers -/

theorem execRegisterWrite_inv (c : Ctx) (addr : Nat) (v : W32) (s : State) (h : s.Inv) : outInv (execRegisterWrite c addr v s) := by
  unfold execRegisterWrite
  grind -ring -linarith -lia -ac [outInv, State.Inv, State.refuseAccess_inv, State.regWrite_inv]

theorem execReservedClear_inv (s : State) (h : s.Inv) : outInv (execReservedClear s) := s.reservedClear_inv h

/-! ### The fabric -/

theorem execFabricReadRequest_inv (s : State) (h : s.Inv) : outInv (execFabricReadRequest s) := by
  unfold execFabricReadRequest
  grind -ring -linarith -lia -ac [outInv, State.Inv, okAll, State.localRead_inv, State.readFault_inv, State.frameServed_inv, State.fabricAnswer_inv]

theorem execFabricWritePart_inv (s : State) (h : s.Inv) : outInv (execFabricWritePart s) := by
  unfold execFabricWritePart
  grind -ring -linarith -lia -ac [outInv, State.Inv, someAll, State.takeDelivered_inv, State.localWrite_inv, State.heldEnd_inv]

/-! ### The bridge -/

theorem execPrefetchFillDone_inv (id : Nat) (s : State) (h : s.Inv) : outInv (execPrefetchFillDone id s) := by
  unfold execPrefetchFillDone
  grind -ring -linarith -lia -ac [outInv, State.Inv, State.remoteDrop_inv, State.hostReadsEnd_inv]

theorem execPrefetchLineExpiry_inv (i : Fin 16) (s : State) (h : s.Inv) : outInv (execPrefetchLineExpiry i s) := by
  unfold execPrefetchLineExpiry
  grind -ring -linarith -lia -ac [outInv, State.Inv]

theorem execPrefetchInvalidate_inv (s : State) (h : s.Inv) : outInv (execPrefetchInvalidate s) := s.pfClear_inv h

theorem execBrPfHitsRead_inv (c : Ctx) (s : State) (h : s.Inv) : outInv (execBrPfHitsRead c s) := by
  unfold execBrPfHitsRead
  grind -ring -linarith -lia -ac [outInv, State.Inv, State.readHits_inv, State.reply_inv]

theorem execWindowRead_inv (addr : W32) (len : Nat) (s : State) (h : s.Inv) : outInv (execWindowRead addr len s) := by
  unfold execWindowRead
  grind -ring -linarith -lia -ac [outInv, State.Inv, State.noWindow_inv, State.hostReadFail_inv, State.hostRead_inv]

theorem execWindowWrite_inv (addr : W32) (data : List Byte) (s : State) (h : s.Inv) : outInv (execWindowWrite addr data s) := by
  unfold execWindowWrite
  grind -ring -linarith -lia -ac [outInv, State.Inv, foldl_inv, State.noWindow_inv, State.hostFail_inv, State.hostWrite_inv]

theorem execReadDeadlineExpiry_inv (id : Nat) (s : State) (h : s.Inv) : outInv (execReadDeadlineExpiry id s) := by
  unfold execReadDeadlineExpiry
  grind -ring -linarith -lia -ac [outInv, State.Inv, foldl_inv, State.hostReadFail_inv, State.remoteDrop_inv]

theorem execWindowRegisterWrite_inv (w : Fin 64) (r : Fin 4) (v : W32) (s : State) (h : s.Inv) : outInv (execWindowRegisterWrite w r v s) := by
  unfold execWindowRegisterWrite
  grind -ring -linarith -lia -ac [outInv, State.Inv, State.regWrite_inv]

theorem execHostWriteHoldExpiry_inv (s : State) (h : s.Inv) : outInv (execHostWriteHoldExpiry s) := by
  unfold execHostWriteHoldExpiry
  grind -ring -linarith -lia -ac [outInv, State.Inv, State.hostFail_inv, State.bump_inv, State.heldEnd_inv]

theorem execBrFenceRead_inv (s : State) (h : s.Inv) : outInv (execBrFenceRead s) := by
  unfold execBrFenceRead
  grind -ring -linarith -lia -ac [outInv, State.Inv, State.fenceWaits_inv, State.readFence_inv, State.reply_inv]

theorem execBrErrClear_inv (s : State) (h : s.Inv) : outInv (execBrErrClear s) := s.errClear_inv h

theorem execBrIntPendClear_inv (v : BitVec 21) (s : State) (h : s.Inv) : outInv (execBrIntPendClear v s) := s.pendClear_inv v h

theorem execMsixUnmask_inv (v : Fin 64) (s : State) (h : s.Inv) : outInv (execMsixUnmask v s) := by
  unfold execMsixUnmask
  grind -ring -linarith -lia -ac [outInv, State.Inv, State.unmask_inv]

theorem execMbDoorbell_inv (len : W32) (s : State) (h : s.Inv) : outInv (execMbDoorbell len s) := by
  unfold execMbDoorbell
  grind -ring -linarith -lia -ac [outInv, State.Inv, State.regWrite_inv]

theorem execMbRespAck_inv (s : State) (h : s.Inv) : outInv (execMbRespAck s) := by
  unfold execMbRespAck
  grind -ring -linarith -lia -ac [outInv, State.Inv, State.mbAck_inv]

theorem execAtomicOp_inv (addr : W32) (op : AtomicOp) (s : State) (h : s.Inv) : outInv (execAtomicOp addr op s) := by
  unfold execAtomicOp
  grind -ring -linarith -lia -ac [outInv, State.Inv, foldl_inv, State.bump_inv, State.emit_inv, State.readFault_inv, State.hostReadFail_inv,
    State.setDram_inv, State.reply_inv]

theorem execBrSemRead_inv (c : Ctx) (n : Fin 64) (s : State) (h : s.Inv) : outInv (execBrSemRead c n s) := by
  unfold execBrSemRead
  grind -ring -linarith -lia -ac [outInv, State.Inv, State.readSem_inv, State.reply_inv]

theorem execSemFree_inv (c : Ctx) (n : Fin 64) (s : State) (h : s.Inv) : outInv (execSemFree c n s) := by
  unfold execSemFree
  grind -ring -linarith -lia -ac [outInv, State.Inv, State.semFree_inv]

theorem execSemTimeout_inv (n : Fin 64) (s : State) (h : s.Inv) : outInv (execSemTimeout n s) := by
  unfold execSemTimeout
  grind -ring -linarith -lia -ac [outInv, State.Inv, State.bump_inv, State.report_inv, State.hostInt_inv]

/-! ### Tunnels and station ports -/

theorem execPrpSupervisionSend_inv (s : State) (h : s.Inv) : outInv (execPrpSupervisionSend s) := by
  unfold execPrpSupervisionSend
  grind -ring -linarith -lia -ac [outInv, State.Inv, State.stationSend_inv]

theorem execPrpNodeForget_inv (mac : BitVec 48) (s : State) (h : s.Inv) : outInv (execPrpNodeForget mac s) := by
  unfold execPrpNodeForget
  grind -ring -linarith -lia -ac [outInv, State.Inv]

theorem execStationFrameReceived_inv (port : Fin 2) (bytes : List Byte) (s : State) (h : s.Inv) : outInv (execStationFrameReceived port bytes s) := by
  unfold execStationFrameReceived
  grind -ring -linarith -lia -ac [outInv, State.Inv, State.stationDrop_inv, State.prpIn_inv, State.bump_inv, State.steer_inv]

theorem execTunnelIngress_inv (t : Fin 64) (s : State) (h : s.Inv) : outInv (execTunnelIngress t s) := by
  unfold execTunnelIngress
  grind -ring -linarith -lia -ac [outInv, State.Inv, State.bumpBy_inv, State.takePacket_inv, State.tunnelSend_inv]

theorem execTunnelFrameDelivered_inv (s : State) (h : s.Inv) : outInv (execTunnelFrameDelivered s) := by
  unfold execTunnelFrameDelivered
  grind -ring -linarith -lia -ac [outInv, State.Inv, State.frameServed_inv, State.bump_inv, State.tunnelOut_inv]

/-! ### Sessions -/

theorem execOpenReq_inv (t : Txn) (role : Nat) (s : State) (h : s.Inv) : outInv (execOpenReq t role s) := by
  unfold execOpenReq
  grind -ring -linarith -lia -ac [outInv, State.Inv, State.request_inv, State.openTxn_inv]

theorem execOpenConfirm_inv (t : Txn) (resp : List Byte) (s : State) (h : s.Inv) : outInv (execOpenConfirm t resp s) := by
  unfold execOpenConfirm
  grind -ring -linarith -lia -ac [outInv, State.Inv, State.request_inv, State.confirm_inv]

theorem execOpenConfirmTimeout_inv (n : Fin 32) (s : State) (h : s.Inv) : outInv (execOpenConfirmTimeout n s) := by
  unfold execOpenConfirmTimeout
  grind -ring -linarith -lia -ac [outInv, State.Inv, State.setSession_inv, State.openFailed_inv]

theorem execPathLockExpiry_inv (p : Path) (s : State) (h : s.Inv) : outInv (execPathLockExpiry p s) := by
  unfold execPathLockExpiry
  grind -ring -linarith -lia -ac [outInv, State.Inv, State.setPathAuth_inv]

theorem execSegmentTimeout_inv (n : Fin 32) (s : State) (h : s.Inv) : outInv (execSegmentTimeout n s) := by
  unfold execSegmentTimeout
  grind -ring -linarith -lia -ac [outInv, State.Inv, foldl_inv, State.setSession_inv, State.respond_inv]

theorem execCloseReq_inv (t : Txn) (s : State) (h : s.Inv) : outInv (execCloseReq t s) := by
  unfold execCloseReq
  grind -ring -linarith -lia -ac [outInv, State.Inv, State.request_inv, State.arrive_inv]

theorem execKeepAlive_inv (t : Txn) (s : State) (h : s.Inv) : outInv (execKeepAlive t s) := by
  unfold execKeepAlive
  grind -ring -linarith -lia -ac [outInv, State.Inv, State.request_inv, State.arrive_inv]

theorem execRead_inv (t : Txn) (s : State) (h : s.Inv) : outInv (execRead t s) := by
  unfold execRead
  grind -ring -linarith -lia -ac [outInv, State.Inv, State.request_inv, State.arrive_inv]

theorem execWrite_inv (t : Txn) (data : List Byte) (s : State) (h : s.Inv) : outInv (execWrite t data s) := by
  unfold execWrite
  grind -ring -linarith -lia -ac [outInv, State.Inv, State.request_inv, State.arrive_inv]

theorem execReadStaged_inv (t : Txn) (s : State) (h : s.Inv) : outInv (execReadStaged t s) := by
  unfold execReadStaged
  grind -ring -linarith -lia -ac [outInv, State.Inv, State.request_inv, State.arrive_inv]

theorem execFabricRead_inv (t : Txn) (addr : BitVec 48) (len : Nat) (s : State) (h : s.Inv) : outInv (execFabricRead t addr len s) := by
  unfold execFabricRead
  grind -ring -linarith -lia -ac [outInv, State.Inv, State.request_inv, State.arrive_inv]

theorem execFabricWrite_inv (t : Txn) (addr : BitVec 48) (data : List Byte) (s : State) (h : s.Inv) : outInv (execFabricWrite t addr data s) := by
  unfold execFabricWrite
  grind -ring -linarith -lia -ac [outInv, State.Inv, State.request_inv, State.arrive_inv]

theorem execSessionIdleTimeout_inv (n : Fin 32) (s : State) (h : s.Inv) : outInv (execSessionIdleTimeout n s) := by
  unfold execSessionIdleTimeout
  grind -ring -linarith -lia -ac [outInv, State.Inv, State.closeAnswer_inv]

theorem execSessionPathDown_inv (p : Path) (s : State) (h : s.Inv) : outInv (execSessionPathDown p s) := by
  unfold execSessionPathDown
  grind -ring -linarith -lia -ac [outInv, State.Inv, foldl_inv, State.closeSession_inv, State.setSession_inv]

/-! ### What a standby follows -/

theorem execPairMirrorBlock_inv (seq : W32) (r : MirrorRec) (s : State) (h : s.Inv) : outInv (execPairMirrorBlock seq r s) := by
  unfold execPairMirrorBlock
  grind -ring -linarith -lia -ac [outInv, State.Inv, someAll, State.takeRecord_inv, State.takeDelivered_inv]

theorem execMirroredCommitApply_inv (s : State) (h : s.Inv) : outInv (execMirroredCommitApply s) := by
  unfold execMirroredCommitApply
  grind -ring -linarith -lia -ac [outInv, State.Inv, State.mirroredApply_inv]

theorem execConfigTransferRequest_inv (set : List MirrorEntry) (s : State) (h : s.Inv) : outInv (execConfigTransferRequest set s) := by
  unfold execConfigTransferRequest
  grind -ring -linarith -lia -ac [outInv, State.Inv, State.transfer_inv, State.sfgUpdate_inv]

/-- Every instruction's meaning keeps the canonical form. -/
theorem exec_inv (c : Instr) (s : State) (h : s.Inv) : outInv (exec c s) := by
  cases c with
  | registerWrite c addr v => exact execRegisterWrite_inv c addr v s h
  | reservedClear => exact execReservedClear_inv s h
  | openReq t role => exact execOpenReq_inv t role s h
  | openConfirm t resp => exact execOpenConfirm_inv t resp s h
  | openConfirmTimeout n => exact execOpenConfirmTimeout_inv n s h
  | pathLockExpiry p => exact execPathLockExpiry_inv p s h
  | closeReq t => exact execCloseReq_inv t s h
  | keepAlive t => exact execKeepAlive_inv t s h
  | sessionIdleTimeout n => exact execSessionIdleTimeout_inv n s h
  | sessionPathDown p => exact execSessionPathDown_inv p s h
  | read t => exact execRead_inv t s h
  | write t data => exact execWrite_inv t data s h
  | readStaged t => exact execReadStaged_inv t s h
  | fabricRead t addr len => exact execFabricRead_inv t addr len s h
  | fabricWrite t addr data => exact execFabricWrite_inv t addr data s h
  | segmentTimeout n => exact execSegmentTimeout_inv n s h
  | commit n => exact execCommit_inv n s h
  | discard n => exact execDiscard_inv n s h
  | cancelOwnCommit n => exact execCancelOwnCommit_inv n s h
  | cancelAnyCommit n => exact execCancelAnyCommit_inv n s h
  | commitApply => exact execCommitApply_inv s h
  | commitFreeze => exact execCommitFreeze_inv s h
  | configStoreCommitWrite ok => exact execConfigStoreCommitWrite_inv ok s h
  | configStoreCompact => exact execConfigStoreCompact_inv s h
  | modeReqReturn n => exact execModeReqReturn_inv n s h
  | modeReqMaintenance n => exact execModeReqMaintenance_inv n s h
  | modeReqFailsafe n => exact execModeReqFailsafe_inv n s h
  | modeReqDoze n => exact execModeReqDoze_inv n s h
  | modeReqShutdown n => exact execModeReqShutdown_inv n s h
  | resetCmdWarm => exact execResetCmdWarm_inv s h
  | resetCmdRecovery => exact execResetCmdRecovery_inv s h
  | porstNAssert lowNs => exact execPorstNAssert_inv lowNs s h
  | supplyOutOfRange rail ns => exact execSupplyOutOfRange_inv rail ns s h
  | wrstNAssert lowNs => exact execWrstNAssert_inv lowNs s h
  | refclkLoss ns => exact execRefclkLoss_inv ns s h
  | pllLockLoss pll ns => exact execPllLockLoss_inv pll ns s h
  | resetEnd modeSel pairId => exact execResetEnd_inv modeSel pairId s h
  | pllLocked => exact execPllLocked_inv s h
  | repairMapApply => exact execRepairMapApply_inv s h
  | imageHeaderChecked slot header => exact execImageHeaderChecked_inv slot header s h
  | ddrTrainingDone rate failLane => exact execDdrTrainingDone_inv rate failLane s h
  | imageLoadDone slot body => exact execImageLoadDone_inv slot body s h
  | configLoadDone => exact execConfigLoadDone_inv s h
  | dramInitDone => exact execDramInitDone_inv s h
  | pcieEndpointReady => exact execPcieEndpointReady_inv s h
  | joinComplete => exact execJoinComplete_inv s h
  | joinTimeout => exact execJoinTimeout_inv s h
  | wakeTimer => exact execWakeTimer_inv s h
  | wakeSequenceDone => exact execWakeSequenceDone_inv s h
  | shutdownFlushDone => exact execShutdownFlushDone_inv s h
  | leaveIdleTimer => exact execLeaveIdleTimer_inv s h
  | halt => exact execHalt_inv s h
  | islandSupplyWarning mv us => exact execIslandSupplyWarning_inv mv us s h
  | headerReceived p f => exact execHeaderReceived_inv p f s h
  | trailerChecked p trailer lengthOk => exact execTrailerChecked_inv p trailer lengthOk s h
  | receiveLinkError p got => exact execReceiveLinkError_inv p got s h
  | specDeadline g => exact execSpecDeadline_inv g s h
  | stagedEntryApply e => exact execStagedEntryApply_inv e s h
  | fabricReadRequest => exact execFabricReadRequest_inv s h
  | fabricWritePart => exact execFabricWritePart_inv s h
  | readResponseReceived => exact execReadResponseReceived_inv s h
  | splitRemoteTimeout id => exact execSplitRemoteTimeout_inv id s h
  | frameOriginate => exact execFrameOriginate_inv s h
  | c7BucketAdmit => exact execC7BucketAdmit_inv s h
  | originationEnable => exact execOriginationEnable_inv s h
  | keepTimer p => exact execKeepTimer_inv p s h
  | class7Suspend p off => exact execClass7Suspend_inv p off s h
  | suspendReceived p off => exact execSuspendReceived_inv p off s h
  | helloTimer => exact execHelloTimer_inv s h
  | helloReceived p => exact execHelloReceived_inv p s h
  | announceTimer => exact execAnnounceTimer_inv s h
  | announceReceived p => exact execAnnounceReceived_inv p s h
  | ringClosureTimeout => exact execRingClosureTimeout_inv s h
  | portJoined p => exact execPortJoined_inv p s h
  | leaveReceived p => exact execLeaveReceived_inv p s h
  | recalNoticeReceived p => exact execRecalNoticeReceived_inv p s h
  | retrainNoticeReceived p => exact execRetrainNoticeReceived_inv p s h
  | topologyReceived p => exact execTopologyReceived_inv p s h
  | plannedOutageOverrun p => exact execPlannedOutageOverrun_inv p s h
  | linkDown p => exact execLinkDown_inv p s h
  | trainingComplete p ok => exact execTrainingComplete_inv p ok s h
  | trainingRetryTimer p => exact execTrainingRetryTimer_inv p s h
  | marginRetrainTimeout p vert horiz => exact execMarginRetrainTimeout_inv p vert horiz s h
  | errorLimitExceeded p => exact execErrorLimitExceeded_inv p s h
  | retrainDone p => exact execRetrainDone_inv p s h
  | recalDeferTimeout p => exact execRecalDeferTimeout_inv p s h
  | synthRecalStart p temp => exact execSynthRecalStart_inv p temp s h
  | synthLockLoss p => exact execSynthLockLoss_inv p s h
  | synthRelock p => exact execSynthRelock_inv p s h
  | enqueue => exact execEnqueue_inv s h
  | dequeue p => exact execDequeue_inv p s h
  | kennelReadbackDone q bad => exact execKennelReadbackDone_inv q bad s h
  | heldSourceResume src => exact execHeldSourceResume_inv src s h
  | auditWalk onChip spill => exact execAuditWalk_inv onChip spill s h
  | dramRequest r tick => exact execDramRequest_inv r tick s h
  | ancientMark tick => exact execAncientMark_inv tick s h
  | dramTransferDone tick => exact execDramTransferDone_inv tick s h
  | ddrRefresh tick => exact execDdrRefresh_inv tick s h
  | ddrTempRead hot => exact execDdrTempRead_inv hot s h
  | scrubPass dram corrected checkerFailed => exact execScrubPass_inv dram corrected checkerFailed s h
  | backgroundPassLate activity overrunMs => exact execBackgroundPassLate_inv activity overrunMs s h
  | channelWindowRead c ch off len => exact execChannelWindowRead_inv c ch off len s h
  | channelWindowWrite c ch off data => exact execChannelWindowWrite_inv c ch off data s h
  | channelDeliveryResume cls => exact execChannelDeliveryResume_inv cls s h
  | channelHoldLimit ch => exact execChannelHoldLimit_inv ch s h
  | chFlush ch => exact execChFlush_inv ch s h
  | chQuarantineRelease ch => exact execChQuarantineRelease_inv ch s h
  | chClearCounters ch => exact execChClearCounters_inv ch s h
  | chInRead c => exact execChInRead_inv c s h
  | chOutRead c => exact execChOutRead_inv c s h
  | chHwmRead c => exact execChHwmRead_inv c s h
  | lockCmd g => exact execLockCmd_inv g s h
  | lockStartEdge g => exact execLockStartEdge_inv g s h
  | jmp e => exact execJmp_inv e s h
  | wait c k => exact execWait_inv c k s h
  | inp c k => exact execInp_inv c k s h
  | outp c k => exact execOutp_inv c k s h
  | pull c k => exact execPull_inv c k s h
  | push c k => exact execPush_inv c k s h
  | mov e => exact execMov_inv e s h
  | setImm e => exact execSetImm_inv e s h
  | cmp e => exact execCmp_inv e s h
  | syncBarrier e => exact execSyncBarrier_inv e s h
  | syncArm e => exact execSyncArm_inv e s h
  | syncRestart e => exact execSyncRestart_inv e s h
  | stamp c k => exact execStamp_inv c k s h
  | irqSet e => exact execIrqSet_inv e s h
  | irqClear e => exact execIrqClear_inv e s h
  | irqToggle e => exact execIrqToggle_inv e s h
  | undefinedInstruction e => exact execUndefinedInstruction_inv e s h
  | compareMatch e => exact execCompareMatch_inv e s h
  | groupArmTimeout g => exact execGroupArmTimeout_inv g s h
  | engineParkCmd e => exact execEngineParkCmd_inv e s h
  | engineRestart e => exact execEngineRestart_inv e s h
  | engineClearCounters e => exact execEngineClearCounters_inv e s h
  | peWrapWrite e v => exact execPeWrapWrite_inv e v s h
  | peClFlagSet c flags => exact execPeClFlagSet_inv c flags s h
  | peClFlagClear c flags => exact execPeClFlagClear_inv c flags s h
  | peClStallRead x c => exact execPeClStallRead_inv x c s h
  | readbackFail e pin => exact execReadbackFail_inv e pin s h
  | bankSupplySample b mv => exact execBankSupplySample_inv b mv s h
  | bankSupplyRestore b => exact execBankSupplyRestore_inv b s h
  | filterRunComplete b pin level => exact execFilterRunComplete_inv b pin level s h
  | syncReceived p ago frac => exact execSyncReceived_inv p ago frac s h
  | syncTimer => exact execSyncTimer_inv s h
  | syncPortTimeout => exact execSyncPortTimeout_inv s h
  | pdelayTimer p => exact execPdelayTimer_inv p s h
  | pdelayReqReceived p ago frac => exact execPdelayReqReceived_inv p ago frac s h
  | pdelayRespReceived p ago => exact execPdelayRespReceived_inv p ago s h
  | pdelayResponseTimeout p => exact execPdelayResponseTimeout_inv p s h
  | timeAnnounceTimer => exact execTimeAnnounceTimer_inv s h
  | timeAnnounceReceived p => exact execTimeAnnounceReceived_inv p s h
  | datasetAgeOut p => exact execDatasetAgeOut_inv p s h
  | stationPtpMessage port m ago => exact execStationPtpMessage_inv port m ago s h
  | timeReferenceTimeout => exact execTimeReferenceTimeout_inv s h
  | holdoverExpiry => exact execHoldoverExpiry_inv s h
  | todSet n sec ns frac => exact execTodSet_inv n sec ns frac s h
  | ppsTod n sec => exact execPpsTod_inv n sec s h
  | ppsInEdge rising ago => exact execPpsInEdge_inv rising ago s h
  | ppsSourceLoss => exact execPpsSourceLoss_inv s h
  | irigFrameDecode => exact execIrigFrameDecode_inv s h
  | irigSourceLoss => exact execIrigSourceLoss_inv s h
  | leapSecond => exact execLeapSecond_inv s h
  | ppsOutEdge rise => exact execPpsOutEdge_inv rise s h
  | sampleStrobe k => exact execSampleStrobe_inv k s h
  | wtTargetFreeze w => exact execWtTargetFreeze_inv w s h
  | wrapMarker => exact execWrapMarker_inv s h
  | tmWtSecLoRead c => exact execTmWtSecLoRead_inv c s h
  | trackerInput k x => exact execTrackerInput_inv k x s h
  | trackerInputTimeout k => exact execTrackerInputTimeout_inv k s h
  | trackerCrossingTelemetry k => exact execTrackerCrossingTelemetry_inv k s h
  | phTrkPaRead c k => exact execPhTrkPaRead_inv c k s h
  | convTargetRead n st32 => exact execConvTargetRead_inv n st32 s h
  | calFieldWrite c field v => exact execCalFieldWrite_inv c field v s h
  | calArm c => exact execCalArm_inv c s h
  | calCancel c => exact execCalCancel_inv c s h
  | calFreeze e => exact execCalFreeze_inv e s h
  | calFire e => exact execCalFire_inv e s h
  | svSamplePacket n => exact execSvSamplePacket_inv n s h
  | svFrameSend n => exact execSvFrameSend_inv n s h
  | svSampleMissing n => exact execSvSampleMissing_inv n s h
  | svFrameReceived port f => exact execSvFrameReceived_inv port f s h
  | svSubscriptionExpiry n => exact execSvSubscriptionExpiry_inv n s h
  | signalUpdatePacket n => exact execSignalUpdatePacket_inv n s h
  | gooseRepeat n => exact execGooseRepeat_inv n s h
  | gooseFrameReceived port f => exact execGooseFrameReceived_inv port f s h
  | gooseTalExpiry n => exact execGooseTalExpiry_inv n s h
  | soePacket n => exact execSoePacket_inv n s h
  | soeProvisional n => exact execSoeProvisional_inv n s h
  | soeChatterEnd point => exact execSoeChatterEnd_inv point s h
  | logPageProgram ok => exact execLogPageProgram_inv ok s h
  | logRead n => exact execLogRead_inv n s h
  | faultRead n => exact execFaultRead_inv n s h
  | cswClose n => exact execCswClose_inv n s h
  | cswOpen n => exact execCswOpen_inv n s h
  | cswAbort n => exact execCswAbort_inv n s h
  | cswContact b p => exact execCswContact_inv b p s h
  | cswNoContact b => exact execCswNoContact_inv b s h
  | stationClearCounters => exact execStationClearCounters_inv s h
  | coreLoadWindow k load10 load1s svcLoads => exact execCoreLoadWindow_inv k load10 load1s svcLoads s h
  | hingePoint svc => exact execHingePoint_inv svc s h
  | hingeCopyDone svc => exact execHingeCopyDone_inv svc s h
  | hingeOverdue svc => exact execHingeOverdue_inv svc s h
  | coreTrap k cause svc pc => exact execCoreTrap_inv k cause svc pc s h
  | instanceRestartDone svc => exact execInstanceRestartDone_inv svc s h
  | svcRestartCmd n => exact execSvcRestartCmd_inv n s h
  | svcClearCounters n => exact execSvcClearCounters_inv n s h
  | traceMessage typ k stamp payload => exact execTraceMessage_inv typ k stamp payload s h
  | traceDrain => exact execTraceDrain_inv s h
  | scTraceDropRead c => exact execScTraceDropRead_inv c s h
  | canTxPacket k => exact execCanTxPacket_inv k s h
  | canFrameReceived k f ago => exact execCanFrameReceived_inv k f ago s h
  | canRxBufferDrain k => exact execCanRxBufferDrain_inv k s h
  | canTxComplete k tdcv => exact execCanTxComplete_inv k tdcv s h
  | canTxLost k => exact execCanTxLost_inv k s h
  | canBusError k tx dominant => exact execCanBusError_inv k tx dominant s h
  | canBusoffRecovery k => exact execCanBusoffRecovery_inv k s h
  | canAbortAll k onBus => exact execCanAbortAll_inv k onBus s h
  | canAbortSeq k seq onBus => exact execCanAbortSeq_inv k seq onBus s h
  | canBusoffRestart k => exact execCanBusoffRestart_inv k s h
  | canClearCounters k => exact execCanClearCounters_inv k s h
  | canLeaveHalted k => exact execCanLeaveHalted_inv k s h
  | canAbortClear k => exact execCanAbortClear_inv k s h
  | canFhitRead c f => exact execCanFhitRead_inv c f s h
  | canWake k w => exact execCanWake_inv k w s h
  | canIntegrationDone k => exact execCanIntegrationDone_inv k s h
  | ttReferenceSend k => exact execTtReferenceSend_inv k s h
  | ttReferenceReceived k r ago => exact execTtReferenceReceived_inv k r ago s h
  | ttTrigger k t => exact execTtTrigger_inv k t s h
  | ttGuardExceeded k => exact execTtGuardExceeded_inv k s h
  | windowRead addr len => exact execWindowRead_inv addr len s h
  | windowWrite addr data => exact execWindowWrite_inv addr data s h
  | readDeadlineExpiry id => exact execReadDeadlineExpiry_inv id s h
  | windowRegisterWrite w r v => exact execWindowRegisterWrite_inv w r v s h
  | prefetchFillDone id => exact execPrefetchFillDone_inv id s h
  | prefetchLineExpiry e => exact execPrefetchLineExpiry_inv e s h
  | prefetchInvalidate => exact execPrefetchInvalidate_inv s h
  | brPfHitsRead c => exact execBrPfHitsRead_inv c s h
  | brFenceRead => exact execBrFenceRead_inv s h
  | brErrClear => exact execBrErrClear_inv s h
  | brIntPendClear v => exact execBrIntPendClear_inv v s h
  | msixUnmask v => exact execMsixUnmask_inv v s h
  | mbDoorbell len => exact execMbDoorbell_inv len s h
  | mbRespAck => exact execMbRespAck_inv s h
  | atomicOp addr op => exact execAtomicOp_inv addr op s h
  | brSemRead c n => exact execBrSemRead_inv c n s h
  | semFree c n => exact execSemFree_inv c n s h
  | semTimeout n => exact execSemTimeout_inv n s h
  | hostWriteHoldExpiry => exact execHostWriteHoldExpiry_inv s h
  | tunnelIngress t => exact execTunnelIngress_inv t s h
  | tunnelFrameDelivered => exact execTunnelFrameDelivered_inv s h
  | stationFrameReceived port bytes => exact execStationFrameReceived_inv port bytes s h
  | prpSupervisionSend => exact execPrpSupervisionSend_inv s h
  | prpNodeForget mac => exact execPrpNodeForget_inv mac s h
  | keyLoadPlain n key => exact execKeyLoadPlain_inv n key s h
  | keyLoadWrapped n wrapped => exact execKeyLoadWrapped_inv n wrapped s h
  | keyDestroy n => exact execKeyDestroy_inv n s h
  | keyDerive n => exact execKeyDerive_inv n s h
  | revokeKey0 n => exact execRevokeKey0_inv n s h
  | raiseFloor n => exact execRaiseFloor_inv n s h
  | lcReq n v verified => exact execLcReq_inv n v verified s h
  | rngHealthFail => exact execRngHealthFail_inv s h
  | updPrepare n => exact execUpdPrepare_inv n s h
  | updSlotReady => exact execUpdSlotReady_inv s h
  | imageDataSegment n off data last => exact execImageDataSegment_inv n off data last s h
  | updVerifyDone => exact execUpdVerifyDone_inv s h
  | updActivateHandover n => exact execUpdActivateHandover_inv n s h
  | updActivateReset n => exact execUpdActivateReset_inv n s h
  | updAbandon n => exact execUpdAbandon_inv n s h
  | handoverImageLoaded => exact execHandoverImageLoaded_inv s h
  | handoverComplete => exact execHandoverComplete_inv s h
  | trialHealthy => exact execTrialHealthy_inv s h
  | trialTimeout => exact execTrialTimeout_inv s h
  | recoveryLoaderRequest path off data last => exact execRecoveryLoaderRequest_inv path off data last s h
  | flashEraseDone ok => exact execFlashEraseDone_inv ok s h
  | flashEraseSuspend u => exact execFlashEraseSuspend_inv u s h
  | flashEraseResume => exact execFlashEraseResume_inv s h
  | faultReport r level => exact execFaultReport_inv r level s h
  | reactionComplete => exact execReactionComplete_inv s h
  | quietPeriodExpiry => exact execQuietPeriodExpiry_inv s h
  | fcFirstClear => exact execFcFirstClear_inv s h
  | fcCountRead c => exact execFcCountRead_inv c s h
  | collectorSelfTest arrived => exact execCollectorSelfTest_inv arrived s h
  | ringClearCounters => exact execRingClearCounters_inv s h
  | switchClearCounters => exact execSwitchClearCounters_inv s h
  | shutterClearCounters => exact execShutterClearCounters_inv s h
  | timeClearCounters => exact execTimeClearCounters_inv s h
  | phaseClearCounters => exact execPhaseClearCounters_inv s h
  | swAuditRead c => exact execSwAuditRead_inv c s h
  | ddrEccErrClear => exact execDdrEccErrClear_inv s h
  | shtGfailClear => exact execShtGfailClear_inv s h
  | leashInSilence => exact execLeashInSilence_inv s h
  | leashInEdge => exact execLeashInEdge_inv s h
  | claimSeekExpiry => exact execClaimSeekExpiry_inv s h
  | claimBackoffExpiry => exact execClaimBackoffExpiry_inv s h
  | dualClaimDetected => exact execDualClaimDetected_inv s h
  | leashOutReadbackFail => exact execLeashOutReadbackFail_inv s h
  | pairStatusSend => exact execPairStatusSend_inv s h
  | pairStatusBlock b crcOk => exact execPairStatusBlock_inv b crcOk s h
  | pairLinkDown => exact execPairLinkDown_inv s h
  | pairMirrorBlock seq r => exact execPairMirrorBlock_inv seq r s h
  | mirrorResend seq => exact execMirrorResend_inv seq s h
  | mirroredCommitApply => exact execMirroredCommitApply_inv s h
  | configTransferRequest set => exact execConfigTransferRequest_inv set s h
  | shadowMismatch ef bank pin => exact execShadowMismatch_inv ef bank pin s h
  | paShadowClear => exact execPaShadowClear_inv s h
  | paLinkRead c => exact execPaLinkRead_inv c s h
  | barkSend => exact execBarkSend_inv s h
  | barkReceived => exact execBarkReceived_inv s h
  | barkTimeout => exact execBarkTimeout_inv s h
  | switchover n => exact execSwitchover_inv n s h
  | heel n => exact execHeel_inv n s h
  | switchoverNoSync n => exact execSwitchoverNoSync_inv n s h
  | switchoverFallback => exact execSwitchoverFallback_inv s h
  | bistSliceDone found => exact execBistSliceDone_inv found s h
  | bistSliceBudgetExpiry => exact execBistSliceBudgetExpiry_inv s h
  | repairClear n => exact execRepairClear_inv n s h
  | feedUsable f => exact execFeedUsable_inv f s h
  | feedUnusable f why => exact execFeedUnusable_inv f why s h
  | feedReturnTimer => exact execFeedReturnTimer_inv s h
  | feedOffConfirmed => exact execFeedOffConfirmed_inv s h
  | feedOffTimeout => exact execFeedOffTimeout_inv s h
  | feedLossDegrade f => exact execFeedLossDegrade_inv f s h
  | efCmdOn n ch => exact execEfCmdOn_inv n ch s h
  | efCmdOff n ch => exact execEfCmdOff_inv n ch s h
  | efStartComplete ch => exact execEfStartComplete_inv ch s h
  | efInsertionAbort ch lt => exact execEfInsertionAbort_inv ch lt s h
  | efStartTimeout ch lt => exact execEfStartTimeout_inv ch lt s h
  | efCurveTrip ch lt => exact execEfCurveTrip_inv ch lt s h
  | efComparatorTrip ch lt => exact execEfComparatorTrip_inv ch lt s h
  | efLetThroughTrip ch lt => exact execEfLetThroughTrip_inv ch lt s h
  | efShorted ch => exact execEfShorted_inv ch s h
  | efShortEnd ch => exact execEfShortEnd_inv ch s h
  | efEnergyTick ch ma mv => exact execEfEnergyTick_inv ch ma mv s h
  | energyStore => exact execEnergyStore_inv s h
  | efTelemetry ch ma mv => exact execEfTelemetry_inv ch ma mv s h
  | pwEfEloRead c ch => exact execPwEfEloRead_inv c ch s h
  | measReferenceCheck ch off => exact execMeasReferenceCheck_inv ch off s h
  | railMonitorWarning rail mv => exact execRailMonitorWarning_inv rail mv s h
  | tempSample t => exact execTempSample_inv t s h
  | refclkWarning ppm => exact execRefclkWarning_inv ppm s h
  | linkUp p => exact execLinkUp_inv p s h
  | noticeLeadExpiry p => exact execNoticeLeadExpiry_inv p s h
  | outageDeferralExpiry p => exact execOutageDeferralExpiry_inv p s h
  | feedLossEnd f => exact execFeedLossEnd_inv f s h
  | feedRampComplete => exact execFeedRampComplete_inv s h
  | rngHealthRestored => exact execRngHealthRestored_inv s h
  | ptpMessageInterval port => exact execPtpMessageInterval_inv port s h

theorem step_inv (s : State) (h : s.Inv) : outInv (step s) := by
  unfold step
  split
  · exact s.tick_inv h
  · exact exec_inv _ _ h

/-- Settles O2: each arm, and the edge of an empty queue, cites what its operations keep. -/
theorem stepKeepsTablesCanonical : Obligations.StepKeepsTablesCanonical := by
  intro s t h hstep
  have hout := step_inv s h
  rwa [hstep] at hout

end Sys2Proof.Machine
end

section
/-!
PROOF. The life-cycle run empties the key slots before anything else (R419), and what follows leaves them so.
-/

namespace Sys2Proof.Machine

open Sys2Proof

/-- A verified run goes on from the emptied slots to the target; the count of moves between states 1 and 2 is a dictionary entry. -/
theorem State.lcRun_verified_sec (s : State) (target : Nat) : (s.lcRun target true).1.sec =
    { s.sec with slots := [], lc := target, intent := none,
                 rootKey := if target = 4 then List.replicate 32 0xFF else s.sec.rootKey } := by
  unfold State.lcRun
  dsimp only [Bool.not_true]
  split_ifs <;> simp_all [State.keysGone]

/-- Settles O6: the run's two ends, each from the emptied slots. -/
theorem lifeCycleRunEmptiesKeys : Obligations.LifeCycleRunEmptiesKeys := by
  intro s target
  have hsec := s.lcRun_verified_sec target
  refine ⟨⟨rfl, ?_, ?_, ?_, ?_, ?_⟩, rfl, rfl, rfl, rfl⟩ <;> rw [hsec]
  · exact fun h => if_pos h
  · exact fun h => if_neg h

end Sys2Proof.Machine
end

section
/-!
PROOF. The clears of counters (R10, R125, R147, R175, R201, R238, R274, R296, R325, R376). One entry set to 0 clears that entry alone, and
clears one after another clear what either clears; each command is a chain of such clears.
-/

namespace Sys2Proof.Machine

open Sys2Proof

/-! ### What a sequence of clears clears -/

variable {p q : Nat → Nat → Nat → Prop} {s t u : State}

theorem clears.of_iff (h : clears p s t) (hpq : ∀ i j k, q i j k ↔ p i j k) : clears q s t := by
  have heq : q = p := by funext i j k; exact propext (hpq i j k)
  rwa [heq]

theorem clears_refl (s : State) : clears (fun _ _ _ => False) s s :=
  ⟨rfl, fun _ _ _ _ _ h => h.elim, fun _ _ _ _ _ _ => rfl⟩

/-- Two clears in turn clear what either clears: the second leaves a 0 of the first. -/
theorem clears.trans (hst : clears p s t) (htu : clears q t u) : clears (fun i j k => p i j k ∨ q i j k) s u := by
  obtain ⟨hodT, hzeroT, hsameT⟩ := hst
  obtain ⟨hodU, hzeroU, hsameU⟩ := htu
  refine ⟨hodT.trans hodU, fun i j k hj hk hpq => ?zero, fun i j k hj hk hout => ?same⟩
  case zero =>
    by_cases hq : q i j k
    · exact hzeroU i j k hj hk hq
    · rw [State.o, hsameU i j k hj hk hq]
      exact hzeroT i j k hj hk (hpq.resolve_right hq)
  case same =>
    rw [hsameU i j k hj hk fun hq => hout (.inr hq), hsameT i j k hj hk fun hp => hout (.inl hp)]

theorem clears_foldl {β : Type} {P : β → Nat → Nat → Nat → Prop} {g : State → β → State} (l : List β)
    (hg : ∀ b ∈ l, ∀ t, clears (P b) t (g t b)) (s : State) : clears (fun i j k => ∃ b ∈ l, P b i j k) s (l.foldl g s) := by
  induction l generalizing s with
  | nil => exact (clears_refl s).of_iff fun i j k => by simp
  | cons b l ih =>
    have hhead := hg b List.mem_cons_self s
    have htail := ih (fun c hc => hg c (List.mem_cons_of_mem b hc)) (g s b)
    exact (hhead.trans htail).of_iff fun i j k => by simp

/-- The same over the numbers below a bound. -/
theorem clears_foldl_range {P : Nat → Nat → Nat → Nat → Prop} {g : State → Nat → State} (m : Nat)
    (hg : ∀ n, n < m → ∀ t, clears (P n) t (g t n)) (s : State) :
    clears (fun i j k => ∃ n, n < m ∧ P n i j k) s ((List.range m).foldl g s) :=
  (clears_foldl (List.range m) (fun n hn => hg n (List.mem_range.1 hn)) s).of_iff fun i j k => by simp

/-! ### One entry, and a run of subindices -/

theorem clears_setO (s : State) {i j k : Nat} (hj : j < 256) (hk : k < 65536) : clears (inSubs i j j k) s (s.setO i j k 0) := by
  refine ⟨rfl, ?zero, ?same⟩
  case zero =>
    rintro i' j' k' - - ⟨rfl, hlo, hhi, rfl⟩
    obtain rfl : j' = j := Nat.le_antisymm hhi hlo
    exact s.o_setO_self _ _ _ _
  case same =>
    intro i' j' k' hj' hk' hout
    refine s.val_setVal_ne (fun hkey => hout ?_) _
    obtain ⟨rfl, rfl, rfl⟩ := objKey_inj hj' hj hk' hk hkey
    exact ⟨rfl, le_rfl, le_rfl, rfl⟩

theorem clears_clearSubs (s : State) {i lo hi k : Nat} (hhi : hi < 256) (hk : k < 65536) :
    clears (inSubs i lo hi k) s (s.clearSubs i lo hi k) := by
  have hall := clears_foldl_range (P := fun n => inSubs i (lo + n) (lo + n) k) (hi + 1 - lo)
    (fun n hn t => clears_setO t (i := i) (by omega) hk) s
  refine hall.of_iff fun i' j' k' => ⟨?in_, ?out⟩
  case in_ =>
    rintro ⟨hi', hlo, hle, hk'⟩
    exact ⟨j' - lo, by omega, hi', by omega, by omega, hk'⟩
  case out =>
    rintro ⟨n, hn, hi', hlo, hle, hk'⟩
    exact ⟨hi', by omega, by omega, hk'⟩

/-! ### The commands that clear more than one run -/

theorem ringClear_clears (s : State) :
    clears (fun i j k => inSubs 0x2020 1 0x10 0 i j k ∨ inSubs 0x2021 1 0x10 0 i j k ∨ inSubs 0x2024 1 7 0 i j k) s s.ringClear := by
  have hall := ((clears_clearSubs s (i := 0x2020) (lo := 1) (hi := 0x10) (k := 0) (by decide) (by decide)).trans
    (clears_clearSubs _ (i := 0x2021) (lo := 1) (hi := 0x10) (k := 0) (by decide) (by decide))).trans
    (clears_clearSubs _ (i := 0x2024) (lo := 1) (hi := 7) (k := 0) (by decide) (by decide))
  exact hall.of_iff fun i j k => or_assoc.symm

theorem switchClear_clears (s : State) :
    clears (fun i j k => inSubs 0x2180 1 7 0 i j k ∨ inSubs 0x2182 1 0x38 0 i j k ∨ inSubs 0x2210 1 3 0 i j k ∨
      inSubs 0x2220 1 3 0 i j k) s s.switchClear := by
  have hall := (((clears_clearSubs s (i := 0x2180) (lo := 1) (hi := 7) (k := 0) (by decide) (by decide)).trans
    (clears_clearSubs _ (i := 0x2182) (lo := 1) (hi := 0x38) (k := 0) (by decide) (by decide))).trans
    (clears_clearSubs _ (i := 0x2210) (lo := 1) (hi := 3) (k := 0) (by decide) (by decide))).trans
    (clears_clearSubs _ (i := 0x2220) (lo := 1) (hi := 3) (k := 0) (by decide) (by decide))
  exact hall.of_iff fun i j k => by simp only [or_assoc]

theorem phaseClear_clears (s : State) :
    clears (fun i j k => inSubs 0x3501 1 5 0 i j k ∨
      (∃ n, n < 4 ∧ (inSubs (0x3420 + n) 7 7 0 i j k ∨ inSubs (0x3420 + n) 9 9 0 i j k))) s s.phaseClear :=
  (clears_clearSubs s (by decide) (by decide)).trans
    (clears_foldl_range 4 (fun _ _ t => (clears_setO t (by decide) (by decide)).trans (clears_setO _ (by decide) (by decide))) _)

/-- A run of subindices cleared for each item below a bound. -/
theorem clears_items (s : State) {i lo hi m : Nat} (hhi : hi < 256) (hm : m ≤ 65536) :
    clears (fun i' j k => ∃ n, n < m ∧ inSubs i lo hi n i' j k) s ((List.range m).foldl (fun t n => t.clearSubs i lo hi n) s) :=
  clears_foldl_range m (fun _ hn t => clears_clearSubs t hhi (Nat.lt_of_lt_of_le hn hm)) s

theorem stationClear_clears (s : State) :
    clears (fun i j k => (∃ n, n < 32 ∧ inSubs 0x3813 1 4 n i j k) ∨ (∃ n, n < 64 ∧ inSubs 0x3823 1 6 n i j k) ∨
      (∃ n, n < 128 ∧ inSubs 0x3843 1 2 n i j k) ∨ (∃ n, n < 256 ∧ inSubs 0x3853 1 6 n i j k) ∨
      (∃ n, n < 8 ∧ inSubs 0x3A0A 1 4 n i j k) ∨ inSubs 0x3862 1 2 0 i j k ∨ inSubs 0x3905 1 4 0 i j k) s s.stationClear := by
  have hitems := ((((clears_items s (i := 0x3813) (lo := 1) (hi := 4) (m := 32) (by decide) (by decide)).trans
    (clears_items _ (i := 0x3823) (lo := 1) (hi := 6) (m := 64) (by decide) (by decide))).trans
    (clears_items _ (i := 0x3843) (lo := 1) (hi := 2) (m := 128) (by decide) (by decide))).trans
    (clears_items _ (i := 0x3853) (lo := 1) (hi := 6) (m := 256) (by decide) (by decide))).trans
    (clears_items _ (i := 0x3A0A) (lo := 1) (hi := 4) (m := 8) (by decide) (by decide))
  have hall := (hitems.trans (clears_clearSubs _ (i := 0x3862) (lo := 1) (hi := 2) (k := 0) (by decide) (by decide))).trans
    (clears_clearSubs _ (i := 0x3905) (lo := 1) (hi := 4) (k := 0) (by decide) (by decide))
  exact hall.of_iff fun i j k => by simp only [or_assoc]

theorem State.gfailClear_of_not_setNow {s : State} (h : s.setNow W1c.gfail = false) : s.gfailClear =
    { s with shutter := { s.shutter with gfailValid := false, gfailGroup := 0, gfailCodes := 0, gfailSt32 := 0 } } := by
  simp [State.gfailClear, h]

/-- Settles O17: each command is a chain of clears, and what such a chain clears is said once. -/
theorem counterClears : Obligations.CounterClears := by
  intro s
  refine ⟨⟨_, rfl, clears_setO s (by decide) (by decide)⟩, ⟨_, rfl, ringClear_clears s⟩, ⟨_, rfl, switchClear_clears s⟩,
    ⟨_, rfl, clears_clearSubs s (by decide) (by decide)⟩, ⟨_, rfl, clears_clearSubs s (by decide) (by decide)⟩,
    ⟨_, rfl, phaseClear_clears s⟩, ⟨_, rfl, stationClear_clears s⟩,
    fun c => ⟨_, rfl, clears_clearSubs s (by decide) (by omega)⟩, fun e => ⟨_, rfl, clears_clearSubs s (by decide) (by omega)⟩,
    fun k => ⟨_, rfl, clears_clearSubs s (by decide) (by omega)⟩, fun h => ?gfail⟩
  case gfail => exact congrArg Host.Outcome.next (State.gfailClear_of_not_setNow h)

end Sys2Proof.Machine
end

section
/-!
PROOF. Responses (R35, R37). A response writes what carries it out alone: the outputs and their edges, the mailbox and the interrupts of the
bridge, the ring's originations, the CAN queues and the PRP counters. It takes nothing back that has gone out.
-/

namespace Sys2Proof.Machine

open Sys2Proof

/-! ### What carries a response out -/

/-- Everything is as before but what carries responses out. -/
def onlyCarriers (s t : State) : Prop :=
  t = { s with sent := t.sent, setAt := t.setAt, bridge := t.bridge, ring := t.ring, can := t.can, od := t.od }

theorem onlyCarriers_refl (s : State) : onlyCarriers s s := rfl

theorem onlyCarriers.trans {s t u : State} (hst : onlyCarriers s t) (htu : onlyCarriers t u) : onlyCarriers s u := by
  unfold onlyCarriers at hst htu ⊢
  rw [htu, hst]

theorem onlyCarriers_foldl {β : Type} {g : State → β → State} (hg : ∀ t b, onlyCarriers t (g t b)) (l : List β) (s : State) :
    onlyCarriers s (l.foldl g s) := by
  induction l generalizing s with
  | nil => exact onlyCarriers_refl s
  | cons b l ih => exact (hg s b).trans (ih _)

theorem sentGrows_refl (s : State) : sentGrows s s := ⟨[], rfl⟩

theorem sentGrows.trans {s t u : State} (hst : sentGrows s t) (htu : sentGrows t u) : sentGrows s u := by
  obtain ⟨l, hl⟩ := hst
  obtain ⟨m, hm⟩ := htu
  exact ⟨m ++ l, by rw [hm, hl, List.append_assoc]⟩

theorem sentGrows_of_eq {s t : State} (h : t.sent = s.sent) : sentGrows s t := ⟨[], h⟩

theorem sentGrows_foldl {β : Type} {g : State → β → State} (hg : ∀ t b, sentGrows t (g t b)) (l : List β) (s : State) :
    sentGrows s (l.foldl g s) := by
  induction l generalizing s with
  | nil => exact sentGrows_refl s
  | cons b l ih => exact (hg s b).trans (ih _)

/-- What has gone out stays out. -/
theorem sends.of_sentGrows {s t : State} {o : Output} (h : sends s o) (hst : sentGrows s t) : sends t o := by
  obtain ⟨l, hl⟩ := hst
  unfold sends
  rw [hl]
  exact List.mem_append_right l h

variable (s : State)

theorem State.emit_onlyCarriers (o : Output) : onlyCarriers s (s.emit o) := rfl

theorem State.emit_sentGrows (o : Output) : sentGrows s (s.emit o) := ⟨[o], rfl⟩

theorem State.sends_emit (o : Output) : sends (s.emit o) o := List.mem_cons_self

theorem State.hostInt_onlyCarriers (v : Nat) : onlyCarriers s (s.hostInt v) := by
  unfold State.hostInt
  dsimp only
  split_ifs <;> rfl

theorem State.hostInt_sentGrows (v : Nat) : sentGrows s (s.hostInt v) := by
  unfold State.hostInt
  dsimp only
  split_ifs
  case neg => exact ⟨[.msix v], rfl⟩
  all_goals exact sentGrows_refl s

theorem State.mbPut_onlyCarriers (b : List Byte) : onlyCarriers s (s.mbPut b) := by
  unfold State.mbPut
  split
  · refine onlyCarriers.trans ?_ (State.hostInt_onlyCarriers _ 0)
    rfl
  · rfl

theorem State.mbPut_sentGrows (b : List Byte) : sentGrows s (s.mbPut b) := by
  unfold State.mbPut
  split
  · exact (sentGrows_of_eq rfl).trans (State.hostInt_sentGrows _ 0)
  · exact sentGrows_refl s

theorem State.canFill_onlyCarriers (c : Nat) : onlyCarriers s (s.canFill c) := rfl

theorem State.canFill_sentGrows (c : Nat) : sentGrows s (s.canFill c) := ⟨[], rfl⟩

theorem State.canSession_onlyCarriers (c base node : Nat) (b : List Byte) : onlyCarriers s (s.canSession c base node b) := rfl

theorem State.canSession_sentGrows (c base node : Nat) (b : List Byte) : sentGrows s (s.canSession c base node b) := ⟨[], rfl⟩

theorem State.bump_onlyCarriers (i j k : Nat) : onlyCarriers s (s.bump i j k) := rfl

theorem State.prpSent_onlyCarriers : onlyCarriers s s.prpSent := by
  unfold State.prpSent
  split
  · rfl
  · exact onlyCarriers.trans (by rfl) ((State.bump_onlyCarriers _ 0x7845 1 0).trans (State.bump_onlyCarriers _ 0x7845 2 0))

theorem State.prpSent_sentGrows : sentGrows s s.prpSent := by
  unfold State.prpSent
  split <;> exact ⟨[], rfl⟩

/-- A segment goes out by its path: the mailbox, the ring, the CAN queue, a datagram or the UART. -/
theorem State.respondSeg_onlyCarriers (t : Txn) (b : List Byte) : onlyCarriers s (s.respondSeg t b) := by
  unfold State.respondSeg
  cases t.path with
  | mailbox => exact s.mbPut_onlyCarriers b
  | ring => rfl
  | can => exact s.canSession_onlyCarriers _ _ _ b
  | udp => exact (s.emit_onlyCarriers _).trans (State.prpSent_onlyCarriers _)
  | uart => rfl

theorem State.respondSeg_sentGrows (t : Txn) (b : List Byte) : sentGrows s (s.respondSeg t b) := by
  unfold State.respondSeg
  cases t.path with
  | mailbox => exact s.mbPut_sentGrows b
  | ring => exact sentGrows_refl s
  | can => exact s.canSession_sentGrows _ _ _ b
  | udp => exact (s.emit_sentGrows _).trans (State.prpSent_sentGrows _)
  | uart => exact s.emit_sentGrows _

theorem State.respond_onlyCarriers (t : Txn) (r : Resp) : onlyCarriers s (s.respond t r) :=
  (s.emit_onlyCarriers _).trans (onlyCarriers_foldl (fun u b => u.respondSeg_onlyCarriers t b) _ _)

theorem State.respondSegs_sentGrows (t : Txn) (l : List (List Byte)) : sentGrows s (l.foldl (fun u b => u.respondSeg t b) s) :=
  sentGrows_foldl (fun u b => u.respondSeg_sentGrows t b) l s

theorem State.respond_sentGrows (t : Txn) (r : Resp) : sentGrows s (s.respond t r) :=
  (s.emit_sentGrows _).trans (State.respondSegs_sentGrows _ t _)

/-- The response itself goes out under its header. -/
theorem State.sends_respond (t : Txn) (r : Resp) : sends (s.respond t r) (.response t.path t.ident t.sess t.tag (t.cmd ||| 0x80) r) :=
  (s.sends_emit _).of_sentGrows (State.respondSegs_sentGrows _ t _)

theorem State.respond_dict (t : Txn) (r : Resp) : (s.respond t r).dict = s.dict := by rw [s.respond_onlyCarriers t r]

@[simp] theorem State.session_respond (t : Txn) (r : Resp) (n : Nat) : (s.respond t r).session n = s.session n := by
  unfold State.session
  rw [s.respond_dict]

/-! ### The answer of a session -/

/-- What answers a session: the transaction it serves is over, and its response goes out. -/
def onlyAnswers (s t : State) : Prop := onlyCarriers { s with dict := t.dict } t

/-- An open session answers by a response after its served transaction is taken off; a closed one does nothing. -/
theorem State.answerAs_cases (n cmd : Nat) (r : Resp) :
    ((s.session n).isOpen = false ∧ s.answerAs n cmd r = s) ∨ (∃ t, (s.session n).serving = some t ∧
      s.answerAs n cmd r = (s.setSession n { s.session n with serving := none }).respond t r) ∨ ∃ t, s.answerAs n cmd r = s.respond t r := by
  by_cases hopen : (s.session n).isOpen = true
  · cases hserving : (s.session n).serving with
    | some t => exact .inr (.inl ⟨t, rfl, State.answerAs_serving s hopen hserving cmd r⟩)
    | none => exact .inr (.inr ⟨_, by simp only [State.answerAs, hopen, hserving]; rfl⟩)
  · have hclosed : (s.session n).isOpen = false := by simpa using hopen
    exact .inl ⟨hclosed, State.answerAs_closed s hclosed cmd r⟩

theorem State.answerAs_onlyAnswers (n cmd : Nat) (r : Resp) : onlyAnswers s (s.answerAs n cmd r) := by
  rcases s.answerAs_cases n cmd r with ⟨-, h⟩ | ⟨t, -, h⟩ | ⟨t, h⟩ <;> rw [h]
  · exact onlyCarriers_refl s
  · unfold onlyAnswers
    rw [State.respond_dict]
    exact State.respond_onlyCarriers _ t r
  · unfold onlyAnswers
    rw [State.respond_dict]
    exact s.respond_onlyCarriers t r

theorem State.answerAs_sentGrows (n cmd : Nat) (r : Resp) : sentGrows s (s.answerAs n cmd r) := by
  rcases s.answerAs_cases n cmd r with ⟨-, h⟩ | ⟨t, -, h⟩ | ⟨t, h⟩ <;> rw [h]
  · exact sentGrows_refl s
  · exact (sentGrows_of_eq rfl).trans (State.respond_sentGrows _ t r)
  · exact s.respond_sentGrows t r

/-- Settles O21: an answer writes the carriers of a response and its own session alone. -/
theorem responsesGoOut : Obligations.ResponsesGoOut := by
  intro s n cmd r
  have hframe := s.answerAs_onlyAnswers n cmd r
  refine ⟨fun t hopen hserving => ?served, fun hclosed => State.answerAs_closed s hclosed cmd r, s.answerAs_sentGrows n cmd r, ?_⟩
  case served =>
    rw [State.answerAs_serving s hopen hserving]
    exact ⟨State.sends_respond _ t r, congrArg Dict.sessions (State.respond_dict _ t r)⟩
  refine ⟨?_, ?_, ?_, ?_, ?_, ?_, ?_, ?_, ?_⟩ <;> rw [hframe]

end Sys2Proof.Machine
end

section
/-!
PROOF. What shared operations leave as it was: a dictionary write its other entries and everything else, an operation on the flash all but the
flash's own records.
-/

namespace Sys2Proof.Machine

open Sys2Proof

/-! ### Dictionary entries -/

theorem State.setO_onlyOd (s : State) (i j k n : Nat) : onlyOd s (s.setO i j k n) := rfl

theorem State.bump_onlyOd (s : State) (i j k : Nat) : onlyOd s (s.bump i j k) := rfl

/-- A state that differs in the dictionary alone is the old one with some dictionary. -/
theorem onlyOd.exists_od {s t : State} (h : onlyOd s t) : ∃ d, t = { s with od := d } := ⟨t.od, h⟩

/-- Writing one subindex of an object leaves the others. -/
theorem State.o_setO_sub {s : State} {i j j' k n : Nat} (hj : j < 256) (hj' : j' < 256) (hk : k < 65536) (hne : j' ≠ j) :
    (s.setO i j k n).o i j' k = s.o i j' k :=
  s.o_setO_ne (fun hkey => hne (objKey_inj hj' hj hk hk hkey).2.1) n

theorem State.field_setO (s : State) (i j k n c : Nat) : (s.setO i j k n).field c = s.field c := (rfl)

theorem State.field_bump (s : State) (i j k c : Nat) : (s.bump i j k).field c = s.field c := (rfl)

/-! ### The flash -/

/-- Everything but the flash is as before. -/
def onlyFlash (s t : State) : Prop := t = { s with flash := t.flash }

theorem onlyFlash_refl (s : State) : onlyFlash s s := rfl

theorem onlyFlash.trans {s t u : State} (hst : onlyFlash s t) (htu : onlyFlash t u) : onlyFlash s u := by
  unfold onlyFlash at hst htu ⊢
  rw [htu, hst]

variable (s : State)

theorem State.onlyFlash_setFlash (f : Store) : onlyFlash s { s with flash := f } := rfl

theorem State.eraseKick_onlyFlash : onlyFlash s s.eraseKick := by
  unfold State.eraseKick
  dsimp only
  split <;> rfl

theorem State.eraseQueue_onlyFlash (l : List Nat) : onlyFlash s (s.eraseQueue l) :=
  (s.onlyFlash_setFlash _).trans (State.eraseKick_onlyFlash _)

theorem State.anchorUpdate_onlyFlash : onlyFlash s s.anchorUpdate := by
  unfold State.anchorUpdate
  split
  · exact onlyFlash_refl s
  · exact (s.onlyFlash_setFlash _).trans (State.eraseQueue_onlyFlash _ _)

theorem State.journalWrite_onlyFlash (l : List JRec) : onlyFlash s (s.journalWrite l) := by
  unfold State.journalWrite
  extract_lets a b t
  have ht : onlyFlash s t := s.onlyFlash_setFlash _
  split
  · exact ht
  · exact ((ht.trans (t.onlyFlash_setFlash _)).trans (State.anchorUpdate_onlyFlash _)).trans (State.eraseQueue_onlyFlash _ _)

theorem State.setSlotSt_onlyFlash (i st : Nat) : onlyFlash s (s.setSlotSt i st) :=
  ((s.onlyFlash_setFlash _).trans (State.journalWrite_onlyFlash _ _)).trans (State.anchorUpdate_onlyFlash _)

theorem State.updDrop_onlyFlash : onlyFlash s s.updDrop := by
  unfold State.updDrop
  split
  · exact (s.onlyFlash_setFlash _).trans (State.setSlotSt_onlyFlash _ _ _)
  · exact onlyFlash_refl s

end Sys2Proof.Machine
end

section
/-!
PROOF. What ends by time (R38, R45, R46). Closing a session frees its own entry of the table of sessions and no other; responses leave the
table as it is.
-/

namespace Sys2Proof.Machine

open Sys2Proof

variable (s : State)

/-! ### Closing a session -/

theorem State.updDrop_dict : s.updDrop.dict = s.dict := by rw [s.updDrop_onlyFlash]

/-- Of the dictionary, closing an open session frees its entry and takes its name off the pending commit. -/
theorem State.closeSession_sessions {n : Nat} (hopen : (s.session n).isOpen = true) :
    (s.closeSession n).dict.sessions = tset {} s.dict.sessions n {} := by
  unfold State.closeSession
  rw [if_neg (by simp [hopen])]
  have hdrop : ∀ u : State, (if u.flash.owner = some n then u.updDrop else u).dict = u.dict := by
    intro u
    split
    · exact u.updDrop_dict
    · rfl
  exact congrArg (fun d : Dict => tset {} d.sessions n {}) (hdrop _)

theorem State.session_closeSession {n : Nat} (hopen : (s.session n).isOpen = true) (k : Nat) :
    (s.closeSession n).session k = if k = n then {} else s.session k := by
  unfold State.session
  rw [s.closeSession_sessions hopen]
  exact tget_tset _ _ _ _ _

@[simp] theorem State.session_closeAnswer {n : Nat} (hopen : (s.session n).isOpen = true) : (s.closeAnswer n).session n = {} := by
  have hclosed : (s.closeSession n).session n = {} := by rw [s.session_closeSession hopen, if_pos rfl]
  have hkeeps : ∀ (l : List Txn) (u : State),
      (l.foldl (fun v t => v.respond t (.abort Abort.noSuchSession)) u).session n = u.session n := by
    intro l
    induction l with
    | nil => exact fun _ => rfl
    | cons t l ih => exact fun u => (ih _).trans (u.session_respond t _ n)
  exact (hkeeps _ _).trans hclosed

/-! ### A path that goes down -/

/-- One session of a path that goes down: freed where it is taken and of that path. -/
def State.sessionDown (s : State) (p : Path) (n : Nat) : State :=
  if (s.session n).taken && decide ((s.session n).path = p) then
    (if (s.session n).isOpen then s.closeSession n else s.setSession n {})
  else s

theorem exec_sessionPathDown (p : Path) :
    exec (.sessionPathDown p) s = .next ((List.range 32).foldl (fun t n => t.sessionDown p n) s) := rfl

theorem State.session_sessionDown (p : Path) (n k : Nat) : (s.sessionDown p n).session k =
    if k = n ∧ (s.session k).taken = true ∧ (s.session k).path = p then {} else s.session k := by
  unfold State.sessionDown
  by_cases hdown : (s.session n).taken = true ∧ (s.session n).path = p
  · rw [if_pos (by simpa using hdown)]
    have hfree : (if (s.session n).isOpen = true then s.closeSession n else s.setSession n {}).session k =
        if k = n then {} else s.session k := by
      split
      next hopen => exact s.session_closeSession hopen k
      next => exact s.session_setSession n k {}
    rw [hfree]
    by_cases hk : k = n
    · subst hk; simp [hdown]
    · simp [hk]
  · rw [if_neg (by simpa using hdown)]
    by_cases hk : k = n
    · subst hk; simp [hdown]
    · simp [hk]

theorem State.session_foldl_sessionDown (p : Path) (l : List Nat) (k : Nat) : (l.foldl (fun t n => t.sessionDown p n) s).session k =
    if k ∈ l ∧ (s.session k).taken = true ∧ (s.session k).path = p then {} else s.session k := by
  induction l generalizing s with
  | nil => simp
  | cons n l ih =>
    rw [List.foldl_cons, ih, s.session_sessionDown]
    by_cases hfreed : k = n ∧ (s.session k).taken = true ∧ (s.session k).path = p
    · have hmem : k ∈ n :: l := hfreed.1 ▸ List.mem_cons_self
      rw [if_pos hfreed, ite_self, if_pos ⟨hmem, hfreed.2⟩]
    · rw [if_neg hfreed]
      by_cases hk : k = n
      · have hdown : ¬((s.session k).taken = true ∧ (s.session k).path = p) := fun h => hfreed ⟨hk, h⟩
        rw [if_neg fun h => hdown h.2, if_neg fun h => hdown h.2]
      · simp [hk]

/-! ### The timers -/

/-- An open that was not confirmed in time frees its session and counts as a failure of its path. -/
theorem exec_openConfirmTimeout {s : State} {n : Fin 32} {ch : List Byte} (hch : (s.session n).challenge = some ch)
    (hlate : ticksMs 5000 + (s.session n).since < s.clock) :
    exec (.openConfirmTimeout n) s =
      let t := (s.setSession n {}).openFailed (s.session n).path
      .next { t with dict := { t.dict with expired := tset none t.dict.expired n (some ((s.session n).path, (s.session n).ident)) } } := by
  change execOpenConfirmTimeout n s = _
  simp [execOpenConfirmTimeout, hch, Nat.not_le.2 hlate]

theorem exec_pathLockExpiry {s : State} {p : Path} (hlocked : (s.pathAuth p).locked = true)
    (hquiet : ∀ f ∈ (s.pathAuth p).failures, ticksMs 10000 + f ≤ s.clock) :
    exec (.pathLockExpiry p) s = .next (s.setPathAuth p { s.pathAuth p with locked := false }) := by
  change execPathLockExpiry p s = _
  exact if_pos (by simpa [hlocked] using hquiet)

theorem exec_sessionIdleTimeout {s : State} {n : Fin 32} (hopen : (s.session n).isOpen = true)
    (hidle : ticksMs (1000 * s.o 0x1202 1) + (s.session n).lastUsed < s.clock) :
    exec (.sessionIdleTimeout n) s = .next (s.closeAnswer n) := by
  change execSessionIdleTimeout n s = _
  simp [execSessionIdleTimeout, hopen, hidle]

theorem exec_segmentTimeout {s : State} {n : Fin 32} {g : Seg} (hsegs : (s.session n).segs = [g])
    (hlate : ticksMs 1000 + g.since < s.clock) :
    exec (.segmentTimeout n) s = .next ((s.setSession n { s.session n with segs := [] }).respond
      { path := (s.session n).path, ident := (s.session n).ident, cmd := g.cmd, sess := n, tag := g.tag, index := g.index, sub := g.sub }
      (.abort Abort.transactionTimedOut)) := by
  change execSegmentTimeout n s = _
  simp [execSegmentTimeout, hsegs, hlate]

/-- Settles O20: a session ends by freeing its own entry of the table. -/
theorem sessionsEnd : Obligations.SessionsEnd := by
  intro s
  refine ⟨fun n ch hch hlate => ?confirm, fun p hlocked hquiet => exec_pathLockExpiry hlocked hquiet, fun n hopen hidle => ?idle,
    fun p => ?down, fun n g hsegs hlate => exec_segmentTimeout hsegs hlate⟩
  case confirm =>
    refine ⟨_, exec_openConfirmTimeout hch hlate, ?_, rfl, ?_⟩
    · exact s.session_setSession_self n {}
    · exact tget_tset_self none _ _ (some ((s.session n).path, (s.session n).ident))
  case idle => exact ⟨exec_sessionIdleTimeout hopen hidle, s.session_closeAnswer hopen⟩
  case down =>
    refine ⟨_, exec_sessionPathDown s p, fun n => ⟨fun htaken hpath => ?freed, fun hpath => ?kept⟩⟩
    case freed =>
      rw [s.session_foldl_sessionDown, if_pos ⟨List.mem_range.2 n.isLt, htaken, hpath⟩]
      rfl
    case kept => rw [s.session_foldl_sessionDown, if_neg fun h => hpath h.2.2]

end Sys2Proof.Machine
end

section
/-!
PROOF. Causes of a reset (R69, R70). A pending commit is cancelled and answered first; the rebuilt state then takes the clock, the queue and what
has gone out from there, and DRAM under the warm causes.
-/

namespace Sys2Proof.Machine

open Sys2Proof

/-! ### What ends before a reset -/

/-- The clock, the queue and DRAM stand, and nothing that has gone out is taken back. -/
def keepsRun (s t : State) : Prop := t.clock = s.clock ∧ t.pending = s.pending ∧ t.dram = s.dram ∧ sentGrows s t

theorem keepsRun_refl (s : State) : keepsRun s s := ⟨rfl, rfl, rfl, sentGrows_refl s⟩

theorem keepsRun.trans {s t u : State} (hst : keepsRun s t) (htu : keepsRun t u) : keepsRun s u := by
  obtain ⟨hclock, hpending, hdram, hsent⟩ := hst
  obtain ⟨hclock', hpending', hdram', hsent'⟩ := htu
  exact ⟨hclock'.trans hclock, hpending'.trans hpending, hdram'.trans hdram, hsent.trans hsent'⟩

variable (s : State)

theorem State.answer_keepsRun (n : Nat) (r : Resp) : keepsRun s (s.answer n r) := by
  unfold State.answer
  refine ⟨?_, ?_, ?_, s.answerAs_sentGrows n 0x11 r⟩ <;> rw [s.answerAs_onlyAnswers n 0x11 r]

theorem State.event_keepsRun (e : Event) (args : List Nat) : keepsRun s (s.event e args) := ⟨rfl, rfl, rfl, s.emit_sentGrows _⟩

theorem State.commitResult_keepsRun (code index sub : Nat) : keepsRun s (s.commitResult code index sub) :=
  keepsRun.trans (t := (s.setO 0x1222 1 0 code).setO 0x1222 4 0 (index * 256 + sub)) ⟨rfl, rfl, rfl, sentGrows_refl s⟩
    (State.event_keepsRun _ _ _)

theorem State.commitDrop_keepsRun (code : Nat) : keepsRun s (s.commitDrop code) := by
  unfold State.commitDrop
  split
  · exact keepsRun_refl s
  · exact State.commitResult_keepsRun { s with dict := { s.dict with pendingCommit := none } } code 0 0

/-- A mode change cancels what is pending: the own commit, then a mirrored one, whose owner is answered. -/
theorem State.commitCancelMode_keepsRun : keepsRun s s.commitCancelMode := by
  have hdrop := s.commitDrop_keepsRun Abort.commitCancelledByModeChange
  unfold State.commitCancelMode
  generalize s.commitDrop Abort.commitCancelledByModeChange = t at hdrop
  dsimp only
  split
  · have hresult := State.commitResult_keepsRun { t with pair := { t.pair with commit := none, commitBy := none } }
      Abort.commitCancelledByModeChange 0 0
    split
    · exact hdrop.trans (keepsRun.trans hresult (State.answer_keepsRun _ _ _))
    · exact hdrop.trans hresult
  · exact hdrop

/-! ### Entering reset -/

/-- The state after the cause `cause` has taken `s` to reset. -/
structure ResetBy (s : State) (cause : Nat) (warm : Bool) (t : State) : Prop where
  mode : t.modes.mode = .reset
  causes : t.modes.causes = [(cause, s.clock)]
  resetCause : t.modes.resetCause = cause
  isWarm : t.modes.warm = warm
  recovery : t.modes.recovery = (decide (cause = 5) && warm)
  clock : t.clock = s.clock
  pending : t.pending = s.pending
  dram : t.dram = if warm then s.dram else []
  sent : sentGrows s t

/-- One cause alone is warm or power-on by its own number (R69). -/
theorem resetKind_single (cause at_ : Nat) : resetKind [(cause, at_)] = (cause, !powerOn cause) := by
  cases h : powerOn cause <;> simp [resetKind, earliest, h]

/-- Any cause but the fault collector's, in a hub that runs. -/
theorem State.beginReset_resetBy {s : State} (hmode : s.modes.mode ≠ .reset) {cause : Nat} (hcause : cause ≠ 6) :
    ResetBy s cause (!powerOn cause) (s.beginReset cause) := by
  obtain ⟨hclock, hpending, hdram, hsent⟩ :=
    s.commitCancelMode_keepsRun.trans (State.event_keepsRun _ .other [0x1103, cause])
  have hbegin : s.beginReset cause =
      let t := ((s.commitCancelMode.event .other [0x1103, cause]).rebuild (!powerOn cause) false).bump 0x1104 0
      { t with modes := { t.modes with
        mode := .reset, prev := .reset, override := true, causes := [(cause, s.clock)], resetCause := cause, warm := !powerOn cause,
        recovery := decide (cause = 5) && !powerOn cause, modeSel := s.modes.modeSel, pairId := s.modes.pairId,
        dramInit := s.modes.dramInit && !powerOn cause } } := by
    simp [State.beginReset, hmode, resetKind_single, hcause]
  rw [hbegin]
  generalize s.commitCancelMode.event .other [0x1103, cause] = u at *
  refine ⟨rfl, rfl, rfl, rfl, rfl, hclock, hpending, ?_, hsent⟩
  rw [← hdram]
  rfl

theorem ResetBy.with_modes {cause : Nat} {warm : Bool} {t : State} (h : ResetBy s cause warm t) (m : Modes)
    (hmode : m = { t.modes with refclkOk := m.refclkOk, railBad := m.railBad }) : ResetBy s cause warm { t with modes := m } := by
  obtain ⟨h1, h2, h3, h4, h5, h6, h7, h8, h9⟩ := h
  rw [hmode]
  exact ⟨h1, h2, h3, h4, h5, h6, h7, h8, h9⟩

/-- A pulse of at least its sure width resets; one shorter than its least does nothing. -/
theorem State.resetPulse_sure {least sure lowNs : Nat} (hleast : least ≤ sure) (h : sure ≤ lowNs) (cause : Nat) :
    s.resetPulse least sure lowNs cause = s.beginReset cause := by
  unfold State.resetPulse
  rw [if_neg (Nat.not_lt.2 (hleast.trans h)), if_pos h]

theorem State.resetPulse_short {least lowNs : Nat} (h : lowNs < least) (sure cause : Nat) : s.resetPulse least sure lowNs cause = s := if_pos h

/-- Settles O26: each cause is one entry into reset. -/
theorem resetCausesEnterReset : Obligations.ResetCausesEnterReset := by
  intro s hmode into
  have hinto : ∀ {cause : Nat} {warm : Bool} {t : State}, ResetBy s cause warm t → into cause warm t := fun h =>
    ⟨h.mode, h.causes, h.resetCause, h.isWarm, h.clock, h.pending, h.dram, h.sent⟩
  have hreset : ∀ cause, cause ≠ 6 → ResetBy s cause (!powerOn cause) (s.beginReset cause) := fun _ => State.beginReset_resetBy hmode
  refine ⟨⟨_, rfl, hinto (hreset 4 (by decide))⟩, ⟨_, rfl, hinto (hreset 5 (by decide)), (hreset 5 (by decide)).recovery⟩,
    fun ns hns => ⟨_, congrArg Host.Outcome.next (s.resetPulse_sure (least := 2000) (by decide) hns 1), hinto (hreset 1 (by decide))⟩,
    fun ns hns => congrArg Host.Outcome.next (s.resetPulse_short hns 10000 1), fun rail ns hrail hns => ?supply,
    fun ns hns => ⟨_, congrArg Host.Outcome.next (s.resetPulse_sure (least := 200) (by decide) hns 3), hinto (hreset 3 (by decide))⟩,
    fun ns hns => congrArg Host.Outcome.next (s.resetPulse_short hns 1000 3), fun ns hns => ?refclk, fun pll ns hns => ?pll⟩
  case supply =>
    have hexec : exec (.supplyOutOfRange rail ns) s =
        .next (if rail = 0 then (s.beginReset 2).coreRail (ns ≠ 0) else s.beginReset 2) := by
      change execSupplyOutOfRange rail ns s = _
      simp [execSupplyOutOfRange, Nat.not_lt.2 (Nat.le_of_lt_succ hrail), Nat.not_le.2 hns]
    refine ⟨_, hexec, hinto ?_⟩
    split
    · exact ResetBy.with_modes s (hreset 2 (by decide)) _ rfl
    · exact hreset 2 (by decide)
  case refclk =>
    refine ⟨_, if_neg (Nat.not_lt.2 hns), hinto (ResetBy.with_modes s (hreset 7 (by decide)) _ rfl), rfl⟩
  case pll => exact ⟨_, congrArg Host.Outcome.next (if_pos hns), hinto (hreset 9 (by decide))⟩

end Sys2Proof.Machine
end

section
/-!
PROOF. A row that stands for the write of an object, given for a session that may write it (R548): its action is carried out and answered.
-/

namespace Sys2Proof.Machine

open Sys2Proof

variable {s t : State} {n mask index sub : Nat}

theorem State.asWrite_of_mayWrite (h : s.mayWrite n mask index sub) (run : State → State) : s.asWrite n mask index sub run = run s := by
  obtain ⟨hopen, hbar⟩ := h
  simp [State.asWrite, hopen, hbar]

/-- The action comes off: it is answered as a write. -/
theorem State.asWrite_act_ok (h : s.mayWrite n mask index sub) {f : State → Act} (hf : f s = .ok t) :
    s.asWrite n mask index sub (fun u => u.act n (f u)) = t.answer n (.ok []) := by
  rw [State.asWrite_of_mayWrite h, hf, State.act_ok s h.1]

/-- The action is refused: the session is told why, and nothing else changes. -/
theorem State.asWrite_act_error (h : s.mayWrite n mask index sub) {f : State → Act} {c : Nat} (hf : f s = .error c) :
    s.asWrite n mask index sub (fun u => u.act n (f u)) = s.answer n (.abort c) := by
  rw [State.asWrite_of_mayWrite h, hf, State.act_error s h.1]

/-- The action that comes off at once, where its answer is given at its end. -/
theorem State.asWrite_actLater_ok (h : s.mayWrite n mask index sub) {f : State → Act} (hf : f s = .ok t) :
    s.asWrite n mask index sub (fun u => u.actLater n (f u)) = t := by
  rw [State.asWrite_of_mayWrite h, hf]
  simp [State.actLater, h.1]

end Sys2Proof.Machine
end

section
/-!
PROOF. A step by its queue.
-/

namespace Sys2Proof.Machine

open Sys2Proof

/-- Settles O1: a step is a case split on the queue. -/
theorem stepRunsFrontCommand : Obligations.StepRunsFrontCommand := by
  intro s
  refine ⟨fun c l hqueue => ?_, fun hempty => ?_⟩
  · simp only [step, hqueue]
  · simp only [step, hempty]

end Sys2Proof.Machine
end

section
/-!
PROOF. The hub right after a power-on reset. Its tables are empty, so each entry reads its default.
-/

namespace Sys2Proof.Machine

open Sys2Proof

/-- An entry of an empty dictionary reads its default: the key names the entry. -/
theorem objDefaultKey_objKey {index sub item : Nat} (hsub : sub < 256) (hitem : item < 65536) :
    objDefaultKey (objKey index sub item) = objDefault index sub := by
  have hindex : objKey index sub item / 65536 / 256 = index := by unfold objKey; omega
  have hrest : objKey index sub item / 65536 % 256 = sub := by unfold objKey; omega
  rw [objDefaultKey, hindex, hrest]

/-- Settles O3: the reset state is written out in the model, and its tables are empty. -/
theorem resetHoldsDefaults : Obligations.ResetHoldsDefaults :=
  ⟨⟨rfl, rfl, rfl⟩, rfl, rfl, rfl, fun _ _ _ hsub hitem => objDefaultKey_objKey hsub hitem, rfl, rfl, rfl, rfl, rfl, rfl, rfl,
    fun _ => rfl, fun _ => (by decide : ({} : Engine).st ≠ .running)⟩

end Sys2Proof.Machine
end

section
/-!
PROOF. Key commands (R406, R407, R409, R410). Each is an action of a session; what remains is the action under the clause's premises.
-/

namespace Sys2Proof.Machine

open Sys2Proof

variable {s : State} {n : Nat}

theorem State.keyBarred_of_lt (h : s.sec.lc < 3) : s.keyBarred = false := by simpa [State.keyBarred] using h

theorem State.keyPlain_ok {key : List Byte} (hpath : (s.session n).path = .mailbox ∨ (s.session n).path = .uart) (hlc : s.sec.lc < 3)
    (hlen : key.length = attrLen (s.ownGet n 0x8002 1)) (hattr : attrOk (s.ownGet n 0x8002 1) = true) :
    s.keyPlain n key = .ok (s.keyPut (s.keySel n) (s.ownGet n 0x8002 1) (s.ownGet n 0x8002 2) key) := by
  rcases hpath with hpath | hpath <;> simp [State.keyPlain, State.keyBarred_of_lt hlc, hpath, hlen, hattr]

/-- What the unwrapped key's attributes ask for, or why they are refused. -/
def State.keyUnwrapped (s : State) (n : Nat) (w : List Byte) : Act :=
  match Config.keyUnwrap (s.slot (s.ownGet n 0x8002 3)).key w with
  | none => .error Abort.valueOutOfRange
  | some d =>
    let attr := ofBe ((d.drop (w.length - 24)).take 4)
    let uses := ofBe ((d.drop (w.length - 24 + 4)).take 6)
    if w.length - 24 ≠ attrLen attr then .error Abort.lengthMismatch
    else if attrOk attr = false ∨ (uses = 0 ∧ bitOf attr 16 = false) then .error Abort.valueOutOfRange
    else .ok ((s.useKey (s.ownGet n 0x8002 3)).keyPut (s.keySel n) attr uses (d.take (w.length - 24)))

theorem State.keyWrapped_eq_keyUnwrapped {w : List Byte} (hlc : s.sec.lc < 3) (hlen : w.length = 40 ∨ w.length = 56)
    (hkey : s.keyRefused (s.ownGet n 0x8002 3) 6 = none) : s.keyWrapped n w = s.keyUnwrapped n w := by
  have hbad : ¬(w.length ≠ 40 ∧ w.length ≠ 56) := by omega
  simp only [State.keyWrapped, State.keyUnwrapped, State.keyBarred_of_lt hlc, hkey]
  cases Config.keyUnwrap (s.slot (s.ownGet n 0x8002 3)).key w <;> simp [hbad]

theorem State.keyDerived_ok (hlc : s.sec.lc < 3) (hrng : s.sec.rngOk = true) (hkey : s.keyRefused (s.ownGet n 0x8002 4) 5 = none)
    (hattr : attrOk (s.ownGet n 0x8002 1) = true)
    (hchild : ∀ i, i < 8 → bitOf (s.ownGet n 0x8002 1) i = true → bitOf ((s.slot (s.ownGet n 0x8002 4)).attr / 256 % 64) i = true) :
    s.keyDerived n = .ok ((s.useKey (s.ownGet n 0x8002 4)).keyPut (s.keySel n) (s.ownGet n 0x8002 1) (s.ownGet n 0x8002 2)
      (deriveKey (s.slot (s.ownGet n 0x8002 4)).key (s.session n).label (s.session n).context (attrLen (s.ownGet n 0x8002 1)))) := by
  have hpurposes : (List.range 8).any (fun i => bitOf (s.ownGet n 0x8002 1) i &&
      !bitOf ((s.slot (s.ownGet n 0x8002 4)).attr / 256 % 64) i) = false := by
    simpa using hchild
  simp [State.keyDerived, State.keyBarred_of_lt hlc, hrng, hkey, hattr, hpurposes]

/-- Settles O4: each command is its action, answered. -/
theorem keyCommandsLoadAndDestroy : Obligations.KeyCommandsLoadAndDestroy := by
  intro s n
  refine ⟨fun key hmay hpath hlc hlen hattr => ?plain, fun w hmay hlc hlen hkey => ?wrapped, fun hmay => ?destroy,
    fun hmay hlc hrng hkey hattr hchild => ?derive⟩
  case plain => exact congrArg Host.Outcome.next (State.asWrite_act_ok hmay (State.keyPlain_ok hpath hlc hlen hattr))
  case wrapped =>
    refine ⟨s.act n (s.keyUnwrapped n w), ?run, ?outcome⟩
    case run =>
      rw [← State.keyWrapped_eq_keyUnwrapped hlc hlen hkey]
      exact congrArg Host.Outcome.next (State.asWrite_of_mayWrite hmay _)
    case outcome =>
      unfold State.keyUnwrapped
      cases Config.keyUnwrap (s.slot (s.ownGet n 0x8002 3)).key w with
      | none => exact State.act_error s hmay.1 _
      | some d =>
        dsimp only
        split_ifs
        · exact State.act_error s hmay.1 _
        · exact State.act_error s hmay.1 _
        · exact State.act_ok s hmay.1 _
  case destroy => exact congrArg Host.Outcome.next (State.asWrite_act_ok hmay rfl)
  case derive => exact congrArg Host.Outcome.next (State.asWrite_act_ok hmay (State.keyDerived_ok hlc hrng hkey hattr hchild))

end Sys2Proof.Machine
end

section
/-!
PROOF. Fuses, life cycle, random source and repair map (R416–R419, R437, R500).
-/

namespace Sys2Proof.Machine

open Sys2Proof

variable {s : State}

theorem State.revoke_ok (hblown : s.o 0x8030 1 ≠ 1) (hkey : (s.imgSlot s.flash.running).key0 = false) :
    s.revoke 1 = .ok (s.setO 0x8030 1 0 1) := by
  simp [State.revoke, hblown, hkey]

theorem State.floorRaise_ok (htrial : s.flash.trial = none) {r : Nat}
    (hmin : ((([0, 1].map s.imgSlot).filter (fun x : Slot => x.state = 1 || x.state = 3)).map (fun x : Slot => x.rollback)).min? = some r) :
    s.floorRaise = .ok (if r > s.o 0x8030 2 then s.setO 0x8030 2 0 r else s) := by
  simp only [State.floorRaise, htrial, hmin]
  rfl

/-- The request word carries the key 0xC0DE00 above the target, which the life cycle must allow. -/
theorem State.lcRequest_ok {v : Nat} (hword : v / 256 = 0xC0DE00) (htarget : v % 256 ≤ 4) (hintent : s.sec.intent = none)
    (hallowed : lcAllowed s.sec.lc (v % 256) (s.o 0x8041 0) = true) :
    s.lcRequest v = .ok { s with sec := { s.sec with intent := some (v % 256) } } := by
  have hhigh : v / 2 ^ 16 = 0xC0DE := by omega
  have hmid : v / 256 % 256 = 0 := by omega
  simp only [State.lcRequest, hhigh, hmid, hintent, hallowed, Nat.not_lt.2 htarget]
  rfl

theorem State.lcRun_snd (t : State) (target : Nat) (verified : Bool) : (t.lcRun target verified).2 = verified := by
  cases verified <;> rfl

theorem exec_lcReq {n : Fin 32} {v : W32} (hmay : s.mayWrite n 8 0x8040 0) (hword : v.toNat / 256 = 0xC0DE00)
    (htarget : v.toNat % 256 ≤ 4) (hintent : s.sec.intent = none)
    (hallowed : lcAllowed s.sec.lc (v.toNat % 256) (s.o 0x8041 0) = true) (verified : Bool) :
    exec (.lcReq n v verified) s =
      let t := ({ s with sec := { s.sec with intent := some (v.toNat % 256) } }.answer n (.ok [])).lcRun (v.toNat % 256) verified
      .next (if verified then t.1.beginReset 4 else t.1) := by
  refine congrArg Host.Outcome.next ((State.asWrite_of_mayWrite hmay _).trans ?_)
  simp only [State.lcRequest_ok hword htarget hintent hallowed, State.lcRun_snd]

/-- Settles O5: the actions under the clauses' premises, and the rows without a session as they stand. -/
theorem fusesLifeCycleAndRandomSource : Obligations.FusesLifeCycleAndRandomSource := by
  intro s n
  refine ⟨fun hmay hblown hkey => ?revoke, fun hmay htrial r hmin => ?floor, fun v hmay hword htarget hintent hallowed => ⟨?_, ?_⟩,
    fun hmay hlc => ?repair, rfl, rfl⟩
  case revoke => exact congrArg Host.Outcome.next (State.asWrite_act_ok hmay (State.revoke_ok hblown hkey))
  case floor => exact congrArg Host.Outcome.next (State.asWrite_act_ok hmay (State.floorRaise_ok htrial hmin))
  · exact exec_lcReq hmay hword htarget hintent hallowed true
  · exact exec_lcReq hmay hword htarget hintent hallowed false
  case repair => exact congrArg Host.Outcome.next (State.asWrite_act_ok hmay (by simp [State.repairClearAct, hlc]))

end Sys2Proof.Machine
end

section
/-!
PROOF. Ends of self-test slices (R492, R494, R501). Choosing the next slice moves the pointer of the round alone, so what a slice has recorded
stands.
-/

namespace Sys2Proof.Machine

open Sys2Proof

/-- What a slice leaves behind: the map, what is to be retired, its outcome and the slice itself. -/
def State.sliceMarks (s : State) : List Repair × List Nat × Nat × Nat :=
  (s.bist.map, s.bist.toRetire, s.bist.outcome, s.bist.last)

variable (s : State)

theorem State.sliceMarks_slicePass (n : Nat) : (State.slicePass n s).sliceMarks = s.sliceMarks := by
  induction n generalizing s with
  | zero => rfl
  | succ n ih =>
    unfold State.slicePass
    split
    · exact (ih _).trans rfl
    · rfl

theorem State.sliceMarks_sliceNext : s.sliceNext.sliceMarks = s.sliceMarks := by
  unfold State.sliceNext
  split
  · rfl
  · exact s.sliceMarks_slicePass 39

/-- The end of a slice notes the slice and goes on to the next. -/
theorem State.sliceMarks_sliceEnd (k : Nat) (early : Bool) :
    (s.sliceEnd k early).sliceMarks = (s.bist.map, s.bist.toRetire, s.bist.outcome, k) := by
  unfold State.sliceEnd
  split
  · exact State.sliceMarks_sliceNext _
  · exact State.sliceMarks_sliceNext _

theorem State.sliceMarks_anchorUpdate : s.anchorUpdate.sliceMarks = s.sliceMarks := by
  rw [State.sliceMarks, s.anchorUpdate_onlyFlash]
  rfl

/-- A slice that ends with `outcome` recorded and nothing else. -/
theorem State.sliceMarks_recorded (k outcome : Nat) (f : Finding) (early : Bool) :
    ((s.bistRecord k outcome f).sliceEnd k early).anchorUpdate.sliceMarks = (s.bist.map, s.bist.toRetire, outcome, k) := by
  rw [State.sliceMarks_anchorUpdate, State.sliceMarks_sliceEnd]
  rfl

theorem exec_bistSliceBudgetExpiry {s : State} {k : Nat} (hrun : s.bist.running = some k)
    (hbudget : ticksMs (sliceBudget k) + s.bist.sliceAt ≤ s.clock) : exec .bistSliceBudgetExpiry s = .next (s.sliceStop k).anchorUpdate := by
  change execBistSliceBudgetExpiry s = _
  have hover : s.sliceOver k = true := decide_eq_true hbudget
  simp only [execBistSliceBudgetExpiry, hrun, hover, if_true]

/-- With nothing found and no candidate of the slice, it records a pass. -/
theorem exec_bistSliceDone_nil {s : State} {k : Nat} (hrun : s.bist.running = some k)
    (hcands : ∀ f ∈ s.bist.candidates, sliceOf f.macro_ ≠ k) (htime : s.clock ≤ ticksMs (sliceBudget k) + s.bist.sliceAt) :
    ∃ l, exec (.bistSliceDone []) s = .next ((({ s with bist := { s.bist with candidates := l } }.bistRecord k 0
      { macro_ := sliceMacro k }).sliceEnd k false).anchorUpdate) := by
  have hnone : s.bist.candidates.filter (fun f => sliceOf f.macro_ = k) = [] := by simpa using hcands
  refine ⟨s.bist.candidates.filter (fun f => sliceOf f.macro_ ≠ k), ?_⟩
  change execBistSliceDone [] s = _
  simp only [execBistSliceDone, hrun, Nat.not_lt.2 htime, hnone]
  rfl

/-- Settles O7: what a slice recorded at its end stands. -/
theorem sliceEndsRecordTheirOutcome : Obligations.SliceEndsRecordTheirOutcome := by
  intro s k hrun
  refine ⟨fun hbudget => ?expiry, fun hcands htime => ?done⟩
  case expiry =>
    have hmarks := s.sliceMarks_recorded k 4 { macro_ := sliceMacro k } (s.bist.candidates.any (fun f => sliceOf f.macro_ = k))
    simp only [State.sliceMarks, Prod.mk.injEq] at hmarks
    obtain ⟨hmap, hretire, houtcome, -⟩ := hmarks
    exact ⟨_, exec_bistSliceBudgetExpiry hrun hbudget, rfl, hmap, hretire, houtcome⟩
  case done =>
    obtain ⟨l, hexec⟩ := exec_bistSliceDone_nil hrun hcands htime
    have hmarks := State.sliceMarks_recorded { s with bist := { s.bist with candidates := l } } k 0 { macro_ := sliceMacro k } false
    simp only [State.sliceMarks, Prod.mk.injEq] at hmarks
    obtain ⟨hmap, hretire, houtcome, hlast⟩ := hmarks
    exact ⟨_, hexec, hmap, hretire, houtcome, hlast⟩

end Sys2Proof.Machine
end

section
/-!
PROOF. Feeds (R505–R507). The selector turns feeds on and off and leaves their readings; a reading writes its own feed alone.
-/

namespace Sys2Proof.Machine

open Sys2Proof

/-! ### What the selector and a reading write -/

/-- Everything but the power unit is as before. -/
def onlyPower (s t : State) : Prop := t = { s with power := t.power }

theorem onlyPower.trans {s t u : State} (hst : onlyPower s t) (htu : onlyPower t u) : onlyPower s u := by
  unfold onlyPower at hst htu ⊢
  rw [htu, hst]

variable (s : State)

theorem State.setFeed_onlyPower (f : Nat) (v : Feed) : onlyPower s (s.setFeed f v) := by
  unfold State.setFeed
  split <;> rfl

theorem State.feedSelect_onlyPower (off : Bool) : onlyPower s (s.feedSelect off) := by
  unfold State.feedSelect
  dsimp only
  split_ifs <;> rfl

theorem State.feedSet_onlyPower (f : Nat) (v : Feed) (off : Bool) : onlyPower s (s.feedSet f v off) := by
  unfold State.feedSet
  dsimp only
  split
  · exact (s.setFeed_onlyPower f v).trans (State.feedSelect_onlyPower _ off)
  · exact ((s.setFeed_onlyPower f v).trans (State.setFeed_onlyPower _ f _)).trans (State.feedSelect_onlyPower _ off)

theorem State.feed_feedSelect (off : Bool) (g : Nat) : (s.feedSelect off).feed g = s.feed g := by
  unfold State.feedSelect
  dsimp only
  split_ifs <;> rfl

@[simp] theorem State.feed_setFeed_self (f : Nat) (v : Feed) : (s.setFeed f v).feed f = v := by
  unfold State.setFeed State.feed
  split <;> rfl

/-- A feed set anew keeps what was set but for the edges of its usability. -/
theorem State.feedSet_usable (f : Nat) (v : Feed) (off : Bool) : ((s.feedSet f v off).feed f).usable = v.usable := by
  unfold State.feedSet
  dsimp only
  rw [State.feed_feedSelect]
  split <;> simp

/-! ### The rows -/

/-- TRIP_CAUSE of a feed turned off by overvoltage or reverse current; a feed below its window keeps the old one. -/
def State.feedCause (s : State) (f : Nat) (why : FeedBad) : State :=
  match why with
  | .under => s
  | .overcurrent => s.setO (0xB830 + f) 6 0 7
  | .reverse => s.setO (0xB830 + f) 6 0 8

theorem exec_feedUnusable (f : Fin 2) (why : FeedBad) : exec (.feedUnusable f why) s =
    let t := s.feedMeasure.feedCause f why
    .next (t.feedSet f { t.feed f with usable := false } (why ≠ .under)) := by
  cases why <;> rfl

theorem exec_feedUsable {s : State} {f : Fin 2} (hfit : s.fitted f = true) : exec (.feedUsable f) s =
    .next (s.feedMeasure.feedSet f { s.feed f with usable := true } false) := by
  change execFeedUsable f s = _
  simp [execFeedUsable, hfit]

theorem exec_feedLossDegrade {s : State} {f : Fin 2} {t0 : Nat} (hbad : (s.feed f).badSince = some t0)
    (hlong : ticksMs 1000 + t0 ≤ s.clock) (hfit : s.fitted f = true) (hok : s.feedOk f = false) :
    exec (.feedLossDegrade f) s = .next ((s.setFeed f { s.feed f with lost := true }).degrade 2 true) := by
  change execFeedLossDegrade f s = _
  simp [execFeedLossDegrade, hbad, hlong, hfit, hok]

theorem exec_feedLossEnd {s : State} {f : Fin 2} {t0 : Nat} (hgood : (s.feed f).goodSince = some t0)
    (hlong : ticksMs 1000 + t0 ≤ s.clock) (hlost : (s.feed f).lost = true) (hok : s.feedOk f = true) :
    exec (.feedLossEnd f) s = .next ((s.setFeed f { s.feed f with lost := false }).degrade 2 (s.feed (1 - f)).lost) := by
  change execFeedLossEnd f s = _
  simp [execFeedLossEnd, hgood, hlong, hlost, hok]

/-- Settles O8: a reading and the selector write the power unit, and a turn-off its TRIP_CAUSE. -/
theorem feedsComeAndGo : Obligations.FeedsComeAndGo := by
  intro s f
  refine ⟨fun hfit => ?usable, fun why => ?unusable, fun t0 hbad hlong hfit hok => exec_feedLossDegrade hbad hlong hfit hok,
    fun t0 hgood hlong hlost hok => exec_feedLossEnd hgood hlong hlost hok, rfl⟩
  case usable =>
    refine ⟨_, exec_feedUsable hfit, State.feedSet_usable _ _ _ _, ?_⟩
    rw [State.feedSet_onlyPower]
    rfl
  case unusable =>
    refine ⟨_, exec_feedUnusable s f why, State.feedSet_usable _ _ _ _, ?_, ?_, ?_, ?_⟩
    · rintro rfl
      rw [State.feedSet_onlyPower]
      exact State.o_setO_self _ _ _ _ _
    · rintro rfl
      rw [State.feedSet_onlyPower]
      exact State.o_setO_self _ _ _ _ _
    · rintro rfl
      rw [State.feedSet_onlyPower]
      rfl
    · rw [State.feedSet_onlyPower]
      cases why <;> rfl

end Sys2Proof.Machine
end

section
/-!
PROOF. The changeover between feeds (R506, R507).
-/

namespace Sys2Proof.Machine

open Sys2Proof

variable {s : State}

theorem exec_feedReturnTimer {t0 : Nat} (hgood : (s.feed s.feedFirst).goodSince = some t0)
    (hlong : ticksMs (s.o 0xB800 4) + t0 ≤ s.clock) (huse : s.power.inUse = 2 - s.feedFirst) (hidle : s.power.change = none)
    (hok : s.feedOk s.feedFirst = true) : exec .feedReturnTimer s = .next (s.feedChange s.feedFirst) := by
  change execFeedReturnTimer s = _
  simp [execFeedReturnTimer, hgood, hlong, huse, hidle, hok]

/-- The new feed is in use from the confirmation on. -/
theorem exec_feedOffConfirmed {f t0 : Nat} (hchange : s.power.change = some (f, t0)) (hok : s.feedOk f = true) :
    exec .feedOffConfirmed s =
      .next ({ s with power := { s.power with inUse := f + 1, ramp := false, change := none } }.bump 0xB802 1) := by
  change execFeedOffConfirmed s = _
  simp only [execFeedOffConfirmed, hchange]
  exact if_pos hok

theorem exec_feedOffTimeout {f t0 : Nat} (hchange : s.power.change = some (f, t0))
    (hlate : 5000 + (t0 * 4 + s.o (0xB820 + (1 - f)) 0x15) ≤ s.clock * 4) :
    exec .feedOffTimeout s = .next (({ s with power := { s.power with change := none } }.feedSet (1 - f)
      { s.feed (1 - f) with shorted := true } false).efShort (1 - f)) := by
  change execFeedOffTimeout s = _
  simp only [execFeedOffTimeout, hchange]
  exact if_neg (Nat.not_lt.2 hlate)

/-- Settles O9: the three rows of a changeover. -/
theorem feedChangeover : Obligations.FeedChangeover := by
  intro s
  refine ⟨fun t0 hgood hlong huse hidle hok => exec_feedReturnTimer hgood hlong huse hidle hok, fun f t0 hchange hok => ?confirmed,
    fun f t0 hchange hlate => exec_feedOffTimeout hchange hlate⟩
  case confirmed => exact ⟨_, exec_feedOffConfirmed hchange hok, rfl, State.o_bump_self _ _ _ _, by rw [State.bump_onlyOd]⟩

end Sys2Proof.Machine
end

section
/-!
PROOF. EF_CMD (R510). Whether a session or PW_EF_CTRL gives it, the same action runs; only the session is answered.
-/

namespace Sys2Proof.Machine

open Sys2Proof

variable {s : State}

/-! ### The action -/

theorem State.efOn_field {ch : Nat} (hch : 2 ≤ ch) (hmode : s.efMode ch = true) (hstate : (s.field ch).state < 3) :
    s.efOn ch = .ok (s.fieldOn ch) := by
  simp [State.efOn, Nat.not_lt.2 hch, hmode, Nat.not_le.2 hstate]

theorem State.efOff_field {ch : Nat} (hch : 2 ≤ ch) (hmode : s.efMode ch = true) (hstate : (s.field ch).state < 3) :
    s.efOff ch = .ok (s.fieldOff ch) := by
  simp [State.efOff, Nat.not_lt.2 hch, hmode, Nat.ne_of_lt hstate]

/-- A tripped channel keeps its latch against an on command. -/
theorem State.efOn_tripped {ch : Nat} (hch : 2 ≤ ch) (hmode : s.efMode ch = true) (hstate : (s.field ch).state = 3) :
    s.efOn ch = .error Abort.busyRetry := by
  simp [State.efOn, Nat.not_lt.2 hch, hmode, hstate]

/-- An off command clears the latch of a trip. -/
theorem State.efOff_tripped {ch : Nat} (hch : 2 ≤ ch) (hmode : s.efMode ch = true) (hstate : (s.field ch).state = 3) :
    s.efOff ch = .ok (s.setField ch { s.field ch with cmd := false, state := 0, startAt := s.clock }) := by
  simp [State.efOff, Nat.not_lt.2 hch, hmode, hstate]

theorem State.efOn_feed {ch : Nat} (hch : ch < 2) (htripped : (s.feed ch).tripped = false) (hshorted : (s.feed ch).shorted = false) :
    s.efOn ch = .ok (s.feedSet ch { s.feed ch with excluded := false } false) := by
  simp [State.efOn, hch, htripped, hshorted]

/-- A feed is excluded unless it is the only usable one. -/
theorem State.efOff_feed {ch : Nat} (hch : ch < 2) (hother : s.feedOk ch = false ∨ s.feedOk (1 - ch) = true) :
    s.efOff ch = .ok (s.feedSet ch { s.feed ch with excluded := true, tripped := false } true) := by
  have hspare : (s.feedOk ch && !s.feedOk (1 - ch)) = false := by rcases hother with h | h <;> simp [h]
  simp [State.efOff, hch, hspare]

/-! ### Who gives it -/

theorem exec_efCmdOn_none {ch : Fin 8} {t : State} (h : s.efOn ch = .ok t) : exec (.efCmdOn none ch) s = .next t := by
  change Host.Outcome.next (s.actQuiet (s.efOn ch)) = _
  rw [h]
  rfl

theorem exec_efCmdOff_none {ch : Fin 8} {t : State} (h : s.efOff ch = .ok t) : exec (.efCmdOff none ch) s = .next t := by
  change Host.Outcome.next (s.actQuiet (s.efOff ch)) = _
  rw [h]
  rfl

theorem exec_efCmdOn_some {n : Fin 32} {ch : Fin 8} {t : State} (hmay : s.mayWrite n 6 0xB840 (ch + 1)) (h : s.efOn ch = .ok t) :
    exec (.efCmdOn (some n) ch) s = .next (t.answer n (.ok [])) :=
  congrArg Host.Outcome.next (State.asWrite_act_ok (f := fun u => u.efOn ch) hmay h)

theorem exec_efCmdOff_some {n : Fin 32} {ch : Fin 8} {t : State} (hmay : s.mayWrite n 6 0xB840 (ch + 1)) (h : s.efOff ch = .ok t) :
    exec (.efCmdOff (some n) ch) s = .next (t.answer n (.ok [])) :=
  congrArg Host.Outcome.next (State.asWrite_act_ok (f := fun u => u.efOff ch) hmay h)

/-- EF_CMD of a field channel is barred by the mode alone, once the role may write it. -/
theorem State.writeBar_efCmd {n ch : Nat} (hch : 2 ≤ ch) (hmode : s.efMode ch = false) (hrole : roleGrant (s.session n).role &&& 6 ≠ 0) :
    s.writeBar n 6 0xB840 (ch + 1) = some Abort.notInThisMode := by
  have hsub : ch + 1 > 2 := by omega
  simp [State.writeBar, pathBar, State.lcBar, State.modeBar, hrole, hmode, hsub]

theorem exec_efCmdOn_barred {n : Fin 32} {ch : Fin 8} (hopen : (s.session n).isOpen = true) {c : Nat}
    (hbar : s.writeBar n 6 0xB840 (ch + 1) = some c) : exec (.efCmdOn (some n) ch) s = .next (s.answer n (.abort c)) := by
  refine congrArg Host.Outcome.next ?_
  simp only [State.efAsk, State.asWrite, hopen, hbar]
  rfl

/-- Off and not gated, a commanded channel starts. -/
theorem State.fieldOn_starts {ch : Nat} (hgate : s.efGated = false) (hcmd : (s.field ch).cmd = false) (hstate : (s.field ch).state < 3) :
    s.fieldOn ch = s.setField ch { s.field ch with cmd := true, state := 1, startAt := s.clock } := by
  simp [State.fieldOn, hgate, hcmd, Nat.not_le.2 hstate, State.fieldStart]

/-- Settles O10: the action by the channel's state, for both givers. -/
theorem fieldChannelCommands : Obligations.FieldChannelCommands := by
  intro s ch
  refine ⟨fun hch hmode hstate => ?runs, fun hch hmode hstate => ?tripped, fun hch hmode n hopen hrole => ?barred,
    fun hch htripped hshorted => exec_efCmdOn_none (State.efOn_feed hch htripped hshorted),
    fun hch hother => exec_efCmdOff_none (State.efOff_feed hch hother), fun _ hgate hcmd hstate => State.fieldOn_starts hgate hcmd hstate⟩
  case runs =>
    have hon := State.efOn_field hch hmode hstate
    have hoff := State.efOff_field hch hmode hstate
    exact ⟨exec_efCmdOn_none hon, exec_efCmdOff_none hoff, fun n hmay => ⟨exec_efCmdOn_some hmay hon, exec_efCmdOff_some hmay hoff⟩⟩
  case tripped =>
    refine ⟨exec_efCmdOff_none (State.efOff_tripped hch hmode hstate), ?_⟩
    exact congrArg (fun r => Host.Outcome.next (s.actQuiet r)) (State.efOn_tripped hch hmode hstate)
  case barred => exact exec_efCmdOn_barred hopen (State.writeBar_efCmd hch hmode hrole)

end Sys2Proof.Machine
end

section
/-!
PROOF. Starts, trips and shorts of a field channel (R512–R518).
-/

namespace Sys2Proof.Machine

open Sys2Proof

variable {s : State} {ch : Fin 8}

/-- A trip of a field channel that conducts latches it off and is reported with its cause. -/
theorem State.efTrip_field (hch : 2 ≤ ch.val) (hstate : (s.field ch).state = 1 ∨ (s.field ch).state = 2) (cause lt : Nat) :
    s.efTrip ch cause lt = ((((s.setO (0xB830 + ch) 6 0 cause).setO (0xB830 + ch) 7 0 lt).bump (0xB830 + ch) 8).setField ch
      { s.field ch with state := 3 }).report { source := if cause = 4 then 0xC2 else 0xC0, syndrome := cause * 2 ^ 24 + ch } := by
  have hfield : ¬ch.val < 2 := Nat.not_lt.2 hch
  have hconducts : s.conducts ch = true := by simpa [State.conducts, hfield] using hstate
  unfold State.efTrip
  rw [if_neg (by simp [hconducts])]
  simp only [hfield, if_false, State.field_bump, State.field_setO]

theorem exec_efStartComplete (hch : 2 ≤ ch.val) (hstart : (s.field ch).state = 1) :
    exec (.efStartComplete ch) s = .next (s.setField ch { s.field ch with state := 2 }) := by
  change execEfStartComplete ch s = _
  simp [execEfStartComplete, hch, hstart]

theorem exec_efInsertionAbort (hch : 2 ≤ ch.val) (hstart : (s.field ch).state = 1) (lt : W32) :
    exec (.efInsertionAbort ch lt) s = .next (s.efTrip ch 4 lt.toNat) := by
  change execEfInsertionAbort ch lt s = _
  simp [execEfInsertionAbort, hch, hstart]

theorem exec_efStartTimeout (hch : 2 ≤ ch.val) (hstart : (s.field ch).state = 1)
    (hlate : ticksMs (s.o (0xB810 + ch) 4) + (s.field ch).startAt ≤ s.clock) (lt : W32) :
    exec (.efStartTimeout ch lt) s = .next (s.efTrip ch 5 lt.toNat) := by
  change execEfStartTimeout ch lt s = _
  simp [execEfStartTimeout, hch, hstart, hlate]

theorem exec_efCurveTrip (hcurve : s.o (0xB820 + ch) 1 ≠ 0) (lt : W32) :
    exec (.efCurveTrip ch lt) s = .next (s.efTrip ch 1 lt.toNat) := if_neg hcurve

/-- A single hub judges a channel commanded off 1 ms after the command. -/
theorem exec_efShorted (hch : 2 ≤ ch.val) (hcmd : (s.field ch).cmd = false) (hstate : (s.field ch).state ≠ 4)
    (hsingle : s.pairMember = false) (hlate : ticksMs 1 + (s.field ch).startAt ≤ s.clock) :
    exec (.efShorted ch) s = .next ((s.setField ch { s.field ch with state := 4 }).efShort ch) := by
  change execEfShorted ch s = _
  simp [execEfShorted, Nat.not_lt.2 hch, hcmd, hstate, hsingle, Nat.not_lt.2 hlate]

theorem exec_efShortEnd (hch : 2 ≤ ch.val) (hstate : (s.field ch).state = 4) :
    exec (.efShortEnd ch) s = .next ((s.levelSet 0xC1 ch false).setField ch { s.field ch with state := 0 }) := by
  change execEfShortEnd ch s = _
  simp [execEfShortEnd, Nat.not_lt.2 hch, hstate]

/-- Settles O11: each row is a trip of the channel, a start, or a short. -/
theorem fieldChannelTrips : Obligations.FieldChannelTrips := by
  intro s ch lt hch latched
  refine ⟨exec_efStartComplete hch, fun hstart => ?insertion, fun hstart hlate => ?timeout, fun hstate => ⟨fun hcurve => ?curve, ?_, ?_⟩,
    fun hcmd hstate hsingle hlate => exec_efShorted hch hcmd hstate hsingle hlate, exec_efShortEnd hch⟩
  case insertion => rw [exec_efInsertionAbort hch hstart, State.efTrip_field hch (.inl hstart)]; rfl
  case timeout => rw [exec_efStartTimeout hch hstart hlate, State.efTrip_field hch (.inl hstart)]; rfl
  case curve => rw [exec_efCurveTrip hcurve, State.efTrip_field hch hstate]; rfl
  · exact congrArg Host.Outcome.next (State.efTrip_field hch hstate 2 lt.toNat)
  · exact congrArg Host.Outcome.next (State.efTrip_field hch hstate 3 lt.toNat)

end Sys2Proof.Machine
end

section
/-!
PROOF. Energy and telemetry (R519–R521, R526).
-/

namespace Sys2Proof.Machine

open Sys2Proof

/-! ### The energy tick -/

variable {s : State}

/-- The readings of a tick: current, voltage, power and the energy. -/
def State.energyRead (s : State) (i : Nat) (ma : Int) (mv e : Nat) : State :=
  (((s.setO i 2 0 (ofSigned 32 ma)).setO i 3 0 mv).setO i 4 0 (ofSigned 32 (ma * mv / 1000))).setO i 5 0 e

theorem State.o_energyRead (s : State) (i : Nat) (ma : Int) (mv e : Nat) :
    (s.energyRead i ma mv e).o i 2 = ofSigned 32 ma ∧ (s.energyRead i ma mv e).o i 3 = mv ∧
    (s.energyRead i ma mv e).o i 4 = ofSigned 32 (ma * mv / 1000) ∧ (s.energyRead i ma mv e).o i 5 = e := by
  unfold State.energyRead
  refine ⟨?_, ?_, ?_, State.o_setO_self _ _ _ _ _⟩
  · rw [State.o_setO_sub, State.o_setO_sub, State.o_setO_sub, State.o_setO_self] <;> decide
  · rw [State.o_setO_sub, State.o_setO_sub, State.o_setO_self] <;> decide
  · rw [State.o_setO_sub, State.o_setO_self] <;> decide

theorem State.energyRead_onlyOd (s : State) (i : Nat) (ma : Int) (mv e : Nat) : onlyOd s (s.energyRead i ma mv e) :=
  (((s.setO_onlyOd ..).trans (State.setO_onlyOd ..)).trans (State.setO_onlyOd ..)).trans (State.setO_onlyOd ..)

/-- A tick of a field channel: its readings, and the part of a millijoule that is carried. -/
theorem exec_efEnergyTick {ch : Fin 8} (hch : 2 ≤ ch.val) (hmode : s.modes.mode ≠ .reset)
    (hdue : ticksUs 100 + (s.field ch).tickAt ≤ s.clock) (ma : Int) (mv : W32) :
    let mj7 := ((s.field ch).frac : Int) + ma * mv.toNat
    ∃ at_, exec (.efEnergyTick ch ma mv) s = .next ((s.energyRead (0xB830 + ch.val) ma mv.toNat
      (ofSigned 48 ((s.o (0xB830 + ch.val) 5 : Nat) + mj7 / 10000000))).setField ch
        { s.field ch with frac := (mj7 % 10000000).toNat, tickAt := at_ }) := by
  have hrun : ¬(decide (s.modes.mode = .reset) || decide (s.clock < ticksUs 100 + (s.field ch).tickAt)) = true := by
    simp [hmode, Nat.not_lt.2 hdue]
  exact ⟨_, (if_neg hrun).trans (congrArg Host.Outcome.next (if_neg (Nat.not_lt.2 hch)))⟩

/-! ### The store write -/

/-- One channel's ENERGY goes to the store. -/
def State.energySaved (s : State) (c : Nat) : State :=
  { s with store := tsetF objDefaultKey s.store (objKey (0xB830 + c) 5 0) (.num (s.o (0xB830 + c) 5)) }

theorem State.energyStore_eq (s : State) : s.energyStore = (List.range 8).foldl State.energySaved s := rfl

theorem State.foldl_energySaved_onlyStore (l : List Nat) (s : State) :
    l.foldl State.energySaved s = { s with store := (l.foldl State.energySaved s).store } := by
  induction l generalizing s with
  | nil => rfl
  | cons d l ih => rw [List.foldl_cons, ih (s.energySaved d)]; unfold State.energySaved; rfl

theorem State.store_energySaved (s : State) (c d : Nat) :
    tgetF objDefaultKey (s.energySaved d).store (objKey (0xB830 + c) 5 0) =
      if c = d then .num (s.o (0xB830 + c) 5) else tgetF objDefaultKey s.store (objKey (0xB830 + c) 5 0) := by
  rw [State.energySaved, tgetF_tsetF]
  by_cases hcd : c = d
  · simp [hcd]
  · have hkey : objKey (0xB830 + c) 5 0 ≠ objKey (0xB830 + d) 5 0 := fun h =>
      hcd (Nat.add_left_cancel (objKey_inj (by decide) (by decide) (by decide) (by decide) h).1)
    rw [if_neg hkey, if_neg hcd]

/-- After a run of channels is saved, the store holds each one's ENERGY. -/
theorem State.store_foldl_energySaved (l : List Nat) (s : State) (c : Nat) :
    tgetF objDefaultKey (l.foldl State.energySaved s).store (objKey (0xB830 + c) 5 0) =
      if c ∈ l then .num (s.o (0xB830 + c) 5) else tgetF objDefaultKey s.store (objKey (0xB830 + c) 5 0) := by
  induction l generalizing s with
  | nil => rfl
  | cons d l ih =>
    have ho : (s.energySaved d).o (0xB830 + c) 5 = s.o (0xB830 + c) 5 := by unfold State.energySaved State.o State.val; rfl
    rw [List.foldl_cons, ih, ho, State.store_energySaved]
    by_cases hcd : c = d
    · rw [if_pos hcd, ite_self, if_pos (hcd ▸ List.mem_cons_self)]
    · simp [hcd]

theorem exec_energyStore (hdue : ticksMs 600000 + s.power.storedAt ≤ s.clock) :
    exec .energyStore s = .next { s.energyStore with power := { s.power with storedAt := s.clock } } := if_neg (Nat.not_lt.2 hdue)

/-! ### Telemetry and the two-part read -/

/-- The instant of the last packet is no part of EF_STATE. -/
theorem State.efState_setField_telAt (s : State) (c at_ : Nat) :
    (s.setField c { s.field c with telAt := at_ }).efState c = s.efState c := by
  have hpower : (s.setField c { s.field c with telAt := at_ }).power =
      { s.power with fields := tset {} s.power.fields c { s.field c with telAt := at_ } } := rfl
  have hgate : (s.setField c { s.field c with telAt := at_ }).efGated = s.efGated := rfl
  have hok : (s.setField c { s.field c with telAt := at_ }).feedOk c = s.feedOk c := rfl
  simp only [State.efState, State.field_setField_self, hpower, hgate, hok]

theorem State.telemetryChan_setField (s : State) (c : Nat) (v : Field) (n : Nat) :
    (s.setField c v).telemetryChan n = s.telemetryChan n := rfl

theorem exec_efTelemetry {ch : Fin 8} {ma : Int} {mv : W24} {c : Nat}
    (hdue : ticksUs (s.o (0xB810 + ch) 5) + (s.field ch).telAt ≤ s.clock) (hchan : s.telemetryChan (0x30 + ch) = some c) :
    exec (.efTelemetry ch ma mv) s = .next ((s.setField ch { s.field ch with telAt := s.clock }).telemetryPut c (stampItems s.st32 ++
      [dataItem (ofSigned 24 ma), dataItem mv.toNat,
        { kind := 3, data := BitVec.ofNat 24 (s.efState ch + s.o (0xB830 + ch) 6 * 256), eop := true }])) := by
  have hstate : (s.setField ch { s.field ch with telAt := s.clock }).efState ch = s.efState ch := s.efState_setField_telAt ch s.clock
  change execEfTelemetry ch ma mv s = _
  unfold execEfTelemetry
  rw [if_neg (Nat.not_lt.2 hdue)]
  dsimp only
  rw [State.telemetryChan_setField, hchan, hstate]
  rfl

theorem exec_pwEfEloRead {c : Ctx} {ch : Fin 8} (hreach : s.reaches c = true) :
    exec (.pwEfEloRead c ch) s = .next ((s.readEfElo c ch).1.reply c 4 (s.readEfElo c ch).2) := by
  change execPwEfEloRead c ch s = _
  simp [execPwEfEloRead, hreach]

/-- Settles O12: a tick and the store write their entries alone; the packet and the two-part read name theirs. -/
theorem energyAndTelemetry : Obligations.EnergyAndTelemetry := by
  intro s ch
  refine ⟨fun ma mv hch hmode hdue => ?tick, fun hdue => ?store, fun ma mv c hdue hchan => exec_efTelemetry hdue hchan,
    fun c hreach => ?read, rfl, rfl⟩
  case tick =>
    obtain ⟨at_, hexec⟩ := exec_efEnergyTick hch hmode hdue ma mv
    obtain ⟨hma, hmv, hmw, he⟩ := s.o_energyRead (0xB830 + ch.val) ma mv.toNat
      (ofSigned 48 ((s.o (0xB830 + ch.val) 5 : Nat) + (((s.field ch).frac : Int) + ma * mv.toNat) / 10000000))
    refine ⟨_, hexec, ?_, ?_, ?_, ?_, congrArg Field.frac (State.field_setField_self _ _ _), ?_⟩
    · exact (State.setField_o ..).trans hma
    · exact (State.setField_o ..).trans hmv
    · exact (State.setField_o ..).trans hmw
    · exact (State.setField_o ..).trans he
    obtain ⟨d, hread⟩ := (s.energyRead_onlyOd (0xB830 + ch.val) ma mv.toNat
      (ofSigned 48 ((s.o (0xB830 + ch.val) 5 : Nat) + (((s.field ch).frac : Int) + ma * mv.toNat) / 10000000))).exists_od
    rw [hread]
    rfl
  case store =>
    obtain ⟨m, hm⟩ : ∃ m, s.energyStore = { s with store := m } := ⟨_, State.foldl_energySaved_onlyStore (List.range 8) s⟩
    have hsaved := (s.store_foldl_energySaved (List.range 8) ch).trans (if_pos (List.mem_range.2 ch.isLt))
    have hexec := exec_energyStore hdue
    rw [← State.energyStore_eq] at hsaved
    generalize s.energyStore = t at hm hsaved hexec
    subst hm
    exact ⟨_, hexec, rfl, hsaved⟩
  case read =>
    refine ⟨_, exec_pwEfEloRead hreach, rfl, ?_⟩
    simp only [State.readEfElo, State.ctx_setCtx_self, tget_tset_self]

end Sys2Proof.Machine
end

section
/-!
PROOF. The supply, temperature and clock monitors (R522–R524).
-/

namespace Sys2Proof.Machine

open Sys2Proof

variable {s : State}

/-! ### Rails -/

/-- A reading of the rail is kept, and the core rail's is judged by its own limits. -/
def State.railRead (s : State) (rail mv : Nat) : State :=
  let u := s.setO 0xB850 (rail + 1) 0 mv
  if rail = 0 then u.coreRail (mv < 740 || mv > 860) else u

theorem exec_railMonitorWarning_inside {rail : Fin 5} {mv : Nat} (hlow : (railWindow rail).1 ≤ mv) (hhigh : mv ≤ (railWindow rail).2) :
    exec (.railMonitorWarning rail mv) s = .next (s.railRead rail mv) := by
  refine if_pos ?_
  simp [hlow, hhigh]

theorem exec_railMonitorWarning_outside {rail : Fin 5} {mv : Nat} (hrail : rail.val < 4)
    (hout : mv < (railWindow rail).1 ∨ (railWindow rail).2 < mv) :
    exec (.railMonitorWarning rail mv) s = .next ((s.railRead rail mv).report { source := 0xA1, syndrome := rail }) := by
  have houtside : ¬(decide ((railWindow rail).1 ≤ mv) && decide (mv ≤ (railWindow rail).2)) = true := by
    simp only [Bool.and_eq_true, decide_eq_true_eq]
    omega
  change execRailMonitorWarning rail mv s = _
  unfold execRailMonitorWarning
  dsimp only
  rw [if_neg houtside]
  simp [Nat.ne_of_lt hrail, b2n, State.railRead]

/-! ### Temperature -/

/-- The readings of the eight sensors are kept. -/
def State.tempRead (s : State) (l : List Int) : State :=
  ((List.range 8).foldl (fun s i => s.setO 0xB851 (i + 1) 0 (ofSigned 8 (l.getD i 0))) s).setO 0xB851 9 0 (ofSigned 8 (l.foldl max (-128)))

theorem State.foldl_setO_onlyOd (f g : Nat → Nat) (i : Nat) (l : List Nat) (s : State) :
    onlyOd s (l.foldl (fun s k => s.setO i (f k) 0 (g k)) s) := by
  induction l generalizing s with
  | nil => rfl
  | cons k l ih => exact (s.setO_onlyOd ..).trans (ih _)

theorem State.tempRead_onlyOd (l : List Int) : onlyOd s (s.tempRead l) :=
  (State.foldl_setO_onlyOd (· + 1) (fun k => ofSigned 8 (l.getD k 0)) 0xB851 (List.range 8) s).trans (State.setO_onlyOd ..)

/-- A sensor's entry after a run of sensors was kept: its own reading. -/
theorem State.o_foldl_setO (g : Nat → Nat) (i k : Nat) (l : List Nat) (s : State) (hl : ∀ j ∈ l, j < 8) (hk : k < 8) :
    (l.foldl (fun s j => s.setO i (j + 1) 0 (g j)) s).o i (k + 1) = if k ∈ l then g k else s.o i (k + 1) := by
  induction l generalizing s with
  | nil => rfl
  | cons j l ih =>
    have hj := hl j List.mem_cons_self
    rw [List.foldl_cons, ih _ fun m hm => hl m (List.mem_cons_of_mem j hm)]
    by_cases hkj : k = j
    · subst hkj
      simp
    · rw [State.o_setO_sub (by omega) (by omega) (by decide) (by omega)]
      simp [hkj]

theorem State.o_tempRead_top (l : List Int) : (s.tempRead l).o 0xB851 9 = ofSigned 8 (l.foldl max (-128)) := State.o_setO_self _ _ _ _ _

theorem State.o_tempRead (l : List Int) {i : Nat} (hi : i < 8) : (s.tempRead l).o 0xB851 (i + 1) = ofSigned 8 (l.getD i 0) := by
  rw [State.tempRead, State.o_setO_sub (by decide) (by omega) (by decide) (by omega),
    State.o_foldl_setO (fun k => ofSigned 8 (l.getD k 0)) 0xB851 i (List.range 8) s (fun j hj => List.mem_range.1 hj) hi,
    if_pos (List.mem_range.2 hi)]

/-- A sample that does not cross the warning of R523: its readings, then the condition of source 0xA3 by its limits. -/
theorem exec_tempSample {l : List Int} (hlen : l.length = 8) (hwarn : l.foldl max (-128) < 115 ∨ 115 ≤ s.oi 0xB851 9)
    (hlevel : (0xA3, 0) ∉ s.fc.levels) : exec (.tempSample l) s =
      .next (if l.foldl max (-128) ≥ 125 ∨ pairsApart 10 l = true then ((s.tempRead l).levelSet 0xA3 0 true).report
        { source := 0xA3, syndrome := ofSigned 8 (l.foldl max (-128)) * 2 ^ 24 } else s.tempRead l) := by
  have hnowarn : ¬(decide (l.foldl max (-128) ≥ 115) && decide (s.oi 0xB851 9 < 115)) = true := by
    simp only [Bool.and_eq_true, decide_eq_true_eq]
    omega
  have hread : (s.tempRead l).fc.levels.contains (0xA3, 0) = false := by
    rw [State.tempRead_onlyOd]
    simpa using hlevel
  have hrun : exec (.tempSample l) s = if !(s.tempRead l).fc.levels.contains (0xA3, 0) && (l.foldl max (-128) ≥ 125 || pairsApart 10 l)
      then .next (((s.tempRead l).levelSet 0xA3 0 true).report { source := 0xA3, syndrome := ofSigned 8 (l.foldl max (-128)) * 2 ^ 24 })
      else if (s.tempRead l).fc.levels.contains (0xA3, 0) && l.foldl max (-128) < 120 && !pairsApart 5 l
      then .next ((s.tempRead l).levelSet 0xA3 0 false) else .next (s.tempRead l) := by
    change execTempSample l s = _
    unfold execTempSample
    rw [if_neg (by simp [hlen])]
    dsimp only
    rw [if_neg hnowarn]
    rfl
  rw [hrun, hread]
  by_cases hhigh : l.foldl max (-128) ≥ 125 ∨ pairsApart 10 l = true <;> simp [hhigh]

/-- Settles O13: a reading is kept, then judged. -/
theorem monitorsReport : Obligations.MonitorsReport := by
  intro s
  refine ⟨fun rail mv hlow hhigh => ?inside, fun rail mv hrail hout => ?outside, fun l hlen hcool hpairs hlevel => ?cool,
    fun l hlen hhot hbefore hlevel => ?hot, fun ppm hppm => congrArg Host.Outcome.next (if_pos hppm),
    fun ppm hppm => congrArg Host.Outcome.next (if_neg (Nat.not_lt.2 hppm))⟩
  case inside =>
    have hcore : rail.val = 0 → (mv < 740 || mv > 860) = false := by
      intro h
      rw [h] at hlow hhigh
      simp only [railWindow] at hlow hhigh
      simp only [Bool.or_eq_false_iff, decide_eq_false_iff_not]
      omega
    rw [exec_railMonitorWarning_inside hlow hhigh, State.railRead]
    split
    next h => rw [hcore h]
    next => rfl
  case outside => exact exec_railMonitorWarning_outside hrail hout
  case cool =>
    refine ⟨_, (exec_tempSample hlen (.inl hcool) hlevel).trans ?_, State.tempRead_onlyOd l, State.o_tempRead_top l,
      fun i hi => State.o_tempRead l hi⟩
    refine congrArg Host.Outcome.next (if_neg ?_)
    rintro (h | h)
    · omega
    · simp [hpairs] at h
  case hot =>
    refine ⟨_, State.tempRead_onlyOd l, State.o_tempRead_top l, (exec_tempSample hlen (.inr hbefore) hlevel).trans ?_⟩
    exact congrArg Host.Outcome.next (if_pos (.inl hhot))

end Sys2Proof.Machine
end

section
/-!
PROOF. Reports and their reaction (R449–R458). The built-in effects of a source come before its reaction: source 0x80 is a corrected one whose
REACTION is 0 after reset, and its effect writes an anchor copy of the flash (R425), which is outside the collector.
-/

namespace Sys2Proof.Machine

open Sys2Proof

/-- The report of an anchor copy rewritten, in the hub after reset: a corrected one, without a reaction. -/
theorem anchorReport_corrected : srcClass 0x80 = 0 ∧ State.reset.reaction 0x80 = 0 := by decide

/-- Its effect advances the anchors' number, and the report keeps it. -/
theorem anchorReport_anchorSeq :
    ((State.reset.builtIn { source := 0x80 }).report { source := 0x80 }).flash.anchorSeq = 1 ∧ State.reset.flash.anchorSeq = 0 := by
  decide +kernel

/-- Refutes O14: the hub after reset, reported source 0x80 (anchor copy rewritten), changes the flash's anchors. -/
theorem not_reportsAreRecorded : ¬ Obligations.ReportsAreRecorded := by
  intro h
  obtain ⟨-, -, -, hcorrected⟩ := h State.reset { source := 0x80 }
  obtain ⟨hclass, hreaction⟩ := anchorReport_corrected
  obtain ⟨hafter, hbefore⟩ := anchorReport_anchorSeq
  obtain ⟨t, hexec, hframe, -⟩ := hcorrected hclass hreaction rfl rfl
  have ht : t = (State.reset.builtIn { source := 0x80 }).report { source := 0x80 } := (Host.Outcome.next.inj hexec).symm
  have hflash : t.flash = State.reset.flash := by rw [hframe]
  rw [← ht, hflash, hbefore] at hafter
  exact absurd hafter (by decide)

end Sys2Proof.Machine
end

section
/-!
PROOF. The collector's recovery (R452, R454, R455, R457, R460, R467).
-/

namespace Sys2Proof.Machine

open Sys2Proof

variable {s : State}

/-! ### The quiet period -/

/-- The recovery counted, and the collector back at normal. -/
def State.recovered (s : State) : State :=
  let t := s.recoveryNote.bump 0xA004 1
  { t with fc := { t.fc with state := .normal, fatal := false, byReaction := false } }

theorem exec_quietPeriodExpiry_recovered (hst : s.fc.state = .faulted) (hlevel : s.levelHeld = false)
    (hquiet : ticksMs (s.o 0xA003 1) + s.fc.quietSince ≤ s.clock) (hroom : s.recoveryFull = false)
    (hmode : s.modes.mode ≠ .failsafe) : exec .quietPeriodExpiry s = .next s.recovered := by
  have hrun : ¬(decide (s.fc.state ≠ .faulted) || s.levelHeld ||
      decide (s.clock < ticksMs (s.o 0xA003 1) + s.fc.quietSince)) = true := by
    simp [hst, hlevel, Nat.not_lt.2 hquiet]
  have hstay : (decide ((s.recoveryNote.bump 0xA004 1).modes.mode = .failsafe) &&
      (s.recoveryNote.bump 0xA004 1).fc.byReaction) = false := by
    simp [State.bump_frame, State.recoveryNote, hmode]
  change execQuietPeriodExpiry s = _
  rw [execQuietPeriodExpiry, if_neg hrun, if_neg (by simp [hroom])]
  exact congrArg Host.Outcome.next (if_neg (by rw [hstay]; decide))

theorem State.recovered_onlyCollector (s : State) : s.recovered = { s with fc := s.recovered.fc, od := s.recovered.od } := by
  obtain ⟨d, hd⟩ := (State.bump_onlyOd s.recoveryNote 0xA004 1 0).exists_od
  unfold State.recovered
  rw [hd]
  rfl

theorem State.o_recovered (s : State) : s.recovered.o 0xA004 1 = min (s.o 0xA004 1 + 1) 0xFFFFFFFF := by
  have hcount : (s.recoveryNote.bump 0xA004 1).o 0xA004 1 = min (s.o 0xA004 1 + 1) 0xFFFFFFFF := State.o_bump_self ..
  unfold State.recovered
  generalize s.recoveryNote.bump 0xA004 1 = t at hcount ⊢
  exact hcount

/-! ### The fault queue read -/

theorem length_leBytes (n v : Nat) : (leBytes n v).length = n := by
  have hbe : ∀ n, (beBytes n v).length = n := fun n => by
    induction n with
    | zero => rfl
    | succ n ih => rw [beBytes, List.length_cons, ih]
  rw [leBytes, List.length_reverse, hbe]

theorem length_faultBytes (r : FaultRec) : (faultBytes r).length = 16 := by
  simp [faultBytes, length_leBytes]

theorem length_flatMap_faultBytes (l : List (Nat × FaultRec)) : (l.flatMap fun r => faultBytes r.2).length = l.length * 16 := by
  simp [List.length_flatMap, length_faultBytes]

/-- At most 64 records and the mark before them. -/
theorem State.length_faultReadOut_le (s : State) (n : Nat) : (s.faultReadOut n).1.length ≤ 65 * 16 := by
  rw [State.faultReadOut]
  split
  · exact Nat.zero_le _
  · next p r rest hl =>
    have hrecs : ((p, r) :: rest).length ≤ 64 := hl ▸ List.length_take_le ..
    rw [List.length_append, hl, length_flatMap_faultBytes]
    split
    · rw [length_faultBytes]; omega
    · rw [List.length_nil]; omega

/-- Settles O15: each command in turn; the quiet period's end by `State.recovered`, the read by its count of records. -/
theorem collectorRecovers : Obligations.CollectorRecovers := by
  intro s
  refine ⟨fun hr hs => ?_, fun hv hw hr => ?_, fun hv hw hr => ?_, fun hst hl hq hf hm => ?_, fun c hc => ?_, rfl, rfl,
    fun n hn => ⟨?_, s.length_faultReadOut_le n⟩⟩
  · change execReactionComplete s = _
    simp only [execReactionComplete, List.isEmpty_eq_false_iff.2 hr, hs, Bool.or_self, Bool.false_eq_true, if_false]
    split <;> rfl
  · change execFcFirstClear s = _
    simp [execFcFirstClear, State.firstClear, hv, hw, hr, State.firstEmpty]
  · change execFcFirstClear s = _
    simp [execFcFirstClear, State.firstClear, hv, hw, hr]
  · exact ⟨s.recovered, exec_quietPeriodExpiry_recovered hst hl hq hf hm, rfl, rfl, s.o_recovered, s.recovered_onlyCollector⟩
  · exact if_neg (by simp [hc])
  · exact if_neg (by simp [hn])

end Sys2Proof.Machine
end

section
/-!
PROOF. Scrub passes and late passes (R27, R461–R463).
-/

namespace Sys2Proof.Machine

open Sys2Proof

variable {s : State}

/-- A word that neither of the last two passes corrected is no hard error. -/
theorem State.scrubOne_soft {before : List (List Nat)} {a : Nat} (hnew : ∀ l ∈ before, a ∉ l) :
    s.scrubOne false before a = s.report { source := 0x10, address := a } := by
  have hsoft : (before.any (·.contains a)) = false := by simpa using hnew
  unfold State.scrubOne
  rw [hsoft]
  rfl

/-- Settles O16: the passes run with empty lists of corrections and checkers; the overrun stays within its field. -/
theorem scrubbersReport : Obligations.ScrubbersReport := by
  intro s
  refine ⟨fun hon hr hb => if_neg (by simp [hon, hr, hb]), fun hon hr hb hd => if_neg (by simp [hon, hr, hb, hd]),
    fun a hnew => State.scrubOne_soft hnew, fun activity ms ha hlt hms => ?_, fun ms hlate hms => ?_⟩
  · change execBackgroundPassLate activity ms s = _
    rw [execBackgroundPassLate, if_neg (by simp [ha]), Nat.mod_eq_of_lt hlt, Nat.min_eq_left (by omega)]
  · change execBackgroundPassLate 0 ms s = _
    rw [execBackgroundPassLate, if_pos (by simp [hlate]), Nat.min_eq_left (by omega)]
    simp

end Sys2Proof.Machine
end

section
/-!
PROOF. The requests of an open session in which nothing waits (R35, R38–R40, R46, R548).
-/

namespace Sys2Proof.Machine

open Sys2Proof

variable {s : State}

/-! ### Tables and sessions written twice -/

theorem tput_tput {α : Type} (k : Nat) (v w : α) (t : Tab α) : tput k w (tput k v t) = tput k w t := by
  induction t with
  | nil => simp [tput]
  | cons p t ih =>
    obtain ⟨j, x⟩ := p
    unfold tput
    rcases Nat.lt_trichotomy k j with hlt | rfl | hgt
    · simp [hlt, tput]
    · simp [tput]
    · simp [Nat.lt_asymm hgt, Nat.ne_of_gt hgt, tput, ih]

theorem tdel_tput {α : Type} (k : Nat) (v : α) (t : Tab α) : tdel (tput k v t) k = tdel t k := by
  induction t with
  | nil => simp [tput, tdel]
  | cons p t ih =>
    obtain ⟨j, x⟩ := p
    unfold tput
    split
    · simp [tdel]
    · split
      · next _ hkj => simp [tdel, hkj]
      · simp only [tdel, List.filter_cons] at ih ⊢
        rw [ih]

/-- Of two writes of one entry the second stands, where the first left an entry. -/
theorem tset_tset {α : Type} [DecidableEq α] {d v : α} (hv : v ≠ d) (k : Nat) (w : α) (t : Tab α) :
    tset d (tset d t k v) k w = tset d t k w := by
  simp only [tset, tsetF, if_neg hv, tput_tput, tdel_tput]

theorem State.setSession_setSession {n : Nat} {v : Session} (hv : v.isOpen = true) (w : Session) :
    (s.setSession n v).setSession n w = s.setSession n w := by
  have hne : v ≠ {} := fun h => by rw [h] at hv; cases hv
  unfold State.setSession
  simp only [tset_tset hne]

/-! ### Numbers as bytes -/

theorem foldl_beBytes (n v a : Nat) : (beBytes n v).foldl (fun a b => a * 256 + b.toNat) a = a * 256 ^ n + v % 256 ^ n := by
  induction n generalizing a with
  | zero => simp [beBytes, Nat.mod_one]
  | succ n ih =>
    have hdigits : v % 256 ^ (n + 1) = v / 256 ^ n % 256 * 256 ^ n + v % 256 ^ n := by
      rw [Nat.pow_succ, Nat.mod_mul, Nat.mul_comm, Nat.add_comm]
    rw [beBytes, List.foldl_cons, ih, hdigits, BitVec.toNat_ofNat, Nat.pow_succ]
    ring

@[simp] theorem ofBe_beBytes (n v : Nat) : ofBe (beBytes n v) = v % 256 ^ n := by
  rw [ofBe, foldl_beBytes, Nat.zero_mul, Nat.zero_add]

@[simp] theorem length_beBytes (n v : Nat) : (beBytes n v).length = n := by
  induction n with
  | zero => rfl
  | succ n ih => rw [beBytes, List.length_cons, ih]

theorem take_beBytes_append (n v : Nat) (l : List Byte) : (beBytes n v ++ l).take n = beBytes n v :=
  List.take_left' (length_beBytes n v)

theorem drop_beBytes_append (n v : Nat) (l : List Byte) : (beBytes n v ++ l).drop n = l :=
  List.drop_left' (length_beBytes n v)

/-! ### A request alone in its session -/

theorem State.session_mbServe (s : State) (p : Path) (n : Nat) : (s.mbServe p).session n = s.session n := by
  unfold State.mbServe
  split <;> rfl

theorem State.owns_mbServe (s : State) (p : Path) (t : Txn) : (s.mbServe p).owns t = s.owns t := by
  rw [State.owns, State.session_mbServe, State.owns]

theorem State.pathUp_mbServe (s : State) (p q : Path) : (s.mbServe p).pathUp q = s.pathUp q := by
  unfold State.mbServe
  split <;> rfl

theorem State.clock_mbServe (s : State) (p : Path) : (s.mbServe p).clock = s.clock := by
  unfold State.mbServe
  split <;> rfl

theorem State.session_serve (s : State) (t : Txn) :
    (s.serve t).session t.sess = { s.session t.sess with lastUsed := s.clock, serving := some t } :=
  State.session_setSession_self ..

/-- A sound request goes on to what its path carries. -/
theorem State.request_sound {t : Txn} {cmd : Nat} {data : List Byte} (huart : uartBad t data = false) (hup : s.pathUp t.path = true)
    (htxn : txnBad t cmd = false) (run : State → State) : s.request t cmd data run = run (s.mbServe t.path) := by
  simp [State.request, huart, State.pathUp_mbServe, hup, htxn]

/-- A request alone in its session is served at once. -/
theorem State.request_alone {t : Txn} {cmd : Nat} {data : List Byte} (h : s.alone t cmd data) :
    s.request t cmd data (fun u => u.arrive t data) = (s.serve t).runTxn t.sess t data := by
  obtain ⟨huart, hup, htxn, howns, hopen, hserving, hwaiting, hsegs⟩ := h
  rw [State.request_sound huart hup htxn]
  have hserved : s.serve t = (s.mbServe t.path).setSession t.sess
      { s.session t.sess with lastUsed := s.clock, serving := some t, waiting := [], segs := [] } := by
    rw [State.serve]; congr 1; rw [← hwaiting, ← hsegs]
  simp only [State.arrive, State.owns_mbServe, State.session_mbServe, State.clock_mbServe, howns, hopen,
    State.session_setSession_self, Session.unfinished, Session.segOf, Session.tags, hserving, hwaiting, hsegs, State.serveNext]
  simp [State.setSession_setSession, hserved, hopen]

theorem cmd_of_not_txnBad {t : Txn} {cmd : Nat} (h : txnBad t cmd = false) : t.cmd = cmd := by
  simp only [txnBad, Bool.or_eq_false_iff, decide_eq_false_iff_not, ne_eq, not_not] at h
  exact h.1.2

theorem Session.segDrop_of_no_segs {x : Session} (h : x.segs = []) (tag : Nat) : x.segDrop tag = x := by
  obtain ⟨⟩ := x
  subst h
  rfl

/-- The last segment of a write that is all of it brings its bytes. -/
theorem State.gather_whole {t : Txn} {n : Nat} {data : List Byte} {run : State → List Byte → State}
    (hsegs : (s.session n).segs = []) (hlast : bitOf t.flags 0 = true) (hoff : t.off = 0) :
    s.gather n t data run = run (s.setSession n (s.session n)) data := by
  simp [State.gather, Session.segDrop_of_no_segs hsegs, Session.segOf, hsegs, hlast, hoff]

theorem State.gather_serve {t : Txn} {data : List Byte} {run : State → List Byte → State}
    (hopen : (s.session t.sess).isOpen = true) (hsegs : (s.session t.sess).segs = []) (hlast : bitOf t.flags 0 = true)
    (hoff : t.off = 0) : (s.serve t).gather t.sess t data run = run (s.serve t) data := by
  have hstill : (s.serve t).setSession t.sess ((s.serve t).session t.sess) = s.serve t := by
    rw [State.session_serve]
    exact State.setSession_setSession (s := s.mbServe t.path)
      (v := { s.session t.sess with lastUsed := s.clock, serving := some t }) hopen _
  rw [State.gather_whole (by rw [State.session_serve]; exact hsegs) hlast hoff, hstill]

/-- A session in which nothing waits closes unanswered. -/
theorem State.closeAnswer_idle {n : Nat} (hserving : (s.session n).serving = none) (hwaiting : (s.session n).waiting = []) :
    s.closeAnswer n = s.closeSession n := by
  simp [State.closeAnswer, hserving, hwaiting]

theorem State.session_answerAs_serving {n : Nat} {t : Txn} (hopen : (s.session n).isOpen = true)
    (hserving : (s.session n).serving = some t) (cmd : Nat) (r : Resp) :
    (s.answerAs n cmd r).session n = { s.session n with serving := none } := by
  rw [s.answerAs_serving hopen hserving, State.session_respond, State.session_setSession_self]

theorem State.closeAnswer_served {t : Txn} (hopen : (s.session t.sess).isOpen = true) (hwaiting : (s.session t.sess).waiting = [])
    (cmd : Nat) (r : Resp) : ((s.serve t).answerAs t.sess cmd r).closeAnswer t.sess = ((s.serve t).answerAs t.sess cmd r).closeSession t.sess := by
  have hx : ((s.serve t).answerAs t.sess cmd r).session t.sess = { s.session t.sess with lastUsed := s.clock, serving := none } := by
    rw [State.session_answerAs_serving (t := t) (by rw [State.session_serve]; exact hopen) (by rw [State.session_serve]),
      State.session_serve]
  exact State.closeAnswer_idle (by rw [hx]) (by rw [hx]; exact hwaiting)

/-- Settles O18: a request alone in its session is what its command does to the session that serves it. -/
theorem sessionRequestsAreServed : Obligations.SessionRequestsAreServed := by
  intro s t
  have hrun : ∀ {cmd : Nat} {data : List Byte} {v : State}, s.alone t cmd data → (s.serve t).runTxn t.sess t data = v →
      Host.Outcome.next (s.request t cmd data (fun u => u.arrive t data)) = (.next v : Host.Outcome State Fault Refusal) :=
    fun h hv => congrArg _ ((State.request_alone h).trans hv)
  refine ⟨fun h => hrun h ?close, fun h => hrun h ?keep, fun h => hrun h ?read, fun h => hrun h ?readStaged,
    fun data h hlast hoff hobj => hrun h ?write, fun addr len h hlen => hrun h ?fabricRead, fun addr data h hlast hoff => hrun h ?fabricWrite⟩
  all_goals
    obtain ⟨-, -, htxn, -, hopen, -, hwaiting, hsegs⟩ := h
    unfold State.runTxn
    rw [cmd_of_not_txnBad htxn]
  case close => exact State.closeAnswer_served hopen hwaiting ..
  case keep => rfl
  case read => rfl
  case readStaged => rfl
  case write =>
    refine (if_neg ?_).trans (State.gather_serve hopen hsegs hlast hoff)
    simpa using hobj
  case fabricRead =>
    have haddr : addr.toNat % 256 ^ 6 = addr.toNat := Nat.mod_eq_of_lt addr.isLt
    have hlen' : len % 256 ^ 2 = len := Nat.mod_eq_of_lt hlen
    simp only [fabReadData, take_beBytes_append, drop_beBytes_append, ofBe_beBytes, haddr, hlen']
  case fabricWrite =>
    have haddr : addr.toNat % 256 ^ 6 = addr.toNat := Nat.mod_eq_of_lt addr.isLt
    simp only [State.gather_serve hopen hsegs hlast hoff, fabWriteData, hoff, if_true, take_beBytes_append, drop_beBytes_append,
      ofBe_beBytes, haddr]

end Sys2Proof.Machine
end

section
/-!
PROOF. Commits (R49–R55, R289, R431): taken, refused, cancelled, frozen, applied and stored.
-/

namespace Sys2Proof.Machine

open Sys2Proof

variable {s : State}

/-! ### The commit command -/

theorem State.commitNow_barred {n c off : Nat} (h : s.commitBar (s.session n).epoch (s.session n).staging = some (c, off)) :
    s.commitNow n = (s.commitResult c (off / 256) (off % 256)).answer n (.abort c) := by
  simp only [State.commitNow, h, State.commitFail]

theorem State.commitNow_now {n : Nat} (h : s.commitBar (s.session n).epoch (s.session n).staging = none) (hw : s.commitWhen n = .ok .now)
    (hm : s.mirrors = false) : s.commitNow n =
      (((s.setSession n { s.session n with staging := [] }).applySet (s.session n).staging).answer n (.ok [])).closePaths := by
  simp [State.commitNow, h, hw, hm]

/-- The commit waits for its instant. -/
def State.commitPends (s : State) (n : Nat) (c : PendingCommit) : State :=
  let t := s.setSession n { s.session n with staging := [] }
  { t with dict := { t.dict with pendingCommit := some c } }

theorem State.commitNow_wt {n ns : Nat} (h : s.commitBar (s.session n).epoch (s.session n).staging = none)
    (hw : s.commitWhen n = .ok (.wt ns)) : s.commitNow n = (s.commitPends n
      { owner := some n, set := (s.session n).staging, epoch := (s.session n).epoch, at_ := .wt ns }).answer n (.ok []) := by
  simp only [State.commitNow, h, hw]
  rfl

theorem State.session_commitPends (s : State) (n : Nat) (c : PendingCommit) :
    (s.commitPends n c).session n = { s.session n with staging := [] } := State.session_setSession_self ..

/-! ### Cancelled commits -/

/-- The set of a cancelled commit is staged again, under what has been staged since. -/
def State.cancelledOwn (s : State) (n : Nat) (c : PendingCommit) (back : List Staged) : State :=
  { s with dict := { s.dict with pendingCommit := none } }.setSession n { s.session n with staging := back, epoch := c.epoch }

theorem State.cancelOwn_ok {n : Nat} {c : PendingCommit} (hc : s.dict.pendingCommit = some c) (hn : c.owner = some n)
    (hlen : (c.set.filter (fun e => !(s.session n).staging.any (fun y => stagedKey y = stagedKey e)) ++ (s.session n).staging).length ≤ 4096)
    (hbytes : stagedBytes (c.set.filter (fun e => !(s.session n).staging.any (fun y => stagedKey y = stagedKey e))
      ++ (s.session n).staging) ≤ 65536) :
    s.cancelOwn n = .ok (s.cancelledOwn n c
      (c.set.filter (fun e => !(s.session n).staging.any (fun y => stagedKey y = stagedKey e)) ++ (s.session n).staging)) := by
  have hroom : ¬ ((decide (4096 < (c.set.filter (fun e => !(s.session n).staging.any (fun y => stagedKey y = stagedKey e)) ++
      (s.session n).staging).length) || decide (65536 < stagedBytes (c.set.filter
        (fun e => !(s.session n).staging.any (fun y => stagedKey y = stagedKey e)) ++ (s.session n).staging))) = true) := by
    simpa using ⟨by simpa using hlen, hbytes⟩
  simp only [State.cancelOwn, hc, hn, ne_eq, not_true, if_false]
  exact if_neg hroom

theorem State.cancelAny_ok {c : PendingCommit} (hc : s.dict.pendingCommit = some c) :
    s.cancelAny = .ok ({ s with dict := { s.dict with pendingCommit := none } }.commitResult Abort.commitCancelled 0 0) := by
  simp only [State.cancelAny, State.commitDrop, hc]

/-! ### Pending commits and the store -/

theorem State.mirror_single (h : s.mirrors = false) (r : MirrorRec) : s.mirror r = s := by
  refine if_pos ?_
  rw [State.mirrors, Bool.and_eq_false_iff] at h
  simpa using h

theorem exec_commitApply {c : PendingCommit} {e : Nat} (hc : s.dict.pendingCommit = some c) (hf : c.frozen = some e)
    (he : e ≤ s.time.ltb) (hm : s.mirrors = false) : exec .commitApply s =
      .next (({ s with dict := { s.dict with pendingCommit := none } }.applySet c.set).closePaths) := by
  change execCommitApply s = _
  simp only [execCommitApply, hc, hf, Nat.not_lt.2 he, if_false]
  exact congrArg (fun u : State => Host.Outcome.next ((u.applySet c.set).closePaths))
    (State.mirror_single (s := { s with dict := { s.dict with pendingCommit := none } }) hm _)

/-- What a commit has stored. -/
theorem State.commitStored_spec (s : State) (l : List Staged) : (s.commitStored l).dict.toStore = none ∧
    (s.commitStored l).flash.cfg = (s.cfgRecords l ++ [cfgMarker]).foldl cfgAdd s.flash.cfg ∧ (s.commitStored l).od = s.od ∧
    s.commitStored l = { s with
      dict := (s.commitStored l).dict, flash := (s.commitStored l).flash, store := (s.commitStored l).store } :=
  ⟨rfl, rfl, rfl, rfl⟩

/-- Settles O23: the commands of a session that may write COMMIT_CMD, then what becomes of a pending commit and of its records. -/
theorem commitsAreTakenAndApplied : Obligations.CommitsAreTakenAndApplied := by
  intro s
  refine ⟨fun n hn => ⟨fun hbar hw hm => ?now, fun ns hbar hw => ?later, fun c off hbar => ?barred, ?discard, fun c hc howner => ?cancelOwn,
    fun c hc => ?cancelAny⟩, fun c e hc hf he hm => exec_commitApply hc hf he hm, fun c k cy hc hat hf hfire hlock => ?freeze,
    fun l hl hwp => ?store, fun i l rest hcfg hrest hfree => ?compact⟩
  case now => exact congrArg Host.Outcome.next ((State.asWrite_of_mayWrite hn _).trans (State.commitNow_now hbar hw hm))
  case later =>
    exact ⟨s.commitPends n _, congrArg Host.Outcome.next ((State.asWrite_of_mayWrite hn _).trans (State.commitNow_wt hbar hw)),
      by rw [s.session_commitPends], rfl, rfl⟩
  case barred => exact congrArg Host.Outcome.next ((State.asWrite_of_mayWrite hn _).trans (State.commitNow_barred hbar))
  case discard => exact congrArg Host.Outcome.next (State.asWrite_act_ok hn (f := fun u => .ok (u.discardSet n)) rfl)
  case cancelOwn =>
    intro back hlen hbytes
    refine ⟨s.cancelledOwn n c back, congrArg Host.Outcome.next (State.asWrite_act_ok hn (f := fun u => u.cancelOwn n)
      (State.cancelOwn_ok hc howner hlen hbytes)), rfl, rfl, ?_, ?_⟩ <;>
    rw [State.cancelledOwn, State.session_setSession_self]
  case cancelAny => exact congrArg Host.Outcome.next (State.asWrite_act_ok hn (f := fun u => u.cancelAny) (State.cancelAny_ok hc))
  case freeze =>
    change execCommitFreeze s = _
    simp only [execCommitFreeze, hc, hat, hf, gt_iff_lt, Nat.not_lt.2 hfire, hlock, if_false, if_true]
  case store =>
    refine ⟨s.commitStored l, ?_, s.commitStored_spec l⟩
    change execConfigStoreCommitWrite true s = _
    simp [execConfigStoreCommitWrite, hl, hwp]
  case compact =>
    change execConfigStoreCompact s = _
    simp only [execConfigStoreCompact, hcfg]
    exact if_neg (by simp [hrest, Nat.not_le.2 hfree])

end Sys2Proof.Machine
end

section
/-!
PROOF. Flash erases and log pages (R316, R427, R429).
-/

namespace Sys2Proof.Machine

open Sys2Proof

variable {s : State}

/-- What is kept of an erase that has ended: its sector's count, and the journal's record of it. -/
def State.eraseNoted (s : State) (p n : Nat) : State :=
  ({ s with flash := { s.flash with counts := tset 0 s.flash.counts p n } }.bump 0x9002 1).journalWrite
    [{ typ := 2, logical := (s.logicalOf p).getD 0, phys := p, val := n }]

theorem State.o_eraseNoted_limit (s : State) (p n : Nat) : (s.eraseNoted p n).o 0x9001 7 = s.o 0x9001 7 := by
  have hbump : ({ s with flash := { s.flash with counts := tset 0 s.flash.counts p n } }.bump 0x9002 1).o 0x9001 7 = s.o 0x9001 7 :=
    State.o_bump_ne _ (by decide)
  unfold State.eraseNoted
  generalize State.bump _ 0x9002 1 = t at hbump ⊢
  rw [State.journalWrite_onlyFlash (s := t)]
  exact hbump

theorem State.eraseCounted_sound {p : Nat} (h : s.eraseCount p + 1 < s.o 0x9001 7) :
    s.eraseCounted p true = (s.eraseNoted p (s.eraseCount p + 1), []) := by
  refine if_neg ?_
  have hlimit := s.o_eraseNoted_limit p (s.eraseCount p + 1)
  unfold State.eraseNoted at hlimit
  simp [hlimit, h]

/-- Settles O24: the erase's end by `eraseCounted_sound`; the others by their conditions. -/
theorem flashWork : Obligations.FlashWork := by
  intro s
  refine ⟨fun e he hrun hcount => ?done, fun u e he hrun hfew hlong => ?suspend, fun hmode => ?resume, fun hdue => ?page⟩
  case done =>
    change execFlashEraseDone true s = _
    simp only [execFlashEraseDone, he, hrun, Bool.false_eq_true, if_false]
    rw [State.eraseCounted_sound]
    · rfl
    · exact hcount
  case suspend =>
    change execFlashEraseSuspend u s = _
    simp only [execFlashEraseSuspend, he, hrun]
    refine if_neg ?_
    rcases hlong with hfirst | hlong
    · simp [hfirst]
    · simp [Nat.not_le.2 hfew, Nat.not_lt.2 hlong]
  case resume => exact congrArg Host.Outcome.next (if_neg hmode)
  case page =>
    change execLogPageProgram true s = _
    simp [execLogPageProgram, hdue]

end Sys2Proof.Machine
end

section
/-!
PROOF. The mode requests (R65, R66, R68, R77, R80): judged as they come, and run on the state that has answered.
-/

namespace Sys2Proof.Machine

open Sys2Proof

variable {s : State}

/-! ### What an answer leaves -/

theorem State.answer_modes (n : Nat) (r : Resp) : (s.answer n r).modes = s.modes := by
  rw [State.answer, (s.answerAs_onlyAnswers n 0x11 r : State.answerAs s n 0x11 r = _)]

theorem State.answer_pair (n : Nat) (r : Resp) : (s.answer n r).pair = s.pair := by
  rw [State.answer, (s.answerAs_onlyAnswers n 0x11 r : State.answerAs s n 0x11 r = _)]

theorem State.answer_sec (n : Nat) (r : Resp) : (s.answer n r).sec = s.sec := by
  rw [State.answer, (s.answerAs_onlyAnswers n 0x11 r : State.answerAs s n 0x11 r = _)]

theorem State.answer_time (n : Nat) (r : Resp) : (s.answer n r).time = s.time := by
  rw [State.answer, (s.answerAs_onlyAnswers n 0x11 r : State.answerAs s n 0x11 r = _)]

theorem State.answer_phase (n : Nat) (r : Resp) : (s.answer n r).phase = s.phase := by
  rw [State.answer, (s.answerAs_onlyAnswers n 0x11 r : State.answerAs s n 0x11 r = _)]

theorem State.answer_pendingCommit (n : Nat) (r : Resp) : (s.answer n r).dict.pendingCommit = s.dict.pendingCommit := by
  rcases s.answerAs_cases n 0x11 r with ⟨-, h⟩ | ⟨t, -, h⟩ | ⟨t, h⟩ <;> rw [State.answer, h]
  · rw [State.respond_dict]
    rfl
  · rw [State.respond_dict]

theorem State.answer_inTransition (n : Nat) (r : Resp) : (s.answer n r).inTransition = s.inTransition := by
  rw [State.inTransition, s.answer_modes, s.answer_pair, State.inTransition]

theorem State.answer_returned (n : Nat) (r : Resp) : (s.answer n r).returned = s.returned := by
  rw [State.returned, s.answer_sec, State.returned]

theorem State.answer_isServing (n : Nat) (r : Resp) : (s.answer n r).serving = s.serving := by
  rw [State.serving, s.answer_modes, State.serving]

theorem State.answer_pairMember (n : Nat) (r : Resp) : (s.answer n r).pairMember = s.pairMember := by
  rw [State.pairMember, State.answer, State.answerAs_o s (by decide), State.pairMember]

theorem State.answer_gridAt (n : Nat) (r : Resp) (w : Nat) : (s.answer n r).gridAt w = s.gridAt w := by
  rw [State.gridAt, s.answer_time, State.gridAt]

theorem State.answer_dueSoon (n : Nat) (r : Resp) : (s.answer n r).dueSoon = s.dueSoon := by
  simp only [State.dueSoon, s.answer_time, s.answer_phase, s.answer_pendingCommit, s.answer_gridAt]

/-! ### A request that runs -/

/-- A request that its checks let through, before and after its answer, is answered and runs. -/
theorem modeReq_runs {n : Fin 32} {f : State → State × Option Nat} (h : s.mayWrite n 6 0x1101 0) (hjudge : (f s).2 = none) :
    s.asWrite n 6 0x1101 0 (fun u => u.modeReq n f) = (f (s.answer n (.ok []))).1 := by
  rw [State.asWrite_of_mayWrite h]
  simp [State.modeReq, h.1, hjudge]

theorem State.modeReturn_maintenance (ht : s.inTransition = false) (hr : s.returned = false) (hm : s.modes.mode = .maintenance) :
    s.modeReturn = (s.returnService, none) := by
  simp [State.modeReturn, hr, ht, hm]

theorem State.modeReturn_configure (ht : s.inTransition = false) (hr : s.returned = false) (hm : s.modes.mode = .configure)
    (hsel : s.modes.modeSel = 1) (hcfg : s.modes.cfgLoaded = true) : s.modeReturn = (s.setMode .join, none) := by
  simp [State.modeReturn, hr, ht, hm, hsel, hcfg]

theorem State.modeMaintenance_serving (ht : s.inTransition = false) (hs : s.serving = true) :
    s.modeMaintenance = (s.claimRelease.setMode .maintenance, none) := by
  simp [State.modeMaintenance, ht, hs]

theorem State.modeFailsafe_from (ht : s.inTransition = false) (hf : failsafeFrom s.modes.mode = true) :
    s.modeFailsafe = (State.withReports s.failsafe, none) := by
  simp [State.modeFailsafe, ht, hf]

theorem State.modeDoze_serving (ht : s.inTransition = false) (hs : s.serving = true) (hp : s.pairMember = false)
    (hd : s.dueSoon = false) : s.modeDoze = ({ s with modes := { s.modes with
      dozeFrom := s.modes.mode } }.dozePark.dozeCores.traceDrainAll.dozeDram.setMode .doze, none) := by
  simp [State.modeDoze, ht, hs, hp, hd]

theorem State.modeShutdown_from (ht : s.inTransition = false)
    (hm : s.serving = true ∨ s.modes.mode = .maintenance ∨ s.modes.mode = .failsafe) : s.modeShutdown = (s.shutdownBegin false, none) := by
  rcases hm with hs | hm | hm
  · unfold State.serving at hs
    split at hs
    · next hm => simp [State.modeShutdown, ht, hm]
    · next hm => simp [State.modeShutdown, ht, hm]
    · next hm => simp [State.modeShutdown, ht, hm]
    · cases hs
  · simp [State.modeShutdown, ht, hm]
  · simp [State.modeShutdown, ht, hm]

/-- Settles O25: each request is judged on the state it comes in, and again on the one that has answered, in which nothing it looks at
differs. -/
theorem modeRequestsRun : Obligations.ModeRequestsRun := by
  intro s n hn ht
  have hta : (s.answer n (.ok [])).inTransition = false := (s.answer_inTransition n _).trans ht
  have hma : (s.answer n (.ok [])).modes = s.modes := s.answer_modes n _
  refine ⟨fun hr hm => ?maintenance, fun hr hm hsel hcfg => ?configure, fun hs => ?toMaintenance, fun hf => ?failsafe, fun hs hp hd => ?doze,
    fun hm => ?shutdown⟩ <;> refine congrArg Host.Outcome.next ?_
  case maintenance =>
    refine (modeReq_runs hn (by rw [State.modeReturn_maintenance ht hr hm])).trans ?_
    rw [State.modeReturn_maintenance hta ((s.answer_returned n _).trans hr) (by rw [hma]; exact hm)]
  case configure =>
    refine (modeReq_runs hn (by rw [State.modeReturn_configure ht hr hm hsel hcfg])).trans ?_
    rw [State.modeReturn_configure hta ((s.answer_returned n _).trans hr) (by rw [hma]; exact hm) (by rw [hma]; exact hsel)
      (by rw [hma]; exact hcfg)]
  case toMaintenance =>
    refine (modeReq_runs hn (by rw [State.modeMaintenance_serving ht hs])).trans ?_
    rw [State.modeMaintenance_serving hta ((s.answer_isServing n _).trans hs)]
  case failsafe =>
    refine (modeReq_runs hn (by rw [State.modeFailsafe_from ht hf])).trans ?_
    rw [State.modeFailsafe_from hta (by rw [hma]; exact hf)]
  case doze =>
    refine (modeReq_runs hn (by rw [State.modeDoze_serving ht hs hp hd])).trans ?_
    rw [State.modeDoze_serving hta ((s.answer_isServing n _).trans hs) ((s.answer_pairMember n _).trans hp) ((s.answer_dueSoon n _).trans hd)]
  case shutdown =>
    refine (modeReq_runs hn (by rw [State.modeShutdown_from ht hm])).trans ?_
    rw [State.modeShutdown_from hta (by rw [s.answer_isServing, hma]; exact hm)]

end Sys2Proof.Machine
end

section
/-!
PROOF. What a change of mode and a report leave: the clock and, while a port is in the ring, the rule for its retraining; and under a
change of mode the image that runs, the security unit and, but for the entry itself, the modes.
-/

namespace Sys2Proof.Machine

open Sys2Proof

set_option Elab.async false

/-- RT_LIM sub 2 and RT_AUTO hold the values `cfg`, or neither port has joined. -/
def ringCfg (od : Tab Val) (x y : RingPort) (cfg : Nat × Nat) : Prop :=
  (valNat (tgetF objDefaultKey od (objKey 0x2006 2 0)) = cfg.1 ∧ valNat (tgetF objDefaultKey od (objKey 0x2007 0 0)) = cfg.2) ∨
    x.joined = false ∧ y.joined = false

/-- The clock stands at `c`, and the ring's ports are out of the ring or the rule for their retraining is `cfg`; where `k` says so, the
modes, the running image and the security unit are those of `q`. -/
def State.Keeps (s : State) (c : Nat) (k : Bool) (q : Modes × Nat × Security) (cfg : Nat × Nat) : Prop :=
  s.clock = c ∧ ringCfg s.od s.ring.a s.ring.b cfg ∧ (k = true → s.modes = q.1 ∧ s.flash.running = q.2.1 ∧ s.sec = q.2.2)

variable {c : Nat} {k : Bool} {q : Modes × Nat × Security} {cfg : Nat × Nat}

theorem State.keeps_refl (s : State) :
    s.Keeps s.clock k (s.modes, s.flash.running, s.sec) (s.o 0x2006 2, s.o 0x2007 0) :=
  ⟨rfl, .inl ⟨rfl, rfl⟩, fun _ => ⟨rfl, rfl, rfl⟩⟩

theorem State.keeps_ite {p : Prop} [Decidable p] {s t : State} (hs : s.Keeps c k q cfg) (ht : t.Keeps c k q cfg) :
    (if p then s else t).Keeps c k q cfg := by
  split
  · exact hs
  · exact ht

theorem State.keeps_if {p : Prop} [Decidable p] {s t : State} (hst : s.Keeps c k q cfg → t.Keeps c k q cfg) (h : s.Keeps c k q cfg) :
    (if p then t else s).Keeps c k q cfg := State.keeps_ite (hst h) h

theorem State.keeps_else {p : Prop} [Decidable p] {s t : State} (hst : s.Keeps c k q cfg → t.Keeps c k q cfg) (h : s.Keeps c k q cfg) :
    (if p then s else t).Keeps c k q cfg := State.keeps_ite h (hst h)

theorem State.keeps_modes {s : State} {m : Modes} (h : s.Keeps c false q cfg) : State.Keeps { s with modes := m } c false q cfg :=
  ⟨h.1, h.2.1, nofun⟩

theorem State.keeps_sw {s : State} {v : Switch} (h : s.Keeps c k q cfg) : State.Keeps { s with sw := v } c k q cfg := ⟨h.1, h.2⟩

theorem State.keeps_cores {s : State} {v : Cores} (h : s.Keeps c k q cfg) : State.Keeps { s with cores := v } c k q cfg := ⟨h.1, h.2⟩

theorem State.keeps_station {s : State} {v : Station} (h : s.Keeps c k q cfg) : State.Keeps { s with station := v } c k q cfg :=
  ⟨h.1, h.2⟩

/-! ### Under a change of mode -/

theorem ringCfg_tsetF {od : Tab Val} {x y : RingPort} {key : Nat} (h2 : objKey 0x2006 2 0 ≠ key) (h7 : objKey 0x2007 0 0 ≠ key)
    (v : Val) (h : ringCfg od x y cfg) : ringCfg (tsetF objDefaultKey od key v) x y cfg := by
  unfold ringCfg
  rw [tgetF_tsetF_ne _ h2, tgetF_tsetF_ne _ h7]
  exact h

theorem State.setO_keeps_of_ne {i j n : Nat} (h2 : objKey 0x2006 2 0 ≠ objKey i j n) (h7 : objKey 0x2007 0 0 ≠ objKey i j n) (v : Nat)
    {s : State} (h : s.Keeps c k q cfg) : (s.setO i j n v).Keeps c k q cfg :=
  ⟨h.1, ringCfg_tsetF h2 h7 _ h.2.1, h.2.2⟩

theorem State.setO_keeps (s : State) (index sub item n : Nat) (hi : 0x2008 ≤ index) (h : s.Keeps c k q cfg) :
    (s.setO index sub item n).Keeps c k q cfg :=
  State.setO_keeps_of_ne (by unfold objKey; omega) (by unfold objKey; omega) n h

theorem State.bumpBy_keeps (s : State) (index sub item by_ : Nat) (hi : 0x2008 ≤ index) (h : s.Keeps c k q cfg) :
    (s.bumpBy index sub item by_).Keeps c k q cfg :=
  s.setO_keeps index sub item _ hi h

theorem State.bump_keeps (s : State) (index sub item : Nat) (hi : 0x2008 ≤ index) (h : s.Keeps c k q cfg) :
    (s.bump index sub item).Keeps c k q cfg :=
  s.bumpBy_keeps index sub item 1 hi h

theorem State.emit_keeps (s : State) (o : Output) (h : s.Keeps c k q cfg) : (State.emit s o).Keeps c k q cfg := by
  unfold State.emit
  grind -ring -linarith -lia -ac [State.Keeps]

theorem State.event_keeps (s : State) (e : Event) (args : List Nat) (h : s.Keeps c k q cfg) : (State.event s e args).Keeps c k q cfg := by
  unfold State.event
  grind -ring -linarith -lia -ac [State.Keeps, State.emit_keeps]

theorem State.setChan_keeps (s : State) (c0 : Nat) (v : Chan) (h : s.Keeps c k q cfg) : (State.setChan s c0 v).Keeps c k q cfg := by
  unfold State.setChan
  grind -ring -linarith -lia -ac [State.Keeps]

theorem State.chanOrphan_keeps (s : State) (c0 : Nat) (h : s.Keeps c k q cfg) : (State.chanOrphan s c0).Keeps c k q cfg := by
  unfold State.chanOrphan
  grind -ring -linarith -lia -ac [State.Keeps, State.setChan_keeps]

theorem State.setEng_keeps (s : State) (e : Nat) (v : Engine) (h : s.Keeps c k q cfg) : (State.setEng s e v).Keeps c k q cfg := by
  unfold State.setEng
  grind -ring -linarith -lia -ac [State.Keeps]

theorem State.mute_keeps (s : State) (e : Nat) (h : s.Keeps c k q cfg) : (State.mute s e).Keeps c k q cfg := by
  unfold State.mute
  grind -ring -linarith -lia -ac [State.Keeps, State.chanOrphan_keeps, State.setEng_keeps]

theorem State.setCal_keeps (s : State) (i : Nat) (v : CalEntry) (h : s.Keeps c k q cfg) : (State.setCal s i v).Keeps c k q cfg := by
  unfold State.setCal
  grind -ring -linarith -lia -ac [State.Keeps]

theorem foldl_keeps_of_mem {α : Type} (g : State → α → State) (l : List α) (s : State)
    (hg : ∀ t, ∀ a ∈ l, t.Keeps c k q cfg → (g t a).Keeps c k q cfg) (h : s.Keeps c k q cfg) : (l.foldl g s).Keeps c k q cfg := by
  induction l generalizing s with
  | nil => exact h
  | cons a l ih =>
    exact ih _ (fun t b hb => hg t b (List.mem_cons_of_mem a hb)) (hg s a List.mem_cons_self h)

theorem foldl_keeps {α : Type} (g : State → α → State) (l : List α) (s : State)
    (hg : ∀ t a, t.Keeps c k q cfg → (g t a).Keeps c k q cfg) (h : s.Keeps c k q cfg) : (l.foldl g s).Keeps c k q cfg :=
  foldl_keeps_of_mem g l s (fun t a _ => hg t a) h

theorem State.calEndOne_keeps (s : State) (st : Nat) (reason : Nat) (i : Nat) (h : s.Keeps c k q cfg) : (State.calEndOne s st reason
    i).Keeps c k q cfg := by
  unfold State.calEndOne
  grind -ring -linarith -lia -ac [State.Keeps, foldl_keeps, State.bump_keeps, State.setCal_keeps, State.event_keeps, State.mute_keeps]

theorem State.setTrk_keeps (s : State) (k0 : Nat) (v : Tracker) (h : s.Keeps c k q cfg) : (State.setTrk s k0 v).Keeps c k q cfg := by
  unfold State.setTrk
  grind -ring -linarith -lia -ac [State.Keeps]

theorem State.tapSee_keeps (s : State) (c0 : Nat) (l : List Item) (h : s.Keeps c k q cfg) : (State.tapSee s c0 l).Keeps c k q cfg := by
  unfold State.tapSee
  grind -ring -linarith -lia -ac [State.Keeps, State.setTrk_keeps]

theorem State.chanWrite_keeps (s : State) (c0 : Nat) (i : Item) (h : s.Keeps c k q cfg) : someAll (fun t => t.Keeps c k q cfg)
    (State.chanWrite s
    c0 i) := by
  unfold State.chanWrite
  grind -ring -linarith -lia -ac [State.Keeps, someAll, State.bump_keeps, State.setChan_keeps, State.tapSee_keeps]

theorem State.chanWriteAll_keeps (s0 : State) (a1 : Nat) (a2 : List Item) (h0 : s0.Keeps c k q cfg) : (State.chanWriteAll s0 a1
    a2).1.Keeps c k q cfg := by
  induction a2 generalizing s0 <;> unfold State.chanWriteAll <;> grind -ring -linarith -lia -ac [State.Keeps, outInv, someAll, okAll,
    engResInv, pullInv, foldl_keeps, State.chanWrite_keeps]

theorem State.deliverItems_keeps (s : State) (cls : Nat) (c0 : Nat) (l : List Item) (h : s.Keeps c k q cfg) : (State.deliverItems s cls c0
    l).Keeps c k q cfg := by
  have hall := State.chanWriteAll_keeps s c0 l h
  rw [State.deliverItems]
  exact State.keeps_ite ⟨h.1, h.2⟩ (State.keeps_ite hall ⟨hall.1, hall.2⟩)

theorem State.epWrite_keeps (s : State) (ep : Nat) (l : List Item) (h : s.Keeps c k q cfg) : (State.epWrite s ep l).Keeps c k q cfg := by
  unfold State.epWrite
  grind -ring -linarith -lia -ac [State.Keeps, State.deliverItems_keeps]

theorem State.cswItem_keeps (s : State) (b : Nat) (p : Nat) (kind : Nat) (h : s.Keeps c k q cfg) : (State.cswItem s b p kind).Keeps c k q
    cfg :=
    by
  unfold State.cswItem
  grind -ring -linarith -lia -ac [State.Keeps, State.epWrite_keeps]

theorem State.setBrk_keeps (s : State) (b : Nat) (v : Breaker) (h : s.Keeps c k q cfg) : (State.setBrk s b v).Keeps c k q cfg := by
  unfold State.setBrk
  grind -ring -linarith -lia -ac [State.Keeps]

theorem State.cswAtOnce_keeps (s : State) (b : Nat) (h : s.Keeps c k q cfg) : (State.cswAtOnce s b).Keeps c k q cfg := by
  unfold State.cswAtOnce
  grind -ring -linarith -lia -ac [State.Keeps, foldl_keeps, State.cswItem_keeps, State.setBrk_keeps]

theorem State.cswCancel_keeps (s : State) (b : Nat) (h : s.Keeps c k q cfg) : (State.cswCancel s b).Keeps c k q cfg := by
  unfold State.cswCancel
  grind -ring -linarith -lia -ac [State.Keeps, foldl_keeps, State.calEndOne_keeps]

theorem State.cswLearn_keeps (s : State) (b : Nat) (p : Nat) (h : s.Keeps c k q cfg) : (State.cswLearn s b p).Keeps c k q cfg := by
  unfold State.cswLearn
  grind -ring -linarith -lia -ac [State.Keeps, State.setO_keeps]

theorem State.drew_keeps (s : State) (h : s.Keeps c k q cfg) : (State.drew s).Keeps c k q cfg := by
  unfold State.drew
  grind -ring -linarith -lia -ac [State.Keeps]

theorem State.cswFinish_keeps (s : State) (b : Nat) (h : s.Keeps c k q cfg) : (State.cswFinish s b).Keeps c k q cfg := by
  unfold State.cswFinish
  grind -ring -linarith -lia -ac [State.Keeps, foldl_keeps, State.cswLearn_keeps, State.setBrk_keeps, State.drew_keeps, State.bump_keeps,
    State.event_keeps]

theorem State.cswFallback_keeps (s : State) (b : Nat) (h : s.Keeps c k q cfg) : (State.cswFallback s b).Keeps c k q cfg := by
  unfold State.cswFallback
  grind -ring -linarith -lia -ac [State.Keeps, State.bump_keeps, State.cswFinish_keeps, State.setBrk_keeps, State.cswAtOnce_keeps]

theorem State.cswPoleFailed_keeps (s : State) (b : Nat) (h : s.Keeps c k q cfg) : (State.cswPoleFailed s b).Keeps c k q cfg := by
  unfold State.cswPoleFailed
  grind -ring -linarith -lia -ac [State.Keeps, State.cswCancel_keeps, State.cswAtOnce_keeps, State.setBrk_keeps, State.cswFallback_keeps]

theorem State.cswSettle_keeps (s : State) (b : Nat) (h : s.Keeps c k q cfg) : (State.cswSettle s b).Keeps c k q cfg := by
  unfold State.cswSettle
  grind -ring -linarith -lia -ac [State.Keeps, State.cswFinish_keeps]

theorem State.calEnd_keeps (s : State) (st : Nat) (reason : Nat) (i : Nat) (h : s.Keeps c k q cfg) : (State.calEnd s st reason i).Keeps c
    k q cfg
    := by
  unfold State.calEnd
  grind -ring -linarith -lia -ac [State.Keeps, State.calEndOne_keeps, State.cswPoleFailed_keeps, State.cswSettle_keeps, State.setBrk_keeps]

theorem State.calEndAll_keeps (s : State) (st : Nat) (reason : Nat) (p : CalEntry → Bool) (h : s.Keeps c k q cfg) : (State.calEndAll s st
    reason p).Keeps c k q cfg := by
  unfold State.calEndAll
  grind -ring -linarith -lia -ac [State.Keeps, foldl_keeps, State.calEnd_keeps]

theorem State.canFill_keeps (s : State) (k0 : Nat) (h : s.Keeps c k q cfg) : (State.canFill s k0).Keeps c k q cfg := by
  unfold State.canFill
  grind -ring -linarith -lia -ac [State.Keeps]

theorem State.noteSet_keeps (s : State) (k0 : Nat) (h : s.Keeps c k q cfg) : (State.noteSet s k0).Keeps c k q cfg := by
  unfold State.noteSet
  grind -ring -linarith -lia -ac [State.Keeps]

theorem State.noteAbort_keeps (s : State) (k0 : Nat) (one : Bool) (h : s.Keeps c k q cfg) : (State.noteAbort s k0 one).Keeps c k q cfg := by
  unfold State.noteAbort
  grind -ring -linarith -lia -ac [State.Keeps, State.noteSet_keeps]

theorem State.setCtl_keeps (s : State) (k0 : Nat) (v : CanCtl) (h : s.Keeps c k q cfg) : (State.setCtl s k0 v).Keeps c k q cfg := by
  unfold State.setCtl
  grind -ring -linarith -lia -ac [State.Keeps]

theorem State.canAbort_keeps (s : State) (k0 : Nat) (one : Bool) (onBus : Bool) (p : CanEntry → Bool) (h : s.Keeps c k q cfg) :
    (State.canAbort s k0 one onBus p).Keeps c k q cfg := by
  unfold State.canAbort
  grind -ring -linarith -lia -ac [State.Keeps, foldl_keeps, State.canFill_keeps, State.bumpBy_keeps, State.noteAbort_keeps,
    State.setCtl_keeps]

theorem State.canLeave_keeps (s : State) (k0 : Nat) (onBus : Bool) (h : s.Keeps c k q cfg) : (State.canLeave s k0 onBus).Keeps c k q cfg
    := by
  unfold State.canLeave
  grind -ring -linarith -lia -ac [State.Keeps, State.setCtl_keeps]

theorem State.canModeOne_keeps (s : State) (old : Mode) (k0 : Nat) (h : s.Keeps c k q cfg) : (State.canModeOne s old k0).Keeps c k q cfg
    := by
  unfold State.canModeOne
  grind -ring -linarith -lia -ac [State.Keeps, State.drew_keeps, State.canAbort_keeps, State.setCtl_keeps, State.canLeave_keeps]

theorem State.canModes_keeps (s : State) (old : Mode) (h : s.Keeps c k q cfg) : (State.canModes s old).Keeps c k q cfg := by
  unfold State.canModes
  grind -ring -linarith -lia -ac [State.Keeps, foldl_keeps, State.canModeOne_keeps]



/-- PERMIT's keys all lie below those of the rule for retraining. -/
theorem State.clearPermits_keeps (s : State) (h : s.Keeps c k q cfg) : s.clearPermits.Keeps c k q cfg := by
  refine foldl_keeps_of_mem _ _ _ (fun t i hi ht => ?_) h
  rw [List.mem_range] at hi
  exact State.setO_keeps_of_ne (by unfold objKey; omega) (by unfold objKey; omega) 0 ht

theorem State.canSession_keeps (s : State) (k0 : Nat) (base : Nat) (node : Nat) (b : List Byte) (h : s.Keeps c k q cfg) :
    (State.canSession s
    k0 base node b).Keeps c k q cfg := by
  unfold State.canSession
  grind -ring -linarith -lia -ac [State.Keeps, State.canFill_keeps]

theorem State.hostInt_keeps (s : State) (v : Nat) (h : s.Keeps c k q cfg) : (State.hostInt s v).Keeps c k q cfg := by
  have hnote := State.noteSet_keeps s (W1c.pend v) h
  rw [State.hostInt]
  exact State.keeps_ite h (State.keeps_ite hnote (State.keeps_ite ⟨hnote.1, hnote.2⟩ (State.keeps_ite ⟨hnote.1, hnote.2⟩
    (State.emit_keeps _ _ ⟨hnote.1, hnote.2⟩))))

theorem State.mbPut_keeps (s : State) (b : List Byte) (h : s.Keeps c k q cfg) : (State.mbPut s b).Keeps c k q cfg := by
  unfold State.mbPut
  grind -ring -linarith -lia -ac [State.Keeps, State.hostInt_keeps, State.noteSet_keeps]

theorem State.prpSent_keeps (s : State) (h : s.Keeps c k q cfg) : (State.prpSent s).Keeps c k q cfg := by
  unfold State.prpSent
  grind -ring -linarith -lia -ac [State.Keeps, State.bump_keeps]

theorem State.respondSeg_keeps (s : State) (t : Txn) (b : List Byte) (h : s.Keeps c k q cfg) : (State.respondSeg s t b).Keeps c k q cfg :=
    by
  unfold State.respondSeg
  grind -ring -linarith -lia -ac [State.Keeps, State.mbPut_keeps, State.canSession_keeps, State.prpSent_keeps, State.emit_keeps]

theorem State.respond_keeps (s : State) (t : Txn) (r : Resp) (h : s.Keeps c k q cfg) : (State.respond s t r).Keeps c k q cfg := by
  unfold State.respond
  grind -ring -linarith -lia -ac [State.Keeps, foldl_keeps, State.respondSeg_keeps, State.emit_keeps]

theorem State.setSession_keeps (s : State) (n : Nat) (v : Session) (h : s.Keeps c k q cfg) : (State.setSession s n v).Keeps c k q cfg := by
  unfold State.setSession
  grind -ring -linarith -lia -ac [State.Keeps]

theorem State.answerAs_keeps (s : State) (n : Nat) (cmd : Nat) (r : Resp) (h : s.Keeps c k q cfg) : (State.answerAs s n cmd r).Keeps c k q
    cfg :=
    by
  unfold State.answerAs
  grind -ring -linarith -lia -ac [State.Keeps, State.respond_keeps, State.setSession_keeps]

theorem State.answer_keeps (s : State) (n : Nat) (r : Resp) (h : s.Keeps c k q cfg) : (State.answer s n r).Keeps c k q cfg := by
  unfold State.answer
  grind -ring -linarith -lia -ac [State.Keeps, State.answerAs_keeps]

theorem State.commitResult_keeps (s : State) (code index sub : Nat) (h : s.Keeps c k q cfg) :
    (s.commitResult code index sub).Keeps c k q cfg :=
  State.event_keeps _ _ _ (State.setO_keeps_of_ne (by decide) (by decide) _ (State.setO_keeps_of_ne (by decide) (by decide) _ h))

theorem State.commitDrop_keeps (s : State) (code : Nat) (h : s.Keeps c k q cfg) : (State.commitDrop s code).Keeps c k q cfg := by
  unfold State.commitDrop
  grind -ring -linarith -lia -ac [State.Keeps, State.commitResult_keeps]

theorem State.commitCancelMode_keeps (s : State) (h : s.Keeps c k q cfg) : (State.commitCancelMode s).Keeps c k q cfg := by
  have hdrop := State.commitDrop_keeps s Abort.commitCancelledByModeChange h
  unfold State.commitCancelMode
  generalize State.commitDrop s _ = t at hdrop
  have hresult := State.commitResult_keeps { t with pair := { t.pair with commit := none, commitBy := none } }
    Abort.commitCancelledByModeChange 0 0 ⟨hdrop.1, hdrop.2⟩
  dsimp only
  split
  · split
    · exact State.answer_keeps _ _ _ hresult
    · exact hresult
  · exact hdrop

theorem State.holdLatch_keeps (s : State) (before : State) (all : Bool) (h : s.Keeps c k q cfg) : (State.holdLatch s before all).Keeps c k
    q cfg
    := by
  unfold State.holdLatch
  grind -ring -linarith -lia -ac [State.Keeps, foldl_keeps, State.setEng_keeps]

theorem State.setDram_keeps (s : State) (a : Nat) (b : Byte) (h : s.Keeps c k q cfg) : (s.setDram a b).Keeps c k q cfg := h

theorem State.writeDram_keeps (s0 : State) (a1 : Nat) (a2 : List Byte) (h0 : s0.Keeps c k q cfg) : (State.writeDram s0 a1 a2).Keeps c k q
    cfg :=
    by
  induction a2 generalizing s0 a1 <;> unfold State.writeDram <;> grind -ring -linarith -lia -ac [State.Keeps, outInv, someAll, okAll,
    engResInv, pullInv, foldl_keeps, State.setDram_keeps]

theorem State.dramStore_keeps (s : State) (a : Nat) (l : List Byte) (h : s.Keeps c k q cfg) : (State.dramStore s a l).Keeps c k q cfg := by
  have hwrite := State.writeDram_keeps s a l h
  exact ⟨hwrite.1, hwrite.2⟩

theorem State.logWrite_keeps (s : State) (r : LogRec) (h : s.Keeps c k q cfg) : (State.logWrite s r).Keeps c k q cfg := by
  have hstore : ∀ n, (s.dramStore (s.logSlot n) (logBytes r (r.flags ||| s.logFlags) n)).Keeps c k q cfg :=
    fun n => State.dramStore_keeps s _ _ h
  rw [State.logWrite]
  split
  · exact State.keeps_station (hstore _)
  · exact State.bump_keeps _ _ _ _ (by decide) (State.keeps_station (hstore _))

theorem State.logPut_keeps (s : State) (old : Bool) (r : LogRec) (h : s.Keeps c k q cfg) : (State.logPut s old r).Keeps c k q cfg := by
  unfold State.logPut
  grind -ring -linarith -lia -ac [State.Keeps, State.logWrite_keeps]

theorem State.logEnter_keeps (s : State) (r : LogRec) (h : s.Keeps c k q cfg) : (State.logEnter s r).Keeps c k q cfg := by
  unfold State.logEnter
  grind -ring -linarith -lia -ac [State.Keeps, State.logPut_keeps]

theorem State.logMarker_keeps (s : State) (step : Bool) (count : Nat) (h : s.Keeps c k q cfg) : (State.logMarker s step count).Keeps c k q
    cfg :=
    by
  unfold State.logMarker
  grind -ring -linarith -lia -ac [State.Keeps, State.logEnter_keeps, State.drew_keeps]

theorem State.engDropSpec_keeps (s : State) (e : Nat) (h : s.Keeps c k q cfg) : (State.engDropSpec s e).Keeps c k q cfg := by
  unfold State.engDropSpec
  grind -ring -linarith -lia -ac [State.Keeps, State.chanOrphan_keeps, State.setEng_keeps]

theorem State.engHalt_keeps (s : State) (e : Nat) (h : s.Keeps c k q cfg) : (State.engHalt s e).Keeps c k q cfg := by
  unfold State.engHalt
  grind -ring -linarith -lia -ac [State.Keeps, State.engDropSpec_keeps, State.setEng_keeps]

theorem State.chanRemove_keeps (s : State) (c0 : Nat) (p : Item → Bool) (h : s.Keeps c k q cfg) : (State.chanRemove s c0 p).Keeps c k q
    cfg := by
  unfold State.chanRemove
  grind -ring -linarith -lia -ac [State.Keeps, State.setChan_keeps]

theorem State.promote_keeps (s : State) (before : List HeldDel) (h : s.Keeps c k q cfg) : (State.promote s before).Keeps c k q cfg := by
  unfold State.promote
  grind -ring -linarith -lia -ac [State.Keeps]

theorem State.heldDrop_keeps (s : State) (p : Item → Bool) (h : s.Keeps c k q cfg) : (State.heldDrop s p).Keeps c k q cfg := by
  unfold State.heldDrop
  grind -ring -linarith -lia -ac [State.Keeps, State.promote_keeps]

theorem State.engRestore_keeps (s : State) (e : Nat) (h : s.Keeps c k q cfg) : (State.engRestore s e).Keeps c k q cfg := by
  unfold State.engRestore
  grind -ring -linarith -lia -ac [State.Keeps, State.setChan_keeps, State.setEng_keeps]

theorem State.restoreAll_keeps (s : State) (p : Ckpt → Bool) (h : s.Keeps c k q cfg) : (State.restoreAll s p).Keeps c k q cfg := by
  unfold State.restoreAll
  grind -ring -linarith -lia -ac [State.Keeps, foldl_keeps, State.engRestore_keeps]

theorem State.groupFail_keeps (s : State) (r : GroupRun) (why : GFail) (h : s.Keeps c k q cfg) : (State.groupFail s r why).Keeps c k q cfg
    := by
  rw [State.groupFail]
  refine State.event_keeps _ _ _ (State.calEndAll_keeps _ _ _ _ (State.keeps_else (fun hb => State.noteSet_keeps _ _ ⟨hb.1, hb.2⟩) ?_))
  exact State.bump_keeps _ _ _ _ (by decide) (State.heldDrop_keeps _ _ (State.restoreAll_keeps _ _
    (foldl_keeps _ _ _ (fun t a ht => State.chanRemove_keeps t a _ ht) ⟨h.1, h.2⟩)))

theorem State.groupFailAll_keeps (s : State) (p : GroupRun → Bool) (why : GFail) (h : s.Keeps c k q cfg) : (State.groupFailAll s p
    why).Keeps c k q cfg := by
  unfold State.groupFailAll
  grind -ring -linarith -lia -ac [State.Keeps, foldl_keeps, State.groupFail_keeps]

theorem State.trkLose_keeps (s : State) (k0 : Nat) (cause : Nat) (h : s.Keeps c k q cfg) : (State.trkLose s k0 cause).Keeps c k q cfg := by
  unfold State.trkLose
  grind -ring -linarith -lia -ac [State.Keeps, State.setTrk_keeps, State.event_keeps, State.setO_keeps]

theorem State.tapLost_keeps (s : State) (c0 : Nat) (h : s.Keeps c k q cfg) : (State.tapLost s c0).Keeps c k q cfg := by
  unfold State.tapLost
  grind -ring -linarith -lia -ac [State.Keeps, State.trkLose_keeps]

theorem State.enginePark_keeps (s : State) (e : Nat) (cause : Nat) (h : s.Keeps c k q cfg) : (State.enginePark s e cause).Keeps c k q cfg
    := by
  unfold State.enginePark
  grind -ring -linarith -lia -ac [State.Keeps, State.setEng_keeps, State.groupFailAll_keeps, State.engHalt_keeps, State.calEndAll_keeps,
    State.tapLost_keeps]

theorem State.dozePark_keeps (s : State) (h : s.Keeps c k q cfg) : (State.dozePark s).Keeps c k q cfg := by
  unfold State.dozePark
  grind -ring -linarith -lia -ac [State.Keeps, foldl_keeps, State.enginePark_keeps]

theorem State.engineStart_keeps (s : State) (e : Nat) (h : s.Keeps c k q cfg) : (State.engineStart s e).Keeps c k q cfg := by
  unfold State.engineStart
  grind -ring -linarith -lia -ac [State.Keeps, State.setEng_keeps]

theorem State.engineStop_keeps (s : State) (e : Nat) (h : s.Keeps c k q cfg) : (State.engineStop s e).Keeps c k q cfg := by
  unfold State.engineStop
  grind -ring -linarith -lia -ac [State.Keeps, State.engHalt_keeps, State.setEng_keeps]

theorem State.modeEngines_keeps (s : State) (old : Mode) (h : s.Keeps c k q cfg) : (State.modeEngines s old).Keeps c k q cfg := by
  unfold State.modeEngines
  grind -ring -linarith -lia -ac [State.Keeps, foldl_keeps, State.engineStart_keeps, State.engineStop_keeps, State.dozePark_keeps]

theorem State.setField_keeps (s : State) (c0 : Nat) (v : Field) (h : s.Keeps c k q cfg) : (State.setField s c0 v).Keeps c k q cfg := by
  unfold State.setField
  grind -ring -linarith -lia -ac [State.Keeps]

theorem State.fieldOff_keeps (s : State) (c0 : Nat) (h : s.Keeps c k q cfg) : (State.fieldOff s c0).Keeps c k q cfg := by
  unfold State.fieldOff
  grind -ring -linarith -lia -ac [State.Keeps, State.setField_keeps]

theorem State.fieldsPermit_keeps (s : State) (h : s.Keeps c k q cfg) : (State.fieldsPermit s).Keeps c k q cfg := by
  unfold State.fieldsPermit
  grind -ring -linarith -lia -ac [State.Keeps, foldl_keeps, State.fieldOff_keeps]

theorem State.fieldStart_keeps (s : State) (c0 : Nat) (h : s.Keeps c k q cfg) : (State.fieldStart s c0).Keeps c k q cfg := by
  unfold State.fieldStart
  grind -ring -linarith -lia -ac [State.Keeps, State.setField_keeps]

theorem State.fieldOn_keeps (s : State) (c0 : Nat) (h : s.Keeps c k q cfg) : (State.fieldOn s c0).Keeps c k q cfg := by
  unfold State.fieldOn
  grind -ring -linarith -lia -ac [State.Keeps, State.setField_keeps, State.fieldStart_keeps]

theorem State.fieldsPowerOn_keeps (s : State) (h : s.Keeps c k q cfg) : (State.fieldsPowerOn s).Keeps c k q cfg := by
  unfold State.fieldsPowerOn
  grind -ring -linarith -lia -ac [State.Keeps, foldl_keeps, State.fieldOn_keeps]

theorem State.fieldsSafe_keeps (s : State) (h : s.Keeps c k q cfg) : (State.fieldsSafe s).Keeps c k q cfg := by
  unfold State.fieldsSafe
  grind -ring -linarith -lia -ac [State.Keeps, foldl_keeps, State.fieldOff_keeps]

theorem State.modeFields_keeps (s : State) (old : Mode) (h : s.Keeps c k q cfg) : (State.modeFields s old).Keeps c k q cfg := by
  unfold State.modeFields
  grind -ring -linarith -lia -ac [State.Keeps, State.fieldsPowerOn_keeps, State.fieldsSafe_keeps, State.fieldsPermit_keeps]

theorem State.modeShutter_keeps (s : State) (old : Mode) (h : s.Keeps c k q cfg) : (State.modeShutter s old).Keeps c k q cfg := by
  unfold State.modeShutter
  grind -ring -linarith -lia -ac [State.Keeps, foldl_keeps, State.engDropSpec_keeps, State.groupFailAll_keeps]

theorem State.traceDrop_keeps (s : State) (flow : Bool) (h : s.Keeps c k q cfg) : (State.traceDrop s flow).Keeps c k q cfg := by
  unfold State.traceDrop
  grind -ring -linarith -lia -ac [State.Keeps, State.bump_keeps]

theorem State.tracePut_keeps (s : State) (typ : Nat) (core : Nat) (stamp : Nat) (payload : List Nat) (h : s.Keeps c k q cfg) :
    (State.tracePut
    s typ core stamp payload).Keeps c k q cfg := by
  unfold State.tracePut
  grind -ring -linarith -lia -ac [State.Keeps, State.traceDrop_keeps]

theorem State.markerPut_keeps (s : State) (step : Bool) (start : Bool) (count : Nat) (h : s.Keeps c k q cfg) : (State.markerPut s step start
    count).Keeps c k q cfg := by
  unfold State.markerPut
  grind -ring -linarith -lia -ac [State.Keeps, State.bump_keeps, State.tracePut_keeps]

theorem State.traceBehind_keeps (s : State) (typ : Nat) (core : Nat) (stamp : Nat) (payload : List Nat) (h : s.Keeps c k q cfg) :
    (State.traceBehind s typ core stamp payload).Keeps c k q cfg := by
  unfold State.traceBehind
  grind -ring -linarith -lia -ac [State.Keeps]

theorem State.traceMarker_keeps (s : State) (step : Bool) (start : Bool) (count : Nat) (h : s.Keeps c k q cfg) : (State.traceMarker s step
    start count).Keeps c k q cfg := by
  unfold State.traceMarker
  grind -ring -linarith -lia -ac [State.Keeps, State.traceBehind_keeps, State.markerPut_keeps]

theorem State.trialClock_keeps (s : State) (h : s.Keeps c k q cfg) : (State.trialClock s).Keeps c k q cfg := by
  unfold State.trialClock
  grind -ring -linarith -lia -ac [State.Keeps]

/-! ### Under a report -/

theorem State.wake_keeps (s : State) (h : s.Keeps c false q cfg) : (State.wake s).Keeps c false q cfg := by
  unfold State.wake
  grind -ring -linarith -lia -ac [State.Keeps]

theorem State.faultState_keeps (s : State) (r : Report) (h : s.Keeps c false q cfg) : (State.faultState s r).Keeps c false q cfg := by
  have hwake := State.wake_keeps s h
  rw [State.faultState]
  exact State.keeps_ite h (State.keeps_ite hwake ⟨hwake.1, hwake.2⟩)

theorem State.rebuild_keeps (s : State) (warm fault : Bool) (h : s.Keeps c false q cfg) : (s.rebuild warm fault).Keeps c false q cfg :=
  ⟨h.1, .inr ⟨rfl, rfl⟩, nofun⟩

theorem State.beginReset_keeps (s : State) (cause : Nat) (h : s.Keeps c false q cfg) : (State.beginReset s cause).Keeps c false q cfg := by
  unfold State.beginReset
  dsimp only
  refine State.keeps_if (State.bump_keeps _ _ _ _ (by decide)) (State.keeps_modes ?_)
  have hcause : ∀ t : State, t.Keeps c false q cfg → (t.bump 0x1104 0).Keeps c false q cfg :=
    fun t ht => State.setO_keeps_of_ne (by decide) (by decide) _ ht
  refine State.keeps_else (hcause _) (State.keeps_if (State.rebuild_keeps _ _ _) (State.keeps_else ?_ h))
  exact fun hs => State.event_keeps _ _ _ (State.commitCancelMode_keeps _ hs)

theorem State.claimRelease_keeps (s : State) (h : s.Keeps c k q cfg) : (State.claimRelease s).Keeps c k q cfg := by
  unfold State.claimRelease
  grind -ring -linarith -lia -ac [State.Keeps, foldl_keeps, State.setField_keeps]

theorem State.eraseResume_keeps (s : State) (h : s.Keeps c k q cfg) : (State.eraseResume s).Keeps c k q cfg := by
  unfold State.eraseResume
  grind -ring -linarith -lia -ac [State.Keeps]

theorem State.setCoreSt_keeps (s : State) (k0 : Nat) (v : CoreSt) (h : s.Keeps c k q cfg) : (State.setCoreSt s k0 v).Keeps c k q cfg := by
  unfold State.setCoreSt
  grind -ring -linarith -lia -ac [State.Keeps]

theorem State.traceIn_keeps (s : State) (typ : Nat) (core : Nat) (stamp : Nat) (payload : List Nat) (h : s.Keeps c k q cfg) :
    (State.traceIn s
    typ core stamp payload).Keeps c k q cfg := by
  unfold State.traceIn
  grind -ring -linarith -lia -ac [State.Keeps, State.traceBehind_keeps, State.tracePut_keeps]

theorem State.dozeOut_keeps (s : State) (h : s.Keeps c k q cfg) : (State.dozeOut s).Keeps c k q cfg := by
  unfold State.dozeOut
  refine State.keeps_ite h (State.keeps_cores (foldl_keeps _ _ _ (fun t n ht => ?_)
    (State.eraseResume_keeps _ (State.keeps_sw h))))
  have hup := State.traceIn_keeps _ 3 n t.st32 t.wakeWt
    (State.setCoreSt_keeps t n { t.coreSt n with state := 0, cyclesFrom := t.clock } ht)
  exact State.keeps_ite ht (State.keeps_ite hup (State.drew_keeps _ (State.traceIn_keeps _ _ _ _ _ hup)))

/-- The hub in the mode it enters, before what the change does. -/
def State.entered (s : State) (m : Mode) : State :=
  { s with modes := { s.modes with
    mode := m, prev := s.modes.mode, entrySt32 := s.st32, entryAt := s.clock, override := modeOverride m, transit := false
    waking := false, lpi := if m = Mode.doze then s.dozeLinks else [] } }

theorem State.setMode_of_entered {s : State} {m : Mode} (hm : s.modes.mode ≠ m) (h : (s.entered m).Keeps c k q cfg) :
    (s.setMode m).Keeps c k q cfg := by
  rw [State.setMode, if_neg hm]
  refine State.hostInt_keeps _ _ (State.trialClock_keeps _ (State.keeps_if (State.event_keeps _ _ _)
    (State.keeps_if (State.traceMarker_keeps _ _ _ _) (State.keeps_if (State.logMarker_keeps _ _ _) ?_))))
  refine State.canModes_keeps _ _ (State.modeFields_keeps _ _ (State.holdLatch_keeps _ _ _
    (State.modeShutter_keeps _ _ (State.modeEngines_keeps _ _ ?_))))
  exact State.keeps_if (fun hs => State.calEndAll_keeps _ _ _ _ (State.commitCancelMode_keeps _ hs))
    (State.keeps_if (State.clearPermits_keeps _) h)

theorem State.setMode_keeps (s : State) (m : Mode) (h : s.Keeps c false q cfg) : (State.setMode s m).Keeps c false q cfg := by
  by_cases hm : s.modes.mode = m
  · rw [State.setMode, if_pos hm]
    exact ⟨h.1, h.2.1, nofun⟩
  · exact State.setMode_of_entered hm ⟨h.1, h.2.1, nofun⟩

theorem State.swapDrop_keeps (s : State) (h : s.Keeps c k q cfg) : (State.swapDrop s).Keeps c k q cfg := by
  unfold State.swapDrop
  grind -ring -linarith -lia -ac [State.Keeps, State.answer_keeps]

theorem State.handBegin_keeps (s : State) (during : Bool) (h : s.Keeps c k q cfg) : (State.handBegin s during).Keeps c k q cfg := by
  unfold State.handBegin
  grind -ring -linarith -lia -ac [State.Keeps]

theorem State.eraseKick_keeps (s : State) (h : s.Keeps c k q cfg) : (State.eraseKick s).Keeps c k q cfg := by
  unfold State.eraseKick
  dsimp only
  split
  · exact ⟨h.1, h.2⟩
  · exact h

theorem State.eraseQueue_keeps (s : State) (l : List Nat) (h : s.Keeps c k q cfg) : (State.eraseQueue s l).Keeps c k q cfg := by
  unfold State.eraseQueue
  grind -ring -linarith -lia -ac [State.Keeps, State.eraseKick_keeps]

theorem State.anchorUpdate_keeps (s : State) (h : s.Keeps c k q cfg) : (State.anchorUpdate s).Keeps c k q cfg := by
  unfold State.anchorUpdate
  exact State.keeps_ite h (State.eraseQueue_keeps _ _ ⟨h.1, h.2⟩)

theorem State.journalWrite_keeps (s : State) (l : List JRec) (h : s.Keeps c k q cfg) : (State.journalWrite s l).Keeps c k q cfg := by
  unfold State.journalWrite
  exact State.keeps_ite ⟨h.1, h.2⟩ (State.eraseQueue_keeps _ _ (State.anchorUpdate_keeps _ ⟨h.1, h.2⟩))

theorem State.setImgSlot_keeps (s : State) (i : Nat) (v : Slot) (h : s.Keeps c k q cfg) : (State.setImgSlot s i v).Keeps c k q cfg := by
  unfold State.setImgSlot
  grind -ring -linarith -lia -ac [State.Keeps]

theorem State.setSlotSt_keeps (s : State) (i : Nat) (st : Nat) (h : s.Keeps c k q cfg) : (State.setSlotSt s i st).Keeps c k q cfg := by
  unfold State.setSlotSt
  grind -ring -linarith -lia -ac [State.Keeps, State.anchorUpdate_keeps, State.journalWrite_keeps, State.setImgSlot_keeps]

theorem State.trialFail_keeps (s : State) (h : s.Keeps c false q cfg) : (State.trialFail s).1.Keeps c false q cfg := by
  rw [State.trialFail]
  split
  · exact h
  · next t ht =>
    dsimp only
    split
    · exact State.event_keeps _ _ _ (State.setSlotSt_keeps _ _ _ ⟨h.1, h.2⟩)
    · have hhand := State.handBegin_keeps (k := false) (q := q) _ (s.flash.running ≠ t.slot) (State.event_keeps _ .update
        [8, t.slot, min (s.flash.failed + 1) 3] (State.setSlotSt_keeps { s with flash := { s.flash with
          failed := min (s.flash.failed + 1) 3, trial := none, updState := 0, owner := none } } t.slot
          (if min (s.flash.failed + 1) 3 = 3 then 5 else 1) ⟨h.1, h.2.1, nofun⟩))
      split
      · exact State.setMode_keeps _ _ ⟨hhand.1, hhand.2⟩
      · exact State.setMode_keeps _ _ ⟨hhand.1, hhand.2⟩
      · exact State.setMode_keeps _ _ ⟨hhand.1, hhand.2⟩
      · exact hhand

theorem State.failsafe_keeps (s : State) (h : s.Keeps c false q cfg) : (State.failsafe s).1.Keeps c false q cfg := by
  unfold State.failsafe
  grind -ring -linarith -lia -ac [State.Keeps, State.trialFail_keeps, State.setMode_keeps, State.dozeOut_keeps, State.swapDrop_keeps]

theorem State.hold_keeps (s : State) (h : s.Keeps c false q cfg) : (State.hold s).1.Keeps c false q cfg := by
  unfold State.hold
  grind -ring -linarith -lia -ac [State.Keeps, State.failsafe_keeps]

theorem State.chanEmpty_keeps (s : State) (c0 : Nat) (h : s.Keeps c k q cfg) : (State.chanEmpty s c0).Keeps c k q cfg := by
  unfold State.chanEmpty
  grind -ring -linarith -lia -ac [State.Keeps, State.engRestore_keeps, State.setChan_keeps, State.bumpBy_keeps]

theorem State.quarantine_keeps (s : State) (c0 : Nat) (h : s.Keeps c k q cfg) : (State.quarantine s c0).Keeps c k q cfg := by
  have hempty := State.chanEmpty_keeps _ c0 (State.groupFailAll_keeps _ (fun r => (State.members (State.tapLost
    (s.setChan c0 { s.chan c0 with quarantined := true }) c0) r.g).contains c0) .quarantined
    (State.tapLost_keeps _ c0 (State.setChan_keeps s c0 { s.chan c0 with quarantined := true } h)))
  exact State.bumpBy_keeps _ _ _ _ _ (by decide) (State.promote_keeps _ _ ⟨hempty.1, hempty.2⟩)

theorem State.cswRestart_keeps (s : State) (n : Nat) (h : s.Keeps c k q cfg) : (State.cswRestart s n).Keeps c k q cfg := by
  unfold State.cswRestart
  grind -ring -linarith -lia -ac [State.Keeps, State.cswPoleFailed_keeps, State.cswCancel_keeps, State.cswFinish_keeps, State.setBrk_keeps]

theorem State.setSvc_keeps (s : State) (n : Nat) (v : Svc) (h : s.Keeps c k q cfg) : (State.setSvc s n v).Keeps c k q cfg := by
  unfold State.setSvc
  grind -ring -linarith -lia -ac [State.Keeps]

theorem State.svcBegin_keeps (s : State) (n : Nat) (cause : Nat) (fromDram : Bool) (h : s.Keeps c k q cfg) : (State.svcBegin s n cause
    fromDram).Keeps c k q cfg := by
  unfold State.svcBegin
  grind -ring -linarith -lia -ac [State.Keeps, State.setSvc_keeps, State.setO_keeps, State.cswRestart_keeps, State.bump_keeps]

theorem State.traceSvc_keeps (s : State) (n : Nat) (level : Nat) (code : Nat) (args : List Nat) (h : s.Keeps c k q cfg) : (State.traceSvc
    s n
    level code args).Keeps c k q cfg := by
  unfold State.traceSvc
  grind -ring -linarith -lia -ac [State.Keeps, State.traceIn_keeps]

theorem State.svcRestart_keeps (s : State) (n : Nat) (cause : Nat) (fromDram : Bool) (h : s.Keeps c false q cfg) : (State.svcRestart s n
    cause
    fromDram).1.Keeps c false q cfg := by
  unfold State.svcRestart
  grind -ring -linarith -lia -ac [State.Keeps, State.setSvc_keeps, State.setO_keeps, State.cswRestart_keeps, State.traceSvc_keeps,
    State.failsafe_keeps, State.svcBegin_keeps]

theorem State.applyReaction_keeps (s : State) (source : Nat) (code : Nat) (res : Nat) (h : s.Keeps c false q cfg) : (State.applyReaction s
    source code res).1.Keeps c false q cfg := by
  have hsafe : ∀ t : State, t.Keeps c false q cfg → t.failsafe.1.Keeps c false q cfg := fun t ht => State.failsafe_keeps t ht
  unfold State.applyReaction
  dsimp only
  split
  case h_1 => exact h
  case h_2 => exact State.quarantine_keeps _ _ h
  case h_3 => exact State.enginePark_keeps _ _ _ h
  case h_4 => exact State.svcRestart_keeps _ _ _ _ h
  case h_5 =>
    have hcause : ∀ n, (if (decide (n = 6) && s.recoveryFull) = true then (s.hold.1, true, s.hold.2)
        else (s.beginReset n, true, ([] : List Report))).1.Keeps c false q cfg := fun n => by
      split
      · exact State.hold_keeps _ h
      · exact State.beginReset_keeps _ _ h
    split
    · exact h
    · exact hcause _
  case h_6 =>
    split
    · exact h
    · have hsafe := State.failsafe_keeps (if (decide (code = 5) && s.pairMember) = true then s.claimRelease else s)
        (State.keeps_ite (State.claimRelease_keeps _ h) h)
      exact ⟨hsafe.1, hsafe.2⟩

theorem State.faultPut_keeps (s : State) (r : FaultRec) (h : s.Keeps c k q cfg) : (State.faultPut s r).Keeps c k q cfg := by
  unfold State.faultPut
  grind -ring -linarith -lia -ac [State.Keeps]

theorem State.faultPush_keeps (s : State) (r : FaultRec) (h : s.Keeps c k q cfg) : (State.faultPush s r).Keeps c k q cfg := by
  unfold State.faultPush
  grind -ring -linarith -lia -ac [State.Keeps, State.faultPut_keeps, State.bumpBy_keeps]

theorem State.recordReport_keeps (s : State) (r : Report) (h : s.Keeps c k q cfg) : (State.recordReport s r).Keeps c k q cfg := by
  unfold State.recordReport
  grind -ring -linarith -lia -ac [State.Keeps, State.noteSet_keeps, State.bump_keeps, State.faultPush_keeps, State.hostInt_keeps]

theorem State.react_keeps (s : State) (r : Report) (h : s.Keeps c false q cfg) : (State.react s r).1.Keeps c false q cfg := by
  have hfault := State.faultState_keeps _ r (State.recordReport_keeps s r h)
  have happly := State.applyReaction_keeps _ r.source (s.reaction r.source % 8) (r.syndrome % 2 ^ 24) hfault
  unfold State.react
  dsimp only
  split
  · exact State.keeps_ite happly ⟨happly.1, happly.2⟩
  · exact hfault

theorem State.reportFuel_keeps (a0 : Nat) (s1 : State) (a2 : Report) (h1 : s1.Keeps c false q cfg) : (State.reportFuel a0 s1 a2).Keeps c
    false q cfg := by
  induction a0 generalizing s1 a2 <;> unfold State.reportFuel <;> grind -ring -linarith -lia -ac [State.Keeps, outInv, someAll, okAll,
    engResInv, pullInv, foldl_keeps, State.faultState_keeps, State.recordReport_keeps, State.react_keeps]

theorem State.report_keeps (s : State) (r : Report) (h : s.Keeps c false q cfg) : (State.report s r).Keeps c false q cfg := by
  unfold State.report
  grind -ring -linarith -lia -ac [State.Keeps, State.reportFuel_keeps]

theorem State.sec_setMode (s : State) (m : Mode) : (s.setMode m).sec = s.sec := by
  by_cases hm : s.modes.mode = m
  · rw [State.setMode, if_pos hm]
  · exact ((State.setMode_of_entered hm (s.entered m).keeps_refl).2.2 rfl).2.2

theorem State.clock_withReports (x : State × List Report) : (State.withReports x).clock = x.1.clock :=
  (foldl_keeps _ _ _ (fun t r ht => State.report_keeps t r ht) (x.1.keeps_refl (k := false))).1

/-! ### The mode that is entered -/

theorem State.modes_setMode {s : State} {m : Mode} (hm : s.modes.mode ≠ m) : (s.setMode m).modes = (s.entered m).modes :=
  ((State.setMode_of_entered hm (s.entered m).keeps_refl).2.2 rfl).1

theorem State.mode_setMode (s : State) (m : Mode) : (s.setMode m).modes.mode = m := by
  by_cases hm : s.modes.mode = m
  · rw [State.setMode, if_pos hm]
    exact hm
  · rw [State.modes_setMode hm]
    rfl

theorem State.running_setMode (s : State) (m : Mode) : (s.setMode m).flash.running = s.flash.running := by
  by_cases hm : s.modes.mode = m
  · rw [State.setMode, if_pos hm]
  · exact ((State.setMode_of_entered hm (s.entered m).keeps_refl).2.2 rfl).2.1

theorem State.clock_report (s : State) (r : Report) : (s.report r).clock = s.clock := (s.report_keeps r (s.keeps_refl)).1

end Sys2Proof.Machine
end

section
/-!
PROOF. Opens and open-confirms (R37, R44, R45).
-/

namespace Sys2Proof.Machine

open Sys2Proof

variable {s : State}

/-- The mailbox's buffer is all that taking a request changes. -/
theorem State.mbServe_onlyBridge (s : State) (p : Path) : ∃ b, s.mbServe p = { s with bridge := b } := by
  unfold State.mbServe
  split
  · exact ⟨_, rfl⟩
  · exact ⟨s.bridge, rfl⟩

theorem State.openBar_mbServe (s : State) (q p : Path) (role : Nat) : (s.mbServe q).openBar p role = s.openBar p role := by
  obtain ⟨b, hb⟩ := s.mbServe_onlyBridge q
  rw [hb]
  rfl

/-! ### Opens -/

/-- The challenge of an open. -/
def State.openChallenge (s : State) (role : Nat) (w : Bool) : List Byte :=
  if w || role = 0 then beBytes 16 (s.freeNat 128) else []

/-- The session that an open takes. -/
def State.openedSession (s : State) (t : Txn) (role : Nat) (w : Bool) : Session := {
  isOpen := !w, challenge := if w then some (s.openChallenge role w) else none, since := s.clock, role := role, path := t.path
  ident := t.ident, base := if t.path = .can then s.o 0x7002 3 (t.ident / 256) else 0
  port := if t.path = .udp then s.o 0x1203 0 else 0, lastUsed := s.clock }

/-- An open whose checks passed, before it is answered. -/
def State.opened (s : State) (t : Txn) (role n : Nat) (w : Bool) : State :=
  let u := s.drew.setSession n (s.openedSession t role w)
  { u with dict := { u.dict with expired := tset none u.dict.expired n none } }

theorem State.openTxn_ok {t : Txn} {role n : Nat} {w : Bool} (h : s.openBar t.path role = .ok (n, w)) :
    s.openTxn t role = (s.opened t role n w).respond { t with sess := n } (.ok (s.openChallenge role w)) := by
  rw [State.openTxn, h]
  rfl

theorem State.session_opened (s : State) (t : Txn) (role n : Nat) (w : Bool) :
    (s.opened t role n w).session n = s.openedSession t role w := State.session_setSession_self ..

/-! ### Open-confirms -/

/-- The right response in time. -/
def State.confirms (s : State) (t : Txn) (k : Nat) (ch resp : List Byte) : Prop :=
  resp = (Config.hmacSha256 (s.slot k).key (confirmMessage ch t.sess (s.session t.sess).role)).take 16 ∧
    s.clock ≤ ticksMs 5000 + (s.session t.sess).since

theorem State.confirmTxn_right {t : Txn} {resp ch : List Byte} {k : Nat} (hch : (s.session t.sess).challenge = some ch)
    (hk : s.purposeSlot ((s.session t.sess).role + 1) = some k) (hright : s.confirms t k ch resp) :
    s.confirmTxn t resp = ((s.useKey k).setSession t.sess { s.session t.sess with
      isOpen := true, challenge := none, lastUsed := (s.useKey k).clock }).respond t (.ok []) := by
  obtain ⟨hgood, hintime⟩ := hright
  simp [State.confirmTxn, hch, hk, ← hgood, Nat.not_lt.2 hintime]

theorem State.confirmTxn_wrong {t : Txn} {resp ch : List Byte} {k : Nat} (hch : (s.session t.sess).challenge = some ch)
    (hk : s.purposeSlot ((s.session t.sess).role + 1) = some k) (hwrong : ¬ s.confirms t k ch resp) :
    s.confirmTxn t resp = (((s.useKey k).setSession t.sess {}).openFailed (s.session t.sess).path).respond t
      (.abort Abort.authenticationFailed) := by
  simp only [State.confirmTxn, hch, hk]
  refine if_neg ?_
  simpa [State.confirms] using hwrong

theorem State.clock_useKey (s : State) (k : Nat) : (s.useKey k).clock = s.clock := by
  unfold State.useKey
  dsimp only
  split
  · rfl
  · split
    · exact State.clock_report ..
    · rfl

theorem State.session_openFailed (s : State) (p : Path) (n : Nat) : (s.openFailed p).session n = s.session n := (rfl)

theorem State.confirm_owned {t : Txn} {resp : List Byte} (h : s.owns t = true) : s.confirm t resp = s.confirmTxn t resp := by
  simp [State.confirm, h]

/-- Settles O19: the session that an open takes is `openedSession`; a confirm is right or wrong. -/
theorem opensAndConfirms : Obligations.OpensAndConfirms := by
  intro s
  refine ⟨fun t role n w huart hup htxn hbar => ?opens, fun t resp ch k huart hup htxn howns hch hk => ?confirms⟩
  case opens =>
    obtain ⟨b, hb⟩ := s.mbServe_onlyBridge t.path
    have hx := (s.mbServe t.path).session_opened t role n w
    refine ⟨(s.mbServe t.path).opened t role n w, congrArg Host.Outcome.next ((State.request_sound huart hup htxn _).trans
      ((State.openTxn_ok ((s.openBar_mbServe _ _ _).trans hbar)).trans ?_)), ?_, ?_, ?_, ?_, ?_, ?_, ?_⟩
    · rw [State.openChallenge, State.freeNat, hb, State.freeNat]
    · rw [hx]; rfl
    · rw [hx, State.openedSession]; cases w <;> rfl
    · rw [hx]; rfl
    · rw [hx]; rfl
    · rw [hx]; rfl
    · rw [hb]; rfl
    · rw [hb]; rfl
  case confirms =>
    obtain ⟨b, hb⟩ := s.mbServe_onlyBridge t.path
    have hrun := State.request_sound huart hup htxn (fun u => u.confirm t resp)
    rw [hb] at hrun
    have hconfirm := hrun.trans (State.confirm_owned (s := { s with bridge := b }) howns)
    by_cases hright : s.confirms t k ch resp
    · refine ⟨_, (if_pos hright).mpr ⟨congrArg Host.Outcome.next (hconfirm.trans
        (State.confirmTxn_right (s := { s with bridge := b }) hch hk hright)), ?_, ?_, ?_⟩⟩ <;>
        rw [State.session_setSession_self]
      exact State.clock_useKey ..
    · refine ⟨_, (if_neg hright).mpr ⟨congrArg Host.Outcome.next (hconfirm.trans
        (State.confirmTxn_wrong (s := { s with bridge := b }) hch hk hright)), ?_, ?_⟩⟩ <;>
        rw [State.session_openFailed, State.session_setSession_self]

end Sys2Proof.Machine
end

section
/-!
PROOF. Start-up up to the image (R71, R74, R75, R146).
-/

namespace Sys2Proof.Machine

open Sys2Proof

variable {s : State}

/-! ### The end of RESET -/

/-- In BOOT with these straps, since the end of a reset. -/
def Booted (s : State) (m : Nat) (p : Bool) (v : Modes) : Prop :=
  v.mode = .boot ∧ v.modeSel = m ∧ v.pairId = p ∧ v.resetEndAt = s.clock ∧ v.causes = []

theorem State.modes_of_keeps {t : State} {cfg : Nat × Nat} (h : t.Keeps s.clock true (s.modes, s.flash.running, s.sec) cfg) :
    t.modes = s.modes := (h.2.2 rfl).1

theorem State.sec_of_keeps {t : State} {cfg : Nat × Nat} (h : t.Keeps s.clock true (s.modes, s.flash.running, s.sec) cfg) :
    t.sec = s.sec := (h.2.2 rfl).2.2

/-- The straps are latched and the mask drawn. -/
def State.strapped (s : State) (m : Fin 4) (p : Bool) : State :=
  { s with
    modes := { s.modes with modeSel := m, pairId := p, resetEndAt := s.clock, refclkOk := true, railBad := false, causes := [] }
    sec := { s.sec with mask := s.freeNat 256 } }

/-- BOOT entered, with its marker. -/
def State.bootEntered (s : State) (m : Fin 4) (p : Bool) : State :=
  ((s.strapped m p).drew.setMode .boot).faultPush (faultMarker 2 (s.time.wt / 2 ^ 32))

theorem State.modes_bootEntered (hmode : s.modes.mode = .reset) (m : Fin 4) (p : Bool) :
    Booted s m p (s.bootEntered m p).modes ∧ (s.bootEntered m p).sec.intent = s.sec.intent := by
  have hne : (s.strapped m p).drew.modes.mode ≠ .boot := by
    change s.modes.mode ≠ .boot
    rw [hmode]
    decide
  have hpush := ((s.strapped m p).drew.setMode .boot).faultPush_keeps
    (faultMarker 2 (s.time.wt / 2 ^ 32)) (State.keeps_refl _ (k := true))
  rw [State.bootEntered, State.modes_of_keeps hpush, State.sec_of_keeps hpush, State.modes_setMode hne, State.sec_setMode]
  exact ⟨⟨rfl, rfl, rfl, rfl, rfl⟩, rfl⟩

theorem State.degrade_boot (hmode : s.modes.mode = .boot) (c : Nat) (on : Bool) : (s.degrade c on).modes =
      { s.modes with degraded := if on then c :: s.modes.degraded.filter (· ≠ c) else s.modes.degraded.filter (· ≠ c) } ∧
    (s.degrade c on).sec = s.sec := by
  unfold State.degrade State.degradeSettle
  simp only [hmode, and_self]

theorem State.eraseAgain_keeps (s : State) :
    s.eraseAgain.Keeps s.clock true (s.modes, s.flash.running, s.sec) (s.o 0x2006 2, s.o 0x2007 0) :=
  State.eraseQueue_keeps _ _ (State.bumpBy_keeps _ _ _ _ _ (by decide) s.keeps_refl)

/-- A protected store is a cause of DEGRADED, and interrupted erases are taken up again. -/
def State.bootStore (s : State) : State := (if s.flash.wp then s.degrade 4 true else s).eraseAgain

theorem State.bootStore_booted {u : State} {m : Nat} {p : Bool} (h : Booted s m p u.modes) :
    Booted s m p u.bootStore.modes ∧ u.bootStore.sec = u.sec := by
  have herase := (if u.flash.wp then u.degrade 4 true else u).eraseAgain_keeps
  rw [State.bootStore, State.modes_of_keeps herase, State.sec_of_keeps herase]
  split
  · obtain ⟨hmodes, hsec⟩ := u.degrade_boot h.1 4 true
    rw [hmodes, hsec]
    exact ⟨h, rfl⟩
  · exact ⟨h, rfl⟩

theorem exec_resetEnd {m : Fin 4} {p : Bool} (hmode : s.modes.mode = .reset) (hintent : s.sec.intent = none) :
    exec (.resetEnd m p) s = .next (s.bootEntered m p).bootStore := by
  obtain ⟨hbooted, hnone⟩ := State.modes_bootEntered hmode m p
  have hstore : (s.bootEntered m p).bootStore.sec.intent = none := by
    rw [(State.bootStore_booted hbooted).2, hnone, hintent]
  change execResetEnd m p s = _
  rw [execResetEnd, if_neg (not_not.2 hmode)]
  dsimp only
  split
  · rfl
  · next t ht => cases hstore.symm.trans ht

/-! ### The PLLs -/

/-- A ring port in use trains from here and its synthesiser locks. -/
def State.portStarted (s : State) (p : Port) : State :=
  if s.unused p then s else (s.setPort p { s.port p with training := !(s.port p).trained }).synthLock p

theorem exec_pllLocked (hmode : s.modes.mode = .boot) (hunlocked : s.modes.pllLocked = false) : exec .pllLocked s =
    .next (({ s with modes := { s.modes with pllLocked := true, plls := [0, 1, 2] } }.portStarted .a).portStarted .b) :=
  if_neg (by simp [hmode, hunlocked])

theorem State.portStarted_onlyRing (s : State) (p : Port) : ∃ r, s.portStarted p = { s with ring := r } := by
  unfold State.portStarted
  split
  · exact ⟨s.ring, rfl⟩
  · cases p <;> exact ⟨_, rfl⟩

theorem State.unused_ring (s : State) (r : Ring) (p : Port) : State.unused { s with ring := r } p = s.unused p := (rfl)

theorem State.port_portStarted_self {p : Port} (hused : s.unused p = false) :
    ((s.portStarted p).port p).synth = true ∧ ((s.portStarted p).port p).training = !(s.port p).trained := by
  unfold State.portStarted
  rw [hused]
  cases p <;> exact ⟨rfl, rfl⟩

theorem State.port_portStarted_ne {p q : Port} (hne : q ≠ p) : (s.portStarted p).port q = s.port q := by
  unfold State.portStarted
  split
  · rfl
  · cases p <;> cases q <;> first | rfl | exact absurd rfl hne

theorem pllLocked_starts (hmode : s.modes.mode = .boot) (hunlocked : s.modes.pllLocked = false) :
    ∃ t, exec .pllLocked s = .next t ∧ t.modes.pllLocked = true ∧ t = { s with modes := t.modes, ring := t.ring } ∧
      ∀ p : Port, s.unused p = false → (t.port p).synth = true ∧ (t.port p).training = !(s.port p).trained := by
  refine ⟨_, exec_pllLocked hmode hunlocked, ?_⟩
  generalize hu : ({ s with modes := { s.modes with pllLocked := true, plls := [0, 1, 2] } } : State) = u
  have hports : ∀ p, u.port p = s.port p := fun p => by subst hu; cases p <;> rfl
  have hunused : ∀ p, u.unused p = s.unused p := fun p => by subst hu; rfl
  obtain ⟨r, hr⟩ := u.portStarted_onlyRing .a
  obtain ⟨r', hr'⟩ := (u.portStarted .a).portStarted_onlyRing .b
  refine ⟨?_, ?_, fun p hused => ?_⟩
  · rw [hr', hr, ← hu]
  · rw [hr', hr, ← hu]
  · cases p with
    | a =>
      rw [State.port_portStarted_ne (by decide), ← hports]
      exact State.port_portStarted_self ((hunused _).trans hused)
    | b =>
      rw [← hports .b, ← State.port_portStarted_ne (s := u) (p := .a) (q := .b) (by decide)]
      refine State.port_portStarted_self ?_
      rw [hr, State.unused_ring, hunused, hused]

/-! ### The repair map and the images -/

theorem exec_repairMapApply (hmode : s.modes.mode = .boot) (hpll : s.modes.pllLocked = true) (hrepair : s.modes.repairDone = false) :
    ∃ t, exec .repairMapApply s = .next t ∧
      match [0, 1].find? (fun cs => !Config.flashOk cs) with
      | some cs => t = s.report { source := 0x84, syndrome := cs }
      | none => t.modes.repairDone = true ∧ t.o 0x1007 1 = Config.flashMiB 0 ∧ t.o 0x1007 2 = Config.flashMiB 1 := by
  have hrun : ¬(decide (s.modes.mode ≠ .boot) || !s.modes.pllLocked || s.modes.repairDone) = true := by simp [hmode, hpll, hrepair]
  change ∃ t, execRepairMapApply s = .next t ∧ _
  rw [execRepairMapApply, if_neg hrun]
  cases [0, 1].find? (fun cs => !Config.flashOk cs) with
  | some cs => exact ⟨_, rfl, rfl⟩
  | none =>
    refine ⟨_, rfl, ?_, ?_, State.o_setO_self ..⟩
    · obtain ⟨d, hd⟩ := ((State.setO_onlyOd { s.repairApply with modes := { s.repairApply.modes with repairDone := true } } 0x1007 1 0
        (Config.flashMiB 0)).trans (State.setO_onlyOd _ 0x1007 2 0 (Config.flashMiB 1))).exists_od
      rw [hd]
    · rw [State.o_setO_sub (by decide) (by decide) (by decide) (by decide), State.o_setO_self]

theorem exec_imageHeaderChecked {slot : Fin 2} {header : List Byte} (hboots : s.bootsFlash = true) (hnone : s.modes.headerOk = none)
    (hfirst : s.bootOrder.head? = some slot.val) : ∃ t, exec (.imageHeaderChecked slot header) s = .next t ∧
      match s.headerRefused (s.slotBytes slot header) with
      | some c => t = s.bootRefuse slot c
      | none => t = { s with modes := { s.modes with headerOk := some slot.val } } := by
  have hrun : ¬(!s.bootsFlash || s.modes.headerOk.isSome || decide (s.bootOrder.head? ≠ some slot.val)) = true := by
    simp [hboots, hnone, hfirst]
  change ∃ t, execImageHeaderChecked slot header s = .next t ∧ _
  rw [execImageHeaderChecked, if_neg hrun]
  cases s.headerRefused (s.slotBytes slot header) with
  | some c => exact ⟨_, rfl, rfl⟩
  | none => exact ⟨_, rfl, rfl⟩

theorem exec_ddrTrainingDone_ok {rate : Nat} (hmode : s.modes.mode = .boot) (hpll : s.modes.pllLocked = true)
    (hddr : s.modes.ddrReady = false) (hrates : rate ∈ [1600, 1866, 2133, 2400, 2666]) (hrate : rate = s.storedO 0x2201 0) :
    exec (.ddrTrainingDone rate none) s = .next (State.setO { s with
      modes := { s.modes with ddrReady := true }
      sw := { s.sw with trained := true, ddrRate := rate, selfRefresh := false } } 0x1006 0 0 Config.dramMiB) := by
  have hrun : ¬(decide (s.modes.mode ≠ .boot) || !s.modes.pllLocked || s.modes.ddrReady) = true := by simp [hmode, hpll, hddr]
  have hfits : ¬((none : Option Nat).isNone && (! [1600, 1866, 2133, 2400, 2666].contains rate || decide (rate > s.storedO 0x2201 0))) = true := by
    simp [← hrate] at hrates ⊢
    omega
  have hslow : ¬ rate < s.storedO 0x2201 0 := by omega
  change execDdrTrainingDone rate none s = _
  rw [execDdrTrainingDone, if_neg hrun, if_neg hfits]
  exact congrArg Host.Outcome.next (if_neg hslow)

theorem exec_ddrTrainingDone_fails {rate lane : Nat} (hmode : s.modes.mode = .boot) (hpll : s.modes.pllLocked = true)
    (hddr : s.modes.ddrReady = false) : exec (.ddrTrainingDone rate (some lane)) s = .next (s.report { source := 0x17, syndrome := lane }) := by
  have hrun : ¬(decide (s.modes.mode ≠ .boot) || !s.modes.pllLocked || s.modes.ddrReady) = true := by simp [hmode, hpll, hddr]
  change execDdrTrainingDone rate (some lane) s = _
  rw [execDdrTrainingDone, if_neg hrun]
  rfl

/-! ### The image's body -/

/-- The image that has loaded, before its mode. -/
def State.imageLoaded (s : State) (slot : Nat) (b : List Byte) : State :=
  let u := s.setImgSlot slot { slotOf b (if (s.imgSlot slot).state = 0 then 1 else (s.imgSlot slot).state) with key0 := imgField b 37 1 = 0 }
  { u with flash := { u.flash with running := slot } }

/-- The log's page that a warm reset left is written, and the cores count from here. -/
def State.imageRuns (s : State) : State :=
  let t := if s.modes.warm then s.logFlush s.station.log.waiting.length else s
  (List.range 16).foldl (fun s k => s.setCoreSt k { s.coreSt k with cyclesFrom := s.clock }) t

theorem State.running_imageRuns (hcold : s.modes.warm = false) : s.imageRuns.flash.running = s.flash.running := by
  unfold State.imageRuns
  rw [hcold]
  exact ((foldl_keeps _ _ s (fun t n ht => State.setCoreSt_keeps t n _ ht) (s.keeps_refl (k := true))).2.2 rfl).2.1

theorem exec_imageLoadDone {slot : Fin 2} {body : List Byte} (hboots : s.bootsFlash = true) (hheader : s.modes.headerOk = some slot.val)
    (hddr : s.modes.ddrReady = true) : exec (.imageLoadDone slot body) s = .next (
      if bodyOk (s.slotBytes slot body) then ((s.imageLoaded slot (s.slotBytes slot body)).imageRuns).setMode .configure
      else s.bootRefuse slot Abort.imageBodyHashMismatch) := by
  have hrun : ¬(!s.bootsFlash || decide (s.modes.headerOk ≠ some slot.val) || !s.modes.ddrReady) = true := by simp [hboots, hheader, hddr]
  change execImageLoadDone slot body s = _
  rw [execImageLoadDone, if_neg hrun]
  dsimp only
  by_cases hok : bodyOk (s.slotBytes slot body) = true
  · rw [if_neg (by simp [hok]), if_pos hok]
    rfl
  · rw [if_pos (by simp [hok]), if_neg hok]

/-- Settles O27, clause by clause in the order of start-up. -/
theorem startUpReachesConfigure : Obligations.StartUpReachesConfigure := by
  intro s
  refine ⟨fun m p hmode hintent => ?reset, fun hmode hun => pllLocked_starts hmode hun, fun hmode hpll hrep => exec_repairMapApply hmode hpll hrep,
    fun slot header hboots hnone hfirst => exec_imageHeaderChecked hboots hnone hfirst,
    fun rate hmode hpll hddr hrates hrate => ⟨_, exec_ddrTrainingDone_ok hmode hpll hddr hrates hrate, rfl, rfl, rfl, State.o_setO_self .., rfl⟩,
    fun rate lane hmode hpll hddr => exec_ddrTrainingDone_fails hmode hpll hddr, fun slot body hboots hheader hddr => ?body⟩
  case reset =>
    exact ⟨_, exec_resetEnd hmode hintent, (State.bootStore_booted (State.modes_bootEntered hmode m p).1).1⟩
  case body =>
    refine ⟨_, exec_imageLoadDone hboots hheader hddr, fun hbad => by rw [hbad]; rfl, fun hok => ?_, fun hok hcold => ?_⟩ <;>
      rw [hok, if_pos rfl]
    · exact State.mode_setMode _ _
    · rw [State.running_setMode, State.running_imageRuns (s := s.imageLoaded slot (s.slotBytes slot body)) hcold]
      rfl

end Sys2Proof.Machine
end

section
/-!
PROOF. From CONFIGURE to service (R65, R73, R74, R76).
-/

namespace Sys2Proof.Machine

open Sys2Proof

/-- Settles O28: each command runs under its condition. -/
theorem startUpReachesService : Obligations.StartUpReachesService := by
  intro s
  refine ⟨fun hmode hload => if_neg (by simp [hmode, hload]), fun hddr hinit => congrArg Host.Outcome.next (if_pos (by simp [hddr, hinit])),
    fun hmode hlate => congrArg Host.Outcome.next (if_pos (by simp [hmode, hlate])),
    fun hmode hstill hjoined => congrArg Host.Outcome.next (if_pos (by simp [hmode, hstill, hjoined])),
    fun hmode hstill hnot hlate => congrArg Host.Outcome.next (if_pos (by simp [hmode, hstill, hnot, hlate]))⟩

end Sys2Proof.Machine
end

section
/-!
PROOF. DOZE and SHUTDOWN (R77–R81, R508).
-/

namespace Sys2Proof.Machine

open Sys2Proof

variable {s : State}

/-! ### The flush -/

theorem State.energyStore_modes (s : State) : s.energyStore.modes = s.modes ∧ s.energyStore.clock = s.clock := by
  rw [State.energyStore_eq, State.foldl_energySaved_onlyStore]
  exact ⟨rfl, rfl⟩

/-- With no log page waiting the flush writes the store and its anchor. -/
theorem State.flushAll_modes (hlog : s.station.log.waiting = []) : s.flushAll.modes = s.modes ∧ s.flushAll.clock = s.clock := by
  unfold State.flushAll
  rw [State.anchorUpdate_onlyFlash]
  dsimp only
  rw [hlog]
  split
  · exact ⟨rfl, rfl⟩
  · split
    · exact State.energyStore_modes _
    · exact State.energyStore_modes _

/-- The leave announcement, on every live ring port. -/
def State.leaves (s : State) : State :=
  [Port.a, Port.b].foldl (fun s p => if s.linkLive p then s.supervise p [2, 0, 0, 0, 0, 0, 0, 0] [] else s) s

theorem State.leaves_onlyRing (s : State) : ∃ r, s.leaves = { s with ring := r } := by
  have hport : ∀ (u : State) (p : Port), ∃ r,
      (if u.linkLive p then u.supervise p [2, 0, 0, 0, 0, 0, 0, 0] [] else u) = { u with ring := r } := fun u p => by
    split
    · exact ⟨_, rfl⟩
    · exact ⟨u.ring, rfl⟩
  obtain ⟨r, hr⟩ := hport s .a
  obtain ⟨r', hr'⟩ := hport { s with ring := r } .b
  refine ⟨r', ?_⟩
  rw [State.leaves, List.foldl_cons, hr, List.foldl_cons, hr', List.foldl_nil]

theorem exec_shutdownFlushDone (hmode : s.modes.mode = .shutdown) (hshut : s.modes.shut = .flush) (hlog : s.station.log.waiting = []) :
    ∃ t, exec .shutdownFlushDone s = .next t ∧ t.modes.shut = (if s.modes.shutWarned then .bist else .leave) ∧ t.modes.mode = .shutdown ∧
      (s.modes.shutWarned = false → t.modes.leaveAt = s.clock) := by
  obtain ⟨hmodes, hclock⟩ := State.flushAll_modes hlog
  change ∃ t, execShutdownFlushDone s = .next t ∧ _
  rw [execShutdownFlushDone, if_neg (by simp [hmode, hshut])]
  dsimp only
  rw [hmodes]
  cases hwarned : s.modes.shutWarned with
  | true => exact ⟨_, rfl, rfl, by rw [hmode], nofun⟩
  | false =>
    obtain ⟨r, hr⟩ := s.flushAll.leaves_onlyRing
    refine ⟨_, rfl, rfl, ?_, fun _ => ?_⟩
    · change s.flushAll.leaves.modes.mode = _
      rw [hr, hmodes, hmode]
    · change s.flushAll.leaves.clock = _
      rw [hr, hclock]

/-! ### The halt -/

theorem State.ringIdle_eq (s : State) : s.ringIdle = { s with ring := { s.ring with
    a := { (portUnjoin s.ring.a) with up := false, trained := false, training := false }
    b := { (portUnjoin s.ring.b) with up := false, trained := false, training := false } } } := rfl

theorem exec_halt (hmode : s.modes.mode = .shutdown) (hshut : s.modes.shut = .bist) (hrun : s.bist.running = none) :
    ∃ t, exec .halt s = .next t ∧ t.modes.shut = .halted ∧ t.o 0x1141 0 = (if s.modes.shutWarned then 2 else 1) ∧
      t.time.ppsOut = false ∧ (t.port .a).up = false ∧ (t.port .b).up = false := by
  refine ⟨_, if_neg (by simp [hmode, hshut, hrun]), rfl, ?_, rfl, ?_, ?_⟩
  · have hcause : (s.fieldsOff.setO 0x1141 0 0 (if s.modes.shutWarned then 2 else 1)).o 0x1141 0 = if s.modes.shutWarned then 2 else 1 :=
      State.o_setO_self ..
    generalize s.fieldsOff.setO 0x1141 0 0 (if s.modes.shutWarned then 2 else 1) = t at hcause ⊢
    rw [State.ringIdle_eq]
    exact hcause
  · rw [State.ringIdle_eq]; rfl
  · rw [State.ringIdle_eq]; rfl

/-- Settles O29: the timers by their conditions, the flush and the halt by their lemmas. -/
theorem dozeAndShutdown : Obligations.DozeAndShutdown := by
  intro s
  refine ⟨fun hdue hmode => congrArg Host.Outcome.next ((if_pos hdue).trans (if_pos hmode)),
    fun hmode hwake => congrArg Host.Outcome.next (if_pos (by simp [hmode, hwake])),
    fun hmode hshut hlog => exec_shutdownFlushDone hmode hshut hlog, fun hmode hshut hlate => if_neg (by simp [hmode, hshut, hlate]),
    fun hmode hshut hrun => exec_halt hmode hshut hrun, fun mv us hreset hshut hwarn ha hb hmv hus => ?_⟩
  have hrun : ¬(decide (s.modes.mode = .reset) || s.power.warn || s.feedOk 0 || s.feedOk 1 || decide (mv ≥ s.o 0xB800 5) ||
      decide (us < 20)) = true := by
    simp [hreset, hwarn, ha, hb, Nat.not_le.2 hmv, Nat.not_lt.2 hus]
  exact (if_neg hrun).trans (congrArg Host.Outcome.next (if_pos hshut))

end Sys2Proof.Machine
end

section
/-!
PROOF. Updates of images (R434–R438).
-/

namespace Sys2Proof.Machine

open Sys2Proof

variable {s : State}

/-! ### Sector work leaves the slots and the update alone -/

/-- Everything but the erases, the journal and the anchor is as before. -/
def onlySectors (s t : State) : Prop := ∃ e q i j r c a, t = { s with flash := { s.flash with
  erase := e, eraseQ := q, intents := i, journal := j, records := r, checkpoint := c, anchorSeq := a } }

theorem onlySectors_refl (s : State) : onlySectors s s := ⟨_, _, _, _, _, _, _, rfl⟩

theorem onlySectors.trans {s t u : State} (hst : onlySectors s t) (htu : onlySectors t u) : onlySectors s u := by
  obtain ⟨e, q, i, j, r, c, a, rfl⟩ := hst
  obtain ⟨e', q', i', j', r', c', a', rfl⟩ := htu
  exact ⟨e', q', i', j', r', c', a', rfl⟩

theorem State.eraseKick_onlySectors : onlySectors s s.eraseKick := by
  unfold State.eraseKick
  dsimp only
  split
  · exact ⟨_, _, _, _, _, _, _, rfl⟩
  · exact onlySectors_refl s

theorem State.eraseQueue_onlySectors (l : List Nat) : onlySectors s (s.eraseQueue l) :=
  onlySectors.trans ⟨_, _, _, _, _, _, _, rfl⟩ State.eraseKick_onlySectors

theorem State.anchorUpdate_onlySectors : onlySectors s s.anchorUpdate := by
  unfold State.anchorUpdate
  split
  · exact onlySectors_refl s
  · exact onlySectors.trans ⟨_, _, _, _, _, _, _, rfl⟩ (State.eraseQueue_onlySectors _)

theorem State.journalAdd_onlySectors (l : List JRec) : onlySectors s { s with flash := s.flash.journalAdd l } :=
  ⟨_, _, _, _, _, _, _, rfl⟩

theorem State.journalWrite_onlySectors (l : List JRec) : onlySectors s (s.journalWrite l) := by
  have hadd := s.journalAdd_onlySectors l
  unfold State.journalWrite
  dsimp only
  split
  · exact hadd
  · exact ((hadd.trans ⟨_, _, _, _, _, _, _, rfl⟩).trans State.anchorUpdate_onlySectors).trans (State.eraseQueue_onlySectors _)

/-- A slot whose state is noted in the journal. -/
theorem State.slotNoted_onlySectors (l : List JRec) : onlySectors s (s.journalWrite l).anchorUpdate :=
  (State.journalWrite_onlySectors l).trans State.anchorUpdate_onlySectors

theorem onlySectors.imgSlot {s t : State} (h : onlySectors s t) (i : Nat) : t.imgSlot i = s.imgSlot i := by
  obtain ⟨e, q, i', j, r, c, a, rfl⟩ := h
  rfl

/-- The update, its owner and its slot. -/
theorem onlySectors.update {s t : State} (h : onlySectors s t) :
    t.flash.updState = s.flash.updState ∧ t.flash.owner = s.flash.owner ∧ t.flash.updSlot = s.flash.updSlot := by
  obtain ⟨e, q, i, j, r, c, a, rfl⟩ := h
  exact ⟨rfl, rfl, rfl⟩

theorem State.imgSlot_setO (s : State) (i j k n m : Nat) : (s.setO i j k n).imgSlot m = s.imgSlot m := (rfl)

/-! ### The commands -/

/-- The slot that is prepared, before its counter is cleared. -/
def State.prepared (s : State) (n i : Nat) : State :=
  let t : State := { s with flash := { s.flash with updState := 1, owner := some n, updSlot := i } }
  ((t.setImgSlot i {}).journalWrite [slotRecord i 0]).anchorUpdate.eraseQueue (t.slotSectors i)

theorem State.prepared_onlySectors (s : State) (n i : Nat) :
    onlySectors ({ s with flash := { s.flash with updState := 1, owner := some n, updSlot := i } }.setImgSlot i {}) (s.prepared n i) :=
  (State.slotNoted_onlySectors _).trans (State.eraseQueue_onlySectors _)

theorem State.updPrepare_ok {n i : Nat} (hwp : s.flash.wp = false) (hidle : s.flash.updState = 0) (hslot : s.updateSlot = some i) :
    s.updPrepare n = .ok ((s.prepared n i).setO 0x9012 3 0 0) := by
  unfold State.updPrepare State.prepared
  rw [if_neg (by simp [hwp]), if_neg (by simp [hidle]), hslot]

theorem State.imageSegment_ok {n off : Nat} {data : List Byte} {last : Bool} (hbar : s.segmentBar n off data.length = none) :
    s.imageSegment n off data last = match (s.segmentPut data last).headerDue off last with
      | some c => ((s.segmentPut data last).updFail c).answer n (.abort c)
      | none => if last then s.segmentPut data last else (s.segmentPut data last).answer n (.ok []) := by
  unfold State.imageSegment
  split
  · next c hc => cases hbar.symm.trans hc
  · rfl

/-- A body that verifies leaves its slot valid and the update ready. -/
def State.verified (s : State) : State :=
  let i := s.flash.updSlot
  let b := (s.imgSlot i).image
  let t := ((s.setImgSlot i (slotOf b 1)).journalWrite [slotRecord i 1]).anchorUpdate
  { t with flash := { t.flash with updState := if s.coldOnly b then 6 else 5 } }

theorem exec_updVerifyDone (hstate : s.flash.updState = 4) : exec .updVerifyDone s = .next (
    if bodyOk (s.imgSlot s.flash.updSlot).image then s.answerOwner s.verified (.ok [])
    else s.answerOwner (s.updFail Abort.imageBodyHashMismatch) (.abort Abort.imageBodyHashMismatch)) := by
  change execUpdVerifyDone s = _
  rw [execUpdVerifyDone, if_neg (not_not.2 hstate)]
  dsimp only
  by_cases hok : bodyOk (s.imgSlot s.flash.updSlot).image = true
  · rw [if_neg (by simp [hok]), if_pos hok]
    rfl
  · rw [if_pos (by simp [hok]), if_neg hok]

theorem State.imgSlot_verified (s : State) : (s.verified.imgSlot s.flash.updSlot).state = 1 := by
  have hslot : (((s.setImgSlot s.flash.updSlot (slotOf (s.imgSlot s.flash.updSlot).image 1)).journalWrite
      [slotRecord s.flash.updSlot 1]).anchorUpdate).imgSlot s.flash.updSlot = slotOf (s.imgSlot s.flash.updSlot).image 1 := by
    rw [(State.slotNoted_onlySectors _).imgSlot, State.imgSlot_setImgSlot_self]
  exact congrArg Slot.state hslot

theorem State.activateHandover_ok (hstate : s.flash.updState = 5) (hmay : s.mayActivate = true) (hcommit : s.dict.pendingCommit = none)
    (hwp : s.flash.wp = false) (hcore : ∃ k ∈ s.coresUp, s.svcsOn k = []) :
    s.activateHandover = .ok { s with flash := { s.flash with updState := 7 } } := by
  have hany : s.coresUp.any (fun k => (s.svcsOn k).isEmpty) = true := by simpa using hcore
  simp [State.activateHandover, State.activateBar, hstate, hmay, hcommit, hwp, hany]

theorem State.activateReset_ok (hstate : s.flash.updState = 5 ∨ s.flash.updState = 6)
    (hpair : s.pairMember = false ∨ s.modes.mode = .standby) (hwp : s.flash.wp = false) :
    s.activateReset = .ok ({ s with flash := { s.flash with
      updState := 8, trial := some { slot := s.flash.updSlot, atReset := true } } }.setSlotSt s.flash.updSlot 4) := by
  have hbar : s.activateBar true = none := by rcases hstate with h | h <;> simp [State.activateBar, h]
  have hmay : ¬(s.pairMember && decide (s.modes.mode ≠ .standby)) = true := by rcases hpair with h | h <;> simp [h]
  simp only [State.activateReset, hbar, hwp]
  exact if_neg hmay

/-- Settles O30: each command of a session that may write UPDATE_CMD by the lemma that says what comes of it. -/
theorem updateCommands : Obligations.UpdateCommands := by
  intro s n hn
  refine ⟨fun i hwp hidle hslot => ?prepare, fun hstate hready => congrArg Host.Outcome.next (if_pos (by simp [hstate, hready])),
    fun off data last hdata hbar => ?segment, fun hstate => ?verify,
    fun hstate hmay hcommit hwp hcore => congrArg Host.Outcome.next (State.asWrite_act_ok hn (f := fun u => u.activateHandover)
      (State.activateHandover_ok hstate hmay hcommit hwp hcore)),
    fun hstate hpair hwp => congrArg Host.Outcome.next (State.asWrite_act_ok hn (f := fun u => u.activateReset)
      (State.activateReset_ok hstate hpair hwp)),
    fun hwp hlo hhi => congrArg Host.Outcome.next (State.asWrite_act_ok hn (f := fun u => u.updAbandon) ?abandon)⟩
  case prepare =>
    obtain ⟨hupd, howner, hupdSlot⟩ := (s.prepared_onlySectors n i).update
    refine ⟨(s.prepared n i).setO 0x9012 3 0 0, congrArg Host.Outcome.next (State.asWrite_act_ok hn (f := fun u => u.updPrepare n)
      (State.updPrepare_ok hwp hidle hslot)), hupd, howner, hupdSlot, ?_, State.o_setO_self ..⟩
    rw [State.imgSlot_setO, (s.prepared_onlySectors n i).imgSlot, State.imgSlot_setImgSlot_self]
  case segment =>
    refine ⟨_, congrArg Host.Outcome.next ((State.asWrite_of_mayWrite hdata _).trans (State.imageSegment_ok hbar)), ?_⟩
    cases (s.segmentPut data last).headerDue off last <;> rfl
  case verify =>
    refine ⟨_, exec_updVerifyDone hstate, ?_⟩
    by_cases hok : bodyOk (s.imgSlot s.flash.updSlot).image = true
    · rw [if_pos hok, if_pos hok]
      exact ⟨s.verified, rfl, s.imgSlot_verified, rfl⟩
    · rw [if_neg hok, if_neg hok]
  case abandon => simp [State.updAbandon, hwp, hlo, hhi]

end Sys2Proof.Machine
end

section
/-!
PROOF. Trials of an image and the recovery loader (R436, R439–R441).
-/

namespace Sys2Proof.Machine

open Sys2Proof

variable {s : State}

/-! ### A trial that is committed -/

/-- The image committed before gives way. -/
def State.formerOut (s : State) (slot : Nat) : State :=
  match s.flash.committed with
  | some c => if c = slot then s else s.setSlotSt c 1
  | none => s

/-- The trial's image becomes the committed one. -/
def State.trialTaken (s : State) (slot : Nat) : State :=
  { s.formerOut slot with flash := { (s.formerOut slot).flash with
    committed := some slot, trial := none, failed := 0, updState := 0, owner := none, fresh := (s.formerOut slot).pairMember } }

theorem State.trialCommit_eq (s : State) (slot : Nat) :
    s.trialCommit slot = ((s.trialTaken slot).setSlotSt slot 3).event .update [3, slot] := rfl

theorem State.setSlotSt_onlySectors (s : State) (i st : Nat) : onlySectors (s.setImgSlot i { s.imgSlot i with state := st }) (s.setSlotSt i st) :=
  State.slotNoted_onlySectors _

theorem State.formerOut_onlyFlash (s : State) (slot : Nat) : onlyFlash s (s.formerOut slot) := by
  unfold State.formerOut
  split
  · split
    · exact onlyFlash_refl s
    · exact State.setSlotSt_onlyFlash ..
  · exact onlyFlash_refl s

theorem State.trialCommit_spec (s : State) (slot : Nat) :
    (s.trialCommit slot).flash.committed = some slot ∧ (s.trialCommit slot).flash.trial = none ∧ (s.trialCommit slot).flash.failed = 0 ∧
      ((s.trialCommit slot).imgSlot slot).state = 3 := by
  have hsectors := (s.trialTaken slot).setSlotSt_onlySectors slot 3
  have hslot := hsectors.imgSlot slot
  rw [State.imgSlot_setImgSlot_self] at hslot
  rw [State.trialCommit_eq]
  generalize (s.trialTaken slot).setSlotSt slot 3 = t at hsectors hslot
  refine ⟨?_, ?_, ?_, congrArg Slot.state hslot⟩ <;>
  · obtain ⟨e, q, i, j, r, c, a, rfl⟩ := hsectors
    rfl

theorem State.trialCommit_frame (s : State) (slot : Nat) :
    s.trialCommit slot = { s with flash := (s.trialCommit slot).flash, sent := (s.trialCommit slot).sent } := by
  have hflash : onlyFlash s ((s.trialTaken slot).setSlotSt slot 3) :=
    (((s.formerOut_onlyFlash slot).trans (State.onlyFlash_setFlash ..)).trans (State.setSlotSt_onlyFlash ..))
  rw [State.trialCommit_eq]
  generalize (s.trialTaken slot).setSlotSt slot 3 = t at hflash
  unfold onlyFlash at hflash
  rw [hflash]
  rfl

/-! ### The commands -/

theorem exec_handoverImageLoaded (hstate : s.flash.updState = 7) (htrial : s.flash.trial = none) (hserve : s.serving = true) :
    exec .handoverImageLoaded s = .next (
      if bodyOk (s.imgSlot s.flash.updSlot).image then s.handoverBegin else s.updFail Abort.imageBodyHashMismatch) := by
  change execHandoverImageLoaded s = _
  rw [execHandoverImageLoaded, if_neg (by simp [hstate, htrial])]
  by_cases hok : bodyOk (s.imgSlot s.flash.updSlot).image = true
  · rw [if_neg (by simp [hok]), if_neg (by simp [hserve]), if_pos hok]
  · rw [if_pos (by simp [hok]), if_neg hok]

theorem exec_trialHealthy {t : Trial} {e : Nat} (hhealthy : s.healthy = true) (hnew : s.pair.newAt = none) (htrial : s.flash.trial = some t)
    (hsince : t.since = some e) (hrun : s.flash.running = t.slot) (hintime : s.clock ≤ ticksMs 10000 + e) :
    exec .trialHealthy s = .next (s.trialCommit t.slot) := by
  change execTrialHealthy s = _
  simp [execTrialHealthy, hhealthy, hnew, htrial, hsince, hrun, hintime]

theorem exec_trialTimeout {t : Trial} {e : Nat} (htrial : s.flash.trial = some t) (hsince : t.since = some e)
    (hlate : ticksMs 10000 + e ≤ s.clock) (hnew : (State.withReports s.trialFail).pair.newAt = none) :
    exec .trialTimeout s = .next (State.withReports s.trialFail) := by
  have hover : s.trialOver = State.withReports s.trialFail := by
    simp [State.trialOver, htrial, hsince, Nat.not_lt.2 hlate]
  change execTrialTimeout s = _
  rw [execTrialTimeout, hover]
  dsimp only
  rw [hnew]

theorem exec_recoveryLoaderRequest {path : Path} {data : List Byte} (hserve : s.recoveryServes = true)
    (hpath : path = .mailbox ∨ path = .uart) (hlen : data.length < 256) :
    exec (.recoveryLoaderRequest path 0 data false) s = .next ((s.setImgSlot 0 { state := 0, image := data }).recoveryStatus path 0) := by
  have hrun : ¬(!s.recoveryServes || (decide (path ≠ .mailbox) && decide (path ≠ .uart))) = true := by
    rcases hpath with h | h <;> simp [hserve, h]
  change execRecoveryLoaderRequest path 0 data false s = _
  rw [execRecoveryLoaderRequest, if_neg hrun]
  simp [State.recoveryPut, Nat.not_le.2 hlen, show ¬ 4080 < data.length by omega, show ¬ 16777216 < data.length by omega]

/-- Settles O31: a trial's end by `trialCommit_spec` and `trialFail`, the others by their conditions. -/
theorem trialsAndRecoveryLoader : Obligations.TrialsAndRecoveryLoader := by
  intro s
  refine ⟨fun hstate htrial hserve => ⟨_, exec_handoverImageLoaded hstate htrial hserve, rfl⟩, fun k htarget hmoved hswap hback hmode => ?handover,
    fun t e hhealthy hnew htrial hsince hrun hintime => ?healthy,
    fun t e _ htrial hsince hlate hnew => exec_trialTimeout htrial hsince hlate hnew,
    fun path data hserve hpath hlen => exec_recoveryLoaderRequest hserve hpath hlen⟩
  case handover =>
    change execHandoverComplete s = _
    simp [execHandoverComplete, htarget, hmoved, hswap, hback, hmode]
  case healthy =>
    obtain ⟨hcommitted, hnone, hfailed, hslot⟩ := s.trialCommit_spec t.slot
    exact ⟨_, exec_trialHealthy hhealthy hnew htrial hsince hrun hintime, hcommitted, hnone, hfailed, hslot, s.trialCommit_frame t.slot⟩

end Sys2Proof.Machine
end

section
/-!
PROOF. The Leash claim (R470–R472).
-/

namespace Sys2Proof.Machine

open Sys2Proof

variable {s : State}

/-! ### Seeking -/

theorem State.claimSeek_idle (hidle : s.pair.claim = .idle) (hmember : s.pairMember = true) :
    s.claimSeek = { s with pair := { s.pair with claim := .seeking, since := s.clock, readback := true } } := by
  simp [State.claimSeek, hidle, hmember]

theorem State.claimTry_free (hmember : s.pairMember = true) (hidle : s.pair.claim = .idle) (hmode : s.claimMode = true)
    (hclear : s.claimClear = true) (hlink : s.claimLink = true) : s.claimTry = (s.levelSet 0xB3 0 false).claimSeek := by
  simp [State.claimTry, hmember, hidle, hmode, hclear, hlink]

/-- The line found silent. -/
def State.leashSilent (s : State) : State := { s with pair := { s.pair with leashIn := false } }.levelSet 0xB3 1 false

theorem State.pairMember_leashSilent (s : State) : s.leashSilent.pairMember = s.pairMember := (rfl)

theorem State.claimMode_leashSilent (s : State) : s.leashSilent.claimMode = s.claimMode := (rfl)

theorem exec_leashInSilence (hmember : s.pairMember = true) (hquiet : s.leashToggles = false) (hmode : s.modes.mode ≠ .doze)
    (hidle : s.pair.claim = .idle) (hmay : s.claimMode = true) (hheld : s.fc.state ≠ .held) (hfatal : s.fc.fatal = false)
    (hlink : s.claimLink = true) : exec .leashInSilence s = .next (s.leashSilent.levelSet 0xB3 0 false).claimSeek := by
  have hclear : s.leashSilent.claimClear = true := by
    have hfc : s.leashSilent.fc.state ≠ .held ∧ s.leashSilent.fc.fatal = false := ⟨hheld, hfatal⟩
    have hsilent : s.leashSilent.leashToggles = false := rfl
    simp [State.claimClear, hfc, hsilent]
  have htry := State.claimTry_free (s := s.leashSilent) (s.pairMember_leashSilent.trans hmember) hidle
    (s.claimMode_leashSilent.trans hmay) hclear hlink
  change execLeashInSilence s = _
  rw [execLeashInSilence, if_neg (by simp [hmember, hquiet])]
  exact (if_neg hmode).trans (congrArg Host.Outcome.next htry)

/-! ### An edge while seeking -/

/-- The edge on the Leash. -/
def State.leashEdge (s : State) : State :=
  { s with pair := { s.pair with
    leashIn := true, lastEdge := s.clock, runStart := if s.leashToggles then s.pair.runStart else s.clock } }

/-- The hub of the higher PAIR_ID backs off. -/
def State.leashBackoff (s : State) : State :=
  { s.leashEdge with pair := { s.leashEdge.pair with claim := .backoff, since := s.clock } }

theorem exec_leashInEdge_high (hmember : s.pairMember = true) (hseek : s.pair.claim = .seeking) (hid : s.modes.pairId = true) :
    exec .leashInEdge s = .next (s.leashBackoff.bump 0xA805 2) := by
  change execLeashInEdge s = _
  rw [execLeashInEdge, if_neg (by simp [hmember])]
  exact (if_neg (not_not.2 hseek)).trans (if_neg (by simp [hid]))

theorem exec_leashInEdge_low (hmember : s.pairMember = true) (hseek : s.pair.claim = .seeking) (hid : s.modes.pairId = false) :
    exec .leashInEdge s = .next { s.leashEdge with pair := { s.leashEdge.pair with since := s.clock } } := by
  change execLeashInEdge s = _
  rw [execLeashInEdge, if_neg (by simp [hmember])]
  exact (if_neg (not_not.2 hseek)).trans (if_pos (by simp [hid]))

/-! ### Backoff and disputes -/

theorem exec_claimBackoffExpiry (hback : s.pair.claim = .backoff) (hlate : ticksUs 10 + s.pair.since ≤ s.clock)
    (hmember : s.pairMember = true) (hmode : s.claimMode = true) (hclear : s.claimClear = true) (hlink : s.claimLink = true) :
    exec .claimBackoffExpiry s = .next { s with pair := { s.pair with claim := .seeking, since := s.clock, readback := true } } := by
  have hidle : State.claimSeek { s with pair := { s.pair with claim := .idle, since := s.clock } } =
      { s with pair := { s.pair with claim := .seeking, since := s.clock, readback := true } } :=
    State.claimSeek_idle (s := { s with pair := { s.pair with claim := .idle, since := s.clock } }) rfl hmember
  have hmay : (s.claimMode && s.claimClear && s.claimLink) = true := by simp [hmode, hclear, hlink]
  change execClaimBackoffExpiry s = _
  rw [execClaimBackoffExpiry, if_neg (by simp [hback, Nat.not_lt.2 hlate])]
  exact (if_pos hmay).trans (congrArg Host.Outcome.next hidle)

theorem State.leashFault_new {k : Nat} (hnew : s.fc.levels.contains (0xB3, k) = false) :
    s.leashFault k = (s.levelSet 0xB3 k true).report { source := 0xB3, syndrome := k * 2 ^ 24 } := by
  unfold State.leashFault
  rw [hnew]
  rfl

theorem exec_dualClaimDetected (hholds : s.holds = true) (htoggles : s.leashToggles = true) (hlate : ticksUs 2 + s.pair.runStart ≤ s.clock) :
    exec .dualClaimDetected s =
      .next (if s.modes.pairId then s.claimRelease.report { source := 0xB3, syndrome := 2 ^ 24 } else s.leashFault 1) :=
  if_neg (by simp [hholds, htoggles, Nat.not_lt.2 hlate])

theorem exec_leashOutReadbackFail (h : s.holds = true ∨ s.pair.claim = .seeking) : exec .leashOutReadbackFail s =
    .next ({ s with pair := { s.pair with readback := false } }.claimRelease.report { source := 0xB3, syndrome := 2 * 2 ^ 24 }) := by
  refine if_neg ?_
  rcases h with hholds | hseek
  · have hheld : s.pair.claim = .held := by simpa [State.holds] using hholds
    simp [hheld]
  · simp [hseek]

/-- Settles O32: what each command leaves is written out by its lemma; the frames are read off. -/
theorem leashClaim : Obligations.LeashClaim := by
  intro s hmember
  refine ⟨fun hquiet hmode hidle hmay hheld hfatal hlink => ?silence, fun hseek hid => ?high, fun hseek hid => ?low,
    fun hseek hlate hin => ?settle, fun hback hlate hmay hclear hlink => ⟨_, exec_claimBackoffExpiry hback hlate hmember hmay hclear hlink,
      rfl, rfl, rfl⟩, fun hholds htoggles hlate => ⟨fun hid => ?release, fun hid hnew => ?fault⟩, fun h => exec_leashOutReadbackFail h⟩
  case silence =>
    refine ⟨_, exec_leashInSilence hmember hquiet hmode hidle hmay hheld hfatal hlink, ?_⟩
    rw [State.claimSeek_idle (s := s.leashSilent.levelSet 0xB3 0 false) hidle hmember]
    exact ⟨rfl, rfl, rfl⟩
  case high =>
    refine ⟨_, exec_leashInEdge_high hmember hseek hid, rfl, rfl, rfl, State.o_bump_self .., ?_⟩
    obtain ⟨d, hd⟩ := (s.leashBackoff.bump_onlyOd 0xA805 2 0).exists_od
    rw [hd]
    rfl
  case low => exact ⟨_, exec_leashInEdge_low hmember hseek hid, hseek, rfl, rfl⟩
  case settle => exact if_pos (by simp [hseek, hlate, hin])
  case release => rw [exec_dualClaimDetected hholds htoggles hlate, hid]; rfl
  case fault => rw [exec_dualClaimDetected hholds htoggles hlate, hid, State.leashFault_new hnew]; rfl

end Sys2Proof.Machine
end

section
/-!
PROOF. Status blocks and mirror records of the pair link (R475, R489).
-/

namespace Sys2Proof.Machine

open Sys2Proof

variable {s : State}

theorem exec_pairStatusBlock_good {b : StatusBlock} (hmember : s.pairMember = true) :
    exec (.pairStatusBlock b true) s = .next (((s.statusGood b).followSwap.claimTry).sfgUpdate) := by
  change execPairStatusBlock b true s = _
  simp [execPairStatusBlock, hmember]

theorem exec_pairStatusBlock_bad {b : StatusBlock} (hmember : s.pairMember = true) :
    exec (.pairStatusBlock b false) s = .next { s with pair := { s.pair with
      crcErr := min (s.pair.crcErr + 1) 0xFFFF, crcTimes := s.clock :: s.pair.crcTimes.filter (fun t => s.clock < ticksMs 1 + t)
      goodRun := 0 } } := by
  change execPairStatusBlock b false s = _
  simp [execPairStatusBlock, hmember]

/-- The hundredth good block in a row brings the link up. -/
theorem State.statusGood_link {b : StatusBlock} (hrun : 99 ≤ s.pair.goodRun) : (s.statusGood b).pair.link = true := by
  have hfull : min (s.pair.goodRun + 1) 100 = 100 := by omega
  change (s.pair.link || decide (min (s.pair.goodRun + 1) 100 = 100)) = true
  simp [hfull]

theorem exec_mirrorResend {seq : W32} {m : Mirror} (hm : s.pair.out.find? (fun m => m.seq = seq.toNat) = some m)
    (hlink : s.pair.link = true) (hlate : ticksUs 20 + m.at_ ≤ s.clock) :
    exec (.mirrorResend seq) s = .next (({ s with pair := { s.pair with out := s.pair.out.map (fun x : Mirror =>
      if x.seq = m.seq then { x with at_ := s.clock } else x) } }.bump 0xA805 6).mirrorOut m.seq m.r) := by
  change execMirrorResend seq s = _
  simp only [execMirrorResend, hm, hlink, Nat.not_lt.2 hlate, if_false, if_true]

/-- Settles O33: each command runs under its condition; the link's rise by `State.statusGood_link`. -/
theorem pairLinkBlocks : Obligations.PairLinkBlocks := by
  intro s
  refine ⟨fun hmember hmode => congrArg Host.Outcome.next (if_pos (by simp [hmember, hmode])),
    fun b hmember => ⟨exec_pairStatusBlock_good hmember, rfl, rfl, rfl, fun hrun _ => State.statusGood_link hrun⟩,
    fun b hmember => ⟨_, exec_pairStatusBlock_bad hmember, rfl, rfl, rfl, rfl⟩, fun hlink hlate => if_neg (by simp [hlink, hlate]),
    fun seq m hm hlink hlate => exec_mirrorResend hm hlink hlate, fun hset => congrArg Host.Outcome.next (if_neg (by simp [hset])),
    fun c hc => if_neg (by simp [hc])⟩

end Sys2Proof.Machine
end

section
/-!
PROOF. A standby and the active's records (R475–R478).
-/

namespace Sys2Proof.Machine

open Sys2Proof

variable {s : State}

/-- On the link a standby takes the record. -/
theorem exec_pairMirrorBlock {seq : W32} {r : MirrorRec} (hmember : s.pairMember = true) (hholds : s.holds = false)
    (hlink : s.pair.link = true) : exec (.pairMirrorBlock seq r) s = .next (s.takeRecord seq.toNat r) := by
  change execPairMirrorBlock seq r s = _
  simp [execPairMirrorBlock, hmember, hholds, hlink]

theorem State.takeRecord_old {seq : Nat} {r : MirrorRec} (hold : serialAfter 32 seq s.pair.rxSeq = false) : s.takeRecord seq r = s := by
  simp [State.takeRecord, hold]

theorem State.takeRecord_new {seq : Nat} {r : MirrorRec} (hnew : serialAfter 32 seq s.pair.rxSeq = true) :
    s.takeRecord seq r = ({ s with pair := { s.pair with
      rxSeq := seq, whole := s.pair.whole && decide (seq = (s.pair.rxSeq + 1) % 2 ^ 32) } }.applyRecord r).sfgUpdate :=
  if_neg (by simp [hnew])

/-- A standby that no session asked applies the mirrored set. -/
theorem State.mirroredApply_standby {l : List Staged} (hholds : s.holds = false) (hby : s.pair.commitBy = none) :
    s.mirroredApply l = ({ s with pair := { s.pair with commit := none } }.applySet l).closePaths.sfgUpdate := by
  simp only [State.mirroredApply, hholds, hby, Bool.false_and, Bool.false_eq_true, if_false, Bool.not_false, Bool.and_true]

/-- Settles O34: the records by whether they are new, the mirrored commit by `State.mirroredApply_standby`. -/
theorem standbyFollowsActive : Obligations.StandbyFollowsActive := by
  intro s seq
  refine ⟨fun r hmember hholds hlink hold => ?old, fun r hmember hholds hlink hnew => ?new, fun n h => ⟨rfl, tget_tset_self none s.pair.adopt n (some h)⟩,
    fun l ns hcommit htime hholds hby => ?apply, fun set hmode hlink =>
      ⟨congrArg Host.Outcome.next (if_pos (by simp [hmode, hlink])), rfl⟩⟩
  case old => exact (exec_pairMirrorBlock hmember hholds hlink).trans (congrArg Host.Outcome.next (State.takeRecord_old hold))
  case new => exact (exec_pairMirrorBlock hmember hholds hlink).trans (congrArg Host.Outcome.next (State.takeRecord_new hnew))
  case apply =>
    change execMirroredCommitApply s = _
    simp only [execMirroredCommitApply, hcommit, Nat.not_lt.2 htime, if_false, State.mirroredApply_standby hholds hby]

end Sys2Proof.Machine
end

section
/-!
PROOF. Switchover and Heel (R486, R487).
-/

namespace Sys2Proof.Machine

open Sys2Proof

variable {s : State}

theorem State.switchover_ok {kind n : Nat} (hmember : s.pairMember = true) (hholds : s.holds = true) (hmode : s.modes.mode = .active)
    (hfit : s.pair.pFit = true) (hsync : kind = 3 ∨ s.inSync = true) : s.switchover kind n = .ok (s.swapBegin kind (some n)) := by
  refine if_neg ?_
  rcases hsync with h | h <;> simp [hmember, hholds, hmode, hfit, h]

/-- Heel at home changes nothing; the active elsewhere gives the claim back. -/
theorem State.heelAct_holds {n : Nat} (hmember : s.pairMember = true) (hholds : s.holds = true) :
    s.heelAct n = if s.isHome then none else some (s.switchover 2 n) := by
  simp [State.heelAct, hmember, hholds]

theorem exec_switchoverFallback {w : Swap} {r : Nat} (hswap : s.pair.swap = some w) (hmine : w.mine = true) (hrel : w.released = some r)
    (hlate : ticksUs 50 + r ≤ s.clock) (hpartner : s.partnerHolds = false) :
    let u : State := { s with pair := { s.pair with swap := some { w with session := none }, planned := false } }
    exec .switchoverFallback s = .next (match w.session with
      | some k => (u.answer k (.abort Abort.busyRetry)).claimTry
      | none => u.claimTry) := by
  change execSwitchoverFallback s = _
  rw [execSwitchoverFallback, hswap]
  simp only [hmine, hrel, if_true]
  refine (if_neg (by simp [hpartner, Nat.not_lt.2 hlate])).trans ?_
  cases w.session <;> rfl

/-- Settles O36: the commands act later by `State.asWrite_actLater_ok`; the mode entered by `State.mode_setMode`. -/
theorem switchoverCommands : Obligations.SwitchoverCommands := by
  intro s n hn hmember
  have hlater : ∀ {f : State → Act} {t : State}, f s = .ok t →
      Host.Outcome.next (s.asWrite n 6 0xA804 0 (fun u => u.actLater n (f u))) = (.next t : Host.Outcome State Fault Refusal) :=
    fun hf => congrArg Host.Outcome.next (State.asWrite_actLater_ok hn hf)
  refine ⟨fun hholds hmode hfit hsync => ⟨hlater (f := fun u => u.switchover 1 n)
      (State.switchover_ok hmember hholds hmode hfit (.inr hsync)), State.mode_setMode ..⟩,
    fun hholds hmode hfit => hlater (f := fun u => u.switchover 3 n) (State.switchover_ok hmember hholds hmode hfit (.inl rfl)),
    fun hholds haway hmode hfit hsync => ?away, fun hholds hhome => ?home,
    fun w r hswap hmine hrel hlate hpartner => ?fallback⟩
  case away =>
    refine congrArg Host.Outcome.next ((State.asWrite_of_mayWrite hn _).trans ?_)
    rw [State.heelAct_holds hmember hholds, haway]
    simp [State.actLater, hn.1, State.switchover_ok hmember hholds hmode hfit (.inr hsync)]
  case home =>
    refine congrArg Host.Outcome.next ((State.asWrite_of_mayWrite hn _).trans ?_)
    rw [State.heelAct_holds hmember hholds, hhome]
    exact State.act_ok s hn.1 s
  case fallback =>
    refine (exec_switchoverFallback hswap hmine hrel hlate hpartner).trans ?_
    cases w.session <;> rfl

end Sys2Proof.Machine
end


section
/-!
PROOF. A sound header on a live port (R88, R103, R106, R110). The arrival is counted, and the conditions are read in the order of the rules:
direction, link scope, own source, and then the way of an accepted header, which a lemma of its own says.
-/

namespace Sys2Proof.Machine

open Sys2Proof

/-! ### The way of an accepted header -/

/-- The state after a reserved type was counted. -/
def State.typeCounted (s : State) (p : Port) (h : Hdr) : State := if h.typ ≥ 10 then s.portCount p 8 else s

/-- What the hub itself takes of a header: the state, the local side and whether the frame passes through. -/
def State.localPart (s : State) (p : Port) (f : Frame) (th : Nat) : State × Lcl × Bool :=
  if s.isLocal f.hdr then s.localHeader p f th else (s, .none, false)

/-- What follows the local part: a frame that goes on is routed, any other is kept until its trailer. -/
def headerRest (p : Port) (f : Frame) (th : Nat) (r : State × Lcl × Bool) : State :=
  let x : RxFrame := { f := f, th := th, lcl := r.2.1, through := r.2.2 }
  if r.1.isOnward f.hdr then
    match (if f.hdr.hops = 0 then r.1.portCount p 7 else r.1).route f.hdr with
    | (t, none) => t.pushRx p x
    | (t, some (q, g)) =>
      if t.cutThrough q f.hdr.cls then ((t.cutIn q (t.cutHdr p g)).drew).pushRx p { x with egress := some q, cut := true }
      else t.pushRx p { x with egress := some q }
  else r.1.pushRx p x

theorem State.headerIn_eq (s : State) (p : Port) (f : Frame) (th : Nat) :
    s.headerIn p f th = headerRest p f th ((s.typeCounted p f.hdr).localPart p f th) := by
  rw [State.headerIn, State.typeCounted, State.localPart]
  dsimp only
  generalize (if State.isLocal _ f.hdr = true then _ else _ : State × Lcl × Bool) = r
  obtain ⟨t, lcl, idle⟩ := r
  rw [headerRest]
  cases t.isOnward f.hdr
  · rfl
  · rfl

/-! ### The conditions before it -/

/-- The state in which a sound header of the right direction is judged: the frame and its colour counted. -/
def State.headerCounted (s : State) (p : Port) (h : Hdr) : State :=
  if h.colour = 3 then (s.portCount p 1).portCount p 0x0A else s.portCount p 1

@[simp] theorem State.headerCounted_node (s : State) (p : Port) (h : Hdr) : (s.headerCounted p h).node = s.node := by
  unfold State.headerCounted State.portCount
  split <;> simp [State.node]

@[simp] theorem State.headerCounted_now10 (s : State) (p : Port) (h : Hdr) : (s.headerCounted p h).now10 = s.now10 := by
  unfold State.headerCounted State.portCount
  split <;> simp [State.now10]

/-- A live port's sound header against its direction is counted and dropped. -/
theorem exec_headerReceived_misdirected {s : State} {p : Port} {f : Frame} (hring : s.ringOn = true) (hup : (s.port p).up = true)
    (htrained : (s.port p).trained = true) (hused : s.unused p = false) (hok : hdrOk f.hdr = true)
    (hdir : if f.hdr.dir then p = .b else p = .a) : exec (.headerReceived p f) s = .next ((s.portCount p 1).portCount p 0x0B) := by
  change execHeaderReceived p f s = _
  rw [execHeaderReceived, if_neg (by simp [hring, hup, htrained, hused])]
  dsimp only
  rw [if_neg (by simp [hok]), if_pos hdir]

/-- A live port's sound header in its direction: link scope and the own ANNOUNCE wait, own frames are stripped, the rest is taken in. -/
theorem exec_headerReceived_judged {s : State} {p : Port} {f : Frame} (hring : s.ringOn = true) (hup : (s.port p).up = true)
    (htrained : (s.port p).trained = true) (hused : s.unused p = false) (hok : hdrOk f.hdr = true)
    (hdir : ¬ (if f.hdr.dir then p = .b else p = .a)) :
    exec (.headerReceived p f) s =
      if linkScope f.hdr || (f.hdr.source = s.node && isSup 1 f.hdr) then
        .next ((s.headerCounted p f.hdr).pushRx p { f := f, th := s.now10 - 256, lcl := .link })
      else if f.hdr.source = s.node then .next (s.headerCounted p f.hdr)
      else .next ((s.headerCounted p f.hdr).headerIn p f (s.now10 - 256)) := by
  change execHeaderReceived p f s = _
  rw [execHeaderReceived, if_neg (by simp [hring, hup, htrained, hused])]
  dsimp only
  rw [if_neg (by simp [hok]), if_neg hdir, ← State.headerCounted, State.headerCounted_node, State.headerCounted_now10]

/-- Settles O38: each condition in its place, and an accepted header by `State.headerIn_eq`. -/
theorem headersAreSorted : Obligations.HeadersAreSorted := by
  unfold Obligations.HeadersAreSorted
  intro s p f hring hup htrained hused
  refine ⟨fun hok hdir => exec_headerReceived_misdirected hring hup htrained hused hok hdir, fun hok hdir => ?_⟩
  have hexec := exec_headerReceived_judged hring hup htrained hused hok hdir
  refine ⟨fun hlink => ?_, fun hlink hown hann => ?_, fun hlink hother => ⟨fun hstay => ?_, fun hon => ?_⟩⟩
  · exact hexec.trans (if_pos (by simpa using hlink))
  · rw [hexec, if_neg (by simp [hlink, hann]), if_pos hown]
    rfl
  · rw [hexec, if_neg (by simp [hlink, hother]), if_neg hother]
    exact congrArg Host.Outcome.next ((State.headerIn_eq _ p f _).trans (if_neg (ne_true_of_eq_false hstay)))
  · rw [hexec, if_neg (by simp [hlink, hother]), if_neg hother]
    exact congrArg Host.Outcome.next ((State.headerIn_eq _ p f _).trans (if_pos hon))

end Sys2Proof.Machine
end


section
/-!
PROOF. The end of a frame in progress (R87, R105–R108, R119, R152): the trailer's branches, a broken link and a tag's deadline.
-/

namespace Sys2Proof.Machine

open Sys2Proof

/-- Settles O39: the branches of the trailer's check by its outcome and by the way of the frame. -/
theorem trailersSettleFrames : Obligations.TrailersSettleFrames := by
  unfold Obligations.TrailersSettleFrames
  intro s p
  refine ⟨fun trailer lengthOk r l hrx => ⟨fun good => ?_, fun bad stomped => ?_, fun bad wrong => ?_⟩, fun got hrx => ?_, fun got hrx => ?_,
    fun g x htag hlate => ?_⟩
  · change execTrailerChecked p trailer lengthOk s = _
    simp only [execTrailerChecked, hrx, good]
    cases r.egress with
    | none => rfl
    | some q => cases r.cut <;> rfl
  · change execTrailerChecked p trailer lengthOk s = _
    simp only [execTrailerChecked, hrx, bad, stomped]
    cases r.egress with
    | none => rfl
    | some q => cases r.cut <;> rfl
  · change execTrailerChecked p trailer lengthOk s = _
    simp only [execTrailerChecked, hrx, bad, wrong]
    cases r.egress with
    | none => rfl
    | some q => cases r.cut <;> rfl
  · exact congrArg Host.Outcome.next (if_pos (by simp [hrx]))
  · exact congrArg Host.Outcome.next (if_neg (by simp [hrx]))
  · change execSpecDeadline g s = _
    simp only [execSpecDeadline, htag, Nat.not_lt.2 hlate, if_false]
    rfl

end Sys2Proof.Machine
end


section
/-!
PROOF. Supervision frames in (R84, R85, R112–R117). The neighbour a HELLO names and the judgement on the port are two updates of the port;
the judgement changes none of the conditions it was made on.
-/

namespace Sys2Proof.Machine

open Sys2Proof

/-! ### What a HELLO leaves at its port -/

/-- The neighbour of a HELLO noted at port `p`, and at a partner's port the partner's number. -/
def State.nbrNoted (s : State) (p : Port) (n : Nbr) : State :=
  let t := s.setPort p { s.port p with nbr := some n }
  let t := t.setPort p { t.port p with partner := t.partnerAt p }
  if t.partnerAt p then { t with pair := { t.pair with node := n.node } } else t

/-- The port judged by a HELLO: a port whose HELLO is not right does not stay joined. -/
def State.helloJudged (s : State) (p : Port) (ok : Bool) : State :=
  s.setPort p { s.port p with helloOk := ok, joined := (s.port p).joined && ok }

@[simp] theorem State.pairAdjacent_helloJudged (s : State) (p : Port) (ok : Bool) : (s.helloJudged p ok).pairAdjacent = s.pairAdjacent := by
  cases p <;> rfl

@[simp] theorem State.facesAway_helloJudged (s : State) (p : Port) (ok : Bool) : (s.helloJudged p ok).facesAway p = s.facesAway p := by
  cases p <;> rfl

@[simp] theorem State.port_helloJudged (s : State) (p : Port) (ok : Bool) :
    (s.helloJudged p ok).port p = { s.port p with helloOk := ok, joined := (s.port p).joined && ok } :=
  s.port_setPort_self p _

@[simp] theorem State.nbr_nbrNoted (s : State) (p : Port) (n : Nbr) : ((s.nbrNoted p n).port p).nbr = some n := by
  unfold State.nbrNoted
  dsimp only
  split <;> cases p <;> rfl

@[simp] theorem State.joined_nbrNoted (s : State) (p : Port) (n : Nbr) : ((s.nbrNoted p n).port p).joined = (s.port p).joined := by
  unfold State.nbrNoted
  dsimp only
  split <;> cases p <;> rfl

/-- Whether the HELLO comes from the neighbour's facing port. -/
def helloWired (p : Port) (f : Frame) : Bool := decide (specField f.hdr 21 1 = portCode p.other)

/-- The state a HELLO of port `p` leaves before the ring is judged again. -/
def State.helloHeard (t : State) (p : Port) (f : Frame) : State :=
  (t.nbrNoted p (helloNbr f)).helloJudged p
    (helloWired p f && ((t.nbrNoted p (helloNbr f)).pairAdjacent || !(t.nbrNoted p (helloNbr f)).facesAway p))

theorem exec_helloReceived_known {s t : State} {p : Port} {f : Frame} (htake : s.takeLink p (isSup 0) = some (f, t))
    (hknown : (t.port p).nbr = some (helloNbr f)) : exec (.helloReceived p) s = .next (t.helloHeard p f).ringUpdate := by
  change execHelloReceived p s = _
  simp only [execHelloReceived, htake]
  exact if_pos (by simp [hknown])

theorem exec_helloReceived_miswired {s t : State} {p : Port} {f : Frame} (htake : s.takeLink p (isSup 0) = some (f, t))
    (hnew : (t.port p).nbr ≠ some (helloNbr f)) (hwired : helloWired p f = false) :
    exec (.helloReceived p) s = .next ((t.helloHeard p f).report { source := 0x00, syndrome := p.toNat }).ringUpdate := by
  have hcode : decide (specField f.hdr 21 1 = portCode p.other) = false := hwired
  have hrep : p.toNat + b2n (decide (specField f.hdr 21 1 = portCode p.other)) * 2 ^ 24 = p.toNat := by rw [hcode]; rfl
  change execHelloReceived p s = _
  simp only [execHelloReceived, htake]
  refine (if_neg (by simp only [hcode, hnew]; simp)).trans ?_
  rw [hrep]
  rfl

theorem helloHeard_spec (t : State) (p : Port) (f : Frame) :
    ((t.helloHeard p f).port p).nbr = some (helloNbr f) ∧
    ((t.helloHeard p f).port p).helloOk =
      (helloWired p f && ((t.helloHeard p f).pairAdjacent || !(t.helloHeard p f).facesAway p)) ∧
    ((t.helloHeard p f).port p).joined = ((t.port p).joined && ((t.helloHeard p f).port p).helloOk) := by
  simp [State.helloHeard]

/-! ### The frames taken from the port's queue -/

/-- Taking a link-scope frame leaves the clock. -/
theorem State.clock_takeLink {s t : State} {p : Port} {q : Hdr → Bool} {f : Frame} (h : s.takeLink p q = some (f, t)) : t.clock = s.clock := by
  unfold State.takeLink at h
  split at h
  · obtain ⟨-, rfl⟩ := Prod.mk.inj (Option.some.inj h)
    rfl
  · cases h

/-- A foreign ANNOUNCE enters the map with the distance of its port. -/
theorem exec_announceReceived_foreign {s t : State} {p : Port} {f : Frame} (htake : s.takeLink p (isSup 1) = some (f, t))
    (hsrc : f.hdr.source ≠ t.node) : ∃ m : MapEnt,
      exec (.announceReceived p) s =
        .next (State.ringUpdate { t with ring := { t.ring with map := tset {} t.ring.map f.hdr.source m } }) ∧
      (match p with
        | .a => m.award
        | .b => m.bward) = min (t.o 0x2003 0 + 1 - f.hdr.hops) 0xFF := by
  change ∃ m : MapEnt, execAnnounceReceived p s = _ ∧ _
  simp only [execAnnounceReceived, htake, hsrc, if_false]
  cases p
  · exact ⟨_, rfl, rfl⟩
  · exact ⟨_, rfl, rfl⟩

/-- Settles O40: HELLO by `helloHeard_spec`, ANNOUNCE by its source, the notices by the clock kept, TOPOLOGY by its event code. -/
theorem supervisionIsHeard : Obligations.SupervisionIsHeard := by
  unfold Obligations.SupervisionIsHeard
  intro s t p f
  refine ⟨fun htake => ?_, fun htake => ⟨fun hsrc hser => ?_, fun hsrc hser => ?_, fun hsrc => ?_⟩, fun htake => ?_,
    ⟨fun htake => ?_, fun htake => ?_⟩, fun htake => ⟨fun hev => ?_, fun hev => ?_⟩⟩
  · obtain ⟨hnbr, hok, hjoined⟩ := helloHeard_spec t p f
    exact ⟨t.helloHeard p f, hnbr, hok, hjoined, fun _ hknown => exec_helloReceived_known htake hknown,
      fun hwired hnew => exec_helloReceived_miswired htake hnew hwired⟩
  · change execAnnounceReceived p s = _
    simp only [execAnnounceReceived, htake, hsrc, hser, if_true]
  · change execAnnounceReceived p s = _
    simp only [execAnnounceReceived, htake, hsrc, hser, if_true, if_false]
  · obtain ⟨m, hexec, hdist⟩ := exec_announceReceived_foreign htake hsrc
    refine ⟨_, hexec, rfl, ?_⟩
    dsimp only
    rw [tget_tset_self]
    cases p <;> exact hdist
  · change execLeaveReceived p s = _
    simp only [execLeaveReceived, htake, State.clock_takeLink htake]
  · change execRecalNoticeReceived p s = _
    simp only [execRecalNoticeReceived, htake, State.noticeOf, State.clock_takeLink htake]
  · change execRetrainNoticeReceived p s = _
    simp only [execRetrainNoticeReceived, htake, State.noticeOf, State.clock_takeLink htake]
  · change execTopologyReceived p s = _
    simp only [execTopologyReceived, htake, hev]
  · change execTopologyReceived p s = _
    simp only [execTopologyReceived, htake, hev]

end Sys2Proof.Machine
end


section
/-!
PROOF. Supervision frames out and the state of the ring (R111–R116).
-/

namespace Sys2Proof.Machine

open Sys2Proof

/-- Settles O41: each command under its condition is its effect; an ANNOUNCE period advances both ports' counts. -/
theorem supervisionIsSent : Obligations.SupervisionIsSent := by
  unfold Obligations.SupervisionIsSent
  intro s p
  refine ⟨fun hring hdue => ?_, fun hring hdue => ?_, rfl, fun hjoined hok => ?_, fun m hm hbound hlate => ?_⟩
  · exact if_neg (by simp [hring, hdue])
  · exact ⟨_, if_neg (by simp [hring, hdue]), rfl, rfl, rfl⟩
  · exact if_neg (by simp [hjoined, hok])
  · exact if_pos (by simp [hm, hbound, hlate])

end Sys2Proof.Machine
end

section
/-!
PROOF. Ring ports fall, rise and announce outages (O42, R100–R122).
-/

namespace Sys2Proof.Machine

open Sys2Proof

section
variable {s : State} {p : Port}

theorem execTrainingComplete_of_training (htrain : (s.port p).training = true) :
    execTrainingComplete p true s = .next (s.setPort p { s.port p with training := false, trained := true, vert := 100 }) ∧
    execTrainingComplete p false s =
      .next (s.setPort p { s.port p with training := false, trained := false, failedAt := some s.clock }) := by
  refine ⟨?_, ?_⟩ <;> simp only [execTrainingComplete, htrain, Bool.not_true, Bool.false_eq_true, if_false, if_true]

/-! ### Low margin (R118, R120) -/

/-- The state in which a margin that was measured is judged. -/
def State.measured (s : State) (p : Port) (vert horiz : Nat) : State :=
  s.setPort p { s.port p with
    vert := min vert 255, horiz := min horiz 255, retrains := if vert > s.o 0x2006 1 then [] else (s.port p).retrains }

theorem execMarginRetrainTimeout_eq (vert horiz : Nat) :
    execMarginRetrainTimeout p vert horiz s =
      let u := s.measured p vert horiz
      let t := if vert < s.o 0x2006 1 && (s.port p).vert ≥ s.o 0x2006 1 then u.report { source := 0x02, syndrome := p.toNat } else u
      if vert < t.o 0x2006 2 && t.o 0x2007 0 = 1 then .next (t.retrainTry p) else .next t := rfl

theorem State.measured_o (vert horiz i j k : Nat) : (s.measured p vert horiz).o i j k = s.o i j k :=
  State.setPort_o ..

theorem State.retrainTry_of_not_joined (hjoined : (s.port p).joined = false) : s.retrainTry p = s := by
  simp [State.retrainTry, hjoined]

/-- A report leaves the rule for retraining, or takes the ports out of the ring. -/
theorem State.report_rule (s : State) (r : Report) (p : Port) :
    ((s.report r).o 0x2006 2 = s.o 0x2006 2 ∧ (s.report r).o 0x2007 0 = s.o 0x2007 0) ∨ ((s.report r).port p).joined = false := by
  obtain ⟨-, hrule | ⟨ha, hb⟩, -⟩ := State.report_keeps s r (s.keeps_refl)
  · exact .inl hrule
  · cases p
    · exact .inr ha
    · exact .inr hb

section
variable {vert : Nat} (hlow : vert < s.o 0x2006 2) (hauto : s.o 0x2007 0 = 1) (horiz : Nat)
include hlow hauto

theorem execMarginRetrainTimeout_of_quiet (hquiet : s.o 0x2006 1 ≤ vert ∨ (s.port p).vert < s.o 0x2006 1) :
    execMarginRetrainTimeout p vert horiz s = .next ((s.measured p vert horiz).retrainTry p) := by
  have hno : ¬(decide (vert < s.o 0x2006 1) && decide ((s.port p).vert ≥ s.o 0x2006 1)) = true := by
    simp only [Bool.and_eq_true, decide_eq_true_eq]
    omega
  rw [execMarginRetrainTimeout_eq]
  simp only [if_neg hno, State.measured_o, hlow, hauto, decide_true, Bool.and_self, if_true]

/-- The retraining is judged after the report of the low margin, which may reset the hub. -/
theorem execMarginRetrainTimeout_of_reported (hwarn : vert < s.o 0x2006 1) (hfall : s.o 0x2006 1 ≤ (s.port p).vert) :
    execMarginRetrainTimeout p vert horiz s =
      .next (((s.measured p vert horiz).report { source := 0x02, syndrome := p.toNat }).retrainTry p) := by
  have hyes : (decide (vert < s.o 0x2006 1) && decide ((s.port p).vert ≥ s.o 0x2006 1)) = true := by simp [hwarn, hfall]
  rw [execMarginRetrainTimeout_eq]
  simp only [if_pos hyes]
  have hrule := (s.measured p vert horiz).report_rule { source := 0x02, syndrome := p.toNat } p
  rw [State.measured_o, State.measured_o] at hrule
  generalize (s.measured p vert horiz).report { source := 0x02, syndrome := p.toNat } = t at hrule ⊢
  rcases hrule with ⟨h2, h7⟩ | hout
  · exact if_pos (by simp [h2, h7, hlow, hauto])
  · rw [State.retrainTry_of_not_joined hout, ite_self]

end

/-! ### Outages (R115–R122) -/

section
variable {o : Outage} (hout : (s.port p).outage = some o)
include hout

theorem execRetrainDone_of_active (hstage : o.stage = .active) (hrecal : o.recal = false) :
    execRetrainDone p s = .next (((s.setPort p { s.port p with
      outage := none, trained := true, training := false, lastRetrain := some s.clock,
      retrains := s.clock :: (s.port p).retrains.take 7 }).portCount p 0x0E).topology 3 p none).ringUpdate := by
  simp only [execRetrainDone, hout, hstage, hrecal, decide_true, Bool.not_false, Bool.and_self, if_true]

theorem execRecalDeferTimeout_of_due (hstage : o.stage = .deferred) (hrecal : o.recal = true)
    (hdue : ticksMs 50 + o.since ≤ s.clock) :
    execRecalDeferTimeout p s = .next (((s.setPort p { portUnjoin (s.port p) with
      synth := false, outage := none, calTemp := some o.temp, tx := none, suspended := none, suspEnd := none }).portCount p
        0x0F).unplannedDown p) := by
  simp only [execRecalDeferTimeout, hout, hstage, hrecal, hdue, decide_true, Bool.and_self, if_true]

theorem execOutageDeferralExpiry_of_deferred (hstage : o.stage = .deferred) :
    execOutageDeferralExpiry p s = .next (s.outageTry p o) := by
  simp only [execOutageDeferralExpiry, hout, hstage, if_true]

theorem execNoticeLeadExpiry_of_due (hstage : o.stage = .announced) (hdue : ticksUs o.lead + o.since ≤ s.clock) :
    execNoticeLeadExpiry p s =
      let t := s.setPort p { s.port p with outage := some { o with stage := .active, since := s.clock } }
      if o.recal then .next (t.setPort p { t.port p with synth := false }).ringUpdate
      else .next (t.leaveService p).ringUpdate := by
  simp only [execNoticeLeadExpiry, hout]
  exact if_neg (by simp [hstage, hdue])

theorem execNoticeLeadExpiry_of_recal (hstage : o.stage = .announced) (hrecal : o.recal = true)
    (hdue : ticksUs 1000 + o.since ≤ s.clock) :
    execNoticeLeadExpiry p s = .next (s.setPort p { s.port p with
      synth := false, outage := some { o with stage := .active, since := s.clock } }).ringUpdate := by
  rw [execNoticeLeadExpiry_of_due hout hstage (by simpa [Outage.lead, hrecal] using hdue)]
  refine (if_pos hrecal).trans ?_
  cases p <;> rfl

theorem execNoticeLeadExpiry_of_retrain (hstage : o.stage = .announced) (hrecal : o.recal = false)
    (hdue : ticksUs 100 + o.since ≤ s.clock) :
    execNoticeLeadExpiry p s = .next ((s.setPort p { s.port p with
      outage := some { o with stage := .active, since := s.clock } }).leaveService p).ringUpdate := by
  rw [execNoticeLeadExpiry_of_due hout hstage (by simpa [Outage.lead, hrecal] using hdue)]
  exact if_neg (by simp [hrecal])

end

/-! ### Synthesizer (R101, R102, R121) -/

theorem execSynthRecalStart_of_drift {temp t0 : Int} (hcal : (s.port p).calTemp = some t0) (hdrift : (temp - t0).natAbs ≥ 10)
    (hout : (s.port p).outage = none) (hsynth : (s.port p).synth = true) :
    execSynthRecalStart p temp s =
      .next (s.outageTry p { recal := true, stage := .deferred, since := s.clock, temp := temp }) :=
  if_pos (by simp [hcal, hdrift, hout, hsynth])

theorem State.setPort_node (x : RingPort) : (s.setPort p x).node = s.node := by
  cases p <;> rfl

theorem execSynthLockLoss_of_locked (hsynth : (s.port p).synth = true) :
    execSynthLockLoss p s = .next (((s.setPort p { portUnjoin (s.port p) with
      synth := false, tx := none, suspended := none, suspEnd := none }).portCount p 0x0F).downAdd s.node (portCode p)).ringUpdate := by
  simp only [execSynthLockLoss, hsynth, Bool.not_true, Bool.false_eq_true, if_false, State.setPort_node]

theorem execSynthRelock_of_none (hout : (s.port p).outage = none) : execSynthRelock p s = .next (s.synthLock p) := by
  have hstill : ((s.synthLock p).port p).outage = none := by
    rw [State.synthLock, State.port_setPort_self]
    exact hout
  simp only [execSynthRelock, hstill]

/-! ### Ordered sets (R100, R107) -/

theorem execClass7Suspend_of_waiting {off : Nat} {h : Hdr} (htx : (s.port p).tx = some h) (hcls : h.cls ≠ 7)
    (hwait : (s.queue (8 * p.toNat + 7)).onchip ++ (s.queue (8 * p.toNat + 7)).returned ≠ []) (hoff : off % 64 = 0)
    (hroom : off + 64 < h.length + 16 * b2n h.auth + 4) : execClass7Suspend p off s = .next (s.suspend p h off) := by
  simp only [execClass7Suspend, htx]
  refine if_pos ?_
  simpa [hcls, hoff, hroom, or_iff_not_imp_left] using hwait

/-- The note in `p`'s own frame leaves what every port sends. -/
theorem State.tx_setPort_rx (q : Port) (l : List RxFrame) :
    ((s.setPort p { s.port p with rx := l }).port q).tx = (s.port q).tx := by
  cases p <;> cases q <;> rfl

theorem execSuspendReceived_of_cut {off : Nat} {h : Hdr} {r : RxFrame} {l : List RxFrame} {q : Port}
    (hrx : (s.port p).rx = r :: l) (hegress : r.egress = some q) (hcut : r.cut = true) (htx : (s.port q).tx = some h)
    (hseq : h.seq = r.f.hdr.seq) (hsource : h.source = r.f.hdr.source) (hcls : h.cls = r.f.hdr.cls) :
    execSuspendReceived p off s =
      .next ((s.setPort p { s.port p with rx := { r with upSusp := true } :: l }).suspend q h off) := by
  simp only [execSuspendReceived, hrx, hegress, State.tx_setPort_rx, htx]
  exact if_pos (by simp [hcut, hseq, hsource, hcls])

end

/-- Settles O42: each command under its condition is its effect; a low margin's report leaves the rule for retraining or resets the ring. -/
theorem portsFallAndRise : Obligations.PortsFallAndRise := by
  unfold Obligations.PortsFallAndRise
  intro s p o
  refine ⟨fun hup => if_pos hup, fun hused hup hmode => if_neg (by simp [hused, hup, hmode]),
    fun htrain => execTrainingComplete_of_training htrain,
    fun hup htrained htrain hmedia hdue => if_pos (by simp [hup, htrained, htrain, hmedia, hdue]),
    fun vert horiz hlow hauto => ⟨fun hquiet => execMarginRetrainTimeout_of_quiet hlow hauto horiz hquiet,
      fun hwarn hfall => execMarginRetrainTimeout_of_reported hlow hauto horiz hwarn hfall⟩,
    fun hmany => congrArg Host.Outcome.next (if_pos hmany),
    fun hout hstage hrecal => execRetrainDone_of_active hout hstage hrecal,
    fun hout hstage hrecal hdue => execRecalDeferTimeout_of_due hout hstage hrecal hdue,
    fun hout hstage => execOutageDeferralExpiry_of_deferred hout hstage,
    fun hout hstage hrecal hdue => execNoticeLeadExpiry_of_recal hout hstage hrecal hdue,
    fun hout hstage hrecal hdue => execNoticeLeadExpiry_of_retrain hout hstage hrecal hdue,
    fun temp t0 hcal hdrift hout hsynth => execSynthRecalStart_of_drift hcal hdrift hout hsynth,
    fun hsynth => execSynthLockLoss_of_locked hsynth,
    fun hout => execSynthRelock_of_none hout,
    fun hlive hring htx hdue => if_pos (by simp [hlive, hring, htx, hdue]),
    fun off h htx hcls hwait hoff hroom => execClass7Suspend_of_waiting htx hcls hwait hoff hroom,
    fun off h r l q hrx hegress hcut htx hseq hsource hcls =>
      execSuspendReceived_of_cut hrx hegress hcut htx hseq hsource hcls⟩

end Sys2Proof.Machine
end


section
/-!
PROOF. Origination (R98, R99, R481, R549).
-/

namespace Sys2Proof.Machine

open Sys2Proof

/-- Settles O43: each command under its conditions is its effect; a standby with nothing of its units waiting discards nothing there. -/
theorem framesAreOriginated : Obligations.FramesAreOriginated := by
  unfold Obligations.FramesAreOriginated
  intro s
  refine ⟨fun o l hon hring hmode hnext => ?_, fun c l odd hon hring hmode hnext hpacket => ?_,
    fun c l odd hon hring hmode horig hpacket => ?_, fun o l hwait hadmits hways => ?_, fun hoff hmode hlate => ?_⟩
  · change execFrameOriginate s = _
    simp [execFrameOriginate, hon, hring, hmode, hnext]
  · change execFrameOriginate s = _
    simp [execFrameOriginate, hon, hring, hmode, hnext, hpacket]
  · have hsame : { s with ring := { s.ring with orig := s.ring.orig.filter fun o => standbyMay o.hdr } } = s := by
      rw [horig, List.filter_nil, ← horig]
    have hgone : s.ring.orig.filter (fun o => !standbyMay o.hdr) = [] := by
      rw [horig, List.filter_nil]
    have hnone : s.nextOrig [] s.ring.orig = none := by
      rw [horig, State.nextOrig]
    change execFrameOriginate s = _
    rw [execFrameOriginate, if_neg (by simp [hon, hring])]
    dsimp only
    rw [if_pos hmode, hsame]
    rw [hgone, List.foldl_nil, hnone, hpacket]
    exact if_pos hmode
  · change execC7BucketAdmit s = _
    simp [execC7BucketAdmit, hwait, hadmits, hways]
  · exact if_neg (by simp [hoff, hmode, Nat.not_lt.2 hlate])

end Sys2Proof.Machine
end


section
/-!
PROOF. The mark of old requests with nothing waiting (R143): the pass is counted in `marks`, so the state does not stay as it was.
-/

namespace Sys2Proof.Machine

open Sys2Proof

/-- A mark on an idle port still numbers the pass: from the power-on state the next one has `marks` 1. -/
theorem exec_ancientMark_idle : exec (.ancientMark 0) {} ≠ .next {} := by
  intro h
  have hmarks : (1 : Nat) = 0 := congrArg (fun t : State => t.sw.marks) (Host.Outcome.next.inj h)
  exact absurd hmarks (by decide)

/-- Refutes O44: with nothing waiting at the DRAM port the mark still counts its pass in `marks`, so the state `{}` does not stay as it is. -/
theorem not_switchAuditAndArbiter : ¬ Obligations.SwitchAuditAndArbiter := by
  unfold Obligations.SwitchAuditAndArbiter
  intro h
  obtain ⟨-, -, -, -, -, -, -, -, -, hidle, -⟩ := h {}
  exact exec_ancientMark_idle (hidle 0 rfl rfl)

end Sys2Proof.Machine
end


section
/-!
PROOF. Accesses over the fabric (R5, R10, R92, R161, R173, R174, R388, R389).
-/

namespace Sys2Proof.Machine

open Sys2Proof

/-- Applying a pin word leaves the engine's checkpoint. -/
theorem pinApply_ckpt (x : Engine) (w : PinWrite) : (pinApply x w).ckpt = x.ckpt := rfl

/-- Settles O45: each access by the case that its conditions select. -/
theorem fabricAccesses : Obligations.FabricAccesses := by
  unfold Obligations.FabricAccesses
  intro s
  refine ⟨fun f hnext => ⟨fun hlen => ?_, fun hlo hhi => ?_⟩, fun f t htake => ?_, fun f t htake => ⟨fun hnone => ?_, fun r k hfind hk => ?_⟩,
    fun id n at_ r hrem hwho hsent hat hlate => ?_, fun c addr v hc haddr => ?_, fun c addr v hc halign haddr => ?_,
    fun e i l hsh hstaging htick => ⟨fun hckpt => ?_, fun k hckpt => ?_⟩⟩
  · change execFabricReadRequest s = _
    simp only [execFabricReadRequest, hnext]
    rw [if_pos (by simpa using hlen)]
  · change execFabricReadRequest s = _
    simp only [execFabricReadRequest, hnext]
    rw [if_neg (by simp; omega)]
    cases s.localRead (nodeCtx f.hdr.source) (specField f.hdr 20 6 % 2 ^ 40) (specField f.hdr 26 2) with
    | error e => rfl
    | ok r =>
      obtain ⟨t, b⟩ := r
      cases b <;> rfl
  · change execFabricWritePart s = _
    simp only [execFabricWritePart, htake]
  · change execReadResponseReceived s = _
    simp only [execReadResponseReceived, htake, hnone]
  · change execReadResponseReceived s = _
    simp only [execReadResponseReceived, htake, hfind, hk]
  · change execSplitRemoteTimeout id s = _
    simp only [execSplitRemoteTimeout, hrem, hwho, hat]
    exact if_neg (by simp [hsent, hlate])
  · change execRegisterWrite c addr v s = _
    rw [execRegisterWrite, if_neg (by simp [hc]), if_pos (by simpa using haddr)]
  · change execRegisterWrite c addr v s = _
    rw [execRegisterWrite, if_neg (by simp [hc]), if_neg (by simp only [halign, ge_iff_le, Nat.not_le.2 haddr]; simp)]
    dsimp only
    obtain ⟨t, e⟩ := s.regWrite c addr v.toNat
    cases e <;> rfl
  · change execStagedEntryApply e s = _
    simp only [execStagedEntryApply, hsh, hstaging]
    rw [if_pos htick]
    simp [hckpt, pinApply_ckpt]
  · change execStagedEntryApply e s = _
    simp only [execStagedEntryApply, hsh, hstaging]
    rw [if_pos htick]
    simp [hckpt, Nat.sub_eq_zero_iff_le]

end Sys2Proof.Machine
end


section
/-!
PROOF. A tick of an engine that runs a legal word, and the register instructions of an engine whose writes are direct (R212, R213, R217,
R218, R223–R225).
-/

namespace Sys2Proof.Machine

open Sys2Proof

/-! ### A tick of an engine -/

/-- The engine that fetches a word of the instruction runs it. -/
theorem State.engRun_of_fetches {s : State} {e w : Nat} (hf : s.fetches e w) {sel : Nat → Bool} (hsel : sel w = true)
    (op : Nat → State → EngRes) :
    s.engRun e sel op = match op w s with
      | .stall t => t.stalled e
      | .done t j pw => s.ends t e w j pw
      | .over t => t := by
  obtain ⟨hst, hrun, rfl, hbad, hlost⟩ := hf
  have hgo : (!(s.enginesRun e && sel (s.engWord e) && (s.wordBad e (s.engWord e)).isNone) || s.wordLost e) = false := by
    rw [hrun, hsel, hbad, hlost]
    rfl
  have hidle : (s.eng e).st ≠ .groupIdle := by
    rw [hst]
    decide
  rw [State.engRun]
  simp only [hgo, Bool.false_eq_true, if_false]
  rw [if_neg hidle, if_pos hst]
  cases op (s.engWord e) s with
  | stall t => rfl
  | done t j pw =>
    dsimp only
    rw [State.ends]
    cases t.engFinish e (s.engWord e) j pw
    · rfl
    · rfl
  | _ => rfl

theorem State.engRun_stall {s t : State} {e w : Nat} (hf : s.fetches e w) {sel : Nat → Bool} (hsel : sel w = true)
    {op : Nat → State → EngRes} (hop : op w s = .stall t) : s.engRun e sel op = t.stalled e := by
  rw [State.engRun_of_fetches hf hsel, hop]

theorem State.engRun_done {s t : State} {e w : Nat} (hf : s.fetches e w) {sel : Nat → Bool} (hsel : sel w = true)
    {op : Nat → State → EngRes} {j : Option Nat} {pw : PinWrite} (hop : op w s = .done t j pw) : s.engRun e sel op = s.ends t e w j pw := by
  rw [State.engRun_of_fetches hf hsel, hop]

theorem State.engRun_over {s t : State} {e w : Nat} (hf : s.fetches e w) {sel : Nat → Bool} (hsel : sel w = true)
    {op : Nat → State → EngRes} (hop : op w s = .over t) : s.engRun e sel op = t := by
  rw [State.engRun_of_fetches hf hsel, hop]

/-- A direct write never waits for the staging store. -/
theorem engWrite_of_direct {x : Engine} (h : x.sh = .direct) (pw : PinWrite) : ∃ y, engWrite x pw = some y := by
  unfold engWrite
  split
  · exact ⟨x, rfl⟩
  · rw [h]
    exact ⟨_, rfl⟩

/-- An engine whose writes are direct ends its instruction. -/
theorem State.engFinish_of_direct {t : State} {e : Nat} (h : (t.eng e).sh = .direct) (w : Nat) (j : Option Nat) (pw : PinWrite) :
    t.engFinish e w j pw = some (t.ended e w j pw) := by
  obtain ⟨y, hy⟩ := engWrite_of_direct h (pinOnly (t.driveMask e) (pinMerge pw (t.sideWrite e w)))
  rw [State.ended, State.engFinish]
  simp only [hy, Option.map_some, Option.getD_some]

theorem State.engRun_ended {s t : State} {e w : Nat} (hf : s.fetches e w) {sel : Nat → Bool} (hsel : sel w = true)
    (hdir : (t.eng e).sh = .direct) {op : Nat → State → EngRes} {j : Option Nat} {pw : PinWrite} (hop : op w s = .done t j pw) :
    s.engRun e sel op = t.ended e w j pw := by
  rw [State.engRun_done hf hsel hop, State.ends, State.engFinish_of_direct hdir, Option.getD_some]

/-- The instruction ends in a state that rewrote its engine. -/
theorem State.engRun_ended_setEng {s t : State} {e w : Nat} (hf : s.fetches e w) {sel : Nat → Bool} (hsel : sel w = true)
    {x : Engine} (hdir : x.sh = .direct) {op : Nat → State → EngRes} {j : Option Nat} {pw : PinWrite}
    (hop : op w s = .done (t.setEng e x) j pw) : s.engRun e sel op = (t.setEng e x).ended e w j pw :=
  State.engRun_ended hf hsel (by rw [State.eng_setEng_self]; exact hdir) hop

/-! ### The instructions -/

/-! ### Choices by a field of the word -/

theorem movValue (k : Nat) (a : W24) : (match k with
    | 0 => a
    | 1 => ~~~a
    | 2 => rev24 a
    | _ => a + 1) = if k = 0 then a else if k = 1 then ~~~a else if k = 2 then rev24 a else a + 1 := by
  rcases k with _ | _ | _ | k
  · rfl
  · rfl
  · rfl
  · simp

theorem cmpFirst (k : Nat) (a b c d e f : W24) : (match k with
    | 0 => a
    | 1 => b
    | 2 => c
    | 3 => d
    | 4 => e
    | _ => f) = if k = 0 then a else if k = 1 then b else if k = 2 then c else if k = 3 then d else if k = 4 then e else f := by
  rcases k with _ | _ | _ | _ | _ | k
  · rfl
  · rfl
  · rfl
  · rfl
  · rfl
  · simp

theorem cmpSecond (k : Nat) (a b : W24) (c : Prop) [Decidable c] (p q : W24) : (match k with
    | 0 => a
    | 1 => b
    | _ => if c then p else q) = if k = 0 then a else if k = 1 then b else if c then p else q := by
  rcases k with _ | _ | k
  · rfl
  · rfl
  · simp

/-- Settles O47: each instruction's own work, by the fields of its word, ended by `State.engRun_ended`. -/
theorem engineRegisterInstructions : Obligations.EngineRegisterInstructions := by
  unfold Obligations.EngineRegisterInstructions
  intro s e w hf hspec hdir
  refine ⟨fun hop => ?_, fun hop hpush => ?_, fun hop hpull => ?_, fun hop => ?_, fun hop => ?_, fun hop => ?_⟩
  · refine ⟨fun hk => ?_, fun hk => ?_, fun hk => ?_, fun hk => ?_, fun hk => ?_, fun hk => ?_, fun hk => ?_, fun hk => ?_⟩
    · exact congrArg Host.Outcome.next (State.engRun_ended hf hop hdir (by simp [hk]))
    · exact congrArg Host.Outcome.next (State.engRun_ended hf hop hdir (by simp [hk]))
    · exact congrArg Host.Outcome.next (State.engRun_ended hf hop hdir (by simp [hk]))
    · exact congrArg Host.Outcome.next (State.engRun_ended_setEng hf hop (by exact hdir) (by simp [hk]))
    · exact congrArg Host.Outcome.next (State.engRun_ended_setEng hf hop (by exact hdir) (by simp [hk]))
    · exact congrArg Host.Outcome.next (State.engRun_ended hf hop hdir (by simp [hk]))
    · exact congrArg Host.Outcome.next (State.engRun_ended hf hop hdir (by simp [hk]))
    · exact congrArg Host.Outcome.next (State.engRun_ended hf hop hdir (by simp [hk]))
  · have hstays : ¬ (fld w 5 5 = 1 ∧ s.o 0x6006 1 e ≤ min ((s.eng e).r.isrCnt + fld w 11 7) 24) := by omega
    change execInp (clOf e) (engPlace e) s = _
    rw [execInp]
    simp only [clEng_of]
    exact congrArg Host.Outcome.next (State.engRun_ended_setEng hf hop (by exact hdir) (by
      simp only [hspec, Bool.false_eq_true, if_false]
      exact if_neg (by simpa using hstays)))
  · have hstays : ¬ (fld w 5 5 = 1 ∧ s.o 0x6006 2 e ≤ (s.eng e).r.osrCnt) := by omega
    have hexec : exec (.outp (clOf e) (engPlace e)) s = execOutp (clOf e) (engPlace e) s := rfl
    simp only [hexec, execOutp, clEng_of]
    refine ⟨fun hk => ?_, fun hk => ?_, fun hk => ?_, fun hk => ?_, fun hk => ?_, fun hk => ?_, fun hk => ?_⟩
    · exact congrArg Host.Outcome.next (State.engRun_ended_setEng hf hop (by exact hdir) (by simp [hk, hstays]))
    · exact congrArg Host.Outcome.next (State.engRun_ended_setEng hf hop (by exact hdir) (by simp [hk, hstays]))
    · exact congrArg Host.Outcome.next (State.engRun_ended_setEng hf hop (by exact hdir) (by simp [hk, hstays]))
    · exact congrArg Host.Outcome.next (State.engRun_ended_setEng hf hop (by exact hdir) (by simp [hk, hstays]))
    · exact congrArg Host.Outcome.next (State.engRun_ended_setEng hf hop (by exact hdir) (by simp [hk, hstays]))
    · exact congrArg Host.Outcome.next (State.engRun_ended_setEng hf hop (by exact hdir) (by simp [hk, hstays]))
    · exact congrArg Host.Outcome.next (State.engRun_ended_setEng hf hop (by exact hdir) (by simp [hk, hstays]))
  · dsimp only
    rw [← movValue]
    refine ⟨fun hk => ?_, fun hk => ?_, fun hk => ?_, fun hk => ?_, fun hk => ?_, fun hk => ?_, fun hk => ?_, fun hk => ?_⟩
    · exact congrArg Host.Outcome.next (State.engRun_ended_setEng hf hop (by exact hdir) (by simp only [hk] <;> rfl))
    · exact congrArg Host.Outcome.next (State.engRun_ended_setEng hf hop (by exact hdir) (by simp only [hk] <;> rfl))
    · exact congrArg Host.Outcome.next (State.engRun_ended_setEng hf hop (by exact hdir) (by simp only [hk] <;> rfl))
    · exact congrArg Host.Outcome.next (State.engRun_ended_setEng hf hop (by exact hdir) (by simp only [hk] <;> rfl))
    · exact congrArg Host.Outcome.next (State.engRun_ended hf hop hdir (by simp only [hk] <;> rfl))
    · exact congrArg Host.Outcome.next (State.engRun_ended hf hop hdir (by simp only [hk] <;> rfl))
    · exact congrArg Host.Outcome.next (State.engRun_ended hf hop hdir (by simp only [hk] <;> rfl))
    · exact congrArg Host.Outcome.next (State.engRun_ended_setEng hf hop (by exact hdir) (by simp only [hk, hspec] <;> rfl))
  · refine ⟨fun hk => ?_, fun hk => ?_, fun hk => ?_, fun hk => ?_⟩
    · exact congrArg Host.Outcome.next (State.engRun_ended_setEng hf hop (by exact hdir) (by simp only [hk]))
    · exact congrArg Host.Outcome.next (State.engRun_ended_setEng hf hop (by exact hdir) (by simp only [hk]))
    · exact congrArg Host.Outcome.next (State.engRun_ended hf hop hdir (by simp only [hk]))
    · exact congrArg Host.Outcome.next (State.engRun_ended hf hop hdir (by simp only [hk]))
  · refine ⟨_, _, rfl, rfl, congrArg Host.Outcome.next (State.engRun_ended_setEng hf hop (by exact hdir) ?_)⟩
    rw [← cmpFirst, ← cmpSecond] <;> rfl

end Sys2Proof.Machine
end


section
/-!
PROOF. The engine instructions that meet channels, events, flags and other engines (R214–R216, R219–R222, R226, R227, R230). The engines'
own states stand while items enter channels, grants are taken and flags change, so an engine whose writes are direct ends its instruction.
-/

namespace Sys2Proof.Machine

open Sys2Proof

/-! ### What leaves the engines -/

theorem State.engines_tapSee (s : State) (c : Nat) (l : List Item) : (s.tapSee c l).engines = s.engines := by
  unfold State.tapSee
  dsimp only
  split <;> rfl

theorem State.engines_chanWrite {s t : State} {c : Nat} {i : Item} (h : s.chanWrite c i = some t) : t.engines = s.engines := by
  obtain ⟨-, rfl⟩ | ⟨-, -, rfl⟩ | ⟨-, -, -, rfl⟩ := s.chanWrite_cases h
  · rfl
  · rfl
  · dsimp only
    split
    · exact State.engines_tapSee _ _ _
    · rfl

theorem State.engines_chanWriteAll (s : State) (c : Nat) (l : List Item) : (s.chanWriteAll c l).1.engines = s.engines := by
  induction l generalizing s with
  | nil => rfl
  | cons i l ih =>
    rw [State.chanWriteAll]
    cases h : s.chanWrite c i with
    | none => rfl
    | some t => exact (ih t).trans (State.engines_chanWrite h)

theorem State.engines_grant (s : State) (e n : Nat) : (s.grant e n).1.engines = s.engines := by
  unfold State.grant
  dsimp only
  split
  · split <;> rfl
  · split <;> rfl

theorem State.eng_of_engPush {s t : State} {e : Nat} {l : List Item} (h : (s.engPush e l).1 = some t) (f : Nat) : t.eng f = s.eng f := by
  have hengines : t.engines = s.engines := by
    have hgrant := s.engines_grant e l.length
    unfold State.engPush at h
    split at h
    · cases h
      rfl
    · next c =>
      split at h
      · cases h
      · split at h
        · cases h
        · next u heq =>
          cases h
          rw [heq] at hgrant
          exact (State.engines_chanWriteAll _ _ _).trans hgrant
  rw [State.eng, hengines, State.eng]

theorem State.engines_hostInt (s : State) (v : Nat) : (s.hostInt v).engines = s.engines := by
  unfold State.hostInt
  dsimp only
  split_ifs <;> rfl

theorem State.engPush_eq {s : State} {e : Nat} {l : List Item} {o : Option State} (h : (s.engPush e l).1 = o) :
    ∃ u, s.engPush e l = (o, u) := ⟨_, Prod.ext h rfl⟩

theorem State.engines_flagPut (s : State) (c f : Nat) (v : Bool) : (s.flagPut c f v).engines = s.engines := by
  unfold State.flagPut State.flagRaised
  dsimp only
  split
  · rfl
  · split
    · split
      · exact State.engines_hostInt _ _
      · rfl
      · rfl
    · rfl

theorem State.engines_flagSet (s : State) (c f : Nat) : (s.flagSet c f).engines = s.engines := State.engines_flagPut _ _ _ _

theorem State.engines_flagClear (s : State) (c f : Nat) : (s.flagClear c f).engines = s.engines := by
  unfold State.flagClear
  split
  · rfl
  · exact State.engines_flagPut _ _ _ _

theorem State.engines_flagToggle (s : State) (c f : Nat) : (s.flagToggle c f).engines = s.engines := by
  unfold State.flagToggle
  dsimp only
  rw [State.engines_flagPut]
  split <;> rfl

theorem State.engines_wake (s : State) : s.wake.engines = s.engines := by
  unfold State.wake
  split <;> rfl

/-- The state after the wake that an IRQ may ask for. -/
def State.irqWakes (t : State) (w : Nat) : State := if fld w 12 12 = 1 then t.wake else t

theorem State.engines_irqWakes (t : State) (w : Nat) : (t.irqWakes w).engines = t.engines := by
  unfold State.irqWakes
  split
  · exact t.engines_wake
  · rfl

/-- With the engines as they were, engine `e` is as it was. -/
theorem State.eng_of_engines {s t : State} (h : t.engines = s.engines) (e : Nat) : t.eng e = s.eng e := by
  rw [State.eng, h, State.eng]

/-- An engine whose writes are direct and that does not speculate holds no checkpoint. -/
theorem ckpt_of_not_spec {x : Engine} (h : engSpec x = false) : x.ckpt = none := by
  have hnone : x.ckpt.isSome = false := (Bool.or_eq_false_iff.1 h).2
  simpa using hnone

/-- A later write of an engine replaces that of a running one. -/
theorem State.setEng_setEng (s : State) (e : Nat) {x : Engine} (hx : x.st = .running) (y : Engine) :
    (s.setEng e x).setEng e y = s.setEng e y := by
  have hne : x ≠ {} := fun h => by
    rw [h] at hx
    cases hx
  unfold State.setEng
  dsimp only
  rw [tset_tset hne]

/-! ### A pull leaves the engine running -/

theorem engTakes_st {x y : Engine} {i : Item} {stays : Bool} (h : engTakes x i = some (stays, y)) : y.st = x.st := by
  unfold engTakes at h
  dsimp only at h
  split at h
  · split at h
    · cases h
      rfl
    · cases h
  · split at h
    · cases h
    · cases h
      rfl
  · split at h
    · cases h
    · split at h
      · cases h
        rfl
      · cases h
        rfl
  · split at h
    · cases h
      rfl
    · cases h
      rfl

theorem State.engines_chanIdle (s : State) (c : Nat) (waits : Bool) : (s.chanIdle c waits).engines = s.engines := by
  unfold State.chanIdle
  dsimp only
  split_ifs <;> rfl

theorem State.st_of_engPull {s t : State} {e : Nat} {nb : Bool} {d : W24} {i : BitVec 7} (h : s.engPull e nb = .got t d i) :
    (t.eng e).st = (s.eng e).st := by
  unfold State.engPull at h
  split at h
  · cases h
    rfl
  · split at h
    · split at h
      · cases h
        exact congrArg Engine.st (State.eng_of_engines (State.engines_chanIdle _ _ _) e)
      · cases h
    · split at h
      · cases h
      · next htakes =>
        have hst := engTakes_st htakes
        split at h
        · cases h
        · split at h
          · cases h
            exact (congrArg Engine.st (State.eng_setEng_self _ _ _)).trans hst
          · cases h
            exact (congrArg Engine.st (State.eng_setEng_self _ _ _)).trans hst

/-- A level that is not the wanted one. -/
theorem ne_of_bool_not {b : Bool} {p : Prop} [Decidable p] (h : b = !decide p) : ¬ ((b = true) = p) := by
  by_cases hp : p
  · simp [h, hp]
  · simp [h, hp]

/-! ### Clauses of one instruction -/

/-- How a PUSH of source `src` goes on after the channel took its item or did not. -/
def pushEnd (e : Nat) (x : Engine) (src : Nat) : Option State × State → EngRes
  | (none, t) => .stall t
  | (some t, _) => .done (if src = 0 then t.setEng e { t.eng e with r := { x.r with isr := 0, isrCnt := 0 } } else t) none {}

section Fetched
variable {s : State} {e : Fin 256} {w : Nat}

theorem exec_pull_fetched (hf : s.fetches e w) (hop : isOp 4 w = true) :
    (∀ t d i, s.engPull e (fld w 14 14 = 1) = .got t d i →
      exec (.pull (clOf e) (engPlace e)) s = .next (s.ends (t.setEng e (osrLoad (t.eng e) d i)) e w none {})) ∧
    (∀ t, s.engPull e (fld w 14 14 = 1) = .wait t → exec (.pull (clOf e) (engPlace e)) s = .next (t.stalled e)) := by
  have hexec : exec (.pull (clOf e) (engPlace e)) s = execPull (clOf e) (engPlace e) s := rfl
  simp only [hexec, execPull, clEng_of]
  refine ⟨fun t d i hpull => ?_, fun t hpull => ?_⟩
  · exact congrArg Host.Outcome.next (State.engRun_done hf hop (by simp only [hpull]))
  · exact congrArg Host.Outcome.next (State.engRun_stall hf hop (by simp only [hpull]))

theorem exec_spec_waits (hf : s.fetches e w) (hspec : engSpec (s.eng e) = true) :
    (isOp 2 w = true → exec (.inp (clOf e) (engPlace e)) s = .next (s.stalled e)) ∧
    (isOp 5 w = true → exec (.push (clOf e) (engPlace e)) s = .next (s.stalled e)) ∧
    (isOp 10 w = true → exec (.stamp (clOf e) (engPlace e)) s = .next (s.stalled e)) ∧
    (isOp 1 w = true → fld w 14 12 ≤ 1 → exec (.wait (clOf e) (engPlace e)) s = .next (s.stalled e)) ∧
    (isIrq 0 w = true → exec (.irqSet e) s = .next (s.stalled e)) ∧
    (isIrq 1 w = true → exec (.irqClear e) s = .next (s.stalled e)) ∧
    (isIrq 2 w = true → exec (.irqToggle e) s = .next (s.stalled e)) := by
  have hinp : exec (.inp (clOf e) (engPlace e)) s = execInp (clOf e) (engPlace e) s := rfl
  have hpush : exec (.push (clOf e) (engPlace e)) s = execPush (clOf e) (engPlace e) s := rfl
  have hstamp : exec (.stamp (clOf e) (engPlace e)) s = execStamp (clOf e) (engPlace e) s := rfl
  have hwait : exec (.wait (clOf e) (engPlace e)) s = execWait (clOf e) (engPlace e) s := rfl
  simp only [hinp, hpush, hstamp, hwait, execInp, execPush, execStamp, execWait, clEng_of]
  refine ⟨fun hop => ?_, fun hop => ?_, fun hop => ?_, fun hop hk => ?_, fun hop => ?_, fun hop => ?_, fun hop => ?_⟩
  · exact congrArg Host.Outcome.next (State.engRun_stall hf hop (if_pos hspec))
  · exact congrArg Host.Outcome.next (State.engRun_stall hf hop (if_pos hspec))
  · exact congrArg Host.Outcome.next (State.engRun_stall hf hop (if_pos hspec))
  · refine congrArg Host.Outcome.next (State.engRun_stall hf hop ?_)
    obtain hk | hk : fld w 14 12 = 0 ∨ fld w 14 12 = 1 := by omega
    · simp only [hk, hspec, if_true]
    · simp only [hk, hspec, if_true]
  · exact congrArg Host.Outcome.next (State.engRun_stall hf hop (if_pos hspec))
  · exact congrArg Host.Outcome.next (State.engRun_stall hf hop (if_pos hspec))
  · exact congrArg Host.Outcome.next (State.engRun_stall hf hop (if_pos hspec))

/-- An OUT that pulls first loads what it pulled and shifts it. -/
theorem exec_outp_pull (hf : s.fetches e w) (hop : isOp 3 w = true) (hpull : fld w 5 5 = 1) (hcnt : s.o 0x6006 2 e ≤ (s.eng e).r.osrCnt) (hk : fld w 14 12 = 0) :
    (∀ t d i, s.engPull e false = .got t d i →
      exec (.outp (clOf e) (engPlace e)) s = .next (s.ends (t.setEng e { osrLoad (t.eng e) d i with
        r := { (t.eng e).r with
          x := (osrShift d (fld w 11 7) (fld w 6 6 = 1)).1,
          osr := (osrShift d (fld w 11 7) (fld w 6 6 = 1)).2,
          osrCnt := min (fld w 11 7) 24 } }) e w none {})) ∧
    (∀ t, s.engPull e false = .wait t → exec (.outp (clOf e) (engPlace e)) s = .next (t.stalled e)) := by
  have hexec : exec (.outp (clOf e) (engPlace e)) s = execOutp (clOf e) (engPlace e) s := rfl
  have hcond : (decide (fld w 5 5 = 1) && decide ((s.eng e).r.osrCnt ≥ s.o 0x6006 2 e)) = true := by simp [hpull, hcnt]
  simp only [hexec, execOutp, clEng_of]
  refine ⟨fun t d i hgot => ?_, fun t hwait => ?_⟩
  · refine congrArg Host.Outcome.next (State.engRun_done hf hop ?_)
    have hst : (osrLoad (t.eng e) d i).st = .running := (State.st_of_engPull hgot).trans hf.1
    simp only [hcond, hgot, hk, if_true, State.eng_setEng_self, State.setEng_setEng _ _ hst]
    simp only [osrLoad, Nat.zero_add]
  · refine congrArg Host.Outcome.next (State.engRun_stall hf hop ?_)
    simp only [hcond, hwait, if_true]

/-- A direct engine's staging store is never full. -/
theorem sideFull_of_direct (hdir : (s.eng e).sh = .direct) : s.sideFull e w = false := by
  unfold State.sideFull
  simp [hdir]

/-- A WAIT for a compare match, a calendar item or a strobe takes it where it has come. -/
theorem exec_wait_latch (hf : s.fetches e w) (hdir : (s.eng e).sh = .direct) (hop : isOp 1 w = true) :
    let x := s.eng e
    let idx := fld w 5 0
    (fld w 14 12 = 2 → x.cmpLatch = true →
      exec (.wait (clOf e) (engPlace e)) s = .next ((s.setEng e { x with cmpLatch := false }).ended e w none {})) ∧
    (fld w 14 12 = 2 → x.cmpLatch = false → exec (.wait (clOf e) (engPlace e)) s = .next (s.stalled e)) ∧
    (fld w 14 12 = 3 → x.cals.getLsbD idx = true →
      exec (.wait (clOf e) (engPlace e)) s = .next ((s.setEng e { x with cals := x.cals &&& ~~~(1#32 <<< idx) }).ended e w none {})) ∧
    (fld w 14 12 = 3 → x.cals.getLsbD idx = false → exec (.wait (clOf e) (engPlace e)) s = .next (s.stalled e)) ∧
    (fld w 14 12 = 4 → x.strobes.getLsbD idx = true →
      exec (.wait (clOf e) (engPlace e)) s = .next ((s.setEng e { x with strobes := x.strobes &&& ~~~(1#8 <<< idx) }).ended e w none {})) ∧
    (fld w 14 12 = 4 → x.strobes.getLsbD idx = false → exec (.wait (clOf e) (engPlace e)) s = .next (s.stalled e)) := by
  have hexec : exec (.wait (clOf e) (engPlace e)) s = execWait (clOf e) (engPlace e) s := rfl
  simp only [hexec, execWait, clEng_of]
  refine ⟨fun hk h => ?_, fun hk h => ?_, fun hk h => ?_, fun hk h => ?_, fun hk h => ?_, fun hk h => ?_⟩
  · exact congrArg Host.Outcome.next (State.engRun_ended_setEng hf hop (by exact hdir) (by simp only [hk, h, if_true]))
  · exact congrArg Host.Outcome.next (State.engRun_stall hf hop (by simp only [hk, h, Bool.false_eq_true, if_false]))
  · exact congrArg Host.Outcome.next (State.engRun_ended_setEng hf hop (by exact hdir) (by simp only [hk, h, if_true]))
  · exact congrArg Host.Outcome.next (State.engRun_stall hf hop (by simp only [hk, h, Bool.false_eq_true, if_false]))
  · exact congrArg Host.Outcome.next (State.engRun_ended_setEng hf hop (by exact hdir) (by simp only [hk, h, if_true]))
  · exact congrArg Host.Outcome.next (State.engRun_stall hf hop (by simp only [hk, h, Bool.false_eq_true, if_false]))

variable (hf : s.fetches e w) (hspec : engSpec (s.eng e) = false) (hdir : (s.eng e).sh = .direct)
include hf hdir hspec

/-- An IN that pushes empties the shift register once its item is in. -/
theorem exec_inp_push (hop : isOp 2 w = true) (hpush : fld w 5 5 = 1)
    (hcnt : s.o 0x6006 1 e ≤ min ((s.eng e).r.isrCnt + fld w 11 7) 24) :
    let isr := isrShift (s.eng e).r.isr (s.engSource e (fld w 14 12)) (fld w 11 7) (fld w 6 6 = 1)
    let r := s.engPush e [{ kind := s.o 0x6006 3 e, data := packBits isr (s.o 0x6006 1 e) (fld w 6 6 = 1) (s.o 0x6006 4 e = 1) }]
    (∀ t, r.1 = some t → exec (.inp (clOf e) (engPlace e)) s =
      .next ((t.setEng e { s.eng e with r := { (s.eng e).r with isr := 0, isrCnt := 0 } }).ended e w none {})) ∧
    (r.1 = none → exec (.inp (clOf e) (engPlace e)) s = .next (r.2.stalled e)) := by
  have hexec : exec (.inp (clOf e) (engPlace e)) s = execInp (clOf e) (engPlace e) s := rfl
  have hcond : (decide (fld w 5 5 = 1) && decide (min ((s.eng e).r.isrCnt + fld w 11 7) 24 ≥ s.o 0x6006 1 e)) = true := by
    rw [hpush, decide_eq_true hcnt]
    rfl
  simp only [hexec, execInp, clEng_of]
  refine ⟨fun t ht => ?_, fun hnone => ?_⟩
  · refine congrArg Host.Outcome.next (State.engRun_ended_setEng hf hop (by exact hdir) ?_)
    obtain ⟨u, hu⟩ := State.engPush_eq ht
    simp only [hspec, hcond, Bool.false_eq_true, if_false, if_true, hu, State.eng_of_engPush ht]
  · refine congrArg Host.Outcome.next (State.engRun_stall hf hop ?_)
    obtain ⟨u, hu⟩ := State.engPush_eq hnone
    simp only [hspec, hcond, Bool.false_eq_true, if_false, if_true, hu]

/-- A PUSH ends once its item is in; one of the shift register empties it. -/
theorem exec_push_pushes (hop : isOp 5 w = true) :
    let d := if fld w 8 7 = 0 then (s.eng e).r.isr else if fld w 8 7 = 1 then (s.eng e).r.x else (s.eng e).r.y
    let r := s.engPush e [{ kind := fld w 14 11, sop := fld w 10 10 = 1, eop := fld w 9 9 = 1, data := d }]
    (∀ t, r.1 = some t → fld w 8 7 ≠ 0 → exec (.push (clOf e) (engPlace e)) s = .next (t.ended e w none {})) ∧
    (∀ t, r.1 = some t → fld w 8 7 = 0 → exec (.push (clOf e) (engPlace e)) s =
      .next ((t.setEng e { t.eng e with r := { (s.eng e).r with isr := 0, isrCnt := 0 } }).ended e w none {})) ∧
    (r.1 = none → exec (.push (clOf e) (engPlace e)) s = .next (r.2.stalled e)) := by
  have hexec : exec (.push (clOf e) (engPlace e)) s = execPush (clOf e) (engPlace e) s := rfl
  have hdata : (match fld w 8 7 with
      | 0 => (s.eng e).r.isr
      | 1 => (s.eng e).r.x
      | _ => (s.eng e).r.y) = if fld w 8 7 = 0 then (s.eng e).r.isr else if fld w 8 7 = 1 then (s.eng e).r.x else (s.eng e).r.y := by
    rcases fld w 8 7 with _ | _ | k
    · rfl
    · rfl
    · simp
  simp only [hexec, execPush, clEng_of, ← hdata]
  refine ⟨fun t ht hsrc => ?_, fun t ht hsrc => ?_, fun hnone => ?_⟩
  · have hsame := congrArg Engine.sh (State.eng_of_engPush ht e)
    refine congrArg Host.Outcome.next (State.engRun_ended hf hop (hsame.trans hdir) ?_)
    obtain ⟨u, hu⟩ := State.engPush_eq ht
    refine (if_neg (by simp [hspec])).trans ((congrArg (pushEnd e (s.eng e) (fld w 8 7)) hu).trans ?_)
    exact congrArg (fun t => EngRes.done t none {}) (if_neg hsrc)
  · have hsame := congrArg Engine.sh (State.eng_of_engPush ht e)
    refine congrArg Host.Outcome.next (State.engRun_ended_setEng hf hop (by exact hsame.trans hdir) ?_)
    obtain ⟨u, hu⟩ := State.engPush_eq ht
    refine (if_neg (by simp [hspec])).trans ((congrArg (pushEnd e (s.eng e) (fld w 8 7)) hu).trans ?_)
    exact congrArg (fun t => EngRes.done t none {}) (if_pos hsrc)
  · refine congrArg Host.Outcome.next (State.engRun_stall hf hop ?_)
    obtain ⟨u, hu⟩ := State.engPush_eq hnone
    have hrest := congrArg (fun r : Option State × State => EngRes.stall r.2) hu
    exact (if_neg (by simp [hspec])).trans ((congrArg (pushEnd e (s.eng e) (fld w 8 7)) hu).trans hrest.symm)

/-- A STAMP ends once both its items are in. -/
theorem exec_stamp_pushes (hop : isOp 10 w = true) :
    let v := if fld w 14 14 = 1 then (s.eng e).edge else s.st32
    let r := s.engPush e [{ kind := 1, sop := fld w 13 13 = 1, data := BitVec.ofNat 24 (v % 65536) },
      { kind := 2, eop := fld w 12 12 = 1, data := BitVec.ofNat 24 (v / 65536 % 65536) }]
    (∀ t, r.1 = some t → exec (.stamp (clOf e) (engPlace e)) s = .next (t.ended e w none {})) ∧
    (r.1 = none → exec (.stamp (clOf e) (engPlace e)) s = .next (r.2.stalled e)) := by
  have hexec : exec (.stamp (clOf e) (engPlace e)) s = execStamp (clOf e) (engPlace e) s := rfl
  simp only [hexec, execStamp, clEng_of]
  refine ⟨fun t ht => ?_, fun hnone => ?_⟩
  · have hsame := congrArg Engine.sh (State.eng_of_engPush ht e)
    refine congrArg Host.Outcome.next (State.engRun_ended hf hop (hsame.trans hdir) ?_)
    obtain ⟨u, hu⟩ := State.engPush_eq ht
    simp only [hspec, hu, Bool.false_eq_true, if_false]
  · refine congrArg Host.Outcome.next (State.engRun_stall hf hop ?_)
    obtain ⟨u, hu⟩ := State.engPush_eq hnone
    simp only [hspec, hu, Bool.false_eq_true, if_false]

/-- A WAIT for a pin: at its level it takes the edge, before it arms the capture, and a capture that was filled gives its stamp. -/
theorem exec_wait_pin (hop : isOp 1 w = true) (hk : fld w 14 12 = 0) :
    let idx := fld w 5 0
    let pol := decide (fld w 11 11 = 1)
    let delay := (8 + s.filtDelay (pinBank e idx) (pinIn idx)) % 2 ^ 32
    ((s.eng e).capture = none → s.engPin e idx = pol → exec (.wait (clOf e) (engPlace e)) s = .next ((s.setEng e { s.eng e with
      edge := serialDist 32 s.st32 delay, cap := (s.eng e).cnt, capture := none }).ended e w none {})) ∧
    ((s.eng e).capture = none → s.engPin e idx = !pol →
      exec (.wait (clOf e) (engPlace e)) s = .next ((s.setEng e { s.eng e with capture := some (idx, pol, none) }).stalled e)) ∧
    (∀ (i : Nat) (l : Bool) (st : Nat), (s.eng e).capture = some (i, l, some st) → exec (.wait (clOf e) (engPlace e)) s =
      .next ((s.setEng e { s.eng e with edge := serialDist 32 st delay, cap := (s.eng e).cnt, capture := none }).ended e w none {})) := by
  have hexec : exec (.wait (clOf e) (engPlace e)) s = execWait (clOf e) (engPlace e) s := rfl
  simp only [hexec, execWait, clEng_of]
  refine ⟨fun hcap hpin => ?_, fun hcap hpin => ?_, fun i l st hcap => ?_⟩
  · refine congrArg Host.Outcome.next (State.engRun_ended_setEng hf hop (by exact hdir) ?_)
    simp only [hk, hspec, hcap, Bool.false_eq_true, if_false, State.captured]
    exact if_pos (by simp [hpin])
  · refine congrArg Host.Outcome.next (State.engRun_stall hf hop ?_)
    simp only [hk, hspec, hcap, Bool.false_eq_true, if_false]
    exact if_neg (ne_of_bool_not hpin)
  · refine congrArg Host.Outcome.next (State.engRun_ended_setEng hf hop (by exact hdir) ?_)
    simp only [hk, hspec, hcap, Bool.false_eq_true, if_false, State.captured]

/-- A WAIT for a flag of the cluster. -/
theorem exec_wait_flag (hop : isOp 1 w = true) (hk : fld w 14 12 = 1) :
    let idx := fld w 5 0
    let pol := decide (fld w 11 11 = 1)
    ((s.cluster (e.val / 16)).flags.getLsbD idx = pol → exec (.wait (clOf e) (engPlace e)) s =
      .next ((if fld w 10 10 = 1 then s.flagClear (e.val / 16) idx else s).ended e w none {})) ∧
    ((s.cluster (e.val / 16)).flags.getLsbD idx = !pol → exec (.wait (clOf e) (engPlace e)) s = .next (s.stalled e)) := by
  have hexec : exec (.wait (clOf e) (engPlace e)) s = execWait (clOf e) (engPlace e) s := rfl
  have hengines : (if fld w 10 10 = 1 then s.flagClear (e.val / 16) (fld w 5 0) else s).engines = s.engines := by
    split
    · exact State.engines_flagClear _ _ _
    · rfl
  simp only [hexec, execWait, clEng_of]
  refine ⟨fun hflag => ?_, fun hflag => ?_⟩
  · refine congrArg Host.Outcome.next (State.engRun_ended hf hop ((congrArg Engine.sh (State.eng_of_engines hengines e)).trans hdir) ?_)
    simp only [hk, hspec, Bool.false_eq_true, if_false]
    exact if_pos (by simp [hflag])
  · refine congrArg Host.Outcome.next (State.engRun_stall hf hop ?_)
    simp only [hk, hspec, Bool.false_eq_true, if_false]
    exact if_neg (ne_of_bool_not hflag)

/-- The SYNC instructions of an engine that does not speculate. -/
theorem exec_sync_direct :
    let x := s.eng e
    (isSync 0 w = true →
      let t := s.setEng e { x with barrier := true }
      (s.engLock e = none → exec (.syncBarrier e) s = .next (t.stalled e)) ∧
      (∀ g, s.engLock e = some g → exec (.syncBarrier e) s = .next (
        (if t.barrierFull g && !(t.lock g).starting
          then t.setLock g { t.lock g with starting := true, barrier := true, since := s.clock } else t).stalled e))) ∧
    (isSync 1 w = true → exec (.syncArm e) s = .next (((s.bump 0x6021 3 e).ended e w none {}).groupTryRelease)) ∧
    (isSync 2 w = true →
      (x.syncAt = none → exec (.syncRestart e) s = .next ((s.setEng e { x with syncAt := some s.clock }).stalled e)) ∧
      (∀ a, x.syncAt = some a → s.clock < 4 + a → exec (.syncRestart e) s = .next (s.stalled e)) ∧
      (∀ a, x.syncAt = some a → 4 + a ≤ s.clock →
        let t := (s.setEng e { x with syncAt := none }).ended e w none {}
        exec (.syncRestart e) s = .next (t.setEng e (engClockRestart (t.eng e))))) := by
  have hroom := sideFull_of_direct (w := w) hdir
  refine ⟨fun hop => ⟨fun hlock => ?_, fun g hlock => ?_⟩, fun hop => ?_,
    fun hop => ⟨fun hat => ?_, fun a hat hearly => ?_, fun a hat hlate => ?_⟩⟩
  · refine congrArg Host.Outcome.next (State.engRun_stall hf hop ?_)
    have hlock' : (s.setEng e { s.eng e with barrier := true }).engLock e = none := hlock
    simp only [hroom, hlock', Bool.false_eq_true, if_false]
  · refine congrArg Host.Outcome.next (State.engRun_stall hf hop ?_)
    have hlock' : (s.setEng e { s.eng e with barrier := true }).engLock e = some g := hlock
    simp only [hroom, hlock', Bool.false_eq_true, if_false]
    rfl
  · refine congrArg (fun t : State => Host.Outcome.next t.groupTryRelease) (State.engRun_ended (t := s.bump 0x6021 3 e) hf hop hdir ?_)
    simp only [ckpt_of_not_spec hspec]
  · refine congrArg Host.Outcome.next (State.engRun_stall hf hop ?_)
    simp only [hat]
  · refine congrArg Host.Outcome.next (State.engRun_stall hf hop ?_)
    simp only [hat, hearly, if_true]
  · refine congrArg Host.Outcome.next (State.engRun_over hf hop ?_)
    have hfin := State.engFinish_of_direct (t := s.setEng e { s.eng e with syncAt := none })
      (by rw [State.eng_setEng_self]; exact hdir) w none {}
    simp only [hat, Nat.not_lt.2 hlate, if_false, hfin]

/-- An IRQ does its work on the flags and may wake the hub. -/
theorem irqRun_direct {m : Nat} (hop : isIrq m w = true) {act : State → Nat → State} (hact : (act s (fld w 2 0)).engines = s.engines) :
    s.irqRun e m act = ((act s (fld w 2 0)).irqWakes w).ended e w none {} := by
  have hengines : ((act s (fld w 2 0)).irqWakes w).engines = s.engines := (State.engines_irqWakes _ w).trans hact
  refine State.engRun_ended hf hop ((congrArg Engine.sh (State.eng_of_engines hengines e)).trans hdir) ?_
  simp only [hspec, Bool.false_eq_true, if_false, State.irqWakes]

end Fetched

/-- Settles O48: each instruction's clause by a lemma of its own; an undefined word parks its engine. -/
theorem engineChannelAndEventInstructions : Obligations.EngineChannelAndEventInstructions := by
  unfold Obligations.EngineChannelAndEventInstructions
  intro s e w hf
  refine ⟨exec_pull_fetched hf, exec_spec_waits hf, fun k inst hop hckpt hgrp heop => ?_, fun hspec hdir => ?_, fun t f k hst hrun hlost hbad => ?_⟩
  · refine congrArg (fun t : State => Host.Outcome.next t.groupTryRelease) (State.engRun_done hf hop ?_)
    simp only [hckpt, hgrp, heop]
    exact if_pos (by simp)
  · refine ⟨fun hop hpull hcnt hk => exec_outp_pull hf hop hpull hcnt hk, fun hop hpush hcnt => exec_inp_push hf hspec hdir hop hpush hcnt,
      exec_push_pushes hf hspec hdir, exec_stamp_pushes hf hspec hdir, fun hop => ?_, ?_⟩
    · obtain ⟨hcmp, hcmp', hcal, hcal', hstrobe, hstrobe'⟩ := exec_wait_latch hf hdir hop
      exact ⟨fun hk => (exec_wait_pin hf hspec hdir hop hk).1, fun hk => (exec_wait_pin hf hspec hdir hop hk).2.1,
        fun i l st hk => (exec_wait_pin hf hspec hdir hop hk).2.2 i l st, fun hk => (exec_wait_flag hf hspec hdir hop hk).1,
        fun hk => (exec_wait_flag hf hspec hdir hop hk).2, hcmp, hcmp', hcal, hcal', hstrobe, hstrobe'⟩
    · obtain ⟨hbarrier, harm, hrestart⟩ := exec_sync_direct hf hspec hdir
      exact ⟨hbarrier, harm, hrestart,
        fun hop => congrArg Host.Outcome.next (irqRun_direct hf hspec hdir hop (State.engines_flagSet _ _ _)),
        fun hop => congrArg Host.Outcome.next (irqRun_direct hf hspec hdir hop (State.engines_flagClear _ _ _)),
        fun hop => congrArg Host.Outcome.next (irqRun_direct hf hspec hdir hop (State.engines_flagToggle _ _ _))⟩
  · change execUndefinedInstruction f t = _
    simp only [execUndefinedInstruction, hlost, hst, hrun, hbad]
    rfl

end Sys2Proof.Machine
end


section
/-!
PROOF. The clear of no flag at all (R227). A write of the cluster's own value takes a default entry out of its table, so on a table that holds
one the clear, which leaves the state as it is, is not that write.
-/

namespace Sys2Proof.Machine

open Sys2Proof

/-- A state whose table of clusters holds a default entry. -/
def defaultClusterState : State := { clusters := [(0, {})] }

/-- Clearing no flag leaves that state as it is. -/
theorem exec_peClFlagClear_none : exec (.peClFlagClear 0 0) defaultClusterState = .next defaultClusterState := rfl

/-- Refutes O49: a clear of no flag leaves the state `{ clusters := [(0, {})] }`, and writing cluster 0 its own value would empty the table. -/
theorem not_enginesLocksAndBanks : ¬ Obligations.EnginesLocksAndBanks := by
  unfold Obligations.EnginesLocksAndBanks
  intro h
  obtain ⟨-, -, -, -, -, hflags, -⟩ := h defaultClusterState
  obtain ⟨-, hclear⟩ := hflags 0 0 fun f _ => rfl
  have hsame := exec_peClFlagClear_none.symm.trans (hclear fun f _ => rfl)
  have hclusters : ([(0, {})] : Tab Cluster) = [] := congrArg State.clusters (Host.Outcome.next.inj hsame)
  cases hclusters

end Sys2Proof.Machine
end


section
/-!
PROOF. Ring time (R250, R254–R257, R262, R263).
-/

namespace Sys2Proof.Machine

open Sys2Proof

/-- An instant whose period is over is not too early. -/
theorem any_early_eq_false {o : Option Nat} {c n : Nat} (h : ∀ a, o = some a → n + a ≤ c) : o.any (fun a => c < n + a) = false := by
  cases o with
  | none => rfl
  | some a => simpa using h a rfl

/-- A SYNC of another root than the hub's is counted. -/
theorem exec_syncReceived_foreign {s t : State} {p : Port} {f : Frame} {ago origin : Nat} {frac : W32}
    (htake : s.takeLink p (isTime 0) = some (f, t)) (hroot : specField f.hdr 23 1 ≠ t.time.root)
    (horigin : wtRead (f.payload.take 14) = some origin) : exec (.syncReceived p ago frac) s = .next (t.bump 0x3070 2) := by
  have hown : (decide (specField f.hdr 23 1 = t.node && t.time.root = t.node)) = false := by
    refine decide_eq_false fun h => ?_
    obtain ⟨hn, hr⟩ := (Bool.and_eq_true _ _).mp h
    exact hroot ((of_decide_eq_true hn).trans (of_decide_eq_true hr).symm)
  change execSyncReceived p ago frac s = _
  simp only [execSyncReceived, htake, hown, horigin, hroot, Bool.not_false, Bool.false_or, Bool.true_and, ne_eq, not_false_eq_true,
    decide_true, if_true]
  exact if_pos (decide_eq_true hroot)

/-- A SYNC of the hub's root, heard by a hub that is not that root. -/
theorem exec_syncReceived_own {s t : State} {p : Port} {f : Frame} {ago origin : Nat} {frac : W32}
    (htake : s.takeLink p (isTime 0) = some (f, t)) (hroot : specField f.hdr 23 1 = t.time.root) (hnode : t.time.root ≠ t.node)
    (horigin : wtRead (f.payload.take 14) = some origin) :
    let st := specField f.hdr 22 1
    let u := (t.setPort p { t.port p with lastSync := some (st, t.clock) }).updateSync
    let v := if u.ready p.other && st < u.o 0x2003 0 then u.timeFrame p.other
      [0, portCode p.other, st + 1, specField f.hdr 23 1, 0, 0, 0, 0] (f.payload.take 14) (some (f.hdr.residence, u.time.wt - agoOf ago frac)) else u
    exec (.syncReceived p ago frac) s = .next (if v.time.syncPort ≠ some p ∨ f.hdr.residence = 0x80000000 ∨ v.useOwn = true then v
      else (v.bump 0x3070 1).sample (((origin : Int) + (toSigned 32 f.hdr.residence + toSigned 32 (u.linkDelay p)) * 2 ^ 24)
        - ((u.time.wt - agoOf ago frac : Nat) : Int)) v.time.rootCls false) := by
  have hfirst : ¬ ((!(decide (specField f.hdr 23 1 = t.node && t.time.root = t.node)) && decide (specField f.hdr 23 1 ≠ t.time.root)) = true) := by
    simp [hroot]
  have hsecond : ¬ ((decide (specField f.hdr 23 1 = t.node && t.time.root = t.node) || decide (specField f.hdr 23 1 ≠ t.time.root)) = true) := by
    simp [hroot, hnode]
  change execSyncReceived p ago frac s = _
  rw [execSyncReceived, htake]
  dsimp only
  rw [if_neg hfirst, horigin]
  dsimp only
  rw [if_neg hsecond]
  refine Eq.trans (if_congr ?_ rfl rfl) (apply_ite Host.Outcome.next _ _ _).symm
  simp only [Bool.or_eq_true, decide_eq_true_eq, or_assoc]

/-- Settles O50: each command under its conditions is its effect; a SYNC by its root. -/
theorem ringTimeIsKept : Obligations.RingTimeIsKept := by
  unfold Obligations.RingTimeIsKept
  intro s t p f
  refine ⟨fun hring hlive hdue => ?_, fun ago frac htake => ?_, fun ago t1 at_ t2 t3 htake hreq h2 h3 => ⟨fun hbad => ?_, fun hd hmax hlate => ?_⟩,
    fun n t1 at_ hreq hlate => ?_, fun hring hdue => ?_, fun htake hroot => ?_, rfl, fun hring hroot hdue => ?_,
    fun ago frac origin htake hroot horigin => exec_syncReceived_foreign htake hroot horigin,
    fun origin ago frac htake hroot hnode horigin => exec_syncReceived_own htake hroot hnode horigin,
    fun st at_ hport hlast hlate => ?_, fun hsilent => ⟨fun hst => ?_, fun hst => ?_⟩, fun hst hinacc => ?_⟩
  · have hnot : (s.port p).pdelayAt.any (fun a => s.clock < s.pdelayEvery + a) = false := any_early_eq_false hdue
    change execPdelayTimer p s = _
    rw [execPdelayTimer, if_neg (by simp [hring, hlive, hnot])]
    have hclock : (if (s.port p).pdelay.any (fun r => ticksMs 1 + r.2.2 ≤ s.clock) then s.pdelayBad p else s).clock = s.clock := by
      split
      · exact (State.setPort_frame s p _).1
      · rfl
    simp only [ge_iff_le, hclock]
  · change execPdelayReqReceived p ago frac s = _
    simp only [execPdelayReqReceived, htake]
  · change execPdelayRespReceived p ago s = _
    simp only [execPdelayRespReceived, htake, hreq, h2, h3, ne_eq, not_true_eq_false, if_false]
    exact if_pos (by simpa [or_assoc] using hbad)
  · change execPdelayRespReceived p ago s = _
    simp only [execPdelayRespReceived, htake, hreq, h2, h3, ne_eq, not_true_eq_false, if_false]
    exact if_neg (by simp only [Bool.or_eq_true, decide_eq_true_eq]; omega)
  · change execPdelayResponseTimeout p s = _
    simp only [execPdelayResponseTimeout, hreq]
    exact if_pos hlate
  · change execTimeAnnounceTimer s = _
    rw [execTimeAnnounceTimer, if_neg (by simp [hring, hdue])]
    exact (apply_ite Host.Outcome.next _ _ _).symm
  · change execTimeAnnounceReceived p s = _
    simp only [execTimeAnnounceReceived, htake, hroot, if_false]
  · have hnot : s.time.syncAt.any (fun a => s.clock < s.syncEvery + a) = false := any_early_eq_false hdue
    refine if_neg ?_
    simp [hring, hroot, hnot]
  · change execSyncPortTimeout s = _
    simp only [execSyncPortTimeout, hport, hlast]
    exact if_pos hlate
  · change execTimeReferenceTimeout s = _
    rw [execTimeReferenceTimeout, if_neg (by simp [any_early_eq_false hsilent]), hst]
  · change execTimeReferenceTimeout s = _
    rw [execTimeReferenceTimeout, if_neg (by simp [any_early_eq_false hsilent]), hst]
  · exact if_pos (by simp [hst, hinacc])

end Sys2Proof.Machine
end


section
/-!
PROOF. Time from outside and time outputs (R250, R251, R258, R260, R265, R269–R272, R275).
-/

namespace Sys2Proof.Machine

open Sys2Proof

/-- An entry is read from the dictionary alone. -/
theorem State.o_of_od {s t : State} (h : t.od = s.od) {i j k : Nat} : t.o i j k = s.o i j k := by
  unfold State.o State.val
  rw [h]

variable (s : State)

/-! ### Time set by a session -/

theorem exec_todSet_free {n : Fin 32} {sec : BitVec 48} {ns frac : W32} (hmay : s.mayWrite n 4 0x3010 0) (hns : ns.toNat < 1000000000)
    (hst : s.time.status = .free) (hsrc : s.o 0x3020 1 = 0) :
    exec (.todSet n sec ns frac) s = .next (s.act n (.ok (s.stepTo (wtOf sec.toNat ns.toNat frac.toNat)))) := by
  have htod : s.todSet sec.toNat ns.toNat frac.toNat = .ok (s.stepTo (wtOf sec.toNat ns.toNat frac.toNat)) := by
    rw [State.todSet, if_neg (by omega), if_neg (by simp [hst, hsrc])]
  refine congrArg Host.Outcome.next ((State.asWrite_of_mayWrite hmay _).trans ?_)
  rw [htod]

theorem exec_ppsTod_labelled {n : Fin 32} {sec : BitVec 48} (hmay : s.mayWrite n 6 0x3011 0) (hsrc : s.o 0x3020 1 = 2) :
    exec (.ppsTod n sec) s = .next (s.act n (.ok { s with time := { s.time with tod := some (sec.toNat, s.clock) } })) := by
  have htod : s.ppsTod sec.toNat = .ok { s with time := { s.time with tod := some (sec.toNat, s.clock) } } := if_neg (by simp [hsrc])
  refine congrArg Host.Outcome.next ((State.asWrite_of_mayWrite hmay _).trans ?_)
  rw [htod]

/-! ### PPS and IRIG-B -/

/-- The instant a PPS edge is taken for. -/
def State.ppsCap (ago : Nat) : Int := nsU * (((s.time.wt - ago) / nsU : Nat) - s.oi 0x3050 2)

/-- With a label and the hub its own root, an edge within its window gives a sample for the next second. -/
theorem exec_ppsInEdge_labelled {ago w l : Nat} (hsrc : s.o 0x3020 1 = 2) (hpol : s.o 0x3050 1 = 0) (hpps : s.time.pps = some w)
    (hin : (s.ppsCap ago - w - (1000000000 * nsU : Nat)).natAbs ≤ 100000 * nsU) (htod : s.time.tod = none)
    (hlabel : s.time.ppsLabel = some l) (hroot : s.time.root = s.node) :
    exec (.ppsInEdge true ago) s = .next (State.sample { s with time := { s.time with
      pps := some (s.ppsCap ago).toNat, ppsCap := (s.ppsCap ago).toNat / nsU % 2 ^ 32, ppsLabel := some (l + 1), ppsOkAt := some s.clock } }
      (((nsU * (1000000000 * (l + 1)) : Nat) : Int) - (s.ppsCap ago).toNat) 6 true) := by
  change execPpsInEdge true ago s = _
  rw [execPpsInEdge, if_neg (by simp [hsrc, hpol]), hpps]
  dsimp only
  rw [if_neg (by simp only [Bool.not_eq_true', Bool.or_eq_false_iff, decide_eq_false_iff_not, not_and_or, not_not]; exact .inr hin),
    if_neg (by simp [hsrc])]
  simp only [State.ppsLabel, htod, hlabel, Option.map_some]
  exact congrArg Host.Outcome.next (if_pos (by
    have huse : (decide (s.o 0x3020 1 ≠ 0) && (decide (s.time.root = s.node) || decide (s.time.status = .free)
      || decide (s.time.status = .acquiring))) = true := by simp [hsrc, hroot]
    exact huse))

/-- An edge outside its window is counted. -/
theorem exec_ppsInEdge_outside {ago w : Nat} (hsrc : s.o 0x3020 1 = 2) (hpol : s.o 0x3050 1 = 0) (hst : s.time.status = .locked)
    (hpps : s.time.pps = some w) (hout : 100000 * nsU < (s.ppsCap ago - w - (1000000000 * nsU : Nat)).natAbs) :
    exec (.ppsInEdge true ago) s = .next (s.bump 0x3070 6) := by
  change execPpsInEdge true ago s = _
  rw [execPpsInEdge, if_neg (by simp [hsrc, hpol]), hpps]
  dsimp only
  exact if_pos (by
    simp only [Bool.not_eq_true', Bool.or_eq_false_iff, decide_eq_false_iff_not]
    exact ⟨by simp [hst], Nat.not_le.2 hout⟩)

/-! ### Leap second and PPS output -/

theorem State.leapEntries (n : Nat) :
    ((s.setO 0x3012 0 0 n).setO 0x3013 0 0 0).o 0x3013 0 = 0 ∧ ((s.setO 0x3012 0 0 n).setO 0x3013 0 0 0).o 0x3012 0 = n ∧
    ((s.setO 0x3012 0 0 n).setO 0x3013 0 0 0).time = s.time := by
  refine ⟨State.o_setO_self _ _ _ _ _, ?_, rfl⟩
  rw [State.o_setO_ne _ (by decide), State.o_setO_self]

theorem exec_leapSecond_due {at_ : Nat} (hleap : s.time.leapAt = some at_) (hdue : at_ ≤ s.time.wt / nsU / 1000000000) :
    ∃ t : State, exec .leapSecond s = .next t ∧ t.time = { s.time with leap := 0, leapAt := none } ∧ t.o 0x3013 0 = 0 ∧
      t.o 0x3012 0 = ofSigned 16 (s.oi 0x3012 0 + (if s.time.leap % 2 = 1 then 1 else -1)) := by
  change ∃ t : State, execLeapSecond s = .next t ∧ _
  simp only [execLeapSecond, hleap]
  rw [if_neg (Nat.not_lt.2 hdue)]
  obtain ⟨hleft, hutc, htime⟩ := s.leapEntries (ofSigned 16 (s.oi 0x3012 0 + (if s.time.leap % 2 = 1 then 1 else -1)))
  generalize (s.setO 0x3012 0 0 _).setO 0x3013 0 0 0 = u at hleft hutc htime ⊢
  refine ⟨_, rfl, ?_, (State.o_of_od rfl).trans hleft, (State.o_of_od rfl).trans hutc⟩
  rw [← htime]
  rfl

theorem exec_ppsOutEdge_due (hdue : s.ppsDueNow = true) : ∃ t : State, exec (.ppsOutEdge true) s = .next t ∧
    t.time = { s.time with ppsOut := s.ppsMay, ppsOdd := s.time.ppsOdd && !s.ppsMay, ppsFrozen := none, ppsDue := false,
                           ppsRise := s.clock, ppsIdx := s.ppsCount (s.nsCount + 100000) } ∧
    ((s.time.ppsOdd && s.ppsMay) = false → t.od = s.od) := by
  change ∃ t : State, execPpsOutEdge true s = .next t ∧ _
  rw [execPpsOutEdge, if_neg (by decide), if_neg (by simp [hdue])]
  refine ⟨_, rfl, ?_, fun hodd => ?_⟩
  · cases (s.time.ppsOdd && s.ppsMay) <;> rfl
  · rw [hodd]
    rfl

/-! ### Station PTP -/

/-- What a PTP message of the profile on a port of the profile does, by its kind. -/
theorem exec_stationPtpMessage_profile {port : Fin 2} {m : PtpMsg} {ago : Nat} (hon : s.o 0x3040 1 ≠ 0)
    (hport : bitOf (s.o 0x3040 5) port = true) (hdomain : m.domain = s.o 0x3040 3) :
    let x := s.ptp port
    let t := s.time.wt - ago
    let corr : Int := m.correction * 2 ^ 16
    let origin : Int := (wtOf m.sec m.ns 0 : Nat)
    (m.kind = .delayReq ∨ 1000000000 ≤ m.ns → exec (.stationPtpMessage port m ago) s = .next (s.bump 0x3070 8)) ∧
    (m.ns < 1000000000 →
      (m.kind = .pdelayReq → exec (.stationPtpMessage port m ago) s = .next (s.ptpSend port 3 m.seq [t])) ∧
      (∀ l at_, m.kind = .sync → x.state = 9 → x.foreign = some (l, m.sender, at_) →
        exec (.stationPtpMessage port m ago) s = .next (if m.twoStep then s.setPtp port { x with sync := some (m.seq, t, corr) }
          else s.ptpSample (origin + corr + x.delay - t))) ∧
      (∀ t1, m.kind = .pdelayResp → x.pdelay = some (m.seq, t1) → exec (.stationPtpMessage port m ago) s =
        .next (if m.twoStep then s.setPtp port { x with resp := some (t, origin.toNat, corr) }
          else s.setPtp port { x with pdelay := none, delay := divNear ((t : Int) - t1 - corr) 2 }))) := by
  intro x t corr origin
  have hexec : exec (.stationPtpMessage port m ago) s = execStationPtpMessage port m ago s := rfl
  have hprofile : ¬ ((decide (s.o 0x3040 1 = 0) || !bitOf (s.o 0x3040 5) port || decide (m.domain ≠ s.o 0x3040 3)) = true) := by
    simp [hon, hport, hdomain]
  rw [hexec, execStationPtpMessage]
  dsimp only
  rw [if_neg hprofile]
  refine ⟨fun hbad => if_pos (by simpa using hbad), fun hns => ⟨fun hk => ?_, fun l at_ hk hslave hfrom => ?_, fun t1 hk hreq => ?_⟩⟩
  · simp only [hk, Nat.not_le.2 hns, reduceCtorEq, decide_false, Bool.or_self, Bool.false_eq_true, if_false]
    rfl
  · have hheard : ¬ ((decide ((s.ptp port).state ≠ 9) || !(match (s.ptp port).foreign with
        | some (_, id, _) => decide (id = m.sender)
        | none => false)) = true) := by
      rw [show (s.ptp port).foreign = some (l, m.sender, at_) from hfrom, show (s.ptp port).state = 9 from hslave]
      simp
    simp only [hk, Nat.not_le.2 hns, reduceCtorEq, decide_false, Bool.or_self, Bool.false_eq_true, if_false]
    refine (if_neg hheard).trans ?_
    cases m.twoStep <;> rfl
  · have hx : (s.ptp port).pdelay = some (m.seq, t1) := hreq
    simp only [hk, Nat.not_le.2 hns, reduceCtorEq, decide_false, Bool.or_self, Bool.false_eq_true, if_false, hx, ne_eq,
      not_true_eq_false]
    rw [← hx]
    cases m.twoStep <;> rfl

/-- The state a message interval leaves before the master's own messages. -/
def State.ptpTick (s : State) (port : Fin 2) : State :=
  let x := s.ptp port
  let q := (x.seq + 1) % 65536
  let old := match x.foreign with | some (_, _, a) => decide (ticksMs 3000 + a ≤ s.clock) | none => false
  ((s.setPtp port { x with seq := q, foreign := if old then none else x.foreign, data := if old then none else x.data }).ptpSend
    port 2 q []).ptpDecide

/-- The master's own messages of an interval. -/
def ptpEnd (u : State) (port : Fin 2) (q : Nat) : Host.Outcome State Fault Refusal :=
  if (u.ptp port).state = 6 then
    let (t, l) := u.ptpTlvs
    .next ((t.ptpSend port 0xB q (t.ptpOwn ++ l)).ptpSend port 0 q [])
  else .next u

theorem ptpEnd_eq (u : State) (port : Fin 2) (q : Nat) : ptpEnd u port q = .next (if (u.ptp port).state = 6
    then (u.ptpTlvs.1.ptpSend port 0xB q (u.ptpTlvs.1.ptpOwn ++ u.ptpTlvs.2)).ptpSend port 0 q [] else u) :=
  (apply_ite Host.Outcome.next _ _ _).symm

theorem execPtpMessageInterval_eq (port : Fin 2) : execPtpMessageInterval port s =
    if s.o 0x3040 1 = 0 || !bitOf (s.o 0x3040 5) port then .next s
    else ptpEnd (s.ptpTick port) port (((s.ptp port).seq + 1) % 65536) := by
  unfold execPtpMessageInterval ptpEnd State.ptpTick
  rfl

/-- Settles O51: each command under its conditions is its effect. -/
theorem timeSourcesAndOutputs : Obligations.TimeSourcesAndOutputs := by
  unfold Obligations.TimeSourcesAndOutputs
  intro s
  refine ⟨fun n sec ns frac hmay hns hst hsrc => exec_todSet_free s hmay hns hst hsrc, fun n sec hmay hsrc => exec_ppsTod_labelled s hmay hsrc,
    fun ago w hsrc hpol hst hpps => ⟨exec_ppsInEdge_outside s hsrc hpol hst hpps,
      fun l hin htod hlabel hroot => exec_ppsInEdge_labelled s hsrc hpol hpps hin htod hlabel hroot⟩,
    fun hlate hsrc => ?_, fun hch => ?_, fun hlate hsrc => ?_, fun at_ hleap hdue => exec_leapSecond_due s hleap hdue,
    fun port m ago hon hport hdomain => exec_stationPtpMessage_profile s hon hport hdomain, fun port hon hport => ?_, fun hlate => ?_,
    fun hdue => exec_ppsOutEdge_due s hdue, fun k hper => ⟨fun e l hfrozen hdue => ?_, fun hfrozen hwt hdue => ?_⟩,
    fun c w hcommit hat hfrozen hnear => ?_, fun hfrozen hnear => ?_, fun k hper hwt hnear => ?_, fun hmark => ?_, fun c hc => ?_⟩
  · have hon : (decide (s.o 0x3020 1 = 1) || decide (s.o 0x3020 1 = 2)) = true := by simpa using hsrc
    change execPpsSourceLoss s = _
    rw [execPpsSourceLoss, if_neg (Nat.not_lt.2 hlate)]
    exact congrArg Host.Outcome.next (if_pos hon)
  · change execIrigFrameDecode s = _
    rw [execIrigFrameDecode, if_neg hch]
    dsimp only
    cases irigFrame (s.irigGather 1024).time.irig with
    | none => rfl
    | some x => rfl
  · have hon : (decide (s.o 0x3020 1 = 1) || decide (s.o 0x3020 1 = 3)) = true := by simpa using hsrc
    change execIrigSourceLoss s = _
    rw [execIrigSourceLoss, if_neg (Nat.not_lt.2 hlate)]
    exact congrArg Host.Outcome.next (if_pos hon)
  · change execPtpMessageInterval port s = _
    rw [execPtpMessageInterval_eq, if_neg (by simp [hon, hport])]
    exact ptpEnd_eq _ _ _
  · change execPpsOutEdge false s = _
    rw [execPpsOutEdge, if_pos (by decide), if_neg (Nat.not_lt.2 hlate)]
  · change execSampleStrobe k s = _
    simp only [execSampleStrobe, hper, hfrozen, hdue, if_true, if_false]
  · change execSampleStrobe k s = _
    simp only [execSampleStrobe, hper, hfrozen, hdue, Nat.not_lt.2 hwt, if_true, if_false]
  · change execWtTargetFreeze .commit s = _
    simp only [execWtTargetFreeze, hcommit, hat, hfrozen, hnear, if_true]
  · change execWtTargetFreeze .ppsOut s = _
    simp only [execWtTargetFreeze]
    exact if_pos (by simpa [hfrozen] using hnear)
  · change execWtTargetFreeze (.strobe k) s = _
    simp only [execWtTargetFreeze]
    exact if_pos (by simp [hper, hwt, hnear])
  · exact if_neg hmark
  · change execTmWtSecLoRead c s = _
    rw [execTmWtSecLoRead, if_neg (by simp [hc])]
    rfl

end Sys2Proof.Machine
end


section
/-!
PROOF. Phase trackers and the calendar (R277, R280, R284–R288, R290, R291, R295, R297).
-/

namespace Sys2Proof.Machine

open Sys2Proof

variable (s : State)

/-! ### Trackers -/

theorem exec_trackerInput_unstamped {k : Fin 4} {i : TrkInput} {m : Nat} {rest : List Item} (hmode : s.o (0x3400 + k) 1 ≠ 0)
    (hnext : tapNext (s.o (0x3400 + k) 1) (s.trk k).seen = some (none, m, rest)) :
    exec (.trackerInput k i) s = .next ((s.setTrk k { s.trk k with seen := rest }).bump (0x3420 + k) 9) := by
  change execTrackerInput k i s = _
  simp only [execTrackerInput, hmode, hnext, if_false]
  rfl

/-- The tracker that a bad input leaves of one that seeks. -/
structure BadInput (i : TrkInput) (rest : List Item) (t : Int) (y : Tracker) : Prop where
  st : y.st = 1
  amp : y.amp = i.amp.toNat
  seen : y.seen = rest
  good : y.goodSince = none
  last : y.lastIn = some t

theorem exec_trackerInput_bad {k : Fin 4} {i : TrkInput} {st m : Nat} {rest : List Item} (hmode : s.o (0x3400 + k) 1 = 2)
    (hnext : tapNext 2 (s.trk k).seen = some (some st, m, rest)) (hlast : (s.trk k).lastIn = none) (hst : (s.trk k).st = 1)
    (hbad : s.trkGood k i = false) :
    ∃ y z, exec (.trackerInput k i) s = .next (((s.setTrk k { s.trk k with seen := rest }).setTrk k z).setTrk k y) ∧
      BadInput i rest (s.inputAt k st) y := by
  obtain ⟨u, hu⟩ : ∃ u, s.setTrk k { s.trk k with seen := rest } = u := ⟨_, rfl⟩
  have hx : u.trk k = { s.trk k with seen := rest } := hu ▸ State.trk_setTrk_self _ _ _
  have hbad' : u.trkGood k i = false := hu ▸ hbad
  have hat : u.inputAt k st = s.inputAt k st := hu ▸ rfl
  have hlast' : (u.trk k).lastIn = none := by rw [hx]; exact hlast
  have hst' : (u.trk k).st = 1 := by rw [hx]; exact hst
  have hseen : (u.trk k).seen = rest := by rw [hx]
  have hexec : exec (.trackerInput k i) s = execTrackerInput k i s := rfl
  rw [hexec, execTrackerInput]
  simp only [hmode, hnext, hu, hat, hlast', hst', hbad', since, lasted]
  exact ⟨_, _, rfl, rfl, rfl, hseen, rfl, rfl⟩

theorem exec_trackerCrossing {k : Fin 4} {c : Nat} (hst : s.trkState k = 2)
    (hcrossed : (s.trk k).crossed < (s.phaseNow k + s.angleOff k) / turn)
    (hchan : s.telemetryChan (0x20 + k) = some c) :
    let x := s.trk k
    let m := (s.phaseNow k + s.angleOff k) / turn
    exec (.trackerCrossingTelemetry k) s = .next ((s.setTrk k { x with crossed := m }).telemetryPut c (withEop (stampItems
      (s.stOfEdge (edgeSearch x 0 (m * turn - s.angleOff k) 49 (x.tn.toNat / 4))) ++
      [dataItem (m % 2 ^ 24).toNat, dataItem ((x.f : Int) + x.r * (s.ltbNs - x.tn) * 32 / 1000000000).toNat,
        dataItem (ofSigned 24 x.r)]))) := by
  change execTrackerCrossingTelemetry k s = _
  rw [execTrackerCrossingTelemetry, if_neg (by simp [hst, Int.not_le.2 hcrossed])]
  have hchan' : (s.setTrk k { s.trk k with crossed := (s.phaseNow k + s.angleOff k) / turn }).telemetryChan (0x20 + k) = some c := hchan
  simp only [hchan']
  rfl

/-! ### The calendar's registers -/

/-- A field write by a context that may make it is the calendar's own write, answered in that context. -/
theorem exec_calFieldWrite_eq {c : Ctx} {field : Fin 8} {v : W32} (hc : s.reaches c = true)
    (hmay : ∀ n, c = .session n → s.mayWrite n 6 0x3601 (field + 1))
    (hfits : (∀ n, c ≠ .session n) → v.toNat < 2 ^ (calFieldPlace field).1) (hgood : calBadValue field v.toNat = false) :
    exec (.calFieldWrite c field v) s = .next (s.calReply c (s.calWrite c field v.toNat)) := by
  have hreg : v.toNat < 2 ^ (calFieldPlace field).1 →
      s.calFieldReg c field v.toNat = s.calReply c (s.calWrite c field v.toNat) := by
    intro hlt
    simp [State.calFieldReg, Nat.mod_eq_of_lt hlt, hgood, Nat.not_le.2 hlt]
  change execCalFieldWrite c field v s = _
  refine (if_neg (by simp [hc])).trans ?_
  cases c with
  | session n =>
    have hwrite := State.asWrite_of_mayWrite (hmay n rfl) fun u => u.act n (u.calWrite (.session n) field v.toNat)
    exact congrArg Host.Outcome.next hwrite
  | pcie => exact congrArg Host.Outcome.next (hreg (hfits nofun))
  | node k => exact congrArg Host.Outcome.next (hreg (hfits nofun))

/-- An arm by a context that may make it is the calendar's own. -/
theorem exec_calArm_eq {c : Ctx} (hc : s.reaches c = true) (hmay : ∀ n, c = .session n → s.mayWrite n 6 0x3602 0) :
    exec (.calArm c) s = .next (s.calArm c) := by
  change execCalArm c s = _
  refine (if_neg (by simp [hc])).trans ?_
  cases c with
  | session n => exact congrArg Host.Outcome.next (State.asWrite_of_mayWrite (hmay n rfl) fun u => u.calArm (.session n))
  | pcie => rfl
  | node k => rfl

theorem exec_calCancel_eq {c : Ctx} (hc : s.reaches c = true) (hmay : ∀ n, c = .session n → s.mayWrite n 6 0x3602 0) :
    exec (.calCancel c) s = .next (s.calCancel c) := by
  change execCalCancel c s = _
  refine (if_neg (by simp [hc])).trans ?_
  cases c with
  | session n => exact congrArg Host.Outcome.next (State.asWrite_of_mayWrite (hmay n rfl) fun u => u.calCancel (.session n))
  | pcie => rfl
  | node k => rfl

/-- A released entry that repeats no more and is no release of engines. -/
theorem exec_calFire_once {i : Fin 1024} (hst : (s.cal i).st = 2) (hdue : calActEdge (s.cal i) ≤ s.time.ltb) (haction : (s.cal i).action ≠ 1)
    (hrepeat : (s.cal i).repeat_ = 0) :
    exec (.calFire i) s = .next (((s.calAct i (s.cal i)).setCal i { s.cal i with st := 3 }).bump 0x3501 2) := by
  change execCalFire i s = _
  rw [execCalFire, if_neg (by simp [hst, hdue]), if_neg haction]
  exact if_pos hrepeat

/-- Settles O52: the trackers' inputs, the calendar's registers by context, and its entries by state and action. -/
theorem trackersAndCalendar : Obligations.TrackersAndCalendar := by
  unfold Obligations.TrackersAndCalendar
  intro s
  refine ⟨fun k i m rest hmode hnext => exec_trackerInput_unstamped s hmode hnext, fun k i st m rest hmode hnext hlast hst hbad => ?_,
    fun k hlate => ?_, fun k c hst hcrossed hchan => exec_trackerCrossing s hst hcrossed hchan, fun c k hc => ?_, fun n st32 => ?_,
    fun c field v hc hmay hfits => ⟨fun hsvc hlive hgood => ?_, fun hsvc hlive hgood => ?_⟩,
    fun c hc hmay => ⟨fun hsvc hfree => ?_, fun e hsvc hrefused => ?_, fun hsvc hlive hearly => ?_, fun hsvc hlate => ?_⟩,
    fun i => ⟨fun hst hdue htrk => ?_, fun hst hdue htrk => ?_, fun hst hdue haction => ?_, fun hst hdue haction hrepeat => ?_,
      fun hst hdue haction hrepeat => ?_⟩⟩
  · obtain ⟨y, z, hexec, hy⟩ := exec_trackerInput_bad s hmode hnext hlast hst hbad
    refine ⟨_, hexec, ?_⟩
    rw [State.trk_setTrk_self]
    exact ⟨hy.st, hy.amp, hy.seen, hy.good, hy.last, rfl⟩
  · exact if_neg (Int.not_lt.2 hlate)
  · change execPhTrkPaRead c k s = _
    rw [execPhTrkPaRead, if_neg (by simp [hc])]
    rfl
  · exact congrArg (fun r => Host.Outcome.next (s.answerRead n r)) (by
      unfold State.convRead
      cases s.convTarget n <;> rfl)
  · rw [exec_calFieldWrite_eq s hc hmay hfits hgood]
    simp only [State.calWrite, State.calWriteAt, hsvc, hlive, hgood, Bool.false_eq_true, if_false]
  · rw [exec_calFieldWrite_eq s hc hmay hfits hgood]
    simp only [State.calWrite, State.calWriteAt, hsvc, hlive, Bool.false_eq_true, if_false, if_true]
  · rw [exec_calArm_eq s hc hmay]
    simp only [State.calArm, State.calArmAt, hsvc, hfree, Bool.false_eq_true, if_false]
  · rw [exec_calArm_eq s hc hmay]
    simp only [State.calArm, State.calArmAt, hsvc, hrefused, Bool.false_eq_true, if_false]
  · rw [exec_calCancel_eq s hc hmay]
    simp only [State.calCancel, hsvc, hlive, Nat.not_le.2 hearly, decide_false, Bool.not_true, Bool.or_self, Bool.false_eq_true, if_false]
  · rw [exec_calCancel_eq s hc hmay, State.calCancel]
    simp only [hsvc, Bool.false_eq_true, if_false]
    rw [if_pos (by simp [hlate])]
  · change execCalFreeze i s = _
    rw [execCalFreeze, if_neg (by simp [hst, hdue]), if_pos htrk]
  · change execCalFreeze i s = _
    rw [execCalFreeze, if_neg (by simp [hst, hdue]), if_neg htrk]
  · change execCalFire i s = _
    rw [execCalFire, if_neg (by simp [hst, hdue, calActEdge, haction]), if_pos haction]
  · rw [exec_calFire_once s hst (by simpa [calActEdge, haction] using hdue) (by simp [haction]) hrepeat]
    simp only [State.calAct, haction]
  · rw [exec_calFire_once s hst (by simpa [calActEdge, haction] using hdue) (by simp [haction]) hrepeat]
    simp only [State.calAct, haction]

end Sys2Proof.Machine
end


section
/-!
PROOF. Sampled values and GOOSE (R302–R310, R312).
-/

namespace Sys2Proof.Machine

open Sys2Proof

/-- A whole block of a publication that sends, by its key. -/
theorem exec_svFrameSend_sends {s : State} {n : Fin 32} {b : Nat} (hruns : s.stationRuns = true) (hup : s.svcUp (0x100 + n) = true)
    (hgap : s.svGap n = none) (hblock : (s.svPub n).block = some b) (hsends : s.stationSends = true) :
    let a := s.svAsdus n
    let gs := (List.range a).map (fun k => b * a + k)
    let y := { s.svPub n with block := some (b + 1), got := (s.svPub n).got.filter (fun p => p.1 ≥ (b + 1) * a) }
    let r := (s.setSvPub n { y with keyFault := false }).streamSign 0x3811 12 n
    (s.streamKey 0x3811 12 n = true → exec (.svFrameSend n) s = .next (((r.1.stationOut 0x88BA (r.1.o 0x3811 2 n) n (r.1.o 0x3811 5 n)
      (gs.flatMap (fun g => r.1.svAsdu n g (tget none (s.svPub n).got g)) ++ r.2)).bump 0x3813 1 n).bumpBy 0x3813 4 n
        ((gs.filter (fun g => (tget none (s.svPub n).got g).isNone)).length))) ∧
    (s.streamKey 0x3811 12 n = false → (s.svPub n).keyFault = false → exec (.svFrameSend n) s =
      .next ((s.setSvPub n { y with keyFault := true }).report { source := 0x74, syndrome := streamName 0x3811 n })) := by
  have hexec : exec (.svFrameSend n) s = execSvFrameSend n s := rfl
  rw [hexec, execSvFrameSend]
  simp only [hup, hruns, hgap, hblock, hsends, Bool.not_true, Option.isSome_none, Bool.or_self, Bool.false_eq_true, if_false]
  refine ⟨fun hkey => ?_, fun hkey hfault => ?_⟩
  · exact if_neg (by simp [hkey])
  · simp only [hkey, hfault, Bool.not_false, if_true, Bool.false_eq_true, if_false]

/-- Settles O53: each command of a station that runs is its effect under its conditions. -/
theorem stationStreams : Obligations.StationStreams := by
  unfold Obligations.StationStreams
  intro s hruns
  refine ⟨fun n c l t hup hin hpacket hstamp => ?_, fun n c g st l r t hup hin hpacket hstamp hmatch hlen => ?_,
    fun n g hup hgap hlate => ?_, fun n b hup hgap hblock hsends => ?_,
    fun n b hup hgap hblock hsends => exec_svFrameSend_sends hruns hup hgap hblock hsends, fun port f hport => ?_,
    fun n hst hup hlate => ?_, fun n c st l r t hup hin hpacket hstamp => ?_, fun n hup => ⟨fun hnew => ?_, fun hold hlate => ?_⟩,
    fun port f hport => ?_, fun n hst hup hlate => ?_⟩
  · change execSvSamplePacket n s = _
    rw [execSvSamplePacket, if_neg (by simp [hup, hruns])]
    simp only [hin, hpacket, hstamp, Option.bind_none]
  · change execSvSamplePacket n s = _
    rw [execSvSamplePacket, if_neg (by simp [hup, hruns])]
    simp only [hin, hpacket, hstamp, hmatch, Option.bind_some]
    exact if_neg (Nat.not_lt.2 hlen)
  · change execSvSampleMissing n s = _
    rw [execSvSampleMissing, if_neg (by simp [hup, hruns])]
    simp only [hgap]
    exact if_pos hlate
  · change execSvFrameSend n s = _
    rw [execSvFrameSend]
    simp only [hup, hruns, hgap, hblock, hsends, Bool.not_true, Bool.not_false, Option.isSome_none, Bool.or_self, Bool.false_eq_true,
      if_false, if_true]
  · exact if_neg (by simp [hruns, hport])
  · exact if_neg (by simp [hst, hup, Nat.not_lt.2 hlate])
  · change execSignalUpdatePacket n s = _
    rw [execSignalUpdatePacket, if_neg (by simp [hup, hruns])]
    simp only [hin, hpacket, hstamp]
  · change execGooseRepeat n s = _
    rw [execGooseRepeat, if_neg (by simp [hup, hruns]), if_pos hnew]
  · change execGooseRepeat n s = _
    rw [execGooseRepeat, if_neg (by simp [hup, hruns]), if_neg hold, if_neg (Nat.not_lt.2 hlate)]
  · exact if_neg (by simp [hruns, hport])
  · exact if_neg (by simp [hst, hup, Nat.not_lt.2 hlate])

end Sys2Proof.Machine
end


section
/-!
PROOF. The event log and controlled switching (R313–R323).
-/

namespace Sys2Proof.Machine

open Sys2Proof

variable {s : State}

/-- A breaker's command by its outcome. -/
theorem cswCommand_of_free {b kind : Nat} (hmay : s.cswMay b = true) (hfree : (s.brk b).kind = 0) :
    s.cswCommand b kind = .ok (s.cswBegin b kind) := by
  simp [State.cswCommand, hmay, hfree]

theorem cswCommand_of_busy {b kind : Nat} (hmay : s.cswMay b = true) (hbusy : (s.brk b).kind ≠ 0) :
    s.cswCommand b kind = .error Abort.busyRetry := by
  simp [State.cswCommand, hmay, hbusy]

theorem cswCommand_of_barred {b kind : Nat} (hmay : s.cswMay b = false) : s.cswCommand b kind = .error Abort.notInThisMode := by
  simp [State.cswCommand, hmay]

/-- The close and the open that come off. -/
theorem exec_csw_ok {n : Fin 32} (hw : s.mayWrite n 6 0x3A06 1) (h : ∀ kind, s.cswCommand (s.cswSel n) kind = .ok (s.cswBegin (s.cswSel n) kind)) :
    exec (.cswClose n) s = .next ((s.cswBegin (s.cswSel n) 1).answer n (.ok [])) ∧
    exec (.cswOpen n) s = .next ((s.cswBegin (s.cswSel n) 2).answer n (.ok [])) :=
  ⟨congrArg Host.Outcome.next (State.asWrite_act_ok (f := fun u => u.cswCommand (u.cswSel n) 1) hw (h 1)),
    congrArg Host.Outcome.next (State.asWrite_act_ok (f := fun u => u.cswCommand (u.cswSel n) 2) hw (h 2))⟩

/-- The close and the open that are refused. -/
theorem exec_csw_error {n : Fin 32} (hw : s.mayWrite n 6 0x3A06 1) {e : Nat} (h : ∀ kind, s.cswCommand (s.cswSel n) kind = .error e) :
    exec (.cswClose n) s = .next (s.answer n (.abort e)) ∧ exec (.cswOpen n) s = .next (s.answer n (.abort e)) :=
  ⟨congrArg Host.Outcome.next (State.asWrite_act_error (f := fun u => u.cswCommand (u.cswSel n) 1) hw (h 1)),
    congrArg Host.Outcome.next (State.asWrite_act_error (f := fun u => u.cswCommand (u.cswSel n) 2) hw (h 2))⟩

/-- Settles O54: each command under its conditions is its effect; a breaker's command by `State.cswCommand`'s outcome. -/
theorem logAndSwitching : Obligations.LogAndSwitching := by
  unfold Obligations.LogAndSwitching
  intro s
  refine ⟨fun n c st a l henters hin hitems hstamp hkind heop => ?_, fun n c st henters hin hstamp hprov hlate hfree => ?_,
    fun p henters hon hlate hmany => ?_, fun p henters hon hlate hfew => ?_, fun n hopen => ?_, fun n hw => ?_,
    fun b p c st l i t hup hin hpacket hstamp hbusy hkind hcode => ?_, fun b hbusy hmissing => ?_⟩
  · change execSoePacket n s = _
    rw [execSoePacket, if_neg (by simp [henters])]
    simp only [hin, hitems, hstamp]
    exact if_pos (by simp [hkind, heop])
  · change ∃ r : LogRec, _ ∧ _ ∧ _ ∧ execSoeProvisional n s = _
    have hgo : ¬ ((decide (serialDist 32 (s.soeStamp n c).st32 st < 900000000) ||
        (s.soeStamp n c).station.log.hold.isSome && !(s.soeStamp n c).soeOld n) = true) := by
      rw [decide_eq_false (Nat.not_lt.2 hlate)]
      obtain hnone | hold := hfree
      · simp [show (s.soeStamp n c).station.log.hold = none from hnone]
      · simp [show (s.soeStamp n c).soeOld n = true from hold]
    rw [execSoeProvisional, if_neg (by simp [henters])]
    simp only [hin, show ((s.soeStamp n c).soeIn n).stamp = some st from hstamp,
      show ((s.soeStamp n c).soeIn n).provisional = none from hprov]
    rw [if_neg hgo]
    exact ⟨_, rfl, rfl, rfl, rfl⟩
  · change execSoeChatterEnd p s = _
    rw [execSoeChatterEnd, if_neg (by simp [henters, hon, hlate]), if_neg (Nat.not_lt.2 hmany)]
  · change ∃ r : LogRec, _ ∧ _ ∧ execSoeChatterEnd p s = _
    rw [execSoeChatterEnd, if_neg (by simp [henters, hon, hlate]), if_pos hfew]
    exact ⟨_, rfl, rfl, rfl⟩
  · exact if_neg (by simp [hopen])
  · refine ⟨fun hmay hfree => exec_csw_ok hw fun kind => cswCommand_of_free hmay hfree,
      fun hmay hbusy => exec_csw_error hw fun kind => cswCommand_of_busy hmay hbusy,
      fun hmay => exec_csw_error hw fun kind => cswCommand_of_barred hmay, ?_⟩
    exact congrArg Host.Outcome.next (State.asWrite_act_ok (f := fun u => .ok (u.cswAbort (u.cswSel n))) hw rfl)
  · change execCswContact b p s = _
    rw [execCswContact, if_neg (by simp [hup])]
    simp only [hin, hpacket, hstamp]
    exact if_pos (by simp [hkind, hcode, hbusy])
  · refine if_pos ?_
    rw [Bool.and_eq_true, decide_eq_true_eq]
    exact ⟨hbusy, hmissing⟩

end Sys2Proof.Machine
end


section
/-!
PROOF. The cores and the trace (R331, R336, R337, R339–R348, R351).
-/

namespace Sys2Proof.Machine

open Sys2Proof

variable {s : State}

/-! ### Load windows and traps -/

theorem exec_coreLoadWindow {k : Fin 16} {load load1s : Nat} (hst : (s.coreSt k).state = 0)
    (hdue : ∀ a, (s.coreSt k).winAt = some a → ticksMs 10 + a ≤ s.clock) (hload : load ≤ 1000) :
    (load ≤ s.o 0x4004 0 → exec (.coreLoadWindow k load load1s []) s = .next (s.setCoreSt k { s.coreSt k with
      load10 := load, load1s := min load1s 1000, peak := max (s.coreSt k).peak load, winAt := some s.clock })) ∧
    (s.o 0x4004 0 < load → ∃ t : State, exec (.coreLoadWindow k load load1s []) s =
      .next (t.report { source := 0x51, syndrome := load / 4 * 2 ^ 24 + k })) := by
  have hnot : (s.coreSt k).winAt.any (fun a => s.clock < ticksMs 10 + a) = false := by
    rw [Option.any_eq_false]
    exact fun a ha => by simpa using hdue a ha
  have hexec : exec (.coreLoadWindow k load load1s []) s = execCoreLoadWindow k load load1s [] s := rfl
  rw [hexec, execCoreLoadWindow, Nat.min_eq_left hload]
  dsimp only
  rw [if_neg (by simp [hst, hnot]), List.foldl_nil]
  exact ⟨fun hle => if_pos hle, fun hlt => ⟨_, if_neg (Nat.not_le.2 hlt)⟩⟩

/-- A trap of a core that runs, from its noted state to its reports. -/
theorem coreTrap_of_running {k cause n pc : Nat} (hcause : cause ≠ 0) (hst : (s.coreSt k).state = 0) :
    s.coreTrap k cause n pc =
      (let t := (State.setCoreSt (s.coSquash k) k { (s.coSquash k).coreSt k with cause := cause }).bump 0x4001 7 k
       let l := if cause = 3 then t.lockstep k else (t, false)
       let r := l.1.svcRestarts (l.1.trapped k cause n) cause (cause = 4 || l.2)
       let q := if l.2 then (r.1.candidate { macro_ := 0x500 + k }).coreRetire k 2 else (r.1, [])
       (q.1.report { source := 0x50, syndrome := cause * 2 ^ 24 + n, address := k * 2 ^ 32 + pc }).reports (r.2 ++ q.2)) :=
  if_neg (by simp [hcause, hst])

/-! ### Hinge points -/

theorem exec_hingePoint_moves {svc : Fin 1282} (hup : s.svcUp svc = true) (hstandby : s.modes.mode ≠ .standby)
    (hhandover : s.modes.mode ≠ .handover) : exec (.hingePoint svc) s = .next (s.hingeMove svc) := by
  change execHingePoint svc s = _
  rw [execHingePoint]
  rw [if_neg (by simp [hup])]
  split
  · next h => exact absurd h hstandby
  · next h => exact absurd h hhandover
  · rfl

/-! ### Trace messages -/

/-- What a trace message of a core that runs does, by its type, level and code. -/
theorem exec_traceMessage_running {typ k : Fin 16} {stamp : W32} {payload : List W32} (htyp : coreTrace typ = true)
    (hst : (s.coreSt k).state = 0) (hnew : (2 ^ 32 + s.st32 - stamp.toNat) % 2 ^ 32 ≤ 1000000000) :
    let p := (payload.take 255).map (fun w : W32 => w.toNat)
    let level := match p with | w :: _ => w / 2 ^ 14 % 4 | [] => 0
    let code := match p with | w :: _ => w % 2 ^ 14 | [] => 0
    (typ.val = 0 → level > s.o 0x4020 4 ∨ code = 0 ∨ (9 < code ∧ code ≤ 0xFF) →
      exec (.traceMessage typ k stamp payload) s = .next s) ∧
    (typ.val = 0 → level ≤ s.o 0x4020 4 → (1 ≤ code ∧ code ≤ 9) ∨ 0xFF < code →
      exec (.traceMessage typ k stamp payload) s = .next (s.traceIn typ k stamp.toNat p)) ∧
    (typ.val ≠ 0 → (typ.val = 4 ∨ typ.val = 5 → s.o 0x4020 2 ≠ 0) →
      exec (.traceMessage typ k stamp payload) s = .next (s.traceIn typ k stamp.toNat p)) := by
  intro p level code
  have hold : ¬ ((!coreTrace typ || decide ((s.coreSt k).state ≠ 0) ||
      (s.cores.hold.isNone && decide ((2 ^ 32 + s.st32 - stamp.toNat) % 2 ^ 32 > 1000000000))) = true) := by
    simp only [htyp, hst, decide_eq_false (Nat.not_lt.2 hnew)]
    simp
  have hexec : exec (.traceMessage typ k stamp payload) s =
      if typ.val = 0 && (level > s.o 0x4020 4 || code = 0 || (9 < code && code ≤ 0xFF)) then .next s
      else if (typ.val = 4 || typ.val = 5) && s.o 0x4020 2 = 0 then .next s
      else .next (s.traceIn typ k stamp.toNat p) := if_neg hold
  rw [hexec]
  generalize level = lv
  generalize code = c
  refine ⟨fun ht h => if_pos ?_, fun ht hlevel hcode => ?_, fun ht hflow => ?_⟩
  · simpa [ht, or_assoc] using h
  · rw [if_neg (by simp [ht]; omega), if_neg (by simp [ht])]
  · rw [if_neg (by simp [ht]), if_neg (by simpa using hflow)]

/-- Settles O55: each command under its conditions is its effect; a trap by `coreTrap_of_running`. -/
theorem coresAndTrace : Obligations.CoresAndTrace := by
  unfold Obligations.CoresAndTrace
  intro s
  refine ⟨fun k load load1s hst hdue hload => exec_coreLoadWindow hst hdue hload,
    fun svc hup hstandby hhandover => exec_hingePoint_moves hup hstandby hhandover, fun svc hup hmode => ?_,
    fun svc w hup hmode hswap => ?_, fun svc h htcm => ?_,
    fun k cause svc pc hcause hst => congrArg Host.Outcome.next (coreTrap_of_running hcause hst), fun svc hup hlate => ?_,
    fun svc hst => if_pos hst, fun n hw => ⟨?_, ?_⟩,
    fun typ k stamp payload htyp hst hnew => exec_traceMessage_running htyp hst hnew, fun m l hbuf hdest hmode => ?_, fun c hc => ?_⟩
  · change execHingePoint svc s = _
    simp only [execHingePoint, hup, hmode, Bool.not_true, Bool.false_eq_true, if_false]
  · change execHingePoint svc s = _
    simp only [execHingePoint, hup, hmode, hswap, Bool.not_true, Bool.false_eq_true, if_false]
    cases w.mine
    · rfl
    · cases w.released.isNone <;> rfl
  · exact congrArg Host.Outcome.next (by simp only [State.hingeOut, htcm])
  · exact if_pos (by simp [hup, hlate])
  · exact congrArg Host.Outcome.next (State.asWrite_act_ok (f := fun u => .ok (u.svcCmdRestart (u.svcSel n))) hw rfl)
  · exact congrArg Host.Outcome.next (State.asWrite_act_ok (f := fun u => .ok (u.svcClear (u.svcSel n))) hw rfl)
  · change execTraceDrain s = _
    simp only [execTraceDrain, State.traceDrainOne, hmode, hbuf, hdest, if_false]
  · change execScTraceDropRead c s = _
    rw [execScTraceDropRead, if_neg (by simp [hc])]
    rfl

end Sys2Proof.Machine
end


section
/-!
PROOF. CAN frames (R353, R358–R365, R370, R377). Which frame a controller sends is its reference, its exclusive frame or the head of its
queue; what a completion or a loss does follows the same order.
-/

namespace Sys2Proof.Machine

open Sys2Proof

variable {s : State} {k : Fin 8}

/-! ### Completions -/

/-- Without a measured transmitter delay a completion is the frame's. -/
theorem exec_canTxComplete_unmeasured {tdcv : Option (Fin 128)} {f : CanFrame} (hon : s.canOn k = true)
    (hsending : s.canSending k = some f) (htdc : s.tdcMeasured k f tdcv = none) :
    exec (.canTxComplete k tdcv) s = .next (s.canSent k) := by
  change execCanTxComplete k tdcv s = _
  simp only [execCanTxComplete, hon, hsending, htdc, Bool.not_true, Bool.false_eq_true, if_false]

theorem canSending_head {e : CanEntry} {q : List CanEntry} (href : (s.ctl k).ref = none) (hexcl : (s.ctl k).exclusive = none)
    (hqueue : (s.ctl k).queue = e :: q) (hoffered : s.headOffered k = true) : s.canSending k = some e.frame := by
  simp only [State.canSending, href, hexcl, hoffered, hqueue, if_true, List.head?_cons, Option.map_some]

theorem canSending_exclusive {f : CanFrame} (href : (s.ctl k).ref = none) (hexcl : (s.ctl k).exclusive = some f) :
    s.canSending k = some f := by
  simp only [State.canSending, href, hexcl]

theorem canSent_head {e : CanEntry} {q : List CanEntry} (href : (s.ctl k).ref = none) (hexcl : (s.ctl k).exclusive = none)
    (hqueue : (s.ctl k).queue = e :: q) (habort : (s.ctl k).aborting = false) :
    s.canSent k = (((s.setCtl k { s.ctl k with
        tec := (s.ctl k).tec - 1, state := canErrState ((s.ctl k).tec - 1) (s.ctl k).rec_, queue := q }).emit
      (.can k (beBytes 4 e.frame.id.toNat ++ e.frame.data))).canCount k 1).canDone k := by
  rw [State.canSent]
  split
  · next h => exact absurd (h.symm.trans href) nofun
  · next h => exact absurd (h.symm.trans hexcl) nofun
  · split
    · next h => exact absurd (h.symm.trans hqueue) nofun
    · next h =>
      obtain ⟨rfl, rfl⟩ := List.cons.inj (h.symm.trans hqueue)
      simp only [habort, Bool.false_and, Bool.false_eq_true, if_false]
      rfl

theorem canSent_exclusive {f : CanFrame} (href : (s.ctl k).ref = none) (hexcl : (s.ctl k).exclusive = some f) :
    s.canSent k = (((s.setCtl k { s.ctl k with
        tec := (s.ctl k).tec - 1, state := canErrState ((s.ctl k).tec - 1) (s.ctl k).rec_, exclusive := none }).emit
      (.can k (beBytes 4 f.id.toNat ++ f.data))).canEnded k).canCount k 1 := by
  rw [State.canSent]
  split
  · next h => exact absurd (h.symm.trans href) nofun
  · next h =>
    obtain rfl := Option.some.inj (h.symm.trans hexcl)
    rfl
  · next h => exact absurd (h.symm.trans hexcl) nofun

theorem canSent_reference {c m : Nat} {b : List Byte} (href : (s.ctl k).ref = some (c, m, b)) :
    s.canSent k = (((s.setCtl k (newMark { s.ctl k with
        tec := (s.ctl k).tec - 1, state := canErrState ((s.ctl k).tec - 1) (s.ctl k).rec_,
        ref := none, master := true, prio := refPrio (s.o 0x7030 2 k), disc := false, tt := 3 } c m)).emit
      (.can k b)).canEnded k).canCount k 1 := by
  rw [State.canSent]
  split
  · next h =>
    obtain ⟨rfl, rfl, rfl⟩ : _ ∧ _ ∧ _ := by simpa using h.symm.trans href
    rfl
  · next h _ => exact absurd (h.symm.trans href) nofun
  · next h _ => exact absurd (h.symm.trans href) nofun

/-! ### Losses -/

theorem exec_canTxLost_on (hon : s.canOn k = true) : exec (.canTxLost k) s = .next (s.canNotSent k 2) :=
  congrArg Host.Outcome.next (if_pos hon)

/-! ### Reception -/

/-- The state in which a received frame is steered: its error counter, window and count. -/
def State.canReceived (s : State) (k : Nat) : State :=
  let r := if (s.ctl k).rec_ > 127 then 119 + s.freeNat 4 % 9 else (s.ctl k).rec_ - 1
  ((s.drew.setCtl k { s.ctl k with rec_ := r, state := canErrState (s.ctl k).tec r }).canEnded k).canCount k 2

/-- A frame received on the bus goes to its session, its filter's channel or nowhere. -/
theorem exec_canFrameReceived_on {f : CanFrame} {ago : Nat} (hon : s.canOn k = true) (hmode : canBusMode s.modes.mode = true) :
    let t := s.canReceived k
    (∀ base n, t.canNode k f = some (base, n) → exec (.canFrameReceived k f ago) s = .next (t.canSessionIn k base n f)) ∧
    (t.canNode k f = none → (List.range 32).find? (t.canMatches k f) = none →
      exec (.canFrameReceived k f ago) s = .next (t.canCount k 3)) ∧
    (∀ i, t.canNode k f = none → (List.range 32).find? (t.canMatches k f) = some i →
      (t.o 0x7020 (i + 1) k / 2 ^ 62 = 2 → exec (.canFrameReceived k f ago) s = .next (t.canCount k 3)) ∧
      (t.o 0x7020 (i + 1) k / 2 ^ 62 ≠ 2 →
        let u := t.setCtl k { t.ctl k with
          hits := tset 0 (t.ctl k).hits i (tget 0 (t.ctl k).hits i + 1)
          seen := (List.range 64).foldl (fun m j => tset false m (j * 32 + i) true) (t.ctl k).seen }
        exec (.canFrameReceived k f ago) s = .next (u.canDeliver k i (canPacket f i (u.canStamp ago))))) := by
  have hexec : exec (.canFrameReceived k f ago) s = execCanFrameReceived k f ago s := rfl
  rw [hexec, execCanFrameReceived, if_neg (by simp [hon, hmode])]
  dsimp only
  rw [← State.canReceived]
  generalize s.canReceived k = t
  refine ⟨fun base n hnode => ?_, fun hnode hnone => ?_, fun i hnode hfound => ⟨fun htwo => ?_, fun hother => ?_⟩⟩
  · simp only [hnode]
  · simp only [hnode, hnone]
  · simp only [hnode, hfound]
    exact if_pos htwo
  · simp only [hnode, hfound]
    exact if_neg hother

/-- Settles O56: completions by `State.canSent`, losses by `State.canNotSent`, receptions by `exec_canFrameReceived_on`. -/
theorem canFramesPass : Obligations.CanFramesPass := by
  unfold Obligations.CanFramesPass
  intro s k
  refine ⟨fun c i p hen hmode hlen hchan hitems heop => ?_, fun hon => ⟨fun tdcv e q href hexcl hqueue habort hoffered htdc => ?_,
      fun tdcv f href hexcl htdc => ?_, fun tdcv f v hsending htdc hmax => ?_, fun tdcv c m b href => ?_,
      fun e q href hexcl hqueue => ⟨fun habort => ?_, fun habort => ?_⟩, fun f href hexcl => ?_, fun r href => ?_⟩,
    fun onBus => rfl, fun seq onBus => rfl, fun hset => congrArg Host.Outcome.next (if_neg (by simp [hset])),
    fun f ago hon hmode => exec_canFrameReceived_on hon hmode, fun i c l hdrain hchan => ?_, fun c f hc => ?_⟩
  · change execCanTxPacket k s = _
    rw [execCanTxPacket, if_neg (by simp [hen, hmode, hlen])]
    simp only [hchan, hitems]
    exact if_neg (by simp [heop])
  · rw [exec_canTxComplete_unmeasured hon (canSending_head href hexcl hqueue hoffered) htdc, canSent_head href hexcl hqueue habort]
  · rw [exec_canTxComplete_unmeasured hon (canSending_exclusive href hexcl) htdc, canSent_exclusive href hexcl]
  · change execCanTxComplete k tdcv s = _
    simp only [execCanTxComplete, hon, hsending, htdc, Bool.not_true, Bool.false_eq_true, if_false, gt_iff_lt, Nat.not_lt.2 hmax]
  · have hnone : s.canSending k = none := by simp only [State.canSending, show (s.ctl k).ref = some (c, m, b) from href]
    change execCanTxComplete k tdcv s = _
    simp only [execCanTxComplete, hon, hnone, show (s.ctl k).ref = some (c, m, b) from href, Option.isSome_some, Bool.not_true,
      Bool.false_eq_true, if_false, if_true]
    exact congrArg Host.Outcome.next (canSent_reference href)
  · rw [exec_canTxLost_on hon]
    simp only [State.canNotSent, href, hexcl, hqueue, habort, Bool.false_eq_true, if_false]
  · rw [exec_canTxLost_on hon]
    simp only [State.canNotSent, href, hexcl, hqueue, habort, if_true]
  · rw [exec_canTxLost_on hon]
    simp only [State.canNotSent, href, hexcl]
  · rw [exec_canTxLost_on hon]
    simp only [State.canNotSent, href, if_true]
  · have hchan' : (s.setCtl k { s.ctl k with rx := (s.ctl k).rx.eraseP fun r => r.1 = i }).canRxChan k i = some c := hchan
    change execCanRxBufferDrain k s = _
    simp only [execCanRxBufferDrain, hdrain, hchan']
  · change execCanFhitRead c f s = _
    rw [execCanFhitRead, if_neg (by simp [hc])]
    rfl

end Sys2Proof.Machine
end


section
/-!
PROOF. CAN errors, wake and the time-triggered schedule (R366, R368–R370, R372–R375).
-/

namespace Sys2Proof.Machine

open Sys2Proof

variable {s : State} {k : Fin 8}

/-! ### Bus errors -/

theorem exec_canBusError_on {tx dom : Bool} (hon : s.canOn k = true) : exec (.canBusError k tx dom) s = .next (s.canErr k tx dom) :=
  congrArg Host.Outcome.next (if_pos hon)

theorem canErrState_active {tec rec_ : Nat} (ht : tec ≤ 127) (hr : rec_ ≤ 127) : canErrState tec rec_ = 2 := by
  simp [canErrState, Nat.not_lt.2 ht, Nat.not_lt.2 hr]

theorem canErr_receiver (dom : Bool) (hrec : (s.ctl k).rec_ + 8 ≤ 127) (htec : (s.ctl k).tec ≤ 127) :
    s.canErr k false dom =
      ((s.setCtl k { s.ctl k with rec_ := (s.ctl k).rec_ + (if dom then 8 else 1), state := 2 }).canCount k 8).canEnded k := by
  have hadd : (if dom then 8 else 1) ≤ 8 := by cases dom <;> decide
  have hmin : min ((s.ctl k).rec_ + (if dom then 8 else 1)) 255 = (s.ctl k).rec_ + (if dom then 8 else 1) := by omega
  have hst : canErrState (s.ctl k).tec ((s.ctl k).rec_ + (if dom then 8 else 1)) = 2 := canErrState_active htec (by omega)
  have hon : ¬ 255 < (s.ctl k).tec := by omega
  rw [State.canErr]
  simp only [Bool.false_eq_true, if_false, hmin, hst, gt_iff_lt, hon]
  exact if_neg (by simp)

theorem canErr_sender (dom : Bool) (htec : (s.ctl k).tec + 8 ≤ 127) (hrec : (s.ctl k).rec_ ≤ 127) :
    s.canErr k true dom = ((s.setCtl k { s.ctl k with tec := (s.ctl k).tec + 8, state := 2 }).canCount k 8).canNotSent k 3 := by
  have hst : canErrState ((s.ctl k).tec + 8) (s.ctl k).rec_ = 2 := canErrState_active htec hrec
  have hon : ¬ 255 < (s.ctl k).tec + 8 := by omega
  rw [State.canErr]
  simp only [if_true, hst, gt_iff_lt, hon, if_false]
  exact if_neg (by simp)

/-- A sender past its limit is off the bus. -/
theorem canErr_off (dom : Bool) (htec : 255 < (s.ctl k).tec + 8) : ∃ t : State, s.canErr k true dom =
    (t.canCount k 9).report { source := 0x61, syndrome := k } ∧ (t.ctl k).state = 4 := by
  rw [State.canErr]
  simp only [if_true, gt_iff_lt, htec]
  exact ⟨_, rfl, congrArg CanCtl.state (State.ctl_setCtl_self _ _ _)⟩

/-! ### Wake -/

/-- The detectors of a controller that wakes a dozing hub. -/
theorem exec_canWake_doze (hmode : s.modes.mode = .doze) (hbit : bitOf (s.o 0x1131 0) k = true) (hen : s.canEnabled k = true) :
    (∀ ns, s.o 0x7003 1 k = 0 → exec (.canWake k (.low ns)) s = .next (if ns ≥ s.o 0x7003 2 k then s.canWoken k 1 0 else s)) ∧
    (∀ d1 r d2 total, s.o 0x7003 1 k = 1 → s.o 0x7003 2 k ≤ d1 → s.o 0x7003 2 k ≤ r → s.o 0x7003 2 k ≤ d2 →
      total ≤ 1000 * s.o 0x7003 3 k → exec (.canWake k (.pattern d1 r d2 total)) s = .next (s.canWoken k 2 0)) ∧
    (∀ f : CanFrame, s.o 0x7003 1 k = 2 → f.fdf = false → f.rtr = false → s.o 0x7003 7 k = 0 → f.dlc.val = 0 →
      (f.id.toNat ^^^ s.o 0x7003 4 k) &&& s.o 0x7003 5 k = 0 → f.ide = decide (s.o 0x7003 6 k = 1) →
      exec (.canWake k (.frame f true)) s =
        .next ((s.setCtl k { s.ctl k with wufErrors := (s.ctl k).wufErrors - 1 }).canWoken k 3 f.id.toNat)) := by
  have hgo : ¬ ((decide (s.modes.mode ≠ .doze) || !bitOf (s.o 0x1131 0) k || !s.canEnabled k) = true) := by simp [hmode, hbit, hen]
  refine ⟨fun ns hsel => ?_, fun d1 r d2 total hsel h1 hr h2 htotal => ?_, fun f hsel hfdf hrtr hdlc hlen hid hide => ?_⟩
  · refine (if_neg hgo).trans ?_
    simp only [hsel]
  · refine (if_neg hgo).trans ?_
    simp only [hsel]
    exact congrArg Host.Outcome.next (if_pos (by simp [h1, hr, h2, htotal]))
  · refine (if_neg hgo).trans ?_
    simp only [hsel, hfdf, Bool.false_eq_true, if_false, Bool.not_true, State.setCtl_o, hdlc, hrtr, hid, hlen, hide]
    exact congrArg Host.Outcome.next (if_pos (by simp))

/-! ### The time-triggered schedule -/

theorem exec_ttReferenceSend_due {n c : Nat} (hmode : s.ttMode k = 2) (hsend : canSendMode s.modes.mode = true) (hon : s.ttOn k = true)
    (hinst : s.ttInstant k = some (n, c)) (hnew : (s.ctl k).refIdx ≠ n + 1) :
    exec (.ttReferenceSend k) s = .next (s.drew.setCtl k { s.ctl k with
      ref := some (c, s.clock, refBytes (s.o 0x7030 2 k) c (s.ctl k).disc (s.freeNat 16) s.st32), refIdx := n + 1 }) := by
  change execTtReferenceSend k s = _
  rw [execTtReferenceSend, if_neg (by simp [hmode, hsend, hon])]
  simp only [hinst]
  exact if_neg hnew

/-- A reference received moves the schedule by its discontinuity and by the reference before it. -/
theorem exec_ttReferenceReceived_on {r : TtRef} {ago : Nat} (hon : s.ttOn k = true) :
    let x := s.ctl k
    let mark := s.clock - ago / 2 ^ 34
    let y := { x with master := false, ref := none, prio := r.prio, refSt := match r.st with | some w => w.toNat | none => x.refSt,
                      cycle := r.cycle.val, markAt := mark, acted := [] }
    (r.disc = true → exec (.ttReferenceReceived k r ago) s = .next (s.setCtl k { y with tt := 1, lastRef := none })) ∧
    (r.disc = false → x.lastRef = none → x.tt ≠ 3 → exec (.ttReferenceReceived k r ago) s =
      .next (s.setCtl k { y with tt := 2, lastRef := some (r.cycle, mark, r.mark) })) ∧
    (∀ c m g, r.disc = false → x.lastRef = some (c, m, g) → r.cycle.val = (c + 1) % max 1 (s.o 0x7030 5 k) → m < mark →
      exec (.ttReferenceReceived k r ago) s = .next (s.setCtl k { y with
        tt := 3, lastRef := some (r.cycle, mark, r.mark)
        tur := (65536 + r.mark - g % 65536) % 65536 * s.o 0x7030 3 k * 2 ^ 24 / ((mark - m) * 4) % 2 ^ 32 })) := by
  have hexec : exec (.ttReferenceReceived k r ago) s = execTtReferenceReceived k r ago s := rfl
  rw [hexec, execTtReferenceReceived, if_neg (by simp [hon])]
  refine ⟨fun hdisc => ?_, fun hdisc hlast htt => ?_, fun c m g hdisc hlast hcycle hlater => ?_⟩
  · exact if_pos hdisc
  · refine (if_neg (by simp [hdisc])).trans ?_
    simp only [newMark, hlast, htt, if_false] <;> rfl
  · refine (if_neg (by simp [hdisc])).trans ?_
    have hnext : (decide (r.cycle.val = (c + 1) % max 1 (s.o 0x7030 5 k)) && decide (s.clock - ago / 2 ^ 34 > m)) = true := by
      simp only [hcycle, gt_iff_lt, hlater]
      simp
    simp only [newMark, hlast, hnext, if_true] <;> rfl

/-- A trigger of the cycle that was not yet acted on is acted on. -/
theorem exec_ttTrigger_due {t : Fin 64} (hon : s.ttOn k = true)
    (hactive : ttActive (s.o 0x7031 (t + 1) k) (((s.ctl k).cycle + (s.ttTime k).1) % max 1 (s.o 0x7030 5 k)) = true)
    (hnow : (s.ttTime k).2 = s.o 0x7031 (t + 1) k % 65536) (hnew : ((s.ttTime k).1, t.val) ∉ (s.ctl k).acted) :
    exec (.ttTrigger k t) s = .next (s.ttAct k t (s.ttTime k).1) := by
  change execTtTrigger k t s = _
  rw [execTtTrigger]
  generalize s.ttTime k = time at hactive hnow hnew ⊢
  obtain ⟨n, now⟩ := time
  have hnow' : now = s.o 0x7031 (t + 1) k % 65536 := hnow
  exact if_neg (by simp [hon, hactive, ← hnow', hnew])

/-- The controller after a trigger of the cycle was acted on. -/
def State.ttActed (s : State) (k : Nat) (t : Fin 64) (n : Nat) : CanCtl :=
  { s.ctl k with window := none, begun := (s.ctl k).begun || s.canWindow k, acted := (n, t.val) :: (s.ctl k).acted }

section Act
variable {t : Fin 64} {n : Nat}

theorem ttAct_sends_empty (htyp : s.o 0x7031 (t + 1) k / 2 ^ 29 = 1) (htt : (s.ctl k).tt = 3) (hsend : canSendMode s.modes.mode = true)
    (hfind : (s.ctl k).bufs.find? (fun b => b.1 = s.o 0x7031 (t + 1) k / 2 ^ 25 % 16) = none) :
    s.ttAct k t n = (s.setCtl k (s.ttActed k t n)).canCount k 13 := by
  have hgo : ¬ ((decide ((s.ctl k).tt ≠ 3) || !canSendMode s.modes.mode) = true) := by simp [htt, hsend]
  simp only [State.ttAct, htyp]
  exact (if_neg hgo).trans (by simp only [hfind, State.ttActed])

theorem ttAct_sends {i : Nat} {f : CanFrame} (htyp : s.o 0x7031 (t + 1) k / 2 ^ 29 = 1) (htt : (s.ctl k).tt = 3)
    (hsend : canSendMode s.modes.mode = true)
    (hfind : (s.ctl k).bufs.find? (fun b => b.1 = s.o 0x7031 (t + 1) k / 2 ^ 25 % 16) = some (i, f)) :
    s.ttAct k t n = (s.setCtl k (s.ttActed k t n)).setCtl k { s.ttActed k t n with exclusive := some f } := by
  have hgo : ¬ ((decide ((s.ctl k).tt ≠ 3) || !canSendMode s.modes.mode) = true) := by simp [htt, hsend]
  simp only [State.ttAct, htyp]
  exact (if_neg hgo).trans (by simp only [hfind, State.ttActed])

theorem ttAct_window (htyp : s.o 0x7031 (t + 1) k / 2 ^ 29 = 2) (htt : 2 ≤ (s.ctl k).tt) :
    s.ttAct k t n = (s.setCtl k (s.ttActed k t n)).setCtl k { s.ttActed k t n with window := some s.clock } := by
  simp only [State.ttAct, htyp]
  exact if_pos htt

theorem ttAct_watch (htyp : s.o 0x7031 (t + 1) k / 2 ^ 29 = 3) (htt : (s.ctl k).tt = 3)
    (hseen : tget false (s.ctl k).seen (t.val * 32 + s.o 0x7031 (t + 1) k / 2 ^ 25 % 16) = false) :
    s.ttAct k t n = State.ttError ((s.setCtl k (s.ttActed k t n)).setCtl k { s.ttActed k t n with
      seen := tset false (s.ctl k).seen (t.val * 32 + s.o 0x7031 (t + 1) k / 2 ^ 25 % 16) false }) k := by
  simp only [State.ttAct, htyp]
  exact (if_neg (not_not.2 htt)).trans (if_neg (ne_true_of_eq_false hseen))

end Act

/-- Settles O57: bus errors by `State.canErr`, wakes by the detector, the schedule by what was received or fell due. -/
theorem canErrorsWakeAndSchedule : Obligations.CanErrorsWakeAndSchedule := by
  unfold Obligations.CanErrorsWakeAndSchedule
  intro s k
  refine ⟨fun dom hon hrec htec => ?_, fun dom hon htec hrec => ?_, fun dom hon htec => ?_, fun hst hmode hrestart => ?_,
    fun hst => congrArg Host.Outcome.next (if_pos hst), fun htt => congrArg Host.Outcome.next (if_pos htt),
    fun hmode hbit hen => exec_canWake_doze hmode hbit hen, fun hst hmode => if_pos (by simp [hst, hmode]),
    fun n c hmode hsend hon hinst hnew => exec_ttReferenceSend_due hmode hsend hon hinst hnew,
    fun r ago hon => exec_ttReferenceReceived_on hon, fun t hon => ?_, fun hmode hmaster hlo hhalt hdrift => ?_⟩
  · rw [exec_canBusError_on hon, canErr_receiver dom hrec htec]
  · rw [exec_canBusError_on hon, canErr_sender dom htec hrec]
  · obtain ⟨t, herr, hst⟩ := canErr_off dom htec
    exact ⟨t, by rw [exec_canBusError_on hon, herr], hst⟩
  · exact if_pos (by simpa [hst, hmode] using hrestart)
  · intro v n y hactive hnow hnew
    rw [exec_ttTrigger_due hon hactive hnow hnew]
    refine ⟨fun htyp htt hsend hfind => ?_, fun i f htyp htt hsend hfind => ?_, fun htyp htt => ?_, fun htyp htt hseen => ?_⟩
    · exact congrArg Host.Outcome.next (ttAct_sends_empty htyp htt hsend hfind)
    · exact congrArg Host.Outcome.next (ttAct_sends htyp htt hsend hfind)
    · exact congrArg Host.Outcome.next (ttAct_window htyp htt)
    · exact congrArg Host.Outcome.next (ttAct_watch htyp htt hseen)
  · exact if_neg (by simp [hmode, hmaster, Nat.not_lt.2 hlo, hhalt, hdrift])

end Sys2Proof.Machine
end

section
/-! PROOF. The host's windows (O58, R381–R398). -/
namespace Sys2Proof.Machine

@[simp] theorem State.reads_hostInt (s : State) (v : Nat) : (s.hostInt v).bridge.reads = s.bridge.reads := by
  simp only [State.hostInt]
  split
  · rfl
  · split
    · rfl
    · split
      · rfl
      · split <;> rfl

@[simp] theorem State.reads_hostFail (s : State) (code addr : Nat) :
    (s.hostFail code addr).bridge.reads = s.bridge.reads := by
  unfold State.hostFail
  cases failSub code <;> (dsimp only; split <;> simp)

@[simp] theorem State.reads_hostReadFail (s : State) (n code addr : Nat) :
    (s.hostReadFail n code addr).bridge.reads = s.bridge.reads :=
  State.reads_hostFail s code addr

section
variable {s : State} (hpcie : s.reaches .pcie = true)
include hpcie

theorem execWindowRead_of_none {addr : W32} {len : Nat} (hx : s.windowOf addr.toNat len = none) :
    execWindowRead addr len s = .next (s.drew.hostReadFail len Abort.addressError (s.freeNat 48)) := by
  simp only [execWindowRead, hpcie, hx, State.noWindow, Bool.not_true, Bool.false_eq_true, if_false]

theorem execWindowRead_of_some {addr : W32} {len : Nat} {x : Window} (hx : s.windowOf addr.toNat len = some x) :
    execWindowRead addr len s =
      let want := x.bytes addr.toNat len
      if s.readBehind (want.min?.getD 0 / 2 ^ 40) then .next s
      else .next (s.hostRead x want (want.min?.getD 0) (want.max?.getD 0 + 1)) := by
  simp only [execWindowRead, hpcie, hx, Bool.not_true, Bool.false_eq_true, if_false]

theorem execWindowWrite_of_none {addr : W32} {data : List Byte} (hx : s.windowOf addr.toNat data.length = none) :
    execWindowWrite addr data s = .next (s.drew.hostFail Abort.addressError (s.freeNat 48)) := by
  simp only [execWindowWrite, hpcie, hx, State.noWindow, Bool.not_true, Bool.false_eq_true, if_false]

theorem execWindowWrite_of_some {addr : W32} {data : List Byte} {x : Window}
    (hx : s.windowOf addr.toNat data.length = some x) :
    execWindowWrite addr data s =
      let cells : Tab Byte := ((x.bytes addr.toNat data.length).zip data).foldl (fun t p => tput p.1 p.2 t) []
      .next ((runsOf cells).foldl (fun u r => u.hostWrite r.1 r.2) s) := by
  simp only [execWindowWrite, hpcie, hx, Bool.not_true, Bool.false_eq_true, if_false]

theorem execAtomicOp_of_none {addr : W32} {op : AtomicOp} (hx : s.windowOf addr.toNat (atomicSize op) = none) :
    execAtomicOp addr op s = .next ((s.bump 0x7803 8).emit (.failed .pcie 0)) := by
  simp only [execAtomicOp, hpcie, hx, Bool.not_true, Bool.false_eq_true, if_false]

/-- An atomic of the general region that is aligned, open to it and undamaged. -/
theorem execAtomicOp_of_some {addr : W32} {op : AtomicOp} {x : Window}
    (hx : s.windowOf addr.toNat (atomicSize op) = some x) (hsize : atomicSize op = 4 ∨ atomicSize op = 8)
    (halign : addr.toNat % atomicSize op = 0) (hok : s.atomicOk (x.bytes addr.toNat (atomicSize op)) = true)
    (hwait : ((x.bytes addr.toNat (atomicSize op)).map (fun a => a % 2 ^ 40 - dramBase)).any s.dramWaits = false)
    (hgood : s.dramBadIn (((x.bytes addr.toNat (atomicSize op)).map (fun a => a % 2 ^ 40 - dramBase)).min?.getD 0)
      (atomicSize op) = none) :
    execAtomicOp addr op s =
      let at_ := (x.bytes addr.toNat (atomicSize op)).map (fun a => a % 2 ^ 40 - dramBase)
      let old := ofLe (at_.map (fun a => s.dramByte a))
      .next (State.reply (State.bump ((at_.zip (leBytes (atomicSize op) (atomicNew op old).2)).foldl
        (fun u p => u.setDram p.1 p.2) s) 0x7803 7) .pcie (atomicSize op) old) := by
  have hfit : ((atomicSize op ≠ 4 && atomicSize op ≠ 8) || addr.toNat % atomicSize op ≠ 0 ||
      !s.atomicOk (x.bytes addr.toNat (atomicSize op))) = false := by
    rcases hsize with h | h <;> rw [h] at halign hok ⊢ <;> simp [halign, hok]
  simp only [execAtomicOp, hpcie, hx, hwait, hgood, hfit, Bool.not_true, Bool.false_eq_true, if_false]

end

section
variable {s : State} {id : Nat} {f : PfFill} {r : Remote}
  (hf : s.bridge.fills.find? (fun f => f.id = id) = some f) (hr : s.remote id = some r) (hdone : r.done = true)
include hf hr hdone

theorem execPrefetchFillDone_of_error {c : Nat} (hc : r.code = some c) :
    execPrefetchFillDone id s =
      let t := s.remoteDrop id
      .next (State.hostReadsEnd
        { t with bridge := { t.bridge with fills := t.bridge.fills.filter (fun x => x.id ≠ id) } } id r.fabAddr (.error c)) := by
  simp only [execPrefetchFillDone, hf, hr, hdone, hc, Bool.not_true, Bool.false_eq_true, if_false]

theorem execPrefetchFillDone_of_ok (hc : r.code = none) :
    execPrefetchFillDone id s =
      let t := s.remoteDrop id
      let u : State := { t with bridge := { t.bridge with fills := t.bridge.fills.filter (fun x => x.id ≠ id) } }
      let line : PfLine := { node := f.node, addr := f.addr, data := r.data, filled := s.clock }
      .next (State.hostReadsEnd
        (if f.spoiled then u else { u with bridge := { u.bridge with lines := (line :: u.bridge.lines).take 16 } })
          id r.fabAddr (.ok r.data)) := by
  simp only [execPrefetchFillDone, hf, hr, hdone, hc, Bool.not_true, Bool.false_eq_true, if_false]
  rfl

end

theorem execPrefetchLineExpiry_of_due {s : State} {i : Fin 16} {l : PfLine} (hl : s.bridge.lines[i.val]? = some l)
    (hdue : ticksUs (s.o 0x7802 4) + l.filled ≤ s.clock) :
    execPrefetchLineExpiry i s = .next { s with bridge := { s.bridge with lines := s.bridge.lines.eraseIdx i } } := by
  simp only [execPrefetchLineExpiry, hl, if_neg (Nat.not_lt.2 hdue)]

theorem execReadDeadlineExpiry_of_none {s : State} {id : Nat}
    (hnone : s.bridge.reads.filter (fun h => h.id = id && s.clock ≥ ticksUs (s.o 0x7802 1) + h.since) = []) :
    execReadDeadlineExpiry id s = .next s := by
  simp only [execReadDeadlineExpiry]
  rw [hnone]
  rfl

/-- The only read that waits, and it is late: it fails and its remote access and fill are given up. -/
theorem execReadDeadlineExpiry_of_only {s : State} {id : Nat} {h : HostRead} (honly : s.bridge.reads = [h])
    (hid : h.id = id) (hdue : ticksUs (s.o 0x7802 1) + h.since ≤ s.clock) :
    execReadDeadlineExpiry id s =
      let t := State.hostReadFail { s with bridge := { s.bridge with reads := [] } } h.want.length Abort.remoteNodeSilent
        (h.want.min?.getD 0)
      .next { t.remoteDrop id with bridge := { t.bridge with fills := t.bridge.fills.filter (fun f => f.id ≠ id) } } := by
  have hlate : (decide (h.id = id) && decide (s.clock ≥ ticksUs (s.o 0x7802 1) + h.since)) = true := by
    simp [hid, hdue]
  simp only [execReadDeadlineExpiry, honly, List.filter_cons, hlate, if_true, Bool.not_true, Bool.false_eq_true,
    if_false, List.filter_nil, List.isEmpty_cons, List.foldl_cons, List.foldl_nil]
  exact if_neg (by simp)

section
variable {s : State} {d : HeldDel} (hd : s.heldDel.find? (fun d => d.cls = 8 && d.who ≠ Waiter.none) = some d)
  (hdue : ticksUs (s.o 0x7802 2) + d.since ≤ s.clock)
include hd hdue

theorem execHostWriteHoldExpiry_of_host {a : Nat} (hwho : d.who = .host a) :
    execHostWriteHoldExpiry s = .next (State.hostFail
      { s with heldDel := s.heldDel.eraseP (fun d => d.cls = 8 && d.who ≠ Waiter.none) } Abort.busyRetry a) := by
  simp only [execHostWriteHoldExpiry, hd, if_neg (Nat.not_lt.2 hdue), hwho]

theorem execHostWriteHoldExpiry_of_other (hwho : ∀ a, d.who ≠ .host a) :
    execHostWriteHoldExpiry s = .next (State.heldEnd
      (State.bump { s with heldDel := s.heldDel.eraseP (fun d => d.cls = 8 && d.who ≠ Waiter.none) } 0x7803 5)
      d.who (some Abort.busyRetry)) := by
  simp only [execHostWriteHoldExpiry, hd, if_neg (Nat.not_lt.2 hdue)]

end

/-- Settles O58: each clause is the case lemma of its command. -/
theorem hostWindows : Obligations.HostWindows := by
  unfold Obligations.HostWindows
  intro s hpcie
  refine ⟨fun addr len hx => execWindowRead_of_none hpcie hx, fun addr len x hx => ⟨fun hb => ?_, fun hb => ?_⟩,
    fun addr data hx => execWindowWrite_of_none hpcie hx, fun addr data x hx => execWindowWrite_of_some hpcie hx,
    fun w r v => if_neg (by simp [hpcie]),
    fun id f r hf hr hdone => ⟨fun c hc => execPrefetchFillDone_of_error hf hr hdone hc,
      fun hc => execPrefetchFillDone_of_ok hf hr hdone hc⟩,
    fun i l hl hdue => execPrefetchLineExpiry_of_due hl hdue, rfl,
    fun id hnone => execReadDeadlineExpiry_of_none hnone,
    fun id h honly hid hdue => execReadDeadlineExpiry_of_only honly hid hdue,
    fun d hd hdue => ⟨fun a hwho => execHostWriteHoldExpiry_of_host hd hdue hwho,
      fun hwho => execHostWriteHoldExpiry_of_other hd hdue hwho⟩,
    fun addr op hx => execAtomicOp_of_none hpcie hx,
    fun addr op x hx hsize halign hok hwait hgood => execAtomicOp_of_some hpcie hx hsize halign hok hwait hgood⟩
  · exact (execWindowRead_of_some hpcie hx).trans (if_neg (by simpa using hb))
  · exact (execWindowRead_of_some hpcie hx).trans (if_pos hb)

end Sys2Proof.Machine
end

section
/-! PROOF. The bridge's registers, interrupts, mailbox and semaphores (O59, R381–R397). -/
namespace Sys2Proof.Machine

/-! ### BR_FENCE (R389) -/

section
variable {s : State} (hpcie : s.reaches .pcie = true)
include hpcie

theorem execBrFenceRead_eq :
    execBrFenceRead s =
      if s.fenceWaits.2 then .next s.fenceWaits.1
      else .next (s.fenceWaits.1.readFence.1.reply .pcie 4 s.fenceWaits.1.readFence.2) :=
  if_neg (by simp [hpcie])

/-- A fence that waits leaves what its first read noted. -/
theorem execBrFenceRead_of_waits {t : State} (hw : s.fenceWaits = (t, true)) : execBrFenceRead s = .next t := by
  rw [execBrFenceRead_eq hpcie, hw]
  rfl

theorem execBrFenceRead_of_done {t : State} (hw : s.fenceWaits = (t, false)) :
    execBrFenceRead s = .next (t.readFence.1.reply .pcie 4 t.readFence.2) := by
  rw [execBrFenceRead_eq hpcie, hw]
  rfl

end

section
variable {s : State}

theorem State.fenceWaits_none_posted (hf : s.bridge.fence = none) (hp : s.bridge.posted ≠ []) :
    s.fenceWaits = ({ s with bridge := { s.bridge with fence := some (s.clock, s.ring.nextId) } }, true) := by
  simp [State.fenceWaits, hf, hp]

theorem State.fenceWaits_none_nil (hf : s.bridge.fence = none) (hp : s.bridge.posted = []) :
    s.fenceWaits = (s, false) := by
  simp [State.fenceWaits, hf, hp]

theorem State.fenceWaits_some {t n : Nat} (hf : s.bridge.fence = some (t, n)) :
    s.fenceWaits = (s, s.bridge.posted.any (fun i => i < n) && s.clock < ticksUs (s.o 0x7802 1) + t) := by
  simp only [State.fenceWaits, hf]

/-- The fence's answer where no write posted before it, access `n`, is left: the first of their failures, or 0. -/
def State.fenceDone (s : State) (n : Nat) : State × Nat :=
  ({ s with bridge := { s.bridge with fence := none, fenceFails := s.bridge.fenceFails.filter (fun e => n ≤ e.1) } },
    match s.bridge.fenceFails.find? (fun e => e.1 < n) with | some e => e.2 | none => 0)

theorem State.readFence_some_done {t n : Nat} (hf : s.bridge.fence = some (t, n))
    (hp : s.bridge.posted.any (fun i => i < n) = false) : s.readFence = s.fenceDone n := by
  simp only [State.readFence, hf, hp, Bool.false_eq_true, if_false, State.fenceDone] <;> rfl

theorem State.readFence_none_nil (hf : s.bridge.fence = none) (hp : s.bridge.posted = []) :
    s.readFence = s.fenceDone s.ring.nextId := by
  simp only [State.readFence, hf, hp, List.any_nil, Bool.false_eq_true, if_false, State.fenceDone] <;> rfl

theorem State.readFence_late {t n : Nat} (hf : s.bridge.fence = some (t, n))
    (hp : s.bridge.posted.any (fun i => i < n) = true) :
    s.readFence = ({ s with bridge := { s.bridge with fence := none } }, Abort.busyRetry) := by
  simp only [State.readFence, hf, hp, if_true]

end

/-! ### Interrupts (R383, R384) -/

theorem bitsOf_succ (n : Nat) (f : Nat → Bool) : bitsOf (n + 1) f = 2 ^ n * b2n (f n) + bitsOf n f := by
  simp [bitsOf, List.range_succ, Nat.add_comm, Nat.mul_comm]

theorem bitsOf_lt (n : Nat) (f : Nat → Bool) : bitsOf n f < 2 ^ n := by
  induction n with
  | zero => exact Nat.one_pos
  | succ n ih =>
    rw [bitsOf_succ, Nat.pow_succ]
    have hbit : b2n (f n) ≤ 1 := by cases f n <;> decide
    have hmul := Nat.mul_le_mul_left (2 ^ n) hbit
    omega

theorem testBit_bitsOf (n : Nat) (f : Nat → Bool) (i : Nat) (hi : i < n) : (bitsOf n f).testBit i = f i := by
  induction n with
  | zero => exact absurd hi (Nat.not_lt_zero i)
  | succ n ih =>
    rw [bitsOf_succ, Nat.testBit_two_pow_mul_add _ (bitsOf_lt n f)]
    rcases Nat.lt_or_eq_of_le (Nat.le_of_lt_succ hi) with h | rfl
    · rw [if_pos h, ih h]
    · rw [if_neg (Nat.lt_irrefl _), Nat.sub_self]
      cases f i <;> rfl

/-- The bits of BR_INT_PEND that a clear leaves: their source is there, or they were set at this edge. -/
def State.pendStays (s : State) (i : Nat) : Bool := s.sourceSet i || s.setNow (W1c.pend i)

theorem State.getLsbD_pendGone (s : State) (v : BitVec 21) (i : Nat) (hi : i < 21) :
    (v &&& ~~~(BitVec.ofNat 21 (bitsOf 21 s.pendStays))).getLsbD i = (v.getLsbD i && !s.pendStays i) := by
  rw [BitVec.getLsbD_and, BitVec.getLsbD_not, BitVec.getLsbD_ofNat, testBit_bitsOf 21 _ i hi]
  simp only [hi, decide_true, Bool.true_and]

theorem State.pendClear_pend (s : State) (v : BitVec 21) (i : Nat) (hi : i < 21) :
    (s.pendClear v).bridge.pend.getLsbD i = (s.bridge.pend.getLsbD i && (!v.getLsbD i || s.pendStays i)) := by
  change (s.bridge.pend &&& ~~~(v &&& ~~~(BitVec.ofNat 21 (bitsOf 21 s.pendStays)))).getLsbD i = _
  rw [BitVec.getLsbD_and, BitVec.getLsbD_not, State.getLsbD_pendGone s v i hi]
  simp [hi]

theorem State.pendClear_pba (s : State) (v : BitVec 21) (i : Nat) (hi : i < 64) :
    (s.pendClear v).bridge.pba.getLsbD i = (s.bridge.pba.getLsbD i && (!v.getLsbD i || s.pendStays i)) := by
  change (s.bridge.pba &&& ~~~((v &&& ~~~(BitVec.ofNat 21 (bitsOf 21 s.pendStays))).setWidth 64)).getLsbD i = _
  rw [BitVec.getLsbD_and, BitVec.getLsbD_not, BitVec.getLsbD_setWidth]
  by_cases h : i < 21
  · rw [State.getLsbD_pendGone s v i h]
    simp [hi]
  · simp [hi, BitVec.getLsbD_of_ge _ i (Nat.le_of_not_lt h)]

theorem execMsixUnmask_eq {s : State} (hpcie : s.reaches .pcie = true) (v : Fin 64) :
    execMsixUnmask v s = .next (s.unmask v) :=
  if_neg (by simp [hpcie])

/-! ### The mailbox (R385) -/

theorem rsvSet_doorbell {v : Nat} (hv : v < 2 ^ 13) : rsvSet 0xF02000 v = false := by
  have hmask : v &&& 0x1FFF = v := by
    rw [show (0x1FFF : Nat) = 2 ^ 13 - 1 by rfl, Nat.and_two_pow_sub_one_eq_mod, Nat.mod_eq_of_lt hv]
  exact decide_eq_false (not_not.2 hmask)

/-- A length without reserved bits reaches the doorbell. -/
theorem execMbDoorbell_eq {s : State} (hpcie : s.reaches .pcie = true) {len : W32} (hlen : len.toNat < 2 ^ 13) :
    execMbDoorbell len s = .next (s.doorbell len.toNat) := by
  have hgone : s.blockGone .pcie 0xF02000 = false := rfl
  have hwrite : (s.regWrite .pcie 0xF02000 len.toNat).1 = s.doorbell (len.toNat % 2 ^ 13) := by
    simp only [State.regWrite, regBar, hgone, rsvSet_doorbell hlen]
    rfl
  rw [Nat.mod_eq_of_lt hlen] at hwrite
  exact (if_neg (by simp [hpcie])).trans (congrArg Host.Outcome.next hwrite)

theorem State.doorbell_of_taken {s : State} {len : Nat} (hbusy : s.bridge.mbBusy = false) (hready : s.mbReady = true)
    (hlo : 16 ≤ len) (hhi : len ≤ 4096) :
    s.doorbell len = { s with bridge := { s.bridge with
      mbBusy := true, mbTaken := s.bridge.mbTaken ++ [(List.range len).map (fun i => tget 0 s.bridge.mbReq i)] } } :=
  if_neg (by simp [hbusy, hready]; omega)

theorem State.doorbell_of_ignored {s : State} {len : Nat}
    (h : s.bridge.mbBusy = true ∨ s.mbReady = false ∨ len < 16 ∨ 4096 < len) : s.doorbell len = s.bump 0x1209 2 :=
  if_pos (by simpa [or_assoc] using h)

theorem execMbRespAck_eq {s : State} (hpcie : s.reaches .pcie = true) : execMbRespAck s = .next s.mbAck :=
  if_neg (by simp [hpcie])

theorem State.mbAck_of_none {s : State} (hr : s.bridge.mbResp = none) : s.mbAck = s := by
  simp only [State.mbAck, hr]

theorem State.mbAck_of_some {s : State} {r : List Byte} (hr : s.bridge.mbResp = some r)
    (hset : s.setNow W1c.resp = false) :
    (s.bridge.mbOut = [] → s.mbAck = { s with bridge := { s.bridge with mbResp := none } }) ∧
    (∀ q l, s.bridge.mbOut = q :: l → s.mbAck =
      (State.noteSet { s with bridge := { s.bridge with mbResp := some q, mbOut := l } } W1c.resp).hostInt 0) := by
  refine ⟨fun hout => ?_, fun q l hout => ?_⟩ <;>
    simp only [State.mbAck, hr, hset, hout, Bool.false_eq_true, if_false]

/-! ### Semaphores (R397) -/

section
variable {s : State} {c : Ctx} (hc : s.reaches c = true) (n : Fin 64)
include hc

theorem execBrSemRead_of_free (hfree : tget none s.bridge.sems n = none) :
    execBrSemRead c n s = .next (State.reply { s with bridge := { s.bridge with
      sems := tset none s.bridge.sems n (some (ctxKey c, s.clock)) } } c 4 (2 ^ 31 + 2 ^ 8 + ctxKey c % 256)) := by
  simp only [execBrSemRead, State.readSem, hc, hfree, semWord, Bool.not_true, Bool.false_eq_true, if_false, Nat.add_assoc]

theorem execBrSemRead_of_held {h a : Nat} (hheld : tget none s.bridge.sems n = some (h, a)) :
    execBrSemRead c n s = .next (s.reply c 4 (2 ^ 8 + h % 256)) := by
  simp only [execBrSemRead, State.readSem, hc, hheld, semWord, Bool.not_true, Bool.false_eq_true, if_false]

theorem execSemFree_eq : execSemFree c n s = .next (s.semFree c n) :=
  if_neg (by simp [hc])

theorem execSemFree_of_holder {a : Nat} (hheld : tget none s.bridge.sems n = some (ctxKey c, a)) :
    execSemFree c n s = .next { s with bridge := { s.bridge with sems := tset none s.bridge.sems n none } } := by
  simp only [execSemFree_eq hc, State.semFree, hheld, if_true]

theorem execSemFree_of_other {h a : Nat} (hheld : tget none s.bridge.sems n = some (h, a)) (hne : h ≠ ctxKey c) :
    execSemFree c n s = .next (s.bump 0x7803 1) := by
  simp only [execSemFree_eq hc, State.semFree, hheld, if_neg hne]

theorem execSemFree_of_free (hfree : tget none s.bridge.sems n = none) :
    execSemFree c n s = .next (s.bump 0x7803 1) := by
  simp only [execSemFree_eq hc, State.semFree, hfree]

end

theorem execSemTimeout_of_due {s : State} {n : Fin 64} {h t : Nat} (hheld : tget none s.bridge.sems n = some (h, t))
    (hdue : ticksMs (s.o 0x7802 3) + t < s.clock) :
    execSemTimeout n s =
      .next (((State.bump { s with bridge := { s.bridge with sems := tset none s.bridge.sems n none } } 0x7803 6).report
        { source := 0xE0, syndrome := h }).hostInt 20) := by
  simp only [execSemTimeout, hheld, if_neg (Nat.not_le.2 hdue)]

/-- Settles O59: each clause is the case lemma of its command. -/
theorem bridgeRegistersAndSemaphores : Obligations.BridgeRegistersAndSemaphores := by
  unfold Obligations.BridgeRegistersAndSemaphores
  intro s
  refine ⟨fun c hc => if_neg (by simp [hc]), fun hpcie => ⟨fun hf hp => ?_, fun hf hp => ?_, fun t n hf hp => ?_,
      fun t n i hf hmem hi => ⟨fun hearly => ?_, fun hdue => ?_⟩⟩,
    fun hset => congrArg Host.Outcome.next (if_neg (by simp [hset])),
    fun v => ⟨s.pendClear v, rfl, fun i hi => ?_, fun i hi => ?_, rfl⟩,
    fun v hpcie => execMsixUnmask_eq hpcie v,
    fun len hpcie hlen => ⟨fun hbusy hready hlo hhi => ?_, fun hbad => ?_⟩,
    fun hpcie => ⟨fun hr => ?_, fun r hr hset hout => ?_, fun r q l hr hset hout => ?_⟩,
    fun c n hc => ⟨fun hfree => execBrSemRead_of_free hc n hfree, fun h a hheld => execBrSemRead_of_held hc n hheld,
      fun a hheld => execSemFree_of_holder hc n hheld, fun h a hheld hne => execSemFree_of_other hc n hheld hne,
      fun hfree => execSemFree_of_free hc n hfree⟩,
    fun n h t hheld hdue => execSemTimeout_of_due hheld hdue⟩
  · exact execBrFenceRead_of_waits hpcie (State.fenceWaits_none_posted hf hp)
  · refine (execBrFenceRead_of_done hpcie (State.fenceWaits_none_nil hf hp)).trans ?_
    exact congrArg (fun x : State × Nat => Host.Outcome.next (x.1.reply .pcie 4 x.2)) (State.readFence_none_nil hf hp)
  · have hgone : s.bridge.posted.any (fun i => i < n) = false := by simpa using hp
    refine (execBrFenceRead_of_done hpcie (t := s) (by rw [State.fenceWaits_some hf, hgone, Bool.false_and])).trans ?_
    exact congrArg (fun x : State × Nat => Host.Outcome.next (x.1.reply .pcie 4 x.2)) (State.readFence_some_done hf hgone)
  · have hleft : s.bridge.posted.any (fun i => i < n) = true := by simpa using ⟨i, hmem, hi⟩
    refine execBrFenceRead_of_waits hpcie ?_
    rw [State.fenceWaits_some hf, hleft, decide_eq_true hearly, Bool.and_self]
  · have hleft : s.bridge.posted.any (fun i => i < n) = true := by simpa using ⟨i, hmem, hi⟩
    refine (execBrFenceRead_of_done hpcie (t := s) ?_).trans ?_
    · rw [State.fenceWaits_some hf, decide_eq_false (Nat.not_lt.2 hdue), Bool.and_false]
    · rw [State.readFence_late hf hleft]
  · rw [Bool.or_assoc]
    exact State.pendClear_pend s v i hi
  · rw [Bool.or_assoc]
    exact State.pendClear_pba s v i hi
  · exact (execMbDoorbell_eq hpcie hlen).trans (congrArg Host.Outcome.next (State.doorbell_of_taken hbusy hready hlo hhi))
  · exact (execMbDoorbell_eq hpcie hlen).trans (congrArg Host.Outcome.next (State.doorbell_of_ignored hbad))
  · exact (execMbRespAck_eq hpcie).trans (congrArg Host.Outcome.next (State.mbAck_of_none hr))
  · exact (execMbRespAck_eq hpcie).trans (congrArg Host.Outcome.next ((State.mbAck_of_some hr hset).1 hout))
  · exact (execMbRespAck_eq hpcie).trans (congrArg Host.Outcome.next ((State.mbAck_of_some hr hset).2 q l hout))

end Sys2Proof.Machine
end

section
/-! PROOF. Tunnels and station ports (O60, R399–R401). -/
namespace Sys2Proof.Machine

/-! ### Tunnels (R399) -/

section
variable {s : State} {t : Fin 64}

theorem execTunnelIngress_of_off (hoff : s.o 0x7831 1 t = 0) :
    execTunnelIngress t s = .next (State.bumpBy { s with bridge := { s.bridge with
      tunIn := s.bridge.tunIn.filter (fun x => x.1 ≠ t.val) } } 0x7832 4 t
        ((s.bridge.tunIn.filter (fun x => x.1 = t.val)).length)) :=
  if_pos hoff

/-- A tunnel whose local end is a channel takes the channel's packet. -/
theorem execTunnelIngress_of_channel {c : Nat} {l : List Item} (hon : s.o 0x7831 1 t ≠ 0) (hend : s.o 0x7831 2 t = 0)
    (hc : s.tunnelChan 0x5002 t = some c) (hl : s.tunnelPacket c = some l) :
    execTunnelIngress t s =
      let whole := l.flatMap (fun i => beBytes 4 (itemWord i))
      .next ((s.takePacket c l false).tunnelSend t 1 s.st32 whole (whole.take 2048)) := by
  simp only [execTunnelIngress, if_neg hon, if_pos hend, hc, hl]

/-- A tunnel whose local end is a station port takes the first frame that waits for it. -/
theorem execTunnelIngress_of_port {n st : Nat} {b : List Byte} (hon : s.o 0x7831 1 t ≠ 0) (hend : s.o 0x7831 2 t ≠ 0)
    (hb : s.bridge.tunIn.find? (fun x => x.1 = t.val) = some (n, st, b)) :
    execTunnelIngress t s = .next (State.tunnelSend
      { s with bridge := { s.bridge with tunIn := s.bridge.tunIn.eraseP (fun x => x.1 = t.val) } } t 0 st b (b.take 2048)) := by
  simp only [execTunnelIngress, if_neg hon, if_neg hend, hb]

end

section
variable {s : State} {f : Frame} (hf : s.ring.delivered.find? (fun f => f.hdr.typ = 7 && !s.tunnelWaits f) = some f)
include hf

theorem execTunnelFrameDelivered_of_refused (hrefuse : (s.frameServed f).tunnelRefuses f.hdr = true) :
    execTunnelFrameDelivered s =
      .next (if f.hdr.destCh < 64 then (s.frameServed f).bump 0x7832 3 f.hdr.destCh else s.frameServed f) := by
  simp only [execTunnelFrameDelivered, hf, hrefuse, if_true]

theorem execTunnelFrameDelivered_of_taken (hrefuse : (s.frameServed f).tunnelRefuses f.hdr = false) :
    execTunnelFrameDelivered s = .next ((s.frameServed f).tunnelOut f) := by
  simp only [execTunnelFrameDelivered, hf, hrefuse, Bool.false_eq_true, if_false]

end

theorem State.tunnelOut_of_frame (s : State) {f : Frame} (hkind : specField f.hdr 20 1 = 0) :
    s.tunnelOut f = (s.bump 0x7832 2 f.hdr.destCh).stationSend 4 (s.o 0x7831 2 f.hdr.destCh - 1) f.payload := by
  simp only [State.tunnelOut, hkind, if_true]

/-! ### Station ports (R400, R401) -/

section
variable {s : State} {port : Fin 2} {b : List Byte} (hport : s.o 0x7840 (port + 1) ≠ 0)
  (hmay : s.stationMay (stationUse b) = true)
include hport hmay

theorem execStationFrameReceived_of_bad (hbad : s.stationBad port b = true) :
    execStationFrameReceived port b s = .next (s.stationDrop port b) := by
  simp only [execStationFrameReceived, hport, hmay, hbad, decide_false, Bool.not_true, Bool.or_self, Bool.false_eq_true,
    if_false, if_true]

/-- Frames that PRP does not judge. -/
theorem execStationFrameReceived_of_plain (hbad : s.stationBad port b = false)
    (hplain : s.prpOn = false ∨ etherType b = 0x88F7) : execStationFrameReceived port b s = .next (s.steer port b) := by
  have hprp : (s.prpOn && decide (etherType b ≠ 0x88F7)) = false := by
    rcases hplain with h | h <;> simp [h]
  simp only [execStationFrameReceived, hport, hmay, hbad, hprp, decide_false, Bool.not_true, Bool.or_self,
    Bool.false_eq_true, if_false]

theorem execStationFrameReceived_of_prp (hbad : s.stationBad port b = false) (hon : s.prpOn = true)
    (htype : etherType b ≠ 0x88F7) :
    (∀ t, s.prpIn port b = (t, none) → execStationFrameReceived port b s = .next t) ∧
    (∀ t d, s.prpIn port b = (t, some d) →
      execStationFrameReceived port b s = .next (if isPrpSup d then t.bump 0x7845 8 else t.steer port d)) := by
  have hprp : (s.prpOn && decide (etherType b ≠ 0x88F7)) = true := by simp [hon, htype]
  refine ⟨fun t ht => ?_, fun t d ht => ?_⟩ <;>
    simp only [execStationFrameReceived, hport, hmay, hbad, hprp, ht, decide_false, Bool.not_true, Bool.or_self,
      Bool.false_eq_true, if_false, if_true]
  exact (apply_ite Host.Outcome.next _ _ _).symm

end

theorem execPrpSupervisionSend_of_due {s : State} (hon : s.prpOn = true) (hmay : s.stationMay .prp = true)
    (hdue : s.due s.bridge.prpAt (ticksMs (s.o 0x7841 3)) = true) :
    execPrpSupervisionSend s = .next (State.stationSend { s with bridge := { s.bridge with
      prpSup := (s.bridge.prpSup + 1) % 65536, prpAt := some s.clock } } 6 0 s.prpSupFrame) :=
  if_neg (by simp [hon, hmay, hdue])

/-- Settles O60: each clause is the case lemma of its command. -/
theorem tunnelsAndStationPorts : Obligations.TunnelsAndStationPorts := by
  unfold Obligations.TunnelsAndStationPorts
  intro s
  refine ⟨fun t hoff => execTunnelIngress_of_off hoff,
    fun t c l hon hend hc hl => execTunnelIngress_of_channel hon hend hc hl,
    fun t n st b hon hend hb => execTunnelIngress_of_port hon hend hb,
    fun f hf => ⟨fun hrefuse => execTunnelFrameDelivered_of_refused hf hrefuse, fun hrefuse hkind => ?_,
      fun hrefuse _ => execTunnelFrameDelivered_of_taken hf hrefuse⟩,
    fun port b hport hmay => ⟨fun hbad => execStationFrameReceived_of_bad hport hmay hbad,
      fun hbad hplain => execStationFrameReceived_of_plain hport hmay hbad hplain,
      fun hbad hon htype => execStationFrameReceived_of_prp hport hmay hbad hon htype⟩,
    fun hon hmay hdue => execPrpSupervisionSend_of_due hon hmay hdue, fun mac => rfl⟩
  exact (execTunnelFrameDelivered_of_taken hf hrefuse).trans
    (congrArg Host.Outcome.next (State.tunnelOut_of_frame (s.frameServed f) hkind))

end Sys2Proof.Machine
end
